-- ==== Sys2Proof/Word.lean ====
section
/-! DEFINITION. The word types of the block, and the sparse map in one canonical form
(addresses strictly rising, no entry equal to the default) that every sparse piece of
state is held in. -/

namespace Sys2Proof

/-- A register word (R5). -/
abbrev Word := BitVec 64

/-- One byte. -/
abbrev Byte := BitVec 8

/-- A 64-byte command-list entry (R18), byte 0 in the most significant byte. -/
abbrev Entry := BitVec 512

/-- A sparse map from numbers: a list of key and value pairs, keys strictly rising. -/
abbrev SMap (α : Type) := List (Nat × α)

/-- The value at a key; an unlisted key reads as the default `d`. -/
def SMap.get {α : Type} (d : α) : SMap α → Nat → α
  | [], _ => d
  | (k, v) :: m, i => if i = k then v else if i < k then d else SMap.get d m i

/-- Set a key. Writing the default removes the entry, so equal contents are equal data. -/
def SMap.put {α : Type} [DecidableEq α] (d : α) : SMap α → Nat → α → SMap α
  | [], i, x => if x = d then [] else [(i, x)]
  | (k, v) :: m, i, x =>
    if i = k then (if x = d then m else (i, x) :: m)
    else if i < k then (if x = d then (k, v) :: m else (i, x) :: (k, v) :: m)
    else (k, v) :: SMap.put d m i x

/-- Every key of the map is above `b`, keys rise strictly, and no value is the default. -/
def SMap.wfFrom {α : Type} [DecidableEq α] (d : α) : Option Nat → SMap α → Bool
  | _, [] => true
  | b, (k, v) :: m =>
    (match b with
      | none => true
      | some x => decide (x < k)) && decide (v ≠ d) && SMap.wfFrom d (some k) m

/-- The canonical form. -/
def SMap.wf {α : Type} [DecidableEq α] (d : α) (m : SMap α) : Bool := SMap.wfFrom d none m

end Sys2Proof
end

