-- ==== Sys2Proof/Syntax.lean ====
section
/-! DEFINITION. The commands of the block: one constructor per row of the opcode table, in
the table's order, with the operands its rule gives it. The table gives the rows no operand
fields; the operands are those the row's rule names. -/

namespace Sys2Proof

/-- A fabric frame: header fields of R27, payload of R44. `rsvA` and `rsvB` are the reserved
bits of bytes 8–11 and bytes 58–63. -/
structure Frame where
  ver : BitVec 2 := 1
  kind : BitVec 6 := 0
  vc : BitVec 3 := 0
  flags : BitVec 8 := 0
  plen : BitVec 13 := 0
  job : BitVec 12 := 0
  dst : BitVec 20 := 0
  err : BitVec 8 := 0
  rsvA : BitVec 4 := 0
  src : BitVec 20 := 0
  hopseq : BitVec 32 := 0
  coll : BitVec 16 := 0
  round : BitVec 16 := 0
  subk : BitVec 8 := 0
  chunk : BitVec 24 := 0
  count : BitVec 32 := 0
  epochnum : BitVec 32 := 0
  addr : BitVec 64 := 0
  len : BitVec 32 := 0
  tag : BitVec 32 := 0
  opnd : BitVec 64 := 0
  sheaf : BitVec 16 := 0
  rsvB : BitVec 48 := 0
  payload : List Byte := []
  deriving DecidableEq, Repr

/-- A link control block (R56): the row names the TYPE, and `reserved` is the TYPE byte of a block whose TYPE is
reserved, which may come under any row. `tail` is bytes 16–29, `crc` bytes 30–31. -/
structure Lcb where
  btype : BitVec 8 := 0x4C
  reserved : Option (BitVec 8) := none
  vc : BitVec 8 := 0
  flags : BitVec 8 := 0
  seq : BitVec 32 := 0
  arg : BitVec 64 := 0
  tail : BitVec 112 := 0
  crc : BitVec 16 := 0
  deriving DecidableEq, Repr

/-- A source of register accesses and appends (R22, R503), in ascending order: session
`s + 1` of Uzoley A, of Uzoley B, and Bosun core `b`. -/
inductive Source where
  | uzA (s : Fin 8)
  | uzB (s : Fin 8)
  | bosun (b : Fin 4)
  deriving DecidableEq, Repr

/-- A completion ring that follows R117. -/
inductive Ring where
  | svb
  | tbl
  | dsp (n : Fin 16)
  | grn (j : Fin 16)
  | scr
  | dmp
  | tst
  deriving DecidableEq, Repr

/-- A frame in ingress staging (site port) or overflow holding (span port): port, VC and
place from the oldest. Ports 0–511 are site ports, 512–543 span ports (R146). -/
structure StageRef where
  port : Fin 544
  vc : Fin 8
  idx : Nat
  deriving DecidableEq, Repr

/-- A source of frames inside the module (R132). -/
inductive FrameSource where
  | mill (n : Fin 16) (c : Fin 96)
  | granary (j : Fin 16)
  | bosun
  deriving DecidableEq, Repr

/-- A frame that waits for an egress choice (R154). -/
inductive WaitRef where
  | staged (r : StageRef)
  | handedBack (n : Fin 16) (idx : Nat)
  | atSource (q : FrameSource) (idx : Nat)
  deriving DecidableEq, Repr

/-- What a CMIS bring-up reads from a pluggable (R85, R86): revision, advertised applications as
(host lanes, 200 Gbit/s PAM4 with RS(544,514)), declared maximum power in 0.25 W, and the times it advertises for
ModuleReady and for DPActivated, in ms. -/
structure PlugInfo where
  revMajor : Nat
  revMinor : Nat
  apps : List (Nat × Bool)
  maxPwr : BitVec 8
  readyMs : Nat
  activateMs : Nat
  deriving DecidableEq, Repr

/-- The flags and states read from a pluggable (R87, R90). -/
structure PlugFlags where
  lineLos : Bool
  lineLol : Bool
  modState : BitVec 3
  dpState : BitVec 4
  deriving DecidableEq, Repr

/-- The use of an uncorrectable Loft word (R104). -/
inductive LoftUse where
  | retryCopy (x : Fin 32) (v : Fin 8) (seq : BitVec 32)
  | receiveHold (x : Fin 32) (v : Fin 8) (seq : BitVec 32)
  | hold (x : Fin 32) (v : Fin 8) (idx : Nat)
  | spill (cell : Nat)
  | capt (record : Nat)
  | dump (record : Nat)
  | unused (region : Fin 5)
  deriving DecidableEq, Repr

/-- One finding of a Loft read or patrol: a corrected or an uncorrectable word at a Loft
byte address. -/
inductive LoftFinding where
  | corrected (addr : Nat)
  | uncorrectable (addr : Nat) (u : LoftUse)
  | trainFail (stack : Fin 8)
  deriving DecidableEq, Repr

/-- One finding of a Granary patrol (R288), or a block that goes bad unseen, which its next reader meets (R287). -/
inductive GrnFinding where
  | corrected (block : Nat)
  | eccUe (block : Nat)
  | tagBad (block : Nat)
  | unseen (block : Nat) (ecc : Bool)
  | trainFail
  deriving DecidableEq, Repr

/-- A hardware error met by a Mill instruction (R227, R245); the last, a residue error as a SPILL fill meets an
uncorrectable Loft error (R259). -/
inductive MillErr where
  | none
  | residue
  | regEcc
  | storeEcc
  | loftUe
  | residueLoft
  deriving DecidableEq, Repr

/-- What hung in the table engine (R457). -/
inductive HungOp where
  | cmd (src : Source) (t : Fin 6) (w : Word)
  | entry
  deriving DecidableEq, Repr

/-- An interrupt line's edge (R394). -/
inductive Edge where
  | rising
  | falling
  deriving DecidableEq, Repr

/-- A certificate as the handshake of R412 and R414 reads it: its serial number (20 bytes),
whether its signature verifies under the next certificate's key, and the values of its
subject's organizationalUnitName attributes, as UTF-8 bytes; `utf8` is false for an attribute
of another type. -/
structure Cert where
  serial : BitVec 160
  sigOk : Bool
  ous : List (Bool × List Byte)
  deriving DecidableEq, Repr

/-- The chain of a HELLO, leaf first, with the SHA-384 of its root's public keys (R430). -/
structure Chain where
  certs : List Cert
  rootHash : BitVec 384
  derOk : Bool
  deriving DecidableEq, Repr

/-- A command packet (R410). `gcmOk` tells whether GCMTAG verifies (R415); in session 0, whether it is zero. -/
structure Packet where
  ver : Byte := 1
  kind : Byte := 0
  session : BitVec 16 := 0
  seq : BitVec 64 := 0
  plen : BitVec 32 := 0
  tag : BitVec 16 := 0
  flags : Byte := 0
  status : Byte := 0
  arg : BitVec 224 := 0
  payload : List Byte := []
  gcmOk : Bool := true
  deriving DecidableEq, Repr

/-- The outcome of the two signatures of an object (R430). -/
structure SigPair where
  ecdsa : Bool
  hss : Bool
  deriving DecidableEq, Repr

/-- An engine whose entry can overrun its bound (R455). -/
inductive BoundedEngine where
  | scrub
  | dump
  deriving DecidableEq, Repr

/-- A unit under test (R478); a Mill core is tested only as a part of FULL (R485). -/
inductive TestUnit where
  | core (k : Fin 1536)
  | site (p : Fin 512)
  | span (x : Fin 32)
  | channel (j : Fin 16)
  | stack (s : Fin 8)
  | uzoley (k : Fin 2)
  | full
  deriving DecidableEq, Repr

/-- A sliding escalation window (R460). -/
inductive EscWindow where
  | millFaults (n : Fin 16) (c : Fin 96)
  | countedResets
  | granaryResets (j : Fin 16)
  | linkLosses (p : Fin 544)
  | clusterUnitResets (n : Fin 16)
  | clusterResets (n : Fin 16)
  | tableResets
  deriving DecidableEq, Repr

/-- An instruction of the service-connector TAP (R486). -/
inductive TapInstr where
  | bypass
  | idcode
  | sample
  | extest
  | extestPulse
  | extestTrain
  | other (code : Nat)
  deriving DecidableEq, Repr

/-- One margin measurement (R487): index m, worst lane, eye height or working power, eye
width or spare power. -/
structure Margin where
  m : Fin 320
  lane : BitVec 8
  hi : BitVec 16
  lo : BitVec 16
  deriving DecidableEq, Repr

/-- A frame that leaves staging; `cellBad` tells that a cell of it holds an error which its ECC cannot correct (R47). -/
structure Leaving where
  frame : StageRef
  cellBad : Bool := false
  deriving DecidableEq, Repr

/-- A frame that a port sends: `sub` is the 0.5 ns of the event tick in which its first bit crosses the fibre interface
(R354); `cellBad` tells that a cell of it holds an error which its ECC cannot correct (R47). -/
structure Transmission where
  port : Fin 544
  sub : Fin 80 := 0
  cellBad : Bool := false
  deriving DecidableEq, Repr

/-- A core whose window may be written back; `ue` tells that the write-back meets an uncorrectable Loft error (R245). -/
structure WindowCore where
  core : Fin 96
  ue : Bool := false
  deriving DecidableEq, Repr

/-- The commands of the block: one constructor per row of the table, in its order. In FRAME_RECEIVE `ago` is how long
ago the frame's first bit crossed the fibre interface, in 0.5 ns (R354). BROADCAST_STAGE, BROADCAST_COMMIT and
BROADCAST_ABORT name a frame of VC 0 by its place in the staging of `port` (R33). In BROADCAST_PACKET the packet's payload
is `p.payload` and then `msg` (R411). -/
inductive Instr where
  -- registers
  | registerWrite (src : Source) (off : BitVec 32) (val : Word)
  | rcFieldRead (src : Source) (off : BitVec 32) (event : Bool)
  | crtailWrite (ring : Ring) (idx : Byte)
  -- frames and buffers
  | frameReceive (port : Fin 544) (f : Frame) (trailer : BitVec 32) (ago : BitVec 16)
  | frameLeaveStaging (x : Leaving)
  | internalSourceAdmit (q : FrameSource) (idx : Nat)
  | overflowMove (x : Fin 32) (v : Fin 8) (idx : Nat)
  | frameTransmit (x : Transmission)
  -- link control blocks
  | lcbAck (port : Fin 544) (b : Lcb)
  | nakSel (port : Fin 544) (b : Lcb)
  | nakGoback (port : Fin 544) (b : Lcb)
  | credit (port : Fin 544) (b : Lcb)
  | reef (port : Fin 544) (b : Lcb)
  | reefTakesEffect (port : Fin 512) (transmit : Bool)
  | laneReport (port : Fin 544) (b : Lcb)
  | echo (port : Fin 544) (b : Lcb)
  | echoReply (port : Fin 544) (b : Lcb)
  | param (port : Fin 544) (b : Lcb)
  | resync (port : Fin 544) (b : Lcb)
  | ackTimerExpiry (port : Fin 544) (v : Fin 8)
  -- site-port link states
  | lightDetected (p : Fin 512) (lanes : BitVec 4)
  | laneLocked (p : Fin 512) (lanes : BitVec 4)
  | aligned (port : Fin 544)
  | paramExchangeDone (port : Fin 544)
  | lossOfSignal (port : Fin 544)
  | fecAlignmentLost (port : Fin 544)
  | lcbBadLimit (port : Fin 544)
  | siteRetrain (p : Fin 512)
  | siteHoldExpiry (p : Fin 512)
  | sitePortEnable (p : Fin 512) (on : Bool)
  | txallowWrite (p : Fin 512) (lanes : BitVec 4)
  | reefholdWrite (p : Fin 512) (on : Bool)
  | laneSignalLoss (p : Fin 512) (w : Fin 4)
  | laneFecLimit (p : Fin 512) (w : Fin 4)
  | laneFecClear (p : Fin 512) (w : Fin 4)
  -- lasers and rings
  | prespare (g : Fin 64) (w : Fin 4) (power : BitVec 16)
  | spareLocked (g : Fin 64) (w : Fin 4)
  | opticalSwitchMoved (g : Fin 64) (w : Fin 4) (power : BitVec 16)
  | swapgo (g : Fin 64)
  | laserFailThreshold (g : Fin 64) (w : Fin 4) (power : BitVec 16)
  | laserStop (g : Fin 64) (w : Fin 4)
  | spareFail (g : Fin 64) (w : Fin 4) (power : BitVec 16)
  | thermfast (g : Fin 64) (txRings rxRings : BitVec 32)
  | thermClear (g : Fin 64) (txRings rxRings : BitVec 32)
  -- span ports and the Loft
  | cagePresence (x : Fin 32) (info : PlugInfo)
  | moduleReady (x : Fin 32)
  | dpActivated (x : Fin 32) (dpState : BitVec 4)
  | cmisWaitTimeout (x : Fin 32)
  | cmisTransactionTimeout (x : Fin 32)
  | intl (x : Fin 32) (fl : PlugFlags)
  | cmisFlagPoll (x : Fin 32) (fl : PlugFlags)
  | cmisCmd (x : Fin 32) (val : Word)
  | cmisAccessComplete (x : Fin 32) (timedOut : Bool) (data : Vector Word 16)
  | presenceDeassert (x : Fin 32)
  | spanRetrain (x : Fin 32)
  | spanHoldmaxExpiry (x : Fin 32)
  | spanPortEnable (x : Fin 32) (on : Bool)
  | loftCopyDone (x : Fin 32) (v : Fin 8) (seq : BitVec 32)
  | lftPartWrite (val : Word)
  | loftPatrol (findings : List LoftFinding)
  -- Svetna bypass
  | bypassConnect
  | bypassRelease
  | bypassLoop
  | bypassInstant
  | svbPathEstablished (p : Fin 512) (settle : BitVec 14)
  | svbPathFault (p : Fin 512)
  | svbDrain
  | svbForce
  | svbResume
  -- egress scheduling and sampling
  | gclCommit (port : Fin 544)
  | gclSwap (port : Fin 544)
  | gateBoundary (port : Fin 544)
  | shaperRefill
  | shaperWrite (port : Fin 544) (v : Fin 8) (val : Word)
  | queueSample (n : Fin 16)
  | cnEnable (val : Word)
  | cnRptrWrite (val : BitVec 32)
  -- routing
  | nrwaitExpiry (w : WaitRef)
  | memberEligible (w : WaitRef)
  | lateExpiry (r : StageRef)
  -- tables
  | tblRead (src : Source) (t : Fin 6) (cmd : Word)
  | tblWrite (src : Source) (t : Fin 6) (cmd : Word)
  | tblCas (src : Source) (t : Fin 6) (cmd : Word)
  | tblSwap (src : Source) (t : Fin 6) (cmd : Word)
  | tblEntryWrite
  | tblEntryCas
  | tblImage
  | tblDrain
  | tblForce
  | tblResume
  | tableEngineHang (h : HungOp)
  -- reduction
  | descriptorEnqueue (r : StageRef)
  | roundTimeout (n : Fin 16) (j : Byte)
  | nocommitTimeout (n : Fin 16) (j : Byte)
  | resultReceive (r : StageRef)
  | commitReceive (r : StageRef)
  -- dispatcher and cores
  | loadprog (n : Fin 16)
  | freeprog (n : Fin 16)
  | dspBind (n : Fin 16)
  | dspUnbind (n : Fin 16)
  | dspDrain (n : Fin 16)
  | dspForce (n : Fin 16)
  | dspResume (n : Fin 16)
  | coreReset (n : Fin 16) (c : Fin 96)
  | coreDisable (n : Fin 16) (c : Fin 96)
  | coreEnable (n : Fin 16) (c : Fin 96)
  | coreInject (n : Fin 16) (c : Fin 96)
  | coreWake (n : Fin 16) (c : Fin 96)
  | idlegateExpiry (n : Fin 16) (w : WindowCore)
  | invocationStart (n : Fin 16) (w : WindowCore)
  | millHang (n : Fin 16) (c : Fin 96)
  | selfCheckDone (n : Fin 16) (c : Fin 96) (pass : Bool)
  | clusterDark (n : Fin 16)
  | clusterAwake (n : Fin 16)
  | psdataRead (src : Source) (n : Fin 16)
  -- Mill instructions
  | br (n : Fin 16) (c : Fin 96) (e : MillErr)
  | loop (n : Fin 16) (c : Fin 96) (e : MillErr)
  | wait (n : Fin 16) (c : Fin 96) (e : MillErr)
  | waitSatisfied (n : Fin 16) (c : Fin 96)
  | sig (n : Fin 16) (c : Fin 96) (e : MillErr)
  | sigArrive (n : Fin 16)
  | halt (n : Fin 16) (c : Fin 96) (e : MillErr)
  | frx (n : Fin 16) (c : Fin 96) (e : MillErr)
  | ftx (n : Fin 16) (c : Fin 96) (e : MillErr)
  | vadd (n : Fin 16) (c : Fin 96) (e : MillErr)
  | vfma (n : Fin 16) (c : Fin 96) (e : MillErr)
  | vmax (n : Fin 16) (c : Fin 96) (e : MillErr)
  | vmin (n : Fin 16) (c : Fin 96) (e : MillErr)
  | vscl (n : Fin 16) (c : Fin 96) (e : MillErr)
  | vcast (n : Fin 16) (c : Fin 96) (e : MillErr)
  | vsrnd (n : Fin 16) (c : Fin 96) (e : MillErr)
  | vmxd (n : Fin 16) (c : Fin 96) (e : MillErr)
  | vmxe (n : Fin 16) (c : Fin 96) (e : MillErr)
  | vtkm (n : Fin 16) (c : Fin 96) (e : MillErr)
  | tally (n : Fin 16) (c : Fin 96) (e : MillErr)
  | ldb (n : Fin 16) (c : Fin 96) (e : MillErr)
  | stb (n : Fin 16) (c : Fin 96) (e : MillErr)
  | shb (n : Fin 16) (c : Fin 96) (e : MillErr)
  | shc (n : Fin 16) (c : Fin 96) (e : MillErr)
  | sha (n : Fin 16) (c : Fin 96) (e : MillErr)
  -- Granary
  | grnBind (j : Fin 16)
  | grnUnbind (j : Fin 16)
  | sethp (j : Fin 16)
  | load (j : Fin 16)
  | resilver (j : Fin 16)
  | grnDrain (j : Fin 16)
  | grnForce (j : Fin 16)
  | grnResume (j : Fin 16)
  | grnReset (j : Fin 16)
  | chunkEnterEngine (j : Fin 16)
  | allotmentStall (j : Fin 16) (b : Fin 64)
  | pass1Done (j : Fin 16)
  | pass2Done (j : Fin 16)
  | granaryHang (j : Fin 16)
  | grnPatrol (j : Fin 16) (findings : List GrnFinding)
  -- memory-semantic access
  | rdReqTaken (r : StageRef)
  | readDataReady (j : Fin 16) (gid : Nat)
  | wrReqFrame (r : StageRef)
  | atReqTaken (r : StageRef)
  | atomicWindowExpiry (j : Fin 16) (gid : Nat)
  | wrwaitExpiry (j : Fin 16) (src : BitVec 20) (tag : BitVec 32)
  | deadwaitExpiry (r : StageRef)
  | channelServesAgain (j : Fin 16)
  -- sheaves and partners
  | shBegin (src : Source) (cmd : Word)
  | shStage (src : Source) (cmd : Word)
  | shCommit (src : Source) (cmd : Word)
  | shAbort (src : Source) (cmd : Word)
  | sheafLifeExpiry (id : BitVec 16)
  | epochReady (n : Fin 16) (j : Byte)
  | stateAckReceive (r : StageRef)
  | stateReceive (r : StageRef)
  | noticeReceive (r : StageRef)
  | copyResend (id : Nat)
  | broadcastStage (port : Fin 544) (idx : Nat)
  | broadcastCommit (port : Fin 544) (idx : Nat)
  | broadcastAbort (port : Fin 544) (idx : Nat)
  -- fabric time
  | syncSend
  | pdelayReqSend (port : Fin 544)
  | pdelayReqReceive (r : StageRef)
  | pdelayRespReceive (r : StageRef)
  | syncReceive (r : StageRef)
  | holdtoExpiry
  | timSet (val : Word)
  -- telemetry
  | telCntWrite (set : Fin 17) (i : Fin 64) (sel : Bool) (val : Word)
  | telSnap
  | snapCopy
  | telFreeze (on : Bool)
  | tenantWindow
  | powerWindow (meanMilliwatt : Nat)
  | tagEnable (val : Word)
  | srRptrWrite (val : BitVec 32)
  | bwWindow
  | bwwinWrite (val : BitVec 20)
  | subReport (src : Source) (id : BitVec 16)
  | ringReport (src : Source) (id : BitVec 16)
  -- Watch and module states
  | bospwrWrite (val : BitVec 4)
  | wdogPet (val : Word)
  | wdogWarn
  | wdogExpiry
  | wake
  | sleep
  | admitModule
  | drain
  | layup
  | unlay (src : Source)
  | drained
  | drainwaitExpiry
  | wakeLight (k : Fin 2)
  | wakeTimer
  | wakePin
  | wakeSource (i : Fin 1024)
  | thermalHot (n : Fin 16) (sensor : Fin 64) (t : BitVec 16)
  | thermalThrottle (n : Fin 16) (sensor : Fin 64) (t : BitVec 16)
  | thermalClear (n : Fin 16)
  | coolantHot (t : BitVec 8)
  | thermalTrip (n : Fin 16) (sensor : Fin 64) (t : BitVec 16)
  | wchThermWrite (val : Word)
  -- interrupt controller
  | bicPending (i : Fin 1024) (e : Option Edge)
  | modintExpiry (i : Fin 1024)
  | bicClaim (c : Fin 4)
  | bicDone (c : Fin 4) (i : BitVec 10)
  | bicPendWrite (w : Fin 16) (val : Word)
  | bicGdis (on : Bool)
  | bicWmaskWrite (w : Fin 16) (val : Word)
  -- mailboxes
  | mbxSend (src : Source) (m : Fin 64)
  | mbxAck (src : Source) (m : Fin 64) (seq : BitVec 16)
  -- control link
  | hello (k : Fin 2) (p : Packet) (chain : Chain)
  | close (k : Fin 2) (p : Packet)
  | ping (k : Fin 2) (p : Packet)
  | regBatch (k : Fin 2) (p : Packet)
  | batchRead (k : Fin 2) (s : Fin 8)
  | batchWrite (k : Fin 2) (s : Fin 8)
  | batchPoll (k : Fin 2) (s : Fin 8)
  | pollTimeout (k : Fin 2) (s : Fin 8)
  | cmdAppend (k : Fin 2) (p : Packet)
  | bulkLoad (k : Fin 2) (p : Packet)
  | mbxPost (k : Fin 2) (p : Packet)
  | telSub (k : Fin 2) (p : Packet)
  | attest (k : Fin 2) (p : Packet)
  | resetPacket (k : Fin 2) (p : Packet)
  | broadcastPacket (k : Fin 2) (p : Packet) (msg : List Byte)
  | fwStage (k : Fin 2) (p : Packet) (fw rec : SigPair)
  | fwActivate (k : Fin 2) (p : Packet)
  | sessionIdleTimeout (k : Fin 2) (s : Fin 8)
  | uzoleyLinkTimeout (k : Fin 2)
  -- security and tenancy
  | bkeyLoad (src : Source)
  | resmaxExpiry (slot : Fin 64)
  | fenceEnd (slot : Fin 64)
  | scrubMarkerReceive (r : StageRef)
  | loopreqReceive (r : StageRef)
  | scrubSlot
  | scrubRegions
  | scrubDone
  | scrDrain
  | scrForce
  | scrResume
  | confWrite (src : Source) (slot : Fin 64) (on : Bool)
  | engineEntryHang (e : BoundedEngine)
  -- crash dump
  | dump
  | dumpAccessTimeout (unitType : Byte) (unit : BitVec 16) (off : Word)
  | dumpTruncate
  | dumpSend
  | dumpSendTimeout
  | dumpFree
  | dmpDrain
  | dmpForce
  | dmpResume
  -- resets
  | resetreqCluster (src : Source) (val : Word)
  | resetreqDatapathWarm (src : Source) (val : Word)
  | resetreqCold (src : Source) (val : Word)
  | warmResetReady
  | scoreUpdate
  | fsclr (val : Word)
  -- tests
  | testLoopback (src : Source) (val : Word)
  | testMembist (src : Source) (val : Word)
  | testFull (src : Source) (val : Word)
  | testCancel (src : Source) (val : Word)
  | testEnd (u : TestUnit) (errors : BitVec 16) (failed : List TestUnit)
  | remoteNoReturn (u : TestUnit)
  | marginMeasure (ms : List Margin)
  -- power and cooling
  | powerApplied
  | watchSupplyLoss
  | supplyFault
  | vrange
  | railTimeout (rail : Fin 8)
  | pcapExceed (milliwatt : Nat)
  | pcapLift (milliwatt : Nat)
  | cageOvercurrent (x : Fin 32)
  | lowFlow (flow : BitVec 16)
  | latchOpen
  -- later rows
  | faultedRoundRelease (n : Fin 16) (j : Byte)
  | readWindowExpiry (j : Fin 16) (gid : Nat)
  | grnEngineGate (j : Fin 16)
  | grnEngineWake (j : Fin 16)
  | laneRetrained (p : Fin 512) (w : Fin 4)
  | laneSignalRestored (p : Fin 512) (w : Fin 4)
  | bootStepDone (ok : Bool) (fw rec : SigPair)
  | clusterResetDone (n : Fin 16)
  | eventWindowAgeOut (w : EscWindow)
  | queuedQuoteSigned
  | tapInstruction (i : TapInstr)
  deriving DecidableEq, Repr

end Sys2Proof
end

