-- ==== Sys2Proof/Decode.lean ====
section
/-! DEFINITION. Decoding: the table gives no row any bits, so no word spells a command. The
instruction set of the Mill cores, which has an encoding of its own, is decoded in
`Sys2Proof.Machine.MillCode`. -/

namespace Sys2Proof

/-- The command that a word spells by the table's bits: none, since no row has bits. -/
def decodeTableWord (_nbits _w : Nat) : Option Instr := none

end Sys2Proof
end

