-- ==== Sys2Proof/Config.lean ====
section
/-! DEFINITION. The open values: constants with no body, so that nothing can evaluate them
or prove a value of them. Each is named in a row of the assumption log. -/

namespace Sys2Proof

/-- A free value: the spec states no value here. The step applies it to `State.freeCtr`,
which it then advances, so that each use is a fresh value. (DESIGN CHOICE, log entry 2) -/
opaque Config.freeValue : Nat → BitVec 64

/-- A free vector register: contents that the spec leaves undefined (R251). (DESIGN CHOICE, log entry 2) -/
opaque Config.freeVector : Nat → BitVec 2048

/-- SHA-384 of a byte string (R220, R412, R429, R430, R432). The algorithm stands in FIPS
180-4, outside the spec: the model states nothing about its values. (DESIGN CHOICE, log entry 10) -/
opaque Config.sha384 : List (BitVec 8) → BitVec 384

/-- An ECDSA P-384 signature over a SHA-384 by the device identity (R429, R430). (DESIGN CHOICE, log entry 10) -/
opaque Config.ecdsaSign : BitVec 384 → List (BitVec 8)

/-- An HSS signature with index `q` over a byte string (R430, R431). (DESIGN CHOICE, log entry 10) -/
opaque Config.hssSign : Nat → List (BitVec 8) → List (BitVec 8)

/-- The generation of a firmware image (R427): the image format is not in the spec. (DESIGN CHOICE, log entry 12) -/
opaque Config.imageGeneration : List (BitVec 8) → BitVec 32

/-- The number of frames that the module's own VC0 or VC7 receive queue holds (R163).
(DESIGN CHOICE, log entry 14) -/
opaque Config.ownQueueDepth : Nat

/-- Whether Bosun core `c` waits in WFI at the `k`-th look (R395): firmware decides.
(DESIGN CHOICE, log entry 13) -/
opaque Config.coreInWfi : Nat → Nat → Bool

/-- The AES-GMAC tag of bytes under a key and an IV (R347): the algorithm stands in its own standard.
(DESIGN CHOICE, log entry 11) -/
opaque Config.aesGmac : BitVec 256 → BitVec 96 → List (BitVec 8) → BitVec 128

/-- The DER certificate chain of the device identity (R429, R432). (DESIGN CHOICE, log entry 10) -/
opaque Config.deviceChain : List (BitVec 8)

/-- The module's ephemeral public key and its nonce in the `k`-th handshake (R412). (DESIGN CHOICE, log entry 10) -/
opaque Config.moduleKey : Nat → List (BitVec 8)
/-- DESIGN CHOICE, log entry 10. -/
opaque Config.moduleNonce : Nat → List (BitVec 8)

/-- The bytes of the image and of the configuration record that the factory wrote (R432). (PRESUMED, log entry 5) -/
opaque Config.factoryImage : List (BitVec 8)
/-- PRESUMED, log entry 5. -/
opaque Config.factoryRecord : List (BitVec 8)

/-- The serial number of the module's device identity certificate (R422). (DESIGN CHOICE, log entry 12) -/
opaque Config.serial : BitVec 64

/-- The measurement of the boot ROM (R432). (DESIGN CHOICE, log entry 12) -/
opaque Config.bootRomMeasure : BitVec 384

/-- The measurement of the Watch firmware (R432). (DESIGN CHOICE, log entry 12) -/
opaque Config.watchFwMeasure : BitVec 384

/-- The measurement of the running Bosun firmware in flash slot `k` (R432). (DESIGN CHOICE, log entry 12) -/
opaque Config.bosunFwMeasure : Nat → BitVec 384

/-- Uncorrectable codeword pairs on lane `w` of site port `p` in the 1 ms before tick `t`, by
direction (R71): the world decides. (DESIGN CHOICE, log entry 15) -/
opaque Config.fecPairs : Nat → Nat → Bool → Nat → Nat

/-- Codeword pairs that the counter register at an offset counts after tick `a` and up to tick `b` (CL_SP_FECC, CL_SP_FECU,
CL_SX_FECC, CL_SX_FECU): the world decides. (DESIGN CHOICE, log entry 15) -/
opaque Config.fecCounted : Nat → Nat → Nat → Nat

/-- Uncorrectable codeword pairs of the port of scored unit `u` in the second that ends at tick `t` (R473).
(DESIGN CHOICE, log entry 15) -/
opaque Config.fecScored : Nat → Nat → Nat

/-- The site number and the plane number of a module, by its module number (R12): the spec does not say
how the module knows another's. (DESIGN CHOICE, log entry 16) -/
opaque Config.siteOf : BitVec 12 → BitVec 8
/-- DESIGN CHOICE, log entry 16. -/
opaque Config.planeOf : BitVec 12 → BitVec 8

/-- Whether a fixed-point result of the servo is rounded up (R355, R359): the spec states no rounding.
(DESIGN CHOICE, log entry 17) -/
opaque Config.roundsUp : Int → Nat → Bool

/-- The bytes of a PTP message that the spec gives no value (R351), by messageType and place.
(PRESUMED, log entry 18) -/
opaque Config.ptpByte : Nat → Nat → BitVec 8

/-- A CMIS page is a C-CMIS configuration page (R88): the page numbers are OIF C-CMIS's.
(DESIGN CHOICE, log entry 19) -/
opaque Config.ccmisConfigPage : Nat → Bool

end Sys2Proof
end

