-- ==== Sys2Proof/Machine/State.lean ====
section
/-! DEFINITION. The state of the block as plain data: the register file of R5 in one sparse
map, and every queue, buffer, record, timer and memory the spec gives the module beside it.
Sparse maps are in the canonical form of `SMap`. Ticks are the 40 ns event ticks of R382. -/

namespace Sys2Proof.Machine

/-- Why the machine stops with a fault. -/
inductive Fault where
  /-- The command's operands have no meaning for the hardware. No meaning raises it: the rules give every command an
  effect, be it none (DESIGN CHOICE, log entry 9). Safe: a machine that stopped would only stay where it was. -/
  | illFormed
  deriving DecidableEq, Repr

/-- Why a command is refused. -/
inductive Refusal where
  /-- The command has no meaning yet. Safe: nothing can be proved about its effect. -/
  | notModelled (mnemonic : String)
  deriving DecidableEq, Repr

/-! ### What leaves the module -/

/-- One thing the module sends: the model's record of its outputs. -/
inductive Emission where
  /-- A frame put on the wire of a port with its trailer (R46, R47); `again` marks a resend (R62). -/
  | frame (port : Nat) (f : Frame) (trailer : BitVec 32) (again : Bool)
  /-- A link control block: port, TYPE, VC, FLAGS, SEQ, ARG (R56). -/
  | lcb (port : Nat) (type : Nat) (vc : Nat) (flags : Nat) (seq : BitVec 32) (arg : BitVec 64)
  /-- A training pattern sent on one lane (R74). -/
  | training (port : Nat) (lane : Nat)
  /-- A command packet sent to the node on Uzoley port `k` (R411). -/
  | packet (k : Nat) (p : Packet)
  /-- A pluggable put in low power, released from it, or its data path activated (R85); its host-side or
  line-side loop-back set, or cleared (R480). -/
  | cmis (span : Nat) (what : Nat)
  /-- The application staged on all 8 lanes of a pluggable (R85). -/
  | cmisStage (span : Nat) (apsel : Nat)
  /-- The stream of PATTERN frames of a loop-back test starts or ends at a port (R481). -/
  | pattern (port : Nat) (on : Bool)
  deriving DecidableEq, Repr

/-! ### Frames in the module -/

/-- Where an internal source's frame is bound: by its header (R148), to a spray group, to a
multicast set of spray groups, or out of one port. -/
inductive Aim where
  | route
  | group (g : Nat)
  | mcast (groups : List Nat)
  | port (p : Nat)
  deriving DecidableEq, Repr

/-- What the module notes about a frame beside the frame: ingress port numbered as PIN of
R146, ingress time-stamp in 0.5 ns units, the tick of its last move, whether it is tagged
(R372), the Crow's nest rule that keeps it (R145), whether it has been counted as waiting
and since when it finds no eligible member (R154), which RESYNC of its port it followed
(R131), the target it was queued under (R153), whether its job number failed the check at the instant of
its CRC check (R39), the frame as it was received where the module has changed it (R146), and the later
time-stamps of a journey record (R373). -/
structure Meta where
  pin : Nat := 0
  tin : Nat := 0
  since : Nat := 0
  tagged : Bool := false
  rule : Option Nat := none
  waited : Bool := false
  noElig : Option Nat := none
  era : Nat := 0
  mcast : Bool := false
  denq : Option Nat := none
  dmstart : Option Nat := none
  dmfin : Option Nat := none
  dgrn : Option Nat := none
  aim : Aim := .route
  badJob : Bool := false
  asRx : Option Frame := none
  deriving DecidableEq, Repr

/-- A frame in staging, overflow holding or an egress queue. -/
structure Held where
  f : Frame
  m : Meta := {}
  deriving DecidableEq, Repr

/-- A frame handed back for a new egress choice; it stays charged to its old queue (R134). -/
structure HandedBack where
  port : Nat
  vc : Nat
  h : Held
  deriving DecidableEq, Repr

/-- What the module does when the last copy of a source's frame has been admitted. -/
inductive Note where
  | none
  /-- A copy of a RESULT of chunk `c`, round record `r` (R205). -/
  | result (r : Nat) (c : Nat)
  /-- The COMMIT of a collective: UNNOTICED clears (R333). -/
  | commit (coll : Nat) (home : Nat)
  /-- A site partial of round record `r`, chunk `c` (R206). -/
  | sitePartial (r : Nat) (c : Nat)
  /-- A reply piece: bytes of channel `j`'s reply buffer for group `g` (R311, R318). -/
  | reply (j : Nat) (g : Nat)
  /-- A frame of state copy `id` (R337). -/
  | copy (id : Nat)
  deriving DecidableEq, Repr

/-- A frame at an internal source, with the copies still to be admitted (R132). -/
structure SrcFrame where
  f : Frame
  aims : List Aim
  note : Note := .none
  since : Nat := 0
  faulted : Bool := false
  deriving DecidableEq, Repr

/-! ### Links -/

/-- A transmitted frame kept until it is acknowledged (R60, R92). `inBuf` is true while it
still holds output-buffer cells; `era` numbers the RESYNC whose credit it holds. -/
structure TxCopy where
  seq : BitVec 32
  h : Held
  sentAt : Nat
  inBuf : Bool := true
  era : Nat := 0
  deriving DecidableEq, Repr

/-- The hop state of one VC of one port (R58 to R63, R123, R124). `sent` counts the frames
numbered since HOPSEQ last began at 0; `overflowed` is set once a full receive hold has been
reported (R61). -/
structure LinkVc where
  sent : Nat := 0
  unacked : List TxCopy := []
  resend : List (BitVec 32) := []
  rxNext : BitVec 32 := 0
  rxHold : List (BitVec 32 × Held) := []
  credit : Nat := 0
  creditGot : Nat := 0
  outstanding : Nat := 0
  expiries : Nat := 0
  resynced : Bool := false
  overflowed : Bool := false
  deriving DecidableEq, Repr

/-- The link state of a port that no register shows. `kept`: it has not been reset since the last UP (R67);
`lastRx`: the tick, plus 1, of the last frame accepted; `reefTx` and `reefRx`: lane masks announced and the stripes
they wait for, in order (R72); `fecAt`: the tick, plus 1, at which a receive lane left for FEC; `fecBack`: the tick, plus 1, at
which a lane that had left for FEC rejoined (R74); `ownTx`: the causes of a transmit lane that the far end has
not set (R70); `faulted` is set while the port is DARK after a fault record of it (R432); `loop`: what a port in LOOP has
sent and not yet received, oldest first (R107). -/
structure Link where
  era : Nat := 0
  holdAt : Nat := 0
  alignAt : Nat := 0
  lockedLanes : BitVec 4 := 0
  kept : Bool := false
  upOnce : Bool := false
  badLcbs : List Nat := []
  lastRx : Nat := 0
  reefTx : List (BitVec 4 × BitVec 32) := []
  reefRx : List (BitVec 4 × BitVec 32) := []
  training : BitVec 4 := 0
  fecAt : SMap Nat := []
  fecBack : SMap Nat := []
  fecStuck : BitVec 4 := 0
  ownTx : SMap Nat := []
  echoAt : Nat := 0
  echo : Option Word := none
  farReset : Bool := false
  asked : BitVec 4 := 0
  askedCause : SMap Nat := []
  losses : List Nat := []
  faulted : Bool := false
  loop : List Emission := []
  deriving DecidableEq, Repr

/-- The CMIS agent of one cage (R85 to R88): step of the bring-up in progress (0 none, 3
waiting for ModuleReady, 4 waiting for DPActivated), when the wait began, consecutive
transaction timeouts, the access in progress, the cage switch (R494), and what was read from
the pluggable that is present. -/
structure Cmis where
  step : Nat := 0
  waitAt : Nat := 0
  timeouts : Nat := 0
  access : Option Word := none
  caged : Bool := false
  info : Option PlugInfo := none
  deriving DecidableEq, Repr

/-- The frame that a port put on the wire last: its VC, when its wire time ends, and when the window it was sent in
ends, both in ns of fabric time (R138). -/
structure OnWire where
  vc : Nat
  endAt : Nat
  winEnd : Nat
  deriving DecidableEq, Repr

/-- The scheduler of one egress port: last VC served, start of the operating gate list and
of the next (fabric time, ns), per-VC deficits, tokens and shaper values in force, the
length of the next list, the instant since which a VC's head has found no window, and the gated frame on the wire (R137
to R143). -/
structure EgPort where
  lastVc : Nat := 7
  operBase : Nat := 0
  swapAt : Option Nat := none
  swapLen : Nat := 0
  deficit : SMap Nat := []
  tokens : SMap Int := []
  shape : SMap Word := []
  noFit : SMap Nat := []
  gateIdx : Nat := 0
  onWire : Option OnWire := none
  deriving DecidableEq, Repr

/-! ### Tables and sheaves -/

/-- A table entry: GEN and its bits, TBL_DATA0 most significant (R168, R170). -/
structure TEntry where
  gen : BitVec 16 := 0
  data : BitVec 512 := 0
  deriving DecidableEq, Repr

/-- A table entry staged in a sheaf (R181); `cas` holds the generation a CAS compares. -/
structure Staged where
  t : Nat
  idx : Nat
  data : BitVec 512
  cas : Option (BitVec 16) := none
  deriving DecidableEq, Repr

/-- A PROMOTE or PARTNER member (R329). -/
inductive Member where
  | promote (h : BitVec 12)
  | partner (n : BitVec 12) (live : Bool)
  deriving DecidableEq, Repr

/-- A sheaf (R326 to R331). `state` is the code of R327; an epoch-switch sheaf keeps the collective
and round it was opened for (R257). -/
structure Sheaf where
  state : BitVec 2 := 0
  cause : BitVec 4 := 0
  estat : BitVec 5 := 0
  origin : BitVec 2 := 0
  life : BitVec 16 := 0
  openedAt : Nat := 0
  staged : List Staged := []
  members : List Member := []
  coll : BitVec 16 := 0
  round : BitVec 16 := 0
  deriving DecidableEq, Repr

/-! ### Reduction -/

/-- A round record (R198, R202, R207, R333). `state` is the code of R198; `fences` holds each FENCE COUNT plus 1. -/
structure Round where
  state : BitVec 4 := 0
  fcause : BitVec 4 := 0
  coll : BitVec 16 := 0
  round : BitVec 16 := 0
  regAt : Nat := 0
  talliedAt : Nat := 0
  faultAt : Nat := 0
  resv : Nat := 0
  fences : SMap Nat := []
  counts : SMap Nat := []
  commits : List Nat := []
  done : SMap Bool := []
  partials : SMap Nat := []
  notices : List Nat := []
  committed : Bool := false
  deriving DecidableEq, Repr

/-- A chunk's slot (R199, R201): chunk state 1 ACCUM, 2 EMIT, 3 HELD; its cells as runs of
(first, length); bitmap and pending bits; bytes of its cells and the cells that have been written; the
partial a HELD slot keeps; `owner` is the Mill core of its bank. -/
structure Slot where
  state : Nat := 0
  spill : Bool := false
  runs : List (Nat × Nat) := []
  bitmap : BitVec 520 := 0
  queued : BitVec 520 := 0
  bytes : SMap Byte := []
  partialF : Option Frame := none
  owner : Nat := 0
  written : SMap Bool := []
  deriving DecidableEq, Repr

/-- A descriptor with the frame it stands for (R216, R217). -/
structure Desc where
  first : Bool
  spill : Bool
  cbit : Nat
  coll : BitVec 16
  round : BitVec 16
  port : Nat
  chunk : BitVec 24
  slot : Nat
  h : Held
  deriving DecidableEq, Repr

/-- One level of a hardware loop (R247): first and last store index of the body, passes
left. -/
structure LoopLevel where
  first : Nat
  last : Nat
  left : Nat
  deriving DecidableEq, Repr

/-- The timing record of R241 and R242, in core cycles from the invocation's start: next
issue cycle, done + 1 of each unit's last instruction, first and done of each register's last
producer (by 64 × file + index), retirement + 1 of the last instruction, the producer of TALLY
among FRX, and the cycles spent in WAIT. -/
structure Timing where
  issue : Nat := 0
  units : SMap Nat := []
  first : SMap Nat := []
  done : SMap Nat := []
  retired : Nat := 0
  frxFirst : Nat := 0
  frxDone : Nat := 0
  waited : Nat := 0
  deriving DecidableEq, Repr

/-- A Mill core (R213 to R218, R225, R241 to R250). `st` is the code of R225; `winFirst` is set
while every cell of the window counts as present (FIRST = 1, R244); `blocks` are the payload blocks
taken (R249); `owes` is set while the journey record of a contribution that completed its chunk waits for
the chunk's entry (R373); `ftxGrn` holds the core at an FTX into the Granary until the chunk has entered its
engine; `idleAt` is the tick from which IDLEGATE runs; `flagAt` is the cycle in which each event flag that is set
was set, from the module's start (R248); `shadow` holds the slot as it stood before each TALLY and FTX of the
invocation, with the cycle of its retirement, and `dropAt` the cycle in which an FTX drops the window (R242, R244). -/
structure Core where
  st : Nat := 0
  v : SMap (BitVec 2048) := []
  sreg : SMap Word := []
  p : SMap (BitVec 256) := []
  pc : Nat := 0
  loops : List LoopLevel := []
  flags : BitVec 8 := 0
  flagAt : SMap Nat := []
  gen : BitVec 32 := 0
  winKey : Option Nat := none
  winFirst : Bool := false
  winBytes : SMap Byte := []
  present : SMap Bool := []
  dirty : SMap Bool := []
  dropAt : Option Nat := none
  shadow : List (Nat × Slot) := []
  desc : Option Desc := none
  dq : List Desc := []
  blocks : BitVec 16 := 0
  tallied : Bool := false
  complete : Bool := false
  owes : Bool := false
  progBase : Nat := 0
  lastProg : Option Nat := none
  fresh : Bool := true
  startAt : Nat := 0
  idleAt : Nat := 0
  wakeAt : Option Nat := none
  waitEv : Option (Nat × BitVec 8 × Option Nat) := none
  ftxGrn : Bool := false
  emitted : Bool := false
  inject : Bool := false
  arith : SMap Nat := []
  tm : Timing := {}
  deriving DecidableEq, Repr

/-- A program of a cluster's store (R219, R220). -/
structure Prog where
  owner : Nat
  len : Nat
  base : Nat
  measure : BitVec 384
  deriving DecidableEq, Repr

/-- A binding of a core to a collective's chunk range (R222). -/
structure Bind where
  core : Nat
  coll : BitVec 16
  first : Nat
  last : Nat
  deriving DecidableEq, Repr

/-- Event flags under way to a core, with the cycle in which they are set, from the module's start (R248). -/
structure Flight where
  n : Nat
  core : Nat
  mask : BitVec 8
  slot : Nat
  due : Nat
  deriving DecidableEq, Repr

/-! ### Granary -/

/-- Hyperparameters of a binding (R298, R304). -/
structure Hyper where
  lr : BitVec 32 := 0
  beta1 : BitVec 32 := 0
  beta2 : BitVec 32 := 0
  eps : BitVec 32 := 0
  wd : BitVec 32 := 0
  clip : Word := 0
  deriving DecidableEq, Repr

/-- A binding record (R289, R290, R294, R340 to R345). `hpRound` holds, by round record, the
hyperparameters captured at the round's registration (R298, R304), `clips` the clip factor that its first chunk read
(R297); `hpWas` holds the values before a SETHP and the event tick after it (R308). -/
structure Binding where
  valid : Bool := false
  replica : Bool := false
  opt : BitVec 2 := 0
  sfmt : BitVec 2 := 0
  srnd : Bool := false
  nanabort : Bool := false
  coll : BitVec 16 := 0
  basereg : Nat := 0
  peerreg : Nat := 0
  peer : BitVec 12 := 0
  elems : Nat := 0
  nchunk : Nat := 0
  step : BitVec 32 := 0
  epoch : BitVec 32 := 0
  cur : Bool := false
  pend : Bool := false
  damaged : Bool := false
  stepped : SMap Bool := []
  hp : Hyper := {}
  hpRound : SMap (Option Hyper) := []
  unnoticed : Bool := false
  peerState : BitVec 2 := 0
  acting : Option (BitVec 12) := none
  loaded : SMap Bool := []
  loadedStep : Option (BitVec 32) := none
  clips : SMap (Option (BitVec 32)) := []
  hpWas : Option (Nat × Hyper) := none
  fullAt : Option Nat := none
  deriving DecidableEq, Repr

/-- A chunk in an engine or an allotment (R295 to R300): binding, chunk, local index, round
record, collective and round, its gradients as they arrived, its phase (0 before the end of pass 1,
1 in pass 2, 2 waiting to send its copy), and the parameters with a pass taken as read. -/
structure GChunk where
  bix : Nat
  chunk : Nat
  h : Nat
  rrec : Nat
  coll : BitVec 16
  round : BitVec 16
  grads : List (BitVec 32)
  phase : Nat := 0
  skip : SMap Bool := []
  deriving DecidableEq, Repr

/-- A Granary engine (R283, R306, R307, R389). `st` is the code of GRN_ESTAT.STATE but RUN, which the
work in it shows; `resilver` is the RESILVER entry in progress and the chunks it has dealt with; `wasBound` is the
binding that an UNBIND removed and the event tick after it (R308). -/
structure Engine where
  st : Nat := 0
  chunks : List GChunk := []
  ftxWait : List (Nat × GChunk) := []
  progressAt : Nat := 0
  resilver : Option (Entry × Nat) := none
  idleAt : Nat := 0
  selfRefresh : Bool := false
  failed : Bool := false
  ues : List Nat := []
  resets : List Nat := []
  wasBound : Option (Nat × Binding) := none
  deriving DecidableEq, Repr

/-- What a state copy stands for at its sender (R300, R314, R337). -/
inductive CopyKind where
  | step (j b h c r : Nat)
  | resilver (j b h : Nat)
  | blocks (j : Nat)
  | notice (r : Nat) (peer : Nat)
  deriving DecidableEq, Repr

/-- An unacknowledged state copy or NOTICE (R165, R337, R339). -/
structure Copy where
  dest : Nat
  tag : BitVec 32
  kind : CopyKind
  frames : List Frame
  sentAt : Nat
  clean : Bool := true
  deriving DecidableEq, Repr

/-- A state copy being received (R338). -/
structure Incoming where
  src : Nat
  tag : BitVec 32
  frames : List Frame
  count : Option Nat := none
  deriving DecidableEq, Repr

/-- An open write (R315). -/
structure Tracker where
  j : Nat
  src : BitVec 20
  tag : BitVec 32
  job : BitVec 12
  addr : Word
  len : Nat
  pieces : List Nat
  got : Nat
  count : Option Nat
  openAt : Nat
  blocks : List Nat
  copy : Option Nat := none
  ended : Bool := false
  deriving DecidableEq, Repr

/-- A journal entry of an atomic (R317), with the job that a scrub finds it by (R443). -/
structure JEntry where
  src : BitVec 20
  tag : BitVec 32
  addr : Word
  subk : Byte
  value : Word
  committed : Bool
  job : BitVec 12
  deriving DecidableEq, Repr

/-- A requester of a read or atomic: SRC, TAG, JOB, ADDR, LEN, and the operands of an
atomic. -/
structure Requester where
  src : BitVec 20
  tag : BitVec 32
  job : BitVec 12
  addr : Word
  len : Nat
  subk : Byte := 0
  opnd : Word := 0
  swap : Word := 0
  deriving DecidableEq, Repr

/-- A read group, or a read served alone (R318); `data` is none until it has been read. -/
structure ReadGroup where
  gid : Nat
  j : Nat
  job : BitVec 12
  addr : Word
  len : Nat
  epoch : Option (BitVec 32)
  phys : Nat
  ver : Option (Nat × Nat)
  closeAt : Nat
  opened : Bool
  members : List Requester
  data : Option (List Byte) := none
  replied : Nat := 0
  deriving DecidableEq, Repr

/-- An atomic group (R319). `copy` is set while its copy is unacknowledged. -/
structure AtomGroup where
  gid : Nat
  j : Nat
  job : BitVec 12
  addr : Word
  subk : Byte
  closeAt : Nat
  members : List Requester
  applied : Bool := false
  values : List Word := []
  copy : Option Nat := none
  deriving DecidableEq, Repr

/-! ### Time, telemetry, Watch, control link -/

/-- Peer-delay state of a port (R355): last accepted measurements in 1/16 ns, newest first,
how many since it came UP, and the outstanding request. -/
structure PeerDelay where
  meas : List Int := []
  seen : Nat := 0
  sent : Option (BitVec 16 × Nat) := none
  seq : BitVec 16 := 0
  askedAt : Nat := 0
  deriving DecidableEq, Repr

/-- Fabric time (R351 to R362). `fine` counts 2^−36 ns. `bounds` holds, by periodic boundary, the
fabric time in ns of the last one taken; an unlisted one was taken at `base` or before. -/
structure Clock where
  fine : Int := 0
  slewLeft : Int := 0
  slewPer : Int := 0
  lastSeq : Option (BitVec 16) := none
  gated : Nat := 0
  lastSync : Nat := 0
  txSeq : BitVec 16 := 0
  syncAt : Nat := 0
  base : Nat := 0
  bounds : SMap Nat := []
  deriving DecidableEq, Repr

/-- A tenant-visible counter (R370): the sum of the windows ended, and the count of events
in the window in progress. -/
structure Tenant where
  sum : Nat := 0
  window : Nat := 0
  deriving DecidableEq, Repr

/-- A telemetry subscription (R376). -/
structure Sub where
  source : Nat
  id : BitVec 16
  period : Nat
  index : Nat
  seq : Nat := 0
  raw : Word := 0
  deriving DecidableEq, Repr

/-- Telemetry state that no register shows. `bwTx` and `bwRx` hold the bytes of the bandwidth window in
progress by 8 × port + VC, `bwFull` tells that it began at a boundary (R375). -/
structure Tele where
  tenant : SMap Tenant := []
  lfsr : SMap (BitVec 32) := []
  tagSeq : Nat := 0
  bwTx : SMap Nat := []
  bwRx : SMap Nat := []
  bwFull : Bool := false
  capt : SMap (BitVec 1280) := []
  captSeq : Nat := 0
  captBad : SMap Bool := []
  captLfsr : SMap (BitVec 32) := []
  deriving DecidableEq, Repr

/-- A register batch in progress (R418): entries left, results so far, when the POLL in
front began, and the nine frame-check captures of each cluster that it has begun to read (R51). -/
structure Batch where
  seq : BitVec 64
  tag : BitVec 16
  entries : List (BitVec 128)
  results : List (Word × Nat)
  pollAt : Option Nat := none
  pollLast : Word := 0
  waitAt : Option Nat := none
  latched : SMap (List Word) := []
  deriving DecidableEq, Repr

/-- A session (R412 to R417). -/
structure Session where
  opened : Bool := false
  tenant : Bool := false
  job : BitVec 12 := 0
  seqIn : BitVec 64 := 0
  seqOut : BitVec 64 := 0
  lastAt : Nat := 0
  gcmAt : List Nat := []
  cache : List Packet := []
  batch : Option Batch := none
  subs : List Sub := []
  deriving DecidableEq, Repr

/-- A bulk handle (R421). -/
structure Bulk where
  held : Bool := false
  owner : Nat := 0
  type : Nat := 0
  total : Nat := 0
  bytes : SMap Byte := []
  got : SMap Bool := []
  deriving DecidableEq, Repr

/-- The signed configuration record in force (R422). -/
structure ConfigRec where
  modnum : BitVec 12 := 0
  site : Byte := 0
  plane : Byte := 0
  planegen : BitVec 32 := 0
  options : BitVec 32 := 0
  oproot : BitVec 384 := 0
  deny : List (BitVec 160) := []
  serial : BitVec 64 := 0
  deriving DecidableEq, Repr

/-- One flash slot (R425): STAGED, or what the factory wrote, with the image and the record; an empty
part has no bytes. -/
structure FlashSlot where
  staged : Bool := false
  factory : Bool := false
  image : List Byte := []
  record : List Byte := []
  loadedAt : Nat := 0
  hadImage : Bool := false
  hadRecord : Bool := false
  deriving DecidableEq, Repr

/-- A test that runs (R477). -/
structure TestRun where
  u : TestUnit
  req : Word
  startAt : Nat
  deriving DecidableEq, Repr

/-- One record of a dump (R470) with its data bytes. -/
structure DumpRec where
  id : Nat
  seq : Nat
  unitType : Byte
  status : Byte
  unit : BitVec 16
  off : Word
  data : List Byte
  tick : Nat
  deriving DecidableEq, Repr

/-- The dump engine (R469 to R472): the entry in progress with the tick it was taken, the dump staged, the units
whose access timed out in the dump being taken (as UNITTYPE, UNIT, offset), the SEND in progress with the
records still to be placed, and the tick a pre-reset dump began. -/
structure Dump where
  running : Option (Entry × Nat) := none
  id : Nat := 0
  staged : Bool := false
  recs : List DumpRec := []
  unresp : Nat := 0
  hung : List (Nat × Nat × Nat) := []
  sending : Option (Entry × Nat) := none
  predump : Option Nat := none
  deriving DecidableEq, Repr

/-- A withheld fault record (R453). -/
structure FrKey where
  lastAt : Nat := 0
  withheld : Nat := 0
  seen : Bool := false
  deriving DecidableEq, Repr

/-- A module-level reset that runs (R462): domain 2 datapath warm or 3 cold, cause as in
WCH_LASTRST, start tick, whether a thermal trip took it, whether it reaches LAID_UP (R465),
and whether it is the cold reset of a wake (R388). -/
structure ResetRun where
  domain : Nat
  cause : Nat
  startAt : Nat
  trip : Bool := false
  laid : Bool := false
  wake : Bool := false
  deriving DecidableEq, Repr

/-- The Watch domain and the module-level machinery that no register shows. `clusterDown`: by
cluster, 0 on, 1 dark (R226), 2 in reset (R458), 3 waking; `laid`: a supply fault brought COUNT
to 3 and the next boot ends in LAID_UP (R465); `rejected`: the running slot has failed its verification in the
boot in progress (R424); `wakeTick`: when the boot in progress began; `scoreAt`: the last score update; `pcapAt`: when the power cap was last exceeded; `after`: the reset that a pre-reset dump holds
up (R472); `cutAt`: by unit that a reset or a loss of power takes, the tick of the last one, plus 1 (R383); `bellAt`: the tick
of the last doorbell, plus 1, `wokenAt`: by Bosun core, that of its last wake by a source (R407), and `reissueDue`: a datapath warm reset has come since the
module last entered SERVICE (R335). -/
structure Watch where
  record : ConfigRec := {}
  rejected : Bool := false
  slots : SMap FlashSlot := []
  laid : Bool := false
  incarn : BitVec 16 := 0
  pets : SMap Nat := []
  wdogAt : Nat := 0
  wakeTick : Nat := 0
  run : Option ResetRun := none
  after : Option ResetRun := none
  counted : List Nat := []
  clusterResets : SMap (List Nat) := []
  millFaults : SMap (List Nat) := []
  unitResets : SMap (List Nat) := []
  tableResets : List Nat := []
  moduleFault : Bool := false
  frSeq : BitVec 32 := 0
  frUnread : Nat := 0
  evUnread : Nat := 0
  frKeys : SMap FrKey := []
  scoreIn : SMap Nat := []
  scoreAt : Nat := 0
  pcap : Bool := false
  pcapAt : Nat := 0
  tap : Nat := 0
  drainAt : Nat := 0
  clusterDown : SMap Nat := []
  lastRate : SMap Nat := []
  cutAt : SMap Nat := []
  bellAt : Nat := 0
  wokenAt : SMap Nat := []
  reissueDue : Bool := false
  deriving DecidableEq, Repr

/-- The interrupt controller beside its registers (R393 to R399). -/
structure Bic where
  edges : SMap Bool := []
  active : SMap Bool := []
  claimed : SMap Nat := []
  nest : SMap (List (Nat × Nat)) := []
  deriving DecidableEq, Repr

/-- The scrub entry in progress, with the 16 KiB pieces done (R443, R446). -/
structure ScrubRun where
  e : Entry
  k : Nat := 0
  deriving DecidableEq, Repr

/-- The security core and the tear-down machinery (R431, R434, R438 to R446): the HSS index up to which
non-volatile memory has reserved and the next one to use, the broadcast key,
Tr and the scrub of each slot, the scrub entry in progress, quotes that wait and the ticks of those signed, handshakes. -/
structure Sec where
  hssQ : Nat := 0
  hssNext : Nat := 0
  bkey : BitVec 256 := 0
  bkeySet : Bool := false
  tr : SMap Nat := []
  slotDone : SMap Nat := []
  scrub : Option ScrubRun := none
  quoteQ : List (Nat × Packet) := []
  quotesAt : List Nat := []
  hellos : Nat := 0
  deriving DecidableEq, Repr

/-! ### Groups of the state, by chapter -/

/-- The ports: peer-delay state by port (R355), link state by port, hop state by
8 × port + VC (R58), CMIS agents by cage, Loft uncorrectable errors by stack, as ticks
(R105), the Loft stacks that have failed (R99, R105), and by FEC counter register the tick at which it was last
read and cleared (R7). -/
structure Ports where
  peerDelay : SMap PeerDelay := []
  links : SMap Link := []
  vcs : SMap LinkVc := []
  cmis : SMap Cmis := []
  loftUes : SMap (List Nat) := []
  loftFailed : BitVec 8 := 0
  fecAt : SMap Nat := []
  deriving DecidableEq, Repr

/-- The switch core: staging (site) and overflow holding (span) and the untransmitted frames
of the egress queues, all by 8 × port + VC and oldest first (R97, R123, R130); frames handed
back, by cluster (R134); schedulers by port; frames at internal sources (96n + c a Mill core,
1,536 + j an engine, 1,552 Bosun); rotating pointers of the spray groups (R151); by cluster,
the tick of the last discard captured, plus 1 (R51). -/
structure Switch where
  staging : SMap (List Held) := []
  queues : SMap (List Held) := []
  handed : SMap (List HandedBack) := []
  eg : SMap EgPort := []
  sources : SMap (List SrcFrame) := []
  rotate : SMap Nat := []
  captAt : SMap Nat := []
  deriving DecidableEq, Repr

/-- A command list entry that the table engine runs (R185): its data, the place of its next change and the
generation that the last one left. -/
structure TblImage where
  e : Entry
  data : List Byte
  k : Nat := 0
  gen : Nat := 0
  deriving DecidableEq, Repr

/-- The tables: entries by 65,536 × t + index (R168), and sheaves by ID (R326); by source's own TBL_CMD or
TBL_SH_CMD, the tick of its last operation, plus 1 (BUSY of R177 and R328); the entry in progress (R185). -/
structure Tables where
  entries : SMap TEntry := []
  sheaves : SMap Sheaf := []
  busy : SMap Nat := []
  image : Option TblImage := none
  deriving DecidableEq, Repr

/-- The command queues: entries that wait, by 8 × ENGINE + queue (R18, R420); beside each queue, the tick of its last
append and the sources, by R22, of the entries appended in that tick; engines under
DRAIN (1) or FORCE (2), by ENGINE; bypass entries pending at their instants, in the order
taken (R110); paths that move, as port A, port B, entry and instant in ns (R115). -/
structure Engines where
  queued : SMap (List Entry) := []
  fresh : SMap (Nat × List Nat) := []
  hold : SMap Nat := []
  bypass : List Entry := []
  moving : List (Nat × Nat × Entry × Nat) := []
  deriving DecidableEq, Repr

/-- Reduction: round records by 256n + j; L by 16 × collective + cluster (R195);
CL_RD_CTXCNT and CL_AR_CNT by 8 × (65,536 × cluster + collective) + i (R200, R279); slots by
2^40 × collective + 2^24 × round + chunk (R199). -/
structure Reduction where
  rounds : SMap Round := []
  lastClosed : SMap (BitVec 16) := []
  ctxCnt : SMap Nat := []
  arCnt : SMap Nat := []
  slots : SMap Slot := []
  deriving DecidableEq, Repr

/-- The Mill array: cores by 96n + c; program stores by 32,768n + index; directories by
256n + d; bindings by 1,024n + b; event flags under way. -/
structure Mill where
  cores : SMap Core := []
  pstore : SMap Word := []
  pdir : SMap (Option Prog) := []
  binds : SMap (Option Bind) := []
  flights : List Flight := []
  deriving DecidableEq, Repr

/-- The Granary: data by Granary address (an unlisted byte reads 0, R285); VERSION of a
block, and blocks whose tag verifies under no version (1) or whose ECC fails (2), both by
Granary address ÷ 256 (R286, R287); bindings by 64j + b; engines by channel. -/
structure Granary where
  mem : List Host.Cell := []
  ver : SMap Nat := []
  bad : SMap Nat := []
  bindings : SMap Binding := []
  engines : SMap Engine := []
  deriving DecidableEq, Repr

/-- Memory-semantic access and state copies (R311 to R320, R337, R338). -/
structure Access where
  copies : SMap (Option Copy) := []
  copyNext : Nat := 0
  incoming : List Incoming := []
  trackers : List Tracker := []
  journal : SMap (List JEntry) := []
  reads : List ReadGroup := []
  atoms : List AtomGroup := []
  gidNext : Nat := 0
  deriving DecidableEq, Repr

/-- The control link: sessions by 8k + s, bulk handles (R412, R421), and mailboxes whose report
waits for its session to open (R405). -/
structure Uzoley where
  sessions : SMap Session := []
  bulk : SMap Bulk := []
  owed : SMap Bool := []
  deriving DecidableEq, Repr

/-- Tests that run, the tick of the last margin measurement, and the dump engine (R469, R477, R487). -/
structure Tests where
  runs : List TestRun := []
  marginAt : Nat := 0
  dump : Dump := {}
  deriving DecidableEq, Repr

/-! ### The state -/

/-- The state of the block. -/
structure State where
  /-- The commands that wait, first in, first out. -/
  pending : List Instr
  /-- The model's own counter of free values taken (`Config.freeValue`). -/
  freeCtr : Nat
  /-- WCH_TICK: 40 ns event ticks since power-on (R382). -/
  tick : Nat
  /-- The register file of R5: offset (and, for a register with one copy per source, the
  source) to value; an unlisted register holds its reset value. -/
  regs : SMap (Option Word)
  /-- The value and status of the last register access (R7, R10): the model's own field. -/
  readData : Word
  accessStatus : Nat
  /-- What has left the module, newest first: the model's own record. -/
  out : List Emission
  clock : Clock
  port : Ports
  sw : Switch
  tbl : Tables
  eng : Engines
  red : Reduction
  mill : Mill
  grn : Granary
  ma : Access
  tele : Tele
  uz : Uzoley
  watch : Watch
  bic : Bic
  sec : Sec
  test : Tests
  deriving DecidableEq, Repr

/-- The module right after power-on: in WATCH, every register at its reset value.
(DESIGN CHOICE, log entry 4; PRESUMED, log entry 5; DEDUCED, log entry 125) -/
def State.reset : State where
  pending := []
  freeCtr := 0
  tick := 0
  regs := []
  readData := 0
  accessStatus := 0
  out := []
  clock := {}
  port := {}
  sw := {}
  tbl := {}
  eng := {}
  red := {}
  mill := {}
  grn := {}
  ma := {}
  tele := {}
  uz := {}
  watch := { slots := [(0, { factory := true })] }
  bic := {}
  sec := {}
  test := {}

end Sys2Proof.Machine
end

