-- ==== Sys2Proof/Machine/RegMap.lean ====
section
/-! DEFINITION. The register layout, from the register and field maps of the spec: which
offsets hold a register (R10, R15), which bits a write reaches under each access code (R7,
R8), what each register resets to, the offset of each register and the place of each field. -/

namespace Sys2Proof.Machine

/-- A register or an array of registers: the offset of the first, the counts and strides of
its indices (strides falling), the bits a write sets, clears and sets by 1, the write-only
bits, whether a read clears it, and its reset value. -/
structure RegRow where
  base : Nat
  dims : List (Nat × Nat)
  rw : Word := 0
  w1c : Word := 0
  w1s : Word := 0
  wo : Word := 0
  rc : Bool := false
  reset : Word := 0
  deriving DecidableEq, Repr

/-- A field of a register: its lowest bit and its width. -/
structure Fld where
  lo : Nat
  width : Nat
  deriving DecidableEq, Repr

/-- Offset `off` is one of the row's registers. -/
def RegRow.hit (r : RegRow) (off : Nat) : Bool :=
  decide (r.base ≤ off) && go r.dims (off - r.base)
where
  /-- The remainder splits into an index below each count. -/
  go : List (Nat × Nat) → Nat → Bool
    | [], d => d == 0
    | (c, st) :: ds, d =>
      if st * c ≤ d then false else go ds (d % st)

/-- Registers from offset 0x0: WCH_ID to WCH_FSCORE. -/
def watchRowsA : List RegRow := [
  -- WCH_ID
  { base := 0x0, dims := [] },
  -- WCH_STATE
  { base := 0x8, dims := [], reset := 0x1070000000000000 },
  -- WCH_STATECMD
  { base := 0x10, dims := [], wo := 0x7 },
  -- WCH_TICK
  { base := 0x18, dims := [] },
  -- WCH_WDOG
  { base := 0x20, dims := [], rw := 0xF00000000, wo := 0xFFFF0003, reset := 0xF00000000 },
  -- WCH_RESETREQ
  { base := 0x28, dims := [], wo := 0xFFFFFFFFFFFFFFFF },
  -- WCH_WAKE
  { base := 0x30, dims := [], rw := 0xF, reset := 0x5 },
  -- WCH_WAKETIME
  { base := 0x38, dims := [], rw := 0xFFFFFFFFFFFFFFFF },
  -- WCH_BOSPWR
  { base := 0x40, dims := [], rw := 0xF, reset := 0xF },
  -- WCH_THERM
  { base := 0x48, dims := [], rw := 0xFFFFFFFF00FF, reset := 0x73695F2D0005 },
  -- WCH_THSTAT
  { base := 0x50, dims := [] },
  -- WCH_EVT
  { base := 0x58, dims := [], w1c := 0x1FF },
  -- WCH_CTL
  { base := 0x60, dims := [], rw := 0xFFFF, reset := 0xA },
  -- WCH_BOOT
  { base := 0x68, dims := [] },
  -- WCH_ESC
  { base := 0x70, dims := [], rw := 0x3000FF00000000FF, reset := 0x3000070000000018 },
  -- WCH_LASTRST
  { base := 0x78, dims := [] },
  -- WCH_FRHEAD
  { base := 0x80, dims := [] },
  -- WCH_FRTAIL
  { base := 0x88, dims := [], rw := 0x3FF },
  -- WCH_FRLOST
  { base := 0x90, dims := [], rc := true },
  -- WCH_FSCTL
  { base := 0xA0, dims := [], rw := 0x11F, reset := 0x110 },
  -- WCH_FSWARN
  { base := 0xA8, dims := [], rw := 0xFFFFFFFF, reset := 0x10000 },
  -- WCH_FSACT
  { base := 0xB0, dims := [], rw := 0xFFFFFFFF, reset := 0x100000 },
  -- WCH_FSCLR
  { base := 0xB8, dims := [], wo := 0x8000000000000FFF },
  -- WCH_EVCNT
  { base := 0x108, dims := [(11, 0x8)], rc := true },
  -- WCH_FDCNT
  { base := 0x180, dims := [(5, 0x8)], rc := true },
  -- WCH_EVHEAD
  { base := 0x200, dims := [] },
  -- WCH_EVTAIL
  { base := 0x208, dims := [], rw := 0xFFF },
  -- WCH_EVLOG
  { base := 0x1000, dims := [(4096, 0x8)] },
  -- WCH_FR
  { base := 0x10000, dims := [(1024, 0x20), (4, 0x8)] },
  -- WCH_FSCORE
  { base := 0x20000, dims := [(2560, 0x8)] }]

/-- Registers from offset 0x30000: WCH_TSTREQ to WCH_CAGEPWR. -/
def watchRowsB : List RegRow := [
  -- WCH_TSTREQ
  { base := 0x30000, dims := [], wo := 0xFFFFFFFFFFFFFFFF },
  -- WCH_TSTSTAT
  { base := 0x30008, dims := [] },
  -- WCH_TSTHEAD
  { base := 0x30010, dims := [] },
  -- WCH_TSTTAIL
  { base := 0x30018, dims := [], rw := 0xFF },
  -- WCH_MGCTL
  { base := 0x30020, dims := [], rw := 0x8000FFFF0000FFFF, reset := 0x800000140000003C },
  -- WCH_TSTEVT
  { base := 0x30028, dims := [], w1c := 0xF },
  -- WCH_TSTRES
  { base := 0x31000, dims := [(256, 0x8)] },
  -- WCH_MG
  { base := 0x32000, dims := [(320, 0x8)] },
  -- WCH_PIN
  { base := 0x40000, dims := [] },
  -- WCH_PCAP
  { base := 0x40008, dims := [], rw := 0xFFFF, reset := 0x16A8 },
  -- WCH_COOL
  { base := 0x40010, dims := [] },
  -- WCH_PWREVT
  { base := 0x40018, dims := [], w1c := 0x1F },
  -- WCH_CAGEPWR
  { base := 0x40020, dims := [] }]

/-- All registers of the block. -/
def watchRows : List RegRow := watchRowsA ++ watchRowsB

/-- Registers from offset 0x1000000: BIC_CTL to MBX_MSG. -/
def bosunRows : List RegRow := [
  -- BIC_CTL
  { base := 0x1000000, dims := [], rw := 0x1 },
  -- BIC_EVT
  { base := 0x1000008, dims := [], w1c := 0x1F },
  -- BIC_OOOCNT
  { base := 0x1000010, dims := [], rc := true },
  -- BIC_COAL
  { base := 0x1000018, dims := [], rc := true },
  -- BIC_CLAIM
  { base := 0x1000100, dims := [(4, 0x20)], rc := true },
  -- BIC_DONE
  { base := 0x1000108, dims := [(4, 0x20)], wo := 0x3FF },
  -- BIC_CORE
  { base := 0x1000110, dims := [(4, 0x20)] },
  -- BIC_STACK
  { base := 0x1000200, dims := [(4, 0x80), (16, 0x8)] },
  -- BIC_WMASK
  { base := 0x1000400, dims := [(16, 0x8)], rw := 0xFFFFFFFFFFFFFFFF },
  -- BIC_PEND
  { base := 0x1000500, dims := [(16, 0x8)], w1c := 0xFFFFFFFFFFFFFFFF },
  -- BIC_ACT
  { base := 0x1000600, dims := [(16, 0x8)] },
  -- BIC_SRC
  { base := 0x1010000, dims := [(1024, 0x8)], rw := 0xFFC0FFFF00000000 },
  -- MBX_STAGE
  { base := 0x1080000, dims := [(8, 0x8)], rw := 0xFFFFFFFFFFFFFFFF },
  -- MBX_SEND
  { base := 0x1080040, dims := [], wo := 0x3F },
  -- MBX_SENDSTAT
  { base := 0x1080048, dims := [] },
  -- MBX_ACK
  { base := 0x1080050, dims := [], wo := 0x3FFFFF },
  -- MBX_STAT
  { base := 0x1080100, dims := [(64, 0x8)] },
  -- MBX_CFG
  { base := 0x1080300, dims := [(64, 0x8)], rw := 0xEF0000000000001F, reset := 0x1F },
  -- MBX_DSPMBX
  { base := 0x1080500, dims := [(16, 0x8)], rw := 0x7F },
  -- MBX_MSG
  { base := 0x1081000, dims := [(64, 0x40), (8, 0x8)] }]

/-- Registers from offset 0x2000000: UZP_CTL to UZP_SESS. -/
def uzoleyRows : List RegRow := [
  -- UZP_CTL
  { base := 0x2000000, dims := [(2, 0x100000)], rw := 0x1, reset := 0x1 },
  -- UZP_STAT
  { base := 0x2000008, dims := [(2, 0x100000)] },
  -- UZP_EVT
  { base := 0x2000010, dims := [(2, 0x100000)], w1c := 0xF },
  -- UZP_CNT
  { base := 0x2000040, dims := [(2, 0x100000), (6, 0x8)], rc := true },
  -- UZP_SESS
  { base := 0x2000108, dims := [(2, 0x100000), (8, 0x8)] }]

/-- Registers from offset 0x4000000: CL_SP_CTL to CL_SX_LCBBAD. -/
def clusterRowsA : List RegRow := [
  -- CL_SP_CTL
  { base := 0x4000000, dims := [(16, 0x100000), (32, 0x1000)], rw := 0xF3, reset := 0xF0 },
  -- CL_SP_STAT
  { base := 0x4000008, dims := [(16, 0x100000), (32, 0x1000)] },
  -- CL_SP_LANE
  { base := 0x4000010, dims := [(16, 0x100000), (32, 0x1000)] },
  -- CL_SP_RTT
  { base := 0x4000018, dims := [(16, 0x100000), (32, 0x1000)] },
  -- CL_SP_PEER
  { base := 0x4000020, dims := [(16, 0x100000), (32, 0x1000)] },
  -- CL_SP_EVT
  { base := 0x4000028, dims := [(16, 0x100000), (32, 0x1000)], w1c := 0x3F },
  -- CL_SP_CMD
  { base := 0x4000030, dims := [(16, 0x100000), (32, 0x1000)], wo := 0x1 },
  -- CL_SP_FECC
  { base := 0x4000040, dims := [(16, 0x100000), (32, 0x1000), (4, 0x8)], rc := true },
  -- CL_SP_FECU
  { base := 0x4000060, dims := [(16, 0x100000), (32, 0x1000), (4, 0x8)], rc := true },
  -- CL_SP_RTX
  { base := 0x4000080, dims := [(16, 0x100000), (32, 0x1000), (8, 0x8)], rc := true },
  -- CL_SP_HOLDOVF
  { base := 0x40000C0, dims := [(16, 0x100000), (32, 0x1000), (8, 0x8)], rc := true },
  -- CL_SP_REEFS
  { base := 0x4000100, dims := [(16, 0x100000), (32, 0x1000)], rc := true },
  -- CL_SP_LCBBAD
  { base := 0x4000108, dims := [(16, 0x100000), (32, 0x1000)], rc := true },
  -- CL_SP_DROPLNK
  { base := 0x4000110, dims := [(16, 0x100000), (32, 0x1000)], rc := true },
  -- CL_OE_CTL
  { base := 0x4020000, dims := [(16, 0x100000), (4, 0x1000)], rw := 0x1, w1s := 0x10 },
  -- CL_OE_LASER
  { base := 0x4020008, dims := [(16, 0x100000), (4, 0x1000), (4, 0x8)] },
  -- CL_OE_EVT
  { base := 0x4020028, dims := [(16, 0x100000), (4, 0x1000)], w1c := 0x1FFF },
  -- CL_TS
  { base := 0x4030000, dims := [(16, 0x100000), (64, 0x8)] },
  -- CL_TS_SLOPE
  { base := 0x4030200, dims := [(16, 0x100000)] },
  -- CL_SX_CTL
  { base := 0x4040000, dims := [(16, 0x100000), (2, 0x1000)], rw := 0xFF000F000001, reset := 0xA0001000000 },
  -- CL_SX_STAT
  { base := 0x4040008, dims := [(16, 0x100000), (2, 0x1000)] },
  -- CL_SX_RTT
  { base := 0x4040018, dims := [(16, 0x100000), (2, 0x1000)] },
  -- CL_SX_PEER
  { base := 0x4040020, dims := [(16, 0x100000), (2, 0x1000)] },
  -- CL_SX_EVT
  { base := 0x4040028, dims := [(16, 0x100000), (2, 0x1000)], w1c := 0xFF },
  -- CL_SX_CMD
  { base := 0x4040030, dims := [(16, 0x100000), (2, 0x1000)], wo := 0x1 },
  -- CL_SX_FECC
  { base := 0x4040040, dims := [(16, 0x100000), (2, 0x1000), (8, 0x8)], rc := true },
  -- CL_SX_FECU
  { base := 0x4040080, dims := [(16, 0x100000), (2, 0x1000), (8, 0x8)], rc := true },
  -- CL_SX_RTX
  { base := 0x40400C0, dims := [(16, 0x100000), (2, 0x1000), (8, 0x8)], rc := true },
  -- CL_SX_HOLDOVF
  { base := 0x4040100, dims := [(16, 0x100000), (2, 0x1000), (8, 0x8)], rc := true },
  -- CL_SX_LCBBAD
  { base := 0x4040140, dims := [(16, 0x100000), (2, 0x1000)], rc := true }]

/-- Registers from offset 0x4040148: CL_SX_DROPLNK to CL_FCHK_CNT. -/
def clusterRowsB : List RegRow := [
  -- CL_SX_DROPLNK
  { base := 0x4040148, dims := [(16, 0x100000), (2, 0x1000)], rc := true },
  -- CL_SX_WINUSE
  { base := 0x4040150, dims := [(16, 0x100000), (2, 0x1000)] },
  -- CL_SX_WINSTALL
  { base := 0x4040158, dims := [(16, 0x100000), (2, 0x1000)], rc := true },
  -- CL_SX_HOLDUSE
  { base := 0x4040160, dims := [(16, 0x100000), (2, 0x1000)] },
  -- CL_SX_CMIS_STAT
  { base := 0x4040200, dims := [(16, 0x100000), (2, 0x1000)] },
  -- CL_SX_CMIS_CMD
  { base := 0x4040208, dims := [(16, 0x100000), (2, 0x1000)], rw := 0x1FFFFFF000000FF },
  -- CL_SX_CMIS_DATA
  { base := 0x4040280, dims := [(16, 0x100000), (2, 0x1000), (16, 0x8)], rw := 0xFFFFFFFFFFFFFFFF },
  -- CL_BUF_CTL
  { base := 0x4050000, dims := [(16, 0x100000)], reset := 0x4 },
  -- CL_BUF_STAT
  { base := 0x4050008, dims := [(16, 0x100000)] },
  -- CL_QLIM
  { base := 0x4050100, dims := [(16, 0x100000), (272, 0x8)], reset := 0x42 },
  -- CL_CRLIM
  { base := 0x4051000, dims := [(16, 0x100000), (256, 0x8)], reset := 0x42 },
  -- CL_QOCC
  { base := 0x4052000, dims := [(16, 0x100000), (272, 0x8)] },
  -- CL_QSAMP
  { base := 0x4053000, dims := [(16, 0x100000), (272, 0x8)] },
  -- CL_QMAX
  { base := 0x4054000, dims := [(16, 0x100000), (272, 0x8)], rc := true },
  -- CL_QSTALL
  { base := 0x4055000, dims := [(16, 0x100000), (272, 0x8)], rc := true },
  -- CL_RT_CTL
  { base := 0x4060000, dims := [(16, 0x100000)], rw := 0xFFFF0000FFFF, reset := 0x3E800000064 },
  -- CL_RT_SEED
  { base := 0x4060008, dims := [(16, 0x100000)], rw := 0xFFFFFFFF },
  -- CL_RT_NOELIG
  { base := 0x4060010, dims := [(16, 0x100000)], rc := true },
  -- CL_RT_REPICK
  { base := 0x4060018, dims := [(16, 0x100000)], rc := true },
  -- CL_RT_LATE
  { base := 0x4060020, dims := [(16, 0x100000), (2, 0x8)], rc := true },
  -- CL_RT_OWNDROP
  { base := 0x4060030, dims := [(16, 0x100000)], rc := true },
  -- CL_RD_STAT
  { base := 0x4070000, dims := [(16, 0x100000)] },
  -- CL_RD_EVT
  { base := 0x4070008, dims := [(16, 0x100000)], w1c := 0xF },
  -- CL_RD_FLOG
  { base := 0x4070010, dims := [(16, 0x100000)] },
  -- CL_RD_DROP
  { base := 0x4070040, dims := [(16, 0x100000), (14, 0x8)], rc := true },
  -- CL_RD_CTXSEL
  { base := 0x4070100, dims := [(16, 0x100000)], rw := 0xFFFF },
  -- CL_RD_CTXCNT
  { base := 0x4070108, dims := [(16, 0x100000), (6, 0x8)], rc := true },
  -- CL_AR_CNT
  { base := 0x4070200, dims := [(16, 0x100000), (7, 0x8)], rc := true },
  -- CL_RD_ROUND
  { base := 0x4071000, dims := [(16, 0x100000), (256, 0x8)] },
  -- CL_FCHK_CNT
  { base := 0x4080000, dims := [(16, 0x100000), (16, 0x8)], rc := true }]

/-- Registers from offset 0x4080100: CL_FCHK_LAST to MIL_EXCX. -/
def clusterRowsC : List RegRow := [
  -- CL_FCHK_LAST
  { base := 0x4080100, dims := [(16, 0x100000), (8, 0x8)] },
  -- CL_FCHK_LASTSRC
  { base := 0x4080140, dims := [(16, 0x100000)] },
  -- CL_EG_CTL
  { base := 0x4090000, dims := [(16, 0x100000), (34, 0x1000)], rw := 0x1FF01, w1s := 0x2, reset := 0x100 },
  -- CL_EG_BASE
  { base := 0x4090008, dims := [(16, 0x100000), (34, 0x1000)], rw := 0xFFFFFFFFFFFFFFFF },
  -- CL_EG_STAT
  { base := 0x4090010, dims := [(16, 0x100000), (34, 0x1000)], reset := 0xFF00000000000000 },
  -- CL_EG_EVT
  { base := 0x4090018, dims := [(16, 0x100000), (34, 0x1000)], w1c := 0xF },
  -- CL_EG_WDRR
  { base := 0x4090040, dims := [(16, 0x100000), (34, 0x1000), (8, 0x8)], rw := 0xFFFF, reset := 0x41 },
  -- CL_EG_SHAPE
  { base := 0x4090080, dims := [(16, 0x100000), (34, 0x1000), (8, 0x8)], rw := 0x8000FFFFF0FFFFFF },
  -- CL_EG_CREDIT
  { base := 0x40900C0, dims := [(16, 0x100000), (34, 0x1000), (8, 0x8)] },
  -- CL_EG_OVERRUN
  { base := 0x4090100, dims := [(16, 0x100000), (34, 0x1000), (8, 0x8)], rc := true },
  -- CL_EG_GCLOPER
  { base := 0x4090800, dims := [(16, 0x100000), (34, 0x1000), (256, 0x8)] },
  -- CL_EG_GCL
  { base := 0x40C0000, dims := [(16, 0x100000), (34, 0x800), (256, 0x8)], rw := 0xFF0000FFFFFFFF },
  -- CL_MA_DEAD
  { base := 0x40D8000, dims := [(16, 0x100000)], rc := true },
  -- CL_MA_DEADLOG
  { base := 0x40D8008, dims := [(16, 0x100000)] },
  -- DSP_CTL
  { base := 0x40E0000, dims := [(16, 0x100000)], rw := 0xF0FFFF, reset := 0x300064 },
  -- DSP_STAT
  { base := 0x40E0008, dims := [(16, 0x100000)] },
  -- DSP_CMD
  { base := 0x40E0010, dims := [(16, 0x100000)], wo := 0x7 },
  -- DSP_EVT
  { base := 0x40E0018, dims := [(16, 0x100000)], w1c := 0x1F },
  -- DSP_CRHEAD
  { base := 0x40E0020, dims := [(16, 0x100000)] },
  -- DSP_CRTAIL
  { base := 0x40E0028, dims := [(16, 0x100000)], rw := 0xFF },
  -- DSP_CORECMD
  { base := 0x40E0040, dims := [(16, 0x100000)], wo := 0x77F },
  -- DSP_QCTL
  { base := 0x40E0100, dims := [(16, 0x100000), (8, 0x8)], rw := 0x1 },
  -- DSP_CNT
  { base := 0x40E0200, dims := [(16, 0x100000), (15, 0x8)], rc := true },
  -- DSP_EXCCNT
  { base := 0x40E0300, dims := [(16, 0x100000), (12, 0x8)], rc := true },
  -- DSP_CRING
  { base := 0x40E1000, dims := [(16, 0x100000), (256, 0x8)] },
  -- DSP_BIND
  { base := 0x40E2000, dims := [(16, 0x100000), (1024, 0x10)] },
  -- DSP_BINDL
  { base := 0x40E2008, dims := [(16, 0x100000), (1024, 0x10)] },
  -- MIL_STAT
  { base := 0x40E8000, dims := [(16, 0x100000), (96, 0x100)] },
  -- MIL_EXC
  { base := 0x40E8008, dims := [(16, 0x100000), (96, 0x100)] },
  -- MIL_EXCX
  { base := 0x40E8010, dims := [(16, 0x100000), (96, 0x100)] }]

/-- Registers from offset 0x40E8018: MIL_FAULTS to DSP_PSDATA. -/
def clusterRowsD : List RegRow := [
  -- MIL_FAULTS
  { base := 0x40E8018, dims := [(16, 0x100000), (96, 0x100)] },
  -- MIL_CYC
  { base := 0x40E8020, dims := [(16, 0x100000), (96, 0x100)], rc := true },
  -- MIL_INV
  { base := 0x40E8028, dims := [(16, 0x100000), (96, 0x100)], rc := true },
  -- MIL_RESERR
  { base := 0x40E8030, dims := [(16, 0x100000), (96, 0x100)], rc := true },
  -- MIL_DQHEAD0
  { base := 0x40E8038, dims := [(16, 0x100000), (96, 0x100)] },
  -- MIL_DQHEAD1
  { base := 0x40E8040, dims := [(16, 0x100000), (96, 0x100)] },
  -- DSP_PSDIR
  { base := 0x40F0000, dims := [(16, 0x100000), (256, 0x8)] },
  -- DSP_PSADDR
  { base := 0x40F1000, dims := [(16, 0x100000)], rw := 0x7FFF },
  -- DSP_PSDATA
  { base := 0x40F1008, dims := [(16, 0x100000)] }]

/-- All registers of the block. -/
def clusterRows : List RegRow := clusterRowsA ++ clusterRowsB ++ clusterRowsC ++ clusterRowsD

/-- Registers from offset 0x6000000: GRN_STAT to GRN_MA_CNT. -/
def granaryRows : List RegRow := [
  -- GRN_STAT
  { base := 0x6000000, dims := [] },
  -- GRN_ECTL
  { base := 0x6010000, dims := [(16, 0x10000)], rw := 0x1FFFF, reset := 0x10002 },
  -- GRN_ESTAT
  { base := 0x6010008, dims := [(16, 0x10000)] },
  -- GRN_CMD
  { base := 0x6010010, dims := [(16, 0x10000)], wo := 0xF },
  -- GRN_EVT
  { base := 0x6010018, dims := [(16, 0x10000)], w1c := 0x3FF },
  -- GRN_CRHEAD
  { base := 0x6010020, dims := [(16, 0x10000)] },
  -- GRN_CRTAIL
  { base := 0x6010028, dims := [(16, 0x10000)], rw := 0xFF },
  -- GRN_TAGLOG
  { base := 0x6010030, dims := [(16, 0x10000)] },
  -- GRN_QCTL
  { base := 0x6010100, dims := [(16, 0x10000), (8, 0x8)], rw := 0x1 },
  -- GRN_CNT
  { base := 0x6010200, dims := [(16, 0x10000), (10, 0x8)], rc := true },
  -- GRN_UPD
  { base := 0x6010300, dims := [(16, 0x10000)], rc := true },
  -- GRN_SKIP
  { base := 0x6010308, dims := [(16, 0x10000)], rc := true },
  -- GRN_STATEW
  { base := 0x6010310, dims := [(16, 0x10000)], rc := true },
  -- GRN_TAGF
  { base := 0x6010318, dims := [(16, 0x10000)], rc := true },
  -- GRN_ECCC
  { base := 0x6010320, dims := [(16, 0x10000)], rc := true },
  -- GRN_ECCU
  { base := 0x6010328, dims := [(16, 0x10000)], rc := true },
  -- GRN_NAN
  { base := 0x6010330, dims := [(16, 0x10000)], rc := true },
  -- GRN_CRING
  { base := 0x6011000, dims := [(16, 0x10000), (256, 0x8)] },
  -- GRN_BSTAT
  { base := 0x6018000, dims := [(16, 0x10000), (64, 0x10)] },
  -- GRN_BSTEP
  { base := 0x6018008, dims := [(16, 0x10000), (64, 0x10)] },
  -- GRN_BPEER
  { base := 0x6019000, dims := [(16, 0x10000), (64, 0x8)] },
  -- GRN_MA_CTL
  { base := 0x6200000, dims := [], rw := 0x8FFFFFFFFFFFFFFF, reset := 0x141400320FA0 },
  -- GRN_MA_STAT
  { base := 0x6200008, dims := [] },
  -- GRN_MA_EVT
  { base := 0x6200010, dims := [], w1c := 0x7 },
  -- GRN_MA_CNT
  { base := 0x6200100, dims := [(12, 0x8)], rc := true }]

/-- Registers from offset 0x7000000: LFT_STAT to LFT_DMP_CRING. -/
def loftRows : List RegRow := [
  -- LFT_STAT
  { base := 0x7000000, dims := [] },
  -- LFT_PART
  { base := 0x7000008, dims := [], rw := 0xFFFFFFFFFFFF000, reset := 0x400101402C7029 },
  -- LFT_EVT
  { base := 0x7000010, dims := [], w1c := 0x7 },
  -- LFT_UELOG
  { base := 0x7000018, dims := [] },
  -- LFT_ECCC
  { base := 0x7000100, dims := [(8, 0x8)], rc := true },
  -- LFT_ECCU
  { base := 0x7000140, dims := [(8, 0x8)], rc := true },
  -- LFT_USE
  { base := 0x7000200, dims := [(5, 0x8)] },
  -- LFT_RESV
  { base := 0x7000300, dims := [] },
  -- LFT_CN_CTL
  { base := 0x7200000, dims := [], rw := 0xFFFFFFFF00000003 },
  -- LFT_CN_STAT
  { base := 0x7200008, dims := [] },
  -- LFT_CN_WPTR
  { base := 0x7200010, dims := [] },
  -- LFT_CN_RPTR
  { base := 0x7200018, dims := [], rw := 0xFFFFFFFF },
  -- LFT_CN_EVT
  { base := 0x7200020, dims := [], w1c := 0x7 },
  -- LFT_CN_DROP
  { base := 0x7200028, dims := [], rc := true },
  -- LFT_CN_MATCH
  { base := 0x7200100, dims := [(8, 0x8)], rw := 0xFFFFFFFFFFF80000 },
  -- LFT_DMP_CMD
  { base := 0x7100000, dims := [], wo := 0x7 },
  -- LFT_DMP_STAT
  { base := 0x7100008, dims := [] },
  -- LFT_DMP_EVT
  { base := 0x7100010, dims := [], w1c := 0x1F },
  -- LFT_DMP_CRHEAD
  { base := 0x7100018, dims := [] },
  -- LFT_DMP_CRTAIL
  { base := 0x7100020, dims := [], rw := 0xFF },
  -- LFT_DMP_UNRESP
  { base := 0x7100028, dims := [], rc := true },
  -- LFT_DMP_QCTL
  { base := 0x7100100, dims := [(8, 0x8)], rw := 0x1 },
  -- LFT_DMP_CNT
  { base := 0x7100200, dims := [(7, 0x8)], rc := true },
  -- LFT_DMP_CRING
  { base := 0x7101000, dims := [(256, 0x8)] }]

/-- Registers from offset 0x8000000: SVB_STAT to SVB_PORT. -/
def svetnaRows : List RegRow := [
  -- SVB_STAT
  { base := 0x8000000, dims := [] },
  -- SVB_CMD
  { base := 0x8000008, dims := [], wo := 0x7 },
  -- SVB_EVT
  { base := 0x8000010, dims := [], w1c := 0xF },
  -- SVB_CRHEAD
  { base := 0x8000018, dims := [] },
  -- SVB_CRTAIL
  { base := 0x8000020, dims := [], rw := 0xFF },
  -- SVB_QCTL
  { base := 0x8000100, dims := [(8, 0x8)], rw := 0x1 },
  -- SVB_CNT
  { base := 0x8000200, dims := [(12, 0x8)], rc := true },
  -- SVB_CRING
  { base := 0x8001000, dims := [(256, 0x8)] },
  -- SVB_PORT
  { base := 0x8002000, dims := [(512, 0x8)] }]

/-- Registers from offset 0x9000000: TBL_CMD to TBL_SH_STATE. -/
def tableRows : List RegRow := [
  -- TBL_CMD
  { base := 0x9000000, dims := [(6, 0x1000)], rw := 0x380FFFFFFFFFFFF },
  -- TBL_DATA
  { base := 0x9000008, dims := [(6, 0x1000), (8, 0x8)], rw := 0xFFFFFFFFFFFFFFFF },
  -- TBL_QCTL
  { base := 0x9010000, dims := [], wo := 0x7 },
  -- TBL_EVT
  { base := 0x9010008, dims := [], w1c := 0xF },
  -- TBL_CRHEAD
  { base := 0x9010010, dims := [] },
  -- TBL_CRTAIL
  { base := 0x9010018, dims := [], rw := 0xFF },
  -- TBL_STAGED
  { base := 0x9010020, dims := [] },
  -- TBL_QSTAT
  { base := 0x9010100, dims := [(8, 0x8)], rw := 0x1 },
  -- TBL_CNT
  { base := 0x9010200, dims := [(18, 0x8)], rc := true },
  -- TBL_CRING
  { base := 0x9011000, dims := [(256, 0x8)] },
  -- TBL_SH_CMD
  { base := 0x9020000, dims := [], rw := 0x300FFFFFFFFFFFF },
  -- TBL_SH_EVT
  { base := 0x9020010, dims := [], w1c := 0xF },
  -- TBL_SH_CNT
  { base := 0x9020100, dims := [(6, 0x8)], rc := true },
  -- TBL_SH_STATE
  { base := 0x9100000, dims := [(65536, 0x8)] }]

/-- Registers from offset 0xA000000: TIM_CTL to TIM_ASYM. -/
def timeRows : List RegRow := [
  -- TIM_CTL
  { base := 0xA000000, dims := [], rw := 0x10FFF00FF },
  -- TIM_STAT
  { base := 0xA000008, dims := [] },
  -- TIM_NOW
  { base := 0xA000010, dims := [] },
  -- TIM_SET
  { base := 0xA000018, dims := [], wo := 0xFFFFFFFFFFFFFFFF },
  -- TIM_SERVO
  { base := 0xA000020, dims := [], rw := 0xFFFF00FFFFFFFF, reset := 0x2060000640040 },
  -- TIM_OFFSET
  { base := 0xA000028, dims := [] },
  -- TIM_FREQ
  { base := 0xA000030, dims := [] },
  -- TIM_EVT
  { base := 0xA000038, dims := [], w1c := 0x1F },
  -- TIM_INT
  { base := 0xA000040, dims := [], rw := 0xFFFF00FFFFFFFF, reset := 0xF9FD00000003E8 },
  -- TIM_CNT
  { base := 0xA000100, dims := [(8, 0x8)], rc := true },
  -- TIM_FAN
  { base := 0xA001000, dims := [(256, 0x8)], rw := 0x8000000000000FFF },
  -- TIM_PD
  { base := 0xA002000, dims := [(544, 0x8)] },
  -- TIM_ASYM
  { base := 0xA004000, dims := [(544, 0x8)], rw := 0xFFFFFFFF }]

/-- Registers from offset 0xB000000: TEL_CTL to TEL_SR. -/
def telemetryRows : List RegRow := [
  -- TEL_CTL
  { base := 0xB000000, dims := [], rw := 0x1, w1s := 0x2 },
  -- TEL_EVT
  { base := 0xB000008, dims := [], w1c := 0x17 },
  -- TEL_PWR
  { base := 0xB000010, dims := [] },
  -- TEL_PWRT
  { base := 0xB000018, dims := [] },
  -- TEL_BWWIN
  { base := 0xB000020, dims := [], rw := 0xFFFFF, reset := 0x3E8 },
  -- TEL_TAG_CTL
  { base := 0xB000028, dims := [], rw := 0x8000001FFFFFFFFF, reset := 0x1000000000 },
  -- TEL_SR_CTL
  { base := 0xB000030, dims := [], rw := 0x3FFF, reset := 0x2000 },
  -- TEL_SR_WPTR
  { base := 0xB000038, dims := [] },
  -- TEL_SR_RPTR
  { base := 0xB000040, dims := [], rw := 0xFFFFFFFF },
  -- TEL_SR_DROP
  { base := 0xB000048, dims := [], rc := true },
  -- TEL_SUBDROP
  { base := 0xB000050, dims := [], rc := true },
  -- TEL_OVF
  { base := 0xB000100, dims := [(17, 0x8)], w1c := 0xFFFFFFFFFFFFFFFF },
  -- TEL_SUB
  { base := 0xB000200, dims := [(64, 0x8)] },
  -- TEL_CSEL
  { base := 0xB100000, dims := [(17, 0x10000), (64, 0x8)], rw := 0xFFFFFFFE00000000 },
  -- TEL_CFLT
  { base := 0xB100200, dims := [(17, 0x10000), (64, 0x8)], rw := 0xFFFFFDFFFFFFF000 },
  -- TEL_CNT
  { base := 0xB100400, dims := [(17, 0x10000), (64, 0x8)], rw := 0xFFFFFFFFFFFF },
  -- TEL_RLD
  { base := 0xB100600, dims := [(17, 0x10000), (64, 0x8)], rw := 0xFFFFFFFFFFFF },
  -- TEL_SCNT
  { base := 0xB100800, dims := [(17, 0x10000), (64, 0x8)] },
  -- TEL_BWTX
  { base := 0xB300000, dims := [(16, 0x4000), (272, 0x8)] },
  -- TEL_BWRX
  { base := 0xB301000, dims := [(16, 0x4000), (272, 0x8)] },
  -- TEL_SR
  { base := 0xB400000, dims := [(16384, 0x40), (8, 0x8)] }]

/-- Registers from offset 0xC000000: SEC_CTL to SEC_SCR_CRING. -/
def securityRows : List RegRow := [
  -- SEC_CTL
  { base := 0xC000000, dims := [], rw := 0xFFFF, reset := 0x2 },
  -- SEC_STAT
  { base := 0xC000008, dims := [] },
  -- SEC_EVT
  { base := 0xC000010, dims := [], w1c := 0x1FF },
  -- SEC_VSTAT
  { base := 0xC000018, dims := [] },
  -- SEC_BKCMD
  { base := 0xC000040, dims := [], wo := 0x1 },
  -- SEC_BKSTAT
  { base := 0xC000048, dims := [] },
  -- SEC_MKCNT
  { base := 0xC000050, dims := [], rc := true },
  -- SEC_BKEY
  { base := 0xC000100, dims := [(4, 0x8)], wo := 0xFFFFFFFFFFFFFFFF },
  -- SEC_SLOT
  { base := 0xC000200, dims := [(64, 0x8)], rw := 0x8000000000000000 },
  -- SEC_SCR_CMD
  { base := 0xC010000, dims := [], wo := 0x7 },
  -- SEC_SCR_CRHEAD
  { base := 0xC010008, dims := [] },
  -- SEC_SCR_CRTAIL
  { base := 0xC010010, dims := [], rw := 0xFF },
  -- SEC_SCR_QCTL
  { base := 0xC010100, dims := [(8, 0x8)], rw := 0x1 },
  -- SEC_SCR_CNT
  { base := 0xC010200, dims := [(8, 0x8)], rc := true },
  -- SEC_SCR_CRING
  { base := 0xC011000, dims := [(256, 0x8)] }]

/-- The rows of the block that holds offset `off` (R15). -/
def regBlock (off : Nat) : List RegRow :=
  match off / 0x1000000 with
  | 0 => watchRows
  | 1 => bosunRows
  | 2 => uzoleyRows
  | 3 => uzoleyRows
  | 4 => clusterRows
  | 6 => granaryRows
  | 7 => loftRows
  | 8 => svetnaRows
  | 9 => tableRows
  | 10 => timeRows
  | 11 => telemetryRows
  | 12 => securityRows
  | _ => []

/-- The row of the register at `off`, if one exists there (R10). -/
def regRow (off : Nat) : Option RegRow := (regBlock off).find? (fun r => r.hit off)

/-- The bits above the 32-bit offset select one source's copy of a banked register (R503). -/
def offsetOf (key : Nat) : Nat := key % 0x100000000

/-- The reset value of the register with key `key`. -/
def regReset (key : Nat) : Word :=
  match regRow (offsetOf key) with
  | some r => r.reset
  | none => 0

/-! ### Offsets -/

/-- Base of cluster `n` (R15). -/
def clusterBase (n : Nat) : Nat := 0x4000000 + 0x100000 * n

/-- The cluster of a port numbered as PIN of R146 (R13). -/
def clusterOf (port : Nat) : Nat := if port < 512 then port / 32 else (port - 512) / 2

/-- The local egress port index of a port: 0 to 31 site, 32 and 33 span. -/
def localOf (port : Nat) : Nat := if port < 512 then port % 32 else 32 + port % 2

def Reg.WCH_ID : Nat := 0x0
def Reg.WCH_STATE : Nat := 0x8
def Reg.WCH_STATECMD : Nat := 0x10
def Reg.WCH_TICK : Nat := 0x18
def Reg.WCH_WDOG : Nat := 0x20
def Reg.WCH_RESETREQ : Nat := 0x28
def Reg.WCH_WAKE : Nat := 0x30
def Reg.WCH_WAKETIME : Nat := 0x38
def Reg.WCH_BOSPWR : Nat := 0x40
def Reg.WCH_THERM : Nat := 0x48
def Reg.WCH_THSTAT : Nat := 0x50
def Reg.WCH_EVT : Nat := 0x58
def Reg.WCH_CTL : Nat := 0x60
def Reg.WCH_BOOT : Nat := 0x68
def Reg.WCH_ESC : Nat := 0x70
def Reg.WCH_LASTRST : Nat := 0x78
def Reg.WCH_FRHEAD : Nat := 0x80
def Reg.WCH_FRTAIL : Nat := 0x88
def Reg.WCH_FRLOST : Nat := 0x90
def Reg.WCH_FSCTL : Nat := 0xA0
def Reg.WCH_FSWARN : Nat := 0xA8
def Reg.WCH_FSACT : Nat := 0xB0
def Reg.WCH_FSCLR : Nat := 0xB8
def Reg.WCH_EVCNT (c : Nat) : Nat := 0x100 + 0x8 * c
def Reg.WCH_FDCNT (c : Nat) : Nat := 0x180 + 0x8 * c
def Reg.WCH_EVHEAD : Nat := 0x200
def Reg.WCH_EVTAIL : Nat := 0x208
def Reg.WCH_EVLOG (i : Nat) : Nat := 0x1000 + 0x8 * i
def Reg.WCH_FR (i w : Nat) : Nat := 0x10000 + 0x20 * i + 0x8 * w
def Reg.WCH_FSCORE (u : Nat) : Nat := 0x20000 + 0x8 * u
def Reg.WCH_TSTREQ : Nat := 0x30000
def Reg.WCH_TSTSTAT : Nat := 0x30008
def Reg.WCH_TSTHEAD : Nat := 0x30010
def Reg.WCH_TSTTAIL : Nat := 0x30018
def Reg.WCH_MGCTL : Nat := 0x30020
def Reg.WCH_TSTEVT : Nat := 0x30028
def Reg.WCH_TSTRES (i : Nat) : Nat := 0x31000 + 0x8 * i
def Reg.WCH_MG (m : Nat) : Nat := 0x32000 + 0x8 * m
def Reg.WCH_PIN : Nat := 0x40000
def Reg.WCH_PCAP : Nat := 0x40008
def Reg.WCH_COOL : Nat := 0x40010
def Reg.WCH_PWREVT : Nat := 0x40018
def Reg.WCH_CAGEPWR : Nat := 0x40020
def Reg.BIC_CTL : Nat := 0x1000000
def Reg.BIC_EVT : Nat := 0x1000008
def Reg.BIC_OOOCNT : Nat := 0x1000010
def Reg.BIC_COAL : Nat := 0x1000018
def Reg.BIC_CLAIM (c : Nat) : Nat := 0x1000100 + 0x20 * c
def Reg.BIC_DONE (c : Nat) : Nat := 0x1000108 + 0x20 * c
def Reg.BIC_CORE (c : Nat) : Nat := 0x1000110 + 0x20 * c
def Reg.BIC_STACK (c k : Nat) : Nat := 0x1000200 + 0x80 * c + 0x8 * k
def Reg.BIC_WMASK (w : Nat) : Nat := 0x1000400 + 0x8 * w
def Reg.BIC_PEND (w : Nat) : Nat := 0x1000500 + 0x8 * w
def Reg.BIC_ACT (w : Nat) : Nat := 0x1000600 + 0x8 * w
def Reg.BIC_SRC (i : Nat) : Nat := 0x1010000 + 0x8 * i
def Reg.MBX_STAGE (w : Nat) : Nat := 0x1080000 + 0x8 * w
def Reg.MBX_SEND : Nat := 0x1080040
def Reg.MBX_SENDSTAT : Nat := 0x1080048
def Reg.MBX_ACK : Nat := 0x1080050
def Reg.MBX_STAT (m : Nat) : Nat := 0x1080100 + 0x8 * m
def Reg.MBX_CFG (m : Nat) : Nat := 0x1080300 + 0x8 * m
def Reg.MBX_DSPMBX (n : Nat) : Nat := 0x1080500 + 0x8 * n
def Reg.MBX_MSG (m w : Nat) : Nat := 0x1081000 + 0x40 * m + 0x8 * w
def Reg.UZP_CTL (k : Nat) : Nat := 0x2000000 + 0x100000 * k
def Reg.UZP_STAT (k : Nat) : Nat := 0x2000008 + 0x100000 * k
def Reg.UZP_EVT (k : Nat) : Nat := 0x2000010 + 0x100000 * k
def Reg.UZP_CNT (k i : Nat) : Nat := 0x2000040 + 0x100000 * k + 0x8 * i
def Reg.UZP_SESS (k s : Nat) : Nat := 0x2000108 + 0x100000 * k + 0x8 * s
def Reg.CL_SP_CTL (p : Nat) : Nat := clusterBase (p / 32) + 0x1000 * (p % 32)
def Reg.CL_SP_STAT (p : Nat) : Nat := clusterBase (p / 32) + 0x8 + 0x1000 * (p % 32)
def Reg.CL_SP_LANE (p : Nat) : Nat := clusterBase (p / 32) + 0x10 + 0x1000 * (p % 32)
def Reg.CL_SP_RTT (p : Nat) : Nat := clusterBase (p / 32) + 0x18 + 0x1000 * (p % 32)
def Reg.CL_SP_PEER (p : Nat) : Nat := clusterBase (p / 32) + 0x20 + 0x1000 * (p % 32)
def Reg.CL_SP_EVT (p : Nat) : Nat := clusterBase (p / 32) + 0x28 + 0x1000 * (p % 32)
def Reg.CL_SP_CMD (p : Nat) : Nat := clusterBase (p / 32) + 0x30 + 0x1000 * (p % 32)
def Reg.CL_SP_FECC (p w : Nat) : Nat := clusterBase (p / 32) + 0x40 + 0x1000 * (p % 32) + 0x8 * w
def Reg.CL_SP_FECU (p w : Nat) : Nat := clusterBase (p / 32) + 0x60 + 0x1000 * (p % 32) + 0x8 * w
def Reg.CL_SP_RTX (p v : Nat) : Nat := clusterBase (p / 32) + 0x80 + 0x1000 * (p % 32) + 0x8 * v
def Reg.CL_SP_HOLDOVF (p v : Nat) : Nat := clusterBase (p / 32) + 0xC0 + 0x1000 * (p % 32) + 0x8 * v
def Reg.CL_SP_REEFS (p : Nat) : Nat := clusterBase (p / 32) + 0x100 + 0x1000 * (p % 32)
def Reg.CL_SP_LCBBAD (p : Nat) : Nat := clusterBase (p / 32) + 0x108 + 0x1000 * (p % 32)
def Reg.CL_SP_DROPLNK (p : Nat) : Nat := clusterBase (p / 32) + 0x110 + 0x1000 * (p % 32)
def Reg.CL_OE_CTL (g : Nat) : Nat := clusterBase (g / 4) + 0x20000 + 0x1000 * (g % 4)
def Reg.CL_OE_LASER (g w : Nat) : Nat := clusterBase (g / 4) + 0x20008 + 0x1000 * (g % 4) + 0x8 * w
def Reg.CL_OE_EVT (g : Nat) : Nat := clusterBase (g / 4) + 0x20028 + 0x1000 * (g % 4)
def Reg.CL_TS (n i : Nat) : Nat := clusterBase n + 0x30000 + 0x8 * i
def Reg.CL_TS_SLOPE (n : Nat) : Nat := clusterBase n + 0x30200
def Reg.CL_SX_CTL (x : Nat) : Nat := clusterBase (x / 2) + 0x40000 + 0x1000 * (x % 2)
def Reg.CL_SX_STAT (x : Nat) : Nat := clusterBase (x / 2) + 0x40008 + 0x1000 * (x % 2)
def Reg.CL_SX_RTT (x : Nat) : Nat := clusterBase (x / 2) + 0x40018 + 0x1000 * (x % 2)
def Reg.CL_SX_PEER (x : Nat) : Nat := clusterBase (x / 2) + 0x40020 + 0x1000 * (x % 2)
def Reg.CL_SX_EVT (x : Nat) : Nat := clusterBase (x / 2) + 0x40028 + 0x1000 * (x % 2)
def Reg.CL_SX_CMD (x : Nat) : Nat := clusterBase (x / 2) + 0x40030 + 0x1000 * (x % 2)
def Reg.CL_SX_FECC (x w : Nat) : Nat := clusterBase (x / 2) + 0x40040 + 0x1000 * (x % 2) + 0x8 * w
def Reg.CL_SX_FECU (x w : Nat) : Nat := clusterBase (x / 2) + 0x40080 + 0x1000 * (x % 2) + 0x8 * w
def Reg.CL_SX_RTX (x v : Nat) : Nat := clusterBase (x / 2) + 0x400C0 + 0x1000 * (x % 2) + 0x8 * v
def Reg.CL_SX_HOLDOVF (x v : Nat) : Nat := clusterBase (x / 2) + 0x40100 + 0x1000 * (x % 2) + 0x8 * v
def Reg.CL_SX_LCBBAD (x : Nat) : Nat := clusterBase (x / 2) + 0x40140 + 0x1000 * (x % 2)
def Reg.CL_SX_DROPLNK (x : Nat) : Nat := clusterBase (x / 2) + 0x40148 + 0x1000 * (x % 2)
def Reg.CL_SX_WINUSE (x : Nat) : Nat := clusterBase (x / 2) + 0x40150 + 0x1000 * (x % 2)
def Reg.CL_SX_WINSTALL (x : Nat) : Nat := clusterBase (x / 2) + 0x40158 + 0x1000 * (x % 2)
def Reg.CL_SX_HOLDUSE (x : Nat) : Nat := clusterBase (x / 2) + 0x40160 + 0x1000 * (x % 2)
def Reg.CL_SX_CMIS_STAT (x : Nat) : Nat := clusterBase (x / 2) + 0x40200 + 0x1000 * (x % 2)
def Reg.CL_SX_CMIS_CMD (x : Nat) : Nat := clusterBase (x / 2) + 0x40208 + 0x1000 * (x % 2)
def Reg.CL_SX_CMIS_DATA (x i : Nat) : Nat := clusterBase (x / 2) + 0x40280 + 0x1000 * (x % 2) + 0x8 * i
def Reg.CL_BUF_CTL (n : Nat) : Nat := clusterBase n + 0x50000
def Reg.CL_BUF_STAT (n : Nat) : Nat := clusterBase n + 0x50008
def Reg.CL_QLIM (n q : Nat) : Nat := clusterBase n + 0x50100 + 0x8 * q
def Reg.CL_CRLIM (n q : Nat) : Nat := clusterBase n + 0x51000 + 0x8 * q
def Reg.CL_QOCC (n q : Nat) : Nat := clusterBase n + 0x52000 + 0x8 * q
def Reg.CL_QSAMP (n q : Nat) : Nat := clusterBase n + 0x53000 + 0x8 * q
def Reg.CL_QMAX (n q : Nat) : Nat := clusterBase n + 0x54000 + 0x8 * q
def Reg.CL_QSTALL (n q : Nat) : Nat := clusterBase n + 0x55000 + 0x8 * q
def Reg.CL_RT_CTL (n : Nat) : Nat := clusterBase n + 0x60000
def Reg.CL_RT_SEED (n : Nat) : Nat := clusterBase n + 0x60008
def Reg.CL_RT_NOELIG (n : Nat) : Nat := clusterBase n + 0x60010
def Reg.CL_RT_REPICK (n : Nat) : Nat := clusterBase n + 0x60018
def Reg.CL_RT_LATE (n i : Nat) : Nat := clusterBase n + 0x60020 + 0x8 * i
def Reg.CL_RT_OWNDROP (n : Nat) : Nat := clusterBase n + 0x60030
def Reg.CL_RD_STAT (n : Nat) : Nat := clusterBase n + 0x70000
def Reg.CL_RD_EVT (n : Nat) : Nat := clusterBase n + 0x70008
def Reg.CL_RD_FLOG (n : Nat) : Nat := clusterBase n + 0x70010
def Reg.CL_RD_DROP (n c : Nat) : Nat := clusterBase n + 0x70040 + 0x8 * c
def Reg.CL_RD_CTXSEL (n : Nat) : Nat := clusterBase n + 0x70100
def Reg.CL_RD_CTXCNT (n i : Nat) : Nat := clusterBase n + 0x70108 + 0x8 * i
def Reg.CL_AR_CNT (n i : Nat) : Nat := clusterBase n + 0x70200 + 0x8 * i
def Reg.CL_RD_ROUND (n j : Nat) : Nat := clusterBase n + 0x71000 + 0x8 * j
def Reg.CL_FCHK_CNT (n c : Nat) : Nat := clusterBase n + 0x80000 + 0x8 * c
def Reg.CL_FCHK_LAST (n i : Nat) : Nat := clusterBase n + 0x80100 + 0x8 * i
def Reg.CL_FCHK_LASTSRC (n : Nat) : Nat := clusterBase n + 0x80140
def Reg.CL_EG_CTL (p : Nat) : Nat := clusterBase (clusterOf p) + 0x90000 + 0x1000 * localOf p
def Reg.CL_EG_BASE (p : Nat) : Nat := clusterBase (clusterOf p) + 0x90008 + 0x1000 * localOf p
def Reg.CL_EG_STAT (p : Nat) : Nat := clusterBase (clusterOf p) + 0x90010 + 0x1000 * localOf p
def Reg.CL_EG_EVT (p : Nat) : Nat := clusterBase (clusterOf p) + 0x90018 + 0x1000 * localOf p
def Reg.CL_EG_WDRR (p v : Nat) : Nat := clusterBase (clusterOf p) + 0x90040 + 0x1000 * localOf p + 0x8 * v
def Reg.CL_EG_SHAPE (p v : Nat) : Nat := clusterBase (clusterOf p) + 0x90080 + 0x1000 * localOf p + 0x8 * v
def Reg.CL_EG_CREDIT (p v : Nat) : Nat := clusterBase (clusterOf p) + 0x900C0 + 0x1000 * localOf p + 0x8 * v
def Reg.CL_EG_OVERRUN (p v : Nat) : Nat := clusterBase (clusterOf p) + 0x90100 + 0x1000 * localOf p + 0x8 * v
def Reg.CL_EG_GCLOPER (p i : Nat) : Nat := clusterBase (clusterOf p) + 0x90800 + 0x1000 * localOf p + 0x8 * i
def Reg.CL_EG_GCL (p i : Nat) : Nat := clusterBase (clusterOf p) + 0xC0000 + 0x800 * localOf p + 0x8 * i
def Reg.CL_MA_DEAD (n : Nat) : Nat := clusterBase n + 0xD8000
def Reg.CL_MA_DEADLOG (n : Nat) : Nat := clusterBase n + 0xD8008
def Reg.DSP_CTL (n : Nat) : Nat := clusterBase n + 0xE0000
def Reg.DSP_STAT (n : Nat) : Nat := clusterBase n + 0xE0008
def Reg.DSP_CMD (n : Nat) : Nat := clusterBase n + 0xE0010
def Reg.DSP_EVT (n : Nat) : Nat := clusterBase n + 0xE0018
def Reg.DSP_CRHEAD (n : Nat) : Nat := clusterBase n + 0xE0020
def Reg.DSP_CRTAIL (n : Nat) : Nat := clusterBase n + 0xE0028
def Reg.DSP_CORECMD (n : Nat) : Nat := clusterBase n + 0xE0040
def Reg.DSP_QCTL (n q : Nat) : Nat := clusterBase n + 0xE0100 + 0x8 * q
def Reg.DSP_CNT (n s : Nat) : Nat := clusterBase n + 0xE0200 + 0x8 * s
def Reg.DSP_EXCCNT (n x : Nat) : Nat := clusterBase n + 0xE0300 + 0x8 * x
def Reg.DSP_CRING (n i : Nat) : Nat := clusterBase n + 0xE1000 + 0x8 * i
def Reg.DSP_BIND (n b : Nat) : Nat := clusterBase n + 0xE2000 + 0x10 * b
def Reg.DSP_BINDL (n b : Nat) : Nat := clusterBase n + 0xE2008 + 0x10 * b
def Reg.MIL_STAT (n c : Nat) : Nat := clusterBase n + 0xE8000 + 0x100 * c
def Reg.MIL_EXC (n c : Nat) : Nat := clusterBase n + 0xE8008 + 0x100 * c
def Reg.MIL_EXCX (n c : Nat) : Nat := clusterBase n + 0xE8010 + 0x100 * c
def Reg.MIL_FAULTS (n c : Nat) : Nat := clusterBase n + 0xE8018 + 0x100 * c
def Reg.MIL_CYC (n c : Nat) : Nat := clusterBase n + 0xE8020 + 0x100 * c
def Reg.MIL_INV (n c : Nat) : Nat := clusterBase n + 0xE8028 + 0x100 * c
def Reg.MIL_RESERR (n c : Nat) : Nat := clusterBase n + 0xE8030 + 0x100 * c
def Reg.MIL_DQHEAD0 (n c : Nat) : Nat := clusterBase n + 0xE8038 + 0x100 * c
def Reg.MIL_DQHEAD1 (n c : Nat) : Nat := clusterBase n + 0xE8040 + 0x100 * c
def Reg.DSP_PSDIR (n d : Nat) : Nat := clusterBase n + 0xF0000 + 0x8 * d
def Reg.DSP_PSADDR (n : Nat) : Nat := clusterBase n + 0xF1000
def Reg.DSP_PSDATA (n : Nat) : Nat := clusterBase n + 0xF1008
def Reg.GRN_STAT : Nat := 0x6000000
def Reg.GRN_ECTL (j : Nat) : Nat := 0x6010000 + 0x10000 * j
def Reg.GRN_ESTAT (j : Nat) : Nat := 0x6010008 + 0x10000 * j
def Reg.GRN_CMD (j : Nat) : Nat := 0x6010010 + 0x10000 * j
def Reg.GRN_EVT (j : Nat) : Nat := 0x6010018 + 0x10000 * j
def Reg.GRN_CRHEAD (j : Nat) : Nat := 0x6010020 + 0x10000 * j
def Reg.GRN_CRTAIL (j : Nat) : Nat := 0x6010028 + 0x10000 * j
def Reg.GRN_TAGLOG (j : Nat) : Nat := 0x6010030 + 0x10000 * j
def Reg.GRN_QCTL (j q : Nat) : Nat := 0x6010100 + 0x10000 * j + 0x8 * q
def Reg.GRN_CNT (j s : Nat) : Nat := 0x6010200 + 0x10000 * j + 0x8 * s
def Reg.GRN_UPD (j : Nat) : Nat := 0x6010300 + 0x10000 * j
def Reg.GRN_SKIP (j : Nat) : Nat := 0x6010308 + 0x10000 * j
def Reg.GRN_STATEW (j : Nat) : Nat := 0x6010310 + 0x10000 * j
def Reg.GRN_TAGF (j : Nat) : Nat := 0x6010318 + 0x10000 * j
def Reg.GRN_ECCC (j : Nat) : Nat := 0x6010320 + 0x10000 * j
def Reg.GRN_ECCU (j : Nat) : Nat := 0x6010328 + 0x10000 * j
def Reg.GRN_NAN (j : Nat) : Nat := 0x6010330 + 0x10000 * j
def Reg.GRN_CRING (j i : Nat) : Nat := 0x6011000 + 0x10000 * j + 0x8 * i
def Reg.GRN_BSTAT (j b : Nat) : Nat := 0x6018000 + 0x10000 * j + 0x10 * b
def Reg.GRN_BSTEP (j b : Nat) : Nat := 0x6018008 + 0x10000 * j + 0x10 * b
def Reg.GRN_BPEER (j b : Nat) : Nat := 0x6019000 + 0x10000 * j + 0x8 * b
def Reg.GRN_MA_CTL : Nat := 0x6200000
def Reg.GRN_MA_STAT : Nat := 0x6200008
def Reg.GRN_MA_EVT : Nat := 0x6200010
def Reg.GRN_MA_CNT (i : Nat) : Nat := 0x6200100 + 0x8 * i
def Reg.LFT_STAT : Nat := 0x7000000
def Reg.LFT_PART : Nat := 0x7000008
def Reg.LFT_EVT : Nat := 0x7000010
def Reg.LFT_UELOG : Nat := 0x7000018
def Reg.LFT_ECCC (s : Nat) : Nat := 0x7000100 + 0x8 * s
def Reg.LFT_ECCU (s : Nat) : Nat := 0x7000140 + 0x8 * s
def Reg.LFT_USE (r : Nat) : Nat := 0x7000200 + 0x8 * r
def Reg.LFT_RESV : Nat := 0x7000300
def Reg.LFT_CN_CTL : Nat := 0x7200000
def Reg.LFT_CN_STAT : Nat := 0x7200008
def Reg.LFT_CN_WPTR : Nat := 0x7200010
def Reg.LFT_CN_RPTR : Nat := 0x7200018
def Reg.LFT_CN_EVT : Nat := 0x7200020
def Reg.LFT_CN_DROP : Nat := 0x7200028
def Reg.LFT_CN_MATCH (i : Nat) : Nat := 0x7200100 + 0x8 * i
def Reg.LFT_DMP_CMD : Nat := 0x7100000
def Reg.LFT_DMP_STAT : Nat := 0x7100008
def Reg.LFT_DMP_EVT : Nat := 0x7100010
def Reg.LFT_DMP_CRHEAD : Nat := 0x7100018
def Reg.LFT_DMP_CRTAIL : Nat := 0x7100020
def Reg.LFT_DMP_UNRESP : Nat := 0x7100028
def Reg.LFT_DMP_QCTL (q : Nat) : Nat := 0x7100100 + 0x8 * q
def Reg.LFT_DMP_CNT (s : Nat) : Nat := 0x7100200 + 0x8 * s
def Reg.LFT_DMP_CRING (i : Nat) : Nat := 0x7101000 + 0x8 * i
def Reg.SVB_STAT : Nat := 0x8000000
def Reg.SVB_CMD : Nat := 0x8000008
def Reg.SVB_EVT : Nat := 0x8000010
def Reg.SVB_CRHEAD : Nat := 0x8000018
def Reg.SVB_CRTAIL : Nat := 0x8000020
def Reg.SVB_QCTL (q : Nat) : Nat := 0x8000100 + 0x8 * q
def Reg.SVB_CNT (c : Nat) : Nat := 0x8000200 + 0x8 * c
def Reg.SVB_CRING (i : Nat) : Nat := 0x8001000 + 0x8 * i
def Reg.SVB_PORT (p : Nat) : Nat := 0x8002000 + 0x8 * p
def Reg.TBL_CMD (t : Nat) : Nat := 0x9000000 + 0x1000 * t
def Reg.TBL_DATA (t i : Nat) : Nat := 0x9000008 + 0x1000 * t + 0x8 * i
def Reg.TBL_QCTL : Nat := 0x9010000
def Reg.TBL_EVT : Nat := 0x9010008
def Reg.TBL_CRHEAD : Nat := 0x9010010
def Reg.TBL_CRTAIL : Nat := 0x9010018
def Reg.TBL_STAGED : Nat := 0x9010020
def Reg.TBL_QSTAT (q : Nat) : Nat := 0x9010100 + 0x8 * q
def Reg.TBL_CNT (s : Nat) : Nat := 0x9010200 + 0x8 * s
def Reg.TBL_CRING (i : Nat) : Nat := 0x9011000 + 0x8 * i
def Reg.TBL_SH_CMD : Nat := 0x9020000
def Reg.TBL_SH_EVT : Nat := 0x9020010
def Reg.TBL_SH_CNT (i : Nat) : Nat := 0x9020100 + 0x8 * i
def Reg.TBL_SH_STATE (i : Nat) : Nat := 0x9100000 + 0x8 * i
def Reg.TIM_CTL : Nat := 0xA000000
def Reg.TIM_STAT : Nat := 0xA000008
def Reg.TIM_NOW : Nat := 0xA000010
def Reg.TIM_SET : Nat := 0xA000018
def Reg.TIM_SERVO : Nat := 0xA000020
def Reg.TIM_OFFSET : Nat := 0xA000028
def Reg.TIM_FREQ : Nat := 0xA000030
def Reg.TIM_EVT : Nat := 0xA000038
def Reg.TIM_INT : Nat := 0xA000040
def Reg.TIM_CNT (i : Nat) : Nat := 0xA000100 + 0x8 * i
def Reg.TIM_FAN (i : Nat) : Nat := 0xA001000 + 0x8 * i
def Reg.TIM_PD (p : Nat) : Nat := 0xA002000 + 0x8 * p
def Reg.TIM_ASYM (p : Nat) : Nat := 0xA004000 + 0x8 * p
def Reg.TEL_CTL : Nat := 0xB000000
def Reg.TEL_EVT : Nat := 0xB000008
def Reg.TEL_PWR : Nat := 0xB000010
def Reg.TEL_PWRT : Nat := 0xB000018
def Reg.TEL_BWWIN : Nat := 0xB000020
def Reg.TEL_TAG_CTL : Nat := 0xB000028
def Reg.TEL_SR_CTL : Nat := 0xB000030
def Reg.TEL_SR_WPTR : Nat := 0xB000038
def Reg.TEL_SR_RPTR : Nat := 0xB000040
def Reg.TEL_SR_DROP : Nat := 0xB000048
def Reg.TEL_SUBDROP : Nat := 0xB000050
def Reg.TEL_OVF (k : Nat) : Nat := 0xB000100 + 0x8 * k
def Reg.TEL_SUB (s : Nat) : Nat := 0xB000200 + 0x8 * s
def Reg.TEL_CSEL (k i : Nat) : Nat := 0xB100000 + 0x10000 * k + 0x8 * i
def Reg.TEL_CFLT (k i : Nat) : Nat := 0xB100200 + 0x10000 * k + 0x8 * i
def Reg.TEL_CNT (k i : Nat) : Nat := 0xB100400 + 0x10000 * k + 0x8 * i
def Reg.TEL_RLD (k i : Nat) : Nat := 0xB100600 + 0x10000 * k + 0x8 * i
def Reg.TEL_SCNT (k i : Nat) : Nat := 0xB100800 + 0x10000 * k + 0x8 * i
def Reg.TEL_BWTX (n q : Nat) : Nat := 0xB300000 + 0x4000 * n + 0x8 * q
def Reg.TEL_BWRX (n q : Nat) : Nat := 0xB301000 + 0x4000 * n + 0x8 * q
def Reg.TEL_SR (i w : Nat) : Nat := 0xB400000 + 0x40 * i + 0x8 * w
def Reg.SEC_CTL : Nat := 0xC000000
def Reg.SEC_STAT : Nat := 0xC000008
def Reg.SEC_EVT : Nat := 0xC000010
def Reg.SEC_VSTAT : Nat := 0xC000018
def Reg.SEC_BKCMD : Nat := 0xC000040
def Reg.SEC_BKSTAT : Nat := 0xC000048
def Reg.SEC_MKCNT : Nat := 0xC000050
def Reg.SEC_BKEY (i : Nat) : Nat := 0xC000100 + 0x8 * i
def Reg.SEC_SLOT (s : Nat) : Nat := 0xC000200 + 0x8 * s
def Reg.SEC_SCR_CMD : Nat := 0xC010000
def Reg.SEC_SCR_CRHEAD : Nat := 0xC010008
def Reg.SEC_SCR_CRTAIL : Nat := 0xC010010
def Reg.SEC_SCR_QCTL (q : Nat) : Nat := 0xC010100 + 0x8 * q
def Reg.SEC_SCR_CNT (s : Nat) : Nat := 0xC010200 + 0x8 * s
def Reg.SEC_SCR_CRING (i : Nat) : Nat := 0xC011000 + 0x8 * i

/-! ### Fields -/

def Fld.CL_FCHK_LASTSRC_CAUSE : Fld := ⟨12, 4⟩
def Fld.CL_FCHK_LASTSRC_PORT : Fld := ⟨0, 6⟩
def Fld.CL_SP_CTL_TXALLOW : Fld := ⟨4, 4⟩
def Fld.CL_SP_CTL_REEFHOLD : Fld := ⟨1, 1⟩
def Fld.CL_SP_CTL_ENABLE : Fld := ⟨0, 1⟩
def Fld.CL_SP_STAT_RXLANES : Fld := ⟨20, 4⟩
def Fld.CL_SP_STAT_TXLANES : Fld := ⟨16, 4⟩
def Fld.CL_SP_STAT_DEGRADED : Fld := ⟨12, 4⟩
def Fld.CL_SP_STAT_STATE : Fld := ⟨0, 4⟩
def Fld.CL_SP_LANE_RXCAUSE : Fld := ⟨20, 20⟩
def Fld.CL_SP_LANE_TXCAUSE : Fld := ⟨0, 20⟩
def Fld.CL_SP_PEER_VALID : Fld := ⟨63, 1⟩
def Fld.CL_SP_PEER_ISMOD : Fld := ⟨62, 1⟩
def Fld.CL_SP_PEER_ID : Fld := ⟨0, 20⟩
def Fld.CL_SP_EVT_DARKED : Fld := ⟨5, 1⟩
def Fld.CL_SP_EVT_FARRESET : Fld := ⟨4, 1⟩
def Fld.CL_SP_EVT_LCBBAD : Fld := ⟨3, 1⟩
def Fld.CL_SP_EVT_REEF : Fld := ⟨2, 1⟩
def Fld.CL_SP_EVT_UP : Fld := ⟨1, 1⟩
def Fld.CL_SP_EVT_DOWN : Fld := ⟨0, 1⟩
def Fld.CL_OE_CTL_SWAPGO : Fld := ⟨4, 1⟩
def Fld.CL_OE_CTL_SWAPHELD : Fld := ⟨0, 1⟩
def Fld.CL_OE_LASER_SPARE : Fld := ⟨24, 2⟩
def Fld.CL_OE_LASER_STATE : Fld := ⟨20, 2⟩
def Fld.CL_OE_LASER_SOURCE : Fld := ⟨16, 1⟩
def Fld.CL_OE_LASER_POWER : Fld := ⟨0, 16⟩
def Fld.CL_OE_EVT_THERMFAST : Fld := ⟨12, 1⟩
def Fld.CL_OE_EVT_FAIL : Fld := ⟨8, 4⟩
def Fld.CL_OE_EVT_SWAPPED : Fld := ⟨4, 4⟩
def Fld.CL_OE_EVT_PRESPARE : Fld := ⟨0, 4⟩
def Fld.CL_SX_CTL_HOLDMAX : Fld := ⟨40, 8⟩
def Fld.CL_SX_CTL_APSEL : Fld := ⟨24, 4⟩
def Fld.CL_SX_CTL_ENABLE : Fld := ⟨0, 1⟩
def Fld.CL_SX_STAT_LANES : Fld := ⟨16, 8⟩
def Fld.CL_SX_STAT_STATE : Fld := ⟨0, 4⟩
def Fld.CL_SX_EVT_LOFTUE : Fld := ⟨7, 1⟩
def Fld.CL_SX_EVT_LONGRTT : Fld := ⟨6, 1⟩
def Fld.CL_SX_EVT_DARKED : Fld := ⟨5, 1⟩
def Fld.CL_SX_EVT_FARRESET : Fld := ⟨4, 1⟩
def Fld.CL_SX_EVT_LCBBAD : Fld := ⟨3, 1⟩
def Fld.CL_SX_EVT_CMIS : Fld := ⟨2, 1⟩
def Fld.CL_SX_EVT_UP : Fld := ⟨1, 1⟩
def Fld.CL_SX_EVT_DOWN : Fld := ⟨0, 1⟩
def Fld.CL_SX_CMIS_STAT_PRESENT : Fld := ⟨63, 1⟩
def Fld.CL_SX_CMIS_STAT_MODSTATE : Fld := ⟨60, 3⟩
def Fld.CL_SX_CMIS_STAT_DPSTATE : Fld := ⟨56, 4⟩
def Fld.CL_SX_CMIS_STAT_MAXPWR : Fld := ⟨40, 8⟩
def Fld.CL_SX_CMIS_STAT_REFUSE : Fld := ⟨32, 3⟩
def Fld.CL_SX_CMIS_CMD_BUSY : Fld := ⟨63, 1⟩
def Fld.CL_SX_CMIS_CMD_STATUS : Fld := ⟨60, 3⟩
def Fld.CL_SX_CMIS_CMD_WRITE : Fld := ⟨56, 1⟩
def Fld.CL_SX_CMIS_CMD_PAGE : Fld := ⟨48, 8⟩
def Fld.CL_SX_CMIS_CMD_BANK : Fld := ⟨40, 8⟩
def Fld.CL_SX_CMIS_CMD_OFFSET : Fld := ⟨32, 8⟩
def Fld.CL_SX_CMIS_CMD_LEN : Fld := ⟨0, 8⟩
def Fld.LFT_PART_DUMP : Fld := ⟨48, 12⟩
def Fld.LFT_PART_CAPT : Fld := ⟨36, 12⟩
def Fld.LFT_PART_HOLD : Fld := ⟨24, 12⟩
def Fld.LFT_PART_SPILL : Fld := ⟨12, 12⟩
def Fld.LFT_PART_RETRY : Fld := ⟨0, 12⟩
def Fld.LFT_UELOG_REGION : Fld := ⟨60, 4⟩
def Fld.LFT_UELOG_STACK : Fld := ⟨56, 3⟩
def Fld.LFT_UELOG_ADDR : Fld := ⟨0, 39⟩
def Fld.SVB_STAT_TIMEOK : Fld := ⟨16, 1⟩
def Fld.SVB_STAT_PENDING : Fld := ⟨0, 9⟩
def Fld.SVB_EVT_CROVF : Fld := ⟨3, 1⟩
def Fld.SVB_EVT_FAULT : Fld := ⟨2, 1⟩
def Fld.SVB_EVT_REFUSED : Fld := ⟨1, 1⟩
def Fld.SVB_EVT_DONE : Fld := ⟨0, 1⟩
def Fld.SVB_QCTL_ENTRIES : Fld := ⟨16, 16⟩
def Fld.SVB_QCTL_HALT : Fld := ⟨0, 1⟩
def Fld.SVB_CRING_TAG : Fld := ⟨48, 16⟩
def Fld.SVB_CRING_OP : Fld := ⟨44, 4⟩
def Fld.SVB_CRING_CAUSE : Fld := ⟨40, 4⟩
def Fld.SVB_CRING_PORTA : Fld := ⟨31, 9⟩
def Fld.SVB_CRING_PORTB : Fld := ⟨22, 9⟩
def Fld.SVB_CRING_SETTLE : Fld := ⟨0, 14⟩
def Fld.SVB_PORT_STATE : Fld := ⟨62, 2⟩
def Fld.SVB_PORT_PEER : Fld := ⟨53, 9⟩
def Fld.SVB_PORT_REFS : Fld := ⟨32, 16⟩
def Fld.SVB_PORT_PENDINGP : Fld := ⟨0, 8⟩
def Fld.CL_QSAMP_DELAY : Fld := ⟨32, 32⟩
def Fld.CL_QMAX_DELAY : Fld := ⟨32, 32⟩
def Fld.CL_QSAMP_DEPTH : Fld := ⟨0, 16⟩
def Fld.CL_QMAX_DEPTH : Fld := ⟨0, 16⟩
def Fld.CL_EG_CTL_ADMINLEN : Fld := ⟨8, 9⟩
def Fld.CL_EG_CTL_COMMIT : Fld := ⟨1, 1⟩
def Fld.CL_EG_CTL_GATEEN : Fld := ⟨0, 1⟩
def Fld.CL_EG_STAT_OPEN : Fld := ⟨56, 8⟩
def Fld.CL_EG_STAT_OPERLEN : Fld := ⟨32, 9⟩
def Fld.CL_EG_STAT_CYCLE : Fld := ⟨0, 32⟩
def Fld.CL_EG_EVT_HOLDOVER : Fld := ⟨3, 1⟩
def Fld.CL_EG_EVT_OVERRUN : Fld := ⟨2, 1⟩
def Fld.CL_EG_EVT_GCLREJ : Fld := ⟨1, 1⟩
def Fld.CL_EG_EVT_SWAPPED : Fld := ⟨0, 1⟩
def Fld.CL_EG_SHAPE_ENABLE : Fld := ⟨63, 1⟩
def Fld.CL_EG_SHAPE_RATE : Fld := ⟨28, 20⟩
def Fld.CL_EG_SHAPE_BURST : Fld := ⟨0, 24⟩
def Fld.LFT_CN_MATCH_ENABLE : Fld := ⟨63, 1⟩
def Fld.LFT_CN_MATCH_KINDANY : Fld := ⟨62, 1⟩
def Fld.LFT_CN_MATCH_JOBANY : Fld := ⟨61, 1⟩
def Fld.LFT_CN_MATCH_PORTANY : Fld := ⟨60, 1⟩
def Fld.LFT_CN_MATCH_SAMPLE : Fld := ⟨55, 5⟩
def Fld.LFT_CN_MATCH_VCMASK : Fld := ⟨47, 8⟩
def Fld.LFT_CN_MATCH_KIND : Fld := ⟨41, 6⟩
def Fld.LFT_CN_MATCH_JOB : Fld := ⟨29, 12⟩
def Fld.LFT_CN_MATCH_PORT : Fld := ⟨19, 10⟩
def Fld.CL_RT_CTL_NRWAIT : Fld := ⟨32, 16⟩
def Fld.CL_RT_CTL_LATE : Fld := ⟨0, 16⟩
def Fld.CL_RT_SEED_SEED : Fld := ⟨0, 32⟩
def Fld.TBL_CMD_BUSY : Fld := ⟨63, 1⟩
def Fld.TBL_CMD_STATUS : Fld := ⟨58, 5⟩
def Fld.TBL_CMD_OP : Fld := ⟨56, 2⟩
def Fld.TBL_CMD_STAGE : Fld := ⟨55, 1⟩
def Fld.TBL_CMD_SHEAF : Fld := ⟨32, 16⟩
def Fld.TBL_CMD_GEN : Fld := ⟨16, 16⟩
def Fld.TBL_CMD_INDEX : Fld := ⟨0, 16⟩
def Fld.TBL_CRING_TAG : Fld := ⟨48, 16⟩
def Fld.TBL_CRING_TABLE : Fld := ⟨45, 3⟩
def Fld.TBL_CRING_STATUS : Fld := ⟨40, 5⟩
def Fld.TBL_CRING_INDEX : Fld := ⟨24, 16⟩
def Fld.TBL_CRING_GEN : Fld := ⟨0, 16⟩
def Fld.CL_RD_STAT_INCARN : Fld := ⟨48, 16⟩
def Fld.CL_RD_STAT_ACCUSE : Fld := ⟨24, 19⟩
def Fld.CL_RD_STAT_RECORDS : Fld := ⟨0, 9⟩
def Fld.CL_RD_EVT_RESEND : Fld := ⟨3, 1⟩
def Fld.CL_RD_EVT_SPILL : Fld := ⟨2, 1⟩
def Fld.CL_RD_EVT_REFUSE : Fld := ⟨1, 1⟩
def Fld.CL_RD_EVT_FAULT : Fld := ⟨0, 1⟩
def Fld.CL_RD_ROUND_STATE : Fld := ⟨60, 4⟩
def Fld.CL_RD_ROUND_FCAUSE : Fld := ⟨56, 4⟩
def Fld.CL_RD_ROUND_COLL : Fld := ⟨32, 16⟩
def Fld.CL_RD_ROUND_ROUND : Fld := ⟨16, 16⟩
def Fld.CL_RD_ROUND_MISSING : Fld := ⟨0, 10⟩
def Fld.CL_RD_FLOG_CAUSE : Fld := ⟨60, 4⟩
def Fld.CL_RD_FLOG_CONTRIB : Fld := ⟨50, 10⟩
def Fld.CL_RD_FLOG_COLL : Fld := ⟨32, 16⟩
def Fld.CL_RD_FLOG_ROUND : Fld := ⟨16, 16⟩
def Fld.DSP_CTL_FAULTMAX : Fld := ⟨20, 4⟩
def Fld.DSP_CTL_IDLEGATE : Fld := ⟨0, 16⟩
def Fld.DSP_STAT_CLUSTER : Fld := ⟨62, 2⟩
def Fld.DSP_STAT_BINDINGS : Fld := ⟨32, 11⟩
def Fld.DSP_STAT_AWAKE : Fld := ⟨0, 7⟩
def Fld.DSP_CORECMD_ACTION : Fld := ⟨8, 3⟩
def Fld.DSP_CORECMD_CORE : Fld := ⟨0, 7⟩
def Fld.DSP_CRING_TAG : Fld := ⟨48, 16⟩
def Fld.DSP_CRING_OP : Fld := ⟨44, 4⟩
def Fld.DSP_CRING_STATUS : Fld := ⟨35, 5⟩
def Fld.DSP_CRING_CORE : Fld := ⟨24, 8⟩
def Fld.DSP_BIND_VALID : Fld := ⟨63, 1⟩
def Fld.DSP_BIND_CORE : Fld := ⟨56, 7⟩
def Fld.DSP_BIND_COLL : Fld := ⟨32, 16⟩
def Fld.DSP_BIND_FIRST : Fld := ⟨0, 24⟩
def Fld.DSP_PSDIR_VALID : Fld := ⟨63, 1⟩
def Fld.DSP_PSDIR_OWNER : Fld := ⟨56, 7⟩
def Fld.DSP_PSDIR_BOUND : Fld := ⟨45, 11⟩
def Fld.DSP_PSDIR_LEN : Fld := ⟨16, 16⟩
def Fld.DSP_PSDIR_BASE : Fld := ⟨0, 15⟩
def Fld.MIL_STAT_STATE : Fld := ⟨60, 4⟩
def Fld.MIL_STAT_NBIND : Fld := ⟨48, 8⟩
def Fld.MIL_STAT_DQDEPTH : Fld := ⟨40, 8⟩
def Fld.MIL_STAT_PC : Fld := ⟨0, 15⟩
def Fld.MIL_EXC_CODE : Fld := ⟨60, 4⟩
def Fld.MIL_EXC_PC : Fld := ⟨32, 15⟩
def Fld.MIL_EXC_COLL : Fld := ⟨16, 16⟩
def Fld.MIL_EXC_ROUND : Fld := ⟨0, 16⟩
def Fld.MIL_EXCX_MAJOR : Fld := ⟨56, 8⟩
def Fld.MIL_EXCX_CBIT : Fld := ⟨24, 10⟩
def Fld.MIL_EXCX_CHUNK : Fld := ⟨0, 24⟩
def Fld.MIL_DQHEAD0_VALID : Fld := ⟨63, 1⟩
def Fld.MIL_DQHEAD0_FIRST : Fld := ⟨62, 1⟩
def Fld.MIL_DQHEAD0_SPILL : Fld := ⟨61, 1⟩
def Fld.MIL_DQHEAD0_CBIT : Fld := ⟨48, 10⟩
def Fld.MIL_DQHEAD0_COLL : Fld := ⟨32, 16⟩
def Fld.MIL_DQHEAD0_ROUND : Fld := ⟨16, 16⟩
def Fld.MIL_DQHEAD0_PORT : Fld := ⟨0, 10⟩
def Fld.MIL_DQHEAD1_CHUNK : Fld := ⟨40, 24⟩
def Fld.MIL_DQHEAD1_SLOT : Fld := ⟨0, 32⟩
def Fld.GRN_ESTAT_STATE : Fld := ⟨60, 4⟩
def Fld.GRN_ESTAT_UNACKED : Fld := ⟨32, 9⟩
def Fld.GRN_ESTAT_BINDINGS : Fld := ⟨0, 7⟩
def Fld.GRN_EVT_NOBIND : Fld := ⟨9, 1⟩
def Fld.GRN_EVT_NANABORT : Fld := ⟨8, 1⟩
def Fld.GRN_EVT_HANG : Fld := ⟨7, 1⟩
def Fld.GRN_EVT_NOCLIP : Fld := ⟨6, 1⟩
def Fld.GRN_EVT_STALL : Fld := ⟨5, 1⟩
def Fld.GRN_EVT_ECCUE : Fld := ⟨4, 1⟩
def Fld.GRN_EVT_TAGFAIL : Fld := ⟨3, 1⟩
def Fld.GRN_EVT_CROVF : Fld := ⟨2, 1⟩
def Fld.GRN_EVT_REFUSED : Fld := ⟨1, 1⟩
def Fld.GRN_EVT_DONE : Fld := ⟨0, 1⟩
def Fld.GRN_TAGLOG_SOURCE : Fld := ⟨60, 4⟩
def Fld.GRN_TAGLOG_ECC : Fld := ⟨59, 1⟩
def Fld.GRN_TAGLOG_BLOCK : Fld := ⟨0, 29⟩
def Fld.GRN_BSTAT_VALID : Fld := ⟨63, 1⟩
def Fld.GRN_BSTAT_ROLE : Fld := ⟨61, 2⟩
def Fld.GRN_BSTAT_OPT : Fld := ⟨59, 2⟩
def Fld.GRN_BSTAT_SFMT : Fld := ⟨57, 2⟩
def Fld.GRN_BSTAT_CUR : Fld := ⟨56, 1⟩
def Fld.GRN_BSTAT_PENDING : Fld := ⟨55, 1⟩
def Fld.GRN_BSTAT_DAMAGED : Fld := ⟨54, 1⟩
def Fld.GRN_BSTAT_COLL : Fld := ⟨32, 16⟩
def Fld.GRN_BSTAT_STEPPED : Fld := ⟨0, 24⟩
def Fld.GRN_BSTEP_STEP : Fld := ⟨32, 32⟩
def Fld.GRN_BSTEP_EPOCH : Fld := ⟨0, 32⟩
def Fld.GRN_CRING_TAG : Fld := ⟨48, 16⟩
def Fld.GRN_CRING_OP : Fld := ⟨44, 4⟩
def Fld.GRN_CRING_STATUS : Fld := ⟨40, 4⟩
def Fld.GRN_CRING_BIX : Fld := ⟨32, 6⟩
def Fld.GRN_MA_CTL_PEERV : Fld := ⟨63, 1⟩
def Fld.GRN_MA_CTL_PEER : Fld := ⟨48, 12⟩
def Fld.GRN_MA_CTL_ATWIN : Fld := ⟨40, 8⟩
def Fld.GRN_MA_CTL_RDWIN : Fld := ⟨32, 8⟩
def Fld.GRN_MA_CTL_WRWAIT : Fld := ⟨16, 16⟩
def Fld.GRN_MA_CTL_DEADWAIT : Fld := ⟨0, 16⟩
def Fld.GRN_MA_STAT_WROPEN : Fld := ⟨32, 19⟩
def Fld.GRN_MA_STAT_GROUPS : Fld := ⟨0, 15⟩
def Fld.GRN_MA_EVT_WRABANDON : Fld := ⟨2, 1⟩
def Fld.GRN_MA_EVT_WRFULL : Fld := ⟨1, 1⟩
def Fld.GRN_MA_EVT_DEAD : Fld := ⟨0, 1⟩
def Fld.CL_MA_DEADLOG_CAUSE : Fld := ⟨60, 4⟩
def Fld.CL_MA_DEADLOG_HOME : Fld := ⟨32, 12⟩
def Fld.CL_MA_DEADLOG_SRC : Fld := ⟨0, 20⟩
def Fld.TBL_SH_CMD_BUSY : Fld := ⟨63, 1⟩
def Fld.TBL_SH_CMD_STATUS : Fld := ⟨58, 5⟩
def Fld.TBL_SH_CMD_OP : Fld := ⟨56, 2⟩
def Fld.TBL_SH_CMD_SHEAF : Fld := ⟨32, 16⟩
def Fld.TBL_SH_CMD_LIFE : Fld := ⟨16, 16⟩
def Fld.TBL_SH_CMD_MEMBER : Fld := ⟨14, 2⟩
def Fld.TBL_SH_CMD_MODE : Fld := ⟨12, 2⟩
def Fld.TBL_SH_CMD_MODULE : Fld := ⟨0, 12⟩
def Fld.TBL_SH_STATE_STATE : Fld := ⟨62, 2⟩
def Fld.TBL_SH_STATE_CAUSE : Fld := ⟨58, 4⟩
def Fld.TBL_SH_STATE_ESTAT : Fld := ⟨48, 5⟩
def Fld.TBL_SH_STATE_STAGED : Fld := ⟨32, 14⟩
def Fld.TBL_SH_STATE_ORIGIN : Fld := ⟨30, 2⟩
def Fld.TBL_SH_STATE_LIFE : Fld := ⟨0, 16⟩
def Fld.GRN_BPEER_UNNOTICED : Fld := ⟨63, 1⟩
def Fld.GRN_BPEER_PEERSTATE : Fld := ⟨61, 2⟩
def Fld.GRN_BPEER_ACTV : Fld := ⟨60, 1⟩
def Fld.GRN_BPEER_PEER : Fld := ⟨48, 12⟩
def Fld.GRN_BPEER_ACTING : Fld := ⟨32, 12⟩
def Fld.GRN_BPEER_LOADED : Fld := ⟨0, 24⟩
def Fld.TIM_CTL_FANEN : Fld := ⟨32, 1⟩
def Fld.TIM_CTL_SRCMOD : Fld := ⟨16, 12⟩
def Fld.TIM_CTL_DOMAIN : Fld := ⟨0, 8⟩
def Fld.TIM_STAT_STATE : Fld := ⟨62, 2⟩
def Fld.TIM_STAT_GM : Fld := ⟨61, 1⟩
def Fld.TIM_STAT_RUN : Fld := ⟨0, 5⟩
def Fld.TIM_SERVO_KPSH : Fld := ⟨48, 8⟩
def Fld.TIM_SERVO_KISH : Fld := ⟨40, 8⟩
def Fld.TIM_SERVO_GATE : Fld := ⟨16, 16⟩
def Fld.TIM_SERVO_LOCKTHR : Fld := ⟨0, 16⟩
def Fld.TIM_INT_SYNCLOG : Fld := ⟨48, 8⟩
def Fld.TIM_INT_PDLOG : Fld := ⟨40, 8⟩
def Fld.TIM_INT_HOLDTO : Fld := ⟨0, 32⟩
def Fld.TIM_EVT_GATE : Fld := ⟨4, 1⟩
def Fld.TIM_EVT_PDBAD : Fld := ⟨3, 1⟩
def Fld.TIM_EVT_STEP : Fld := ⟨2, 1⟩
def Fld.TIM_EVT_UNLOCK : Fld := ⟨1, 1⟩
def Fld.TIM_EVT_LOCK : Fld := ⟨0, 1⟩
def Fld.TEL_CSEL_ENABLE : Fld := ⟨63, 1⟩
def Fld.TEL_CSEL_OVFIE : Fld := ⟨62, 1⟩
def Fld.TEL_CSEL_TENANT : Fld := ⟨61, 1⟩
def Fld.TEL_CSEL_SLOT : Fld := ⟨55, 6⟩
def Fld.TEL_CSEL_EVENT : Fld := ⟨48, 7⟩
def Fld.TEL_CSEL_VCMASK : Fld := ⟨40, 8⟩
def Fld.TEL_CSEL_KIND : Fld := ⟨34, 6⟩
def Fld.TEL_CSEL_KINDANY : Fld := ⟨33, 1⟩
def Fld.TEL_CFLT_MASTER : Fld := ⟨44, 20⟩
def Fld.TEL_CFLT_MTYPE : Fld := ⟨42, 2⟩
def Fld.TEL_CFLT_ADDREN : Fld := ⟨40, 1⟩
def Fld.TEL_CFLT_RFIRST : Fld := ⟨26, 14⟩
def Fld.TEL_CFLT_RCOUNT : Fld := ⟨12, 14⟩
def Fld.TEL_TAG_CTL_ENABLE : Fld := ⟨63, 1⟩
def Fld.TEL_TAG_CTL_LOG2 : Fld := ⟨32, 5⟩
def Fld.TEL_TAG_CTL_SEED : Fld := ⟨0, 32⟩
def Fld.WCH_STATE_STATE : Fld := ⟨60, 4⟩
def Fld.WCH_STATE_PREV : Fld := ⟨56, 4⟩
def Fld.WCH_STATE_CAUSE : Fld := ⟨52, 4⟩
def Fld.WCH_STATE_CMDSTAT : Fld := ⟨48, 4⟩
def Fld.WCH_STATE_LAIDFLAG : Fld := ⟨47, 1⟩
def Fld.WCH_WDOG_WDMASK : Fld := ⟨32, 4⟩
def Fld.WCH_WDOG_KEY : Fld := ⟨16, 16⟩
def Fld.WCH_WDOG_PETTED : Fld := ⟨8, 4⟩
def Fld.WCH_WDOG_CORE : Fld := ⟨0, 2⟩
def Fld.WCH_THERM_TRIP : Fld := ⟨40, 8⟩
def Fld.WCH_THERM_THROTTLE : Fld := ⟨32, 8⟩
def Fld.WCH_THERM_HOT : Fld := ⟨24, 8⟩
def Fld.WCH_THERM_COOLHOT : Fld := ⟨16, 8⟩
def Fld.WCH_THERM_HYST : Fld := ⟨0, 8⟩
def Fld.WCH_THSTAT_HOT : Fld := ⟨48, 16⟩
def Fld.WCH_THSTAT_THROTTLE : Fld := ⟨32, 16⟩
def Fld.WCH_THSTAT_MAXT : Fld := ⟨8, 8⟩
def Fld.WCH_THSTAT_INLET : Fld := ⟨0, 8⟩
def Fld.WCH_EVT_WAKE : Fld := ⟨8, 1⟩
def Fld.WCH_EVT_THREJ : Fld := ⟨7, 1⟩
def Fld.WCH_EVT_EVLOGOVF : Fld := ⟨6, 1⟩
def Fld.WCH_EVT_WDOGWARN : Fld := ⟨5, 1⟩
def Fld.WCH_EVT_SUPPLY : Fld := ⟨4, 1⟩
def Fld.WCH_EVT_TRIPPED : Fld := ⟨3, 1⟩
def Fld.WCH_EVT_COOLHOT : Fld := ⟨2, 1⟩
def Fld.WCH_EVT_THROTTLE : Fld := ⟨1, 1⟩
def Fld.WCH_EVT_HOT : Fld := ⟨0, 1⟩
def Fld.WCH_EVLOG_TICK : Fld := ⟨20, 44⟩
def Fld.WCH_EVLOG_CLASS : Fld := ⟨16, 4⟩
def Fld.WCH_EVLOG_CANCELLED : Fld := ⟨15, 1⟩
def Fld.WCH_EVLOG_SOURCE : Fld := ⟨0, 10⟩
def Fld.BIC_SRC_ENABLE : Fld := ⟨63, 1⟩
def Fld.BIC_SRC_SENSE : Fld := ⟨60, 3⟩
def Fld.BIC_SRC_PRIO : Fld := ⟨56, 4⟩
def Fld.BIC_SRC_TARGET : Fld := ⟨54, 2⟩
def Fld.BIC_SRC_MODINT : Fld := ⟨32, 16⟩
def Fld.BIC_SRC_ACTIVE : Fld := ⟨1, 1⟩
def Fld.BIC_SRC_PENDING : Fld := ⟨0, 1⟩
def Fld.BIC_CORE_IDLE : Fld := ⟨63, 1⟩
def Fld.BIC_CORE_DEPTH : Fld := ⟨48, 5⟩
def Fld.BIC_CORE_CURPRI : Fld := ⟨44, 4⟩
def Fld.BIC_CORE_TOP : Fld := ⟨0, 10⟩
def Fld.MBX_STAT_FULL : Fld := ⟨63, 1⟩
def Fld.MBX_STAT_COLLIDE : Fld := ⟨62, 1⟩
def Fld.MBX_STAT_SENDER : Fld := ⟨48, 8⟩
def Fld.MBX_STAT_SESSION : Fld := ⟨32, 16⟩
def Fld.MBX_STAT_SEQ : Fld := ⟨0, 16⟩
def Fld.UZP_SESS_OPEN : Fld := ⟨63, 1⟩
def Fld.UZP_SESS_ROLE : Fld := ⟨62, 1⟩
def Fld.UZP_SESS_JOB : Fld := ⟨32, 12⟩
def Fld.UZP_SESS_SEQIN : Fld := ⟨0, 32⟩
def Fld.WCH_BOOT_READY : Fld := ⟨63, 1⟩
def Fld.WCH_BOOT_FAIL : Fld := ⟨62, 1⟩
def Fld.WCH_BOOT_FALLBACK : Fld := ⟨61, 1⟩
def Fld.WCH_BOOT_GENMISMATCH : Fld := ⟨60, 1⟩
def Fld.WCH_BOOT_SLOT : Fld := ⟨56, 1⟩
def Fld.WCH_BOOT_FAILSTEP : Fld := ⟨52, 4⟩
def Fld.WCH_BOOT_STEP : Fld := ⟨32, 4⟩
def Fld.WCH_BOOT_ELAPSED : Fld := ⟨0, 32⟩
def Fld.SEC_EVT_CONFREJ : Fld := ⟨8, 1⟩
def Fld.SEC_EVT_CROVF : Fld := ⟨7, 1⟩
def Fld.SEC_EVT_REFUSED : Fld := ⟨6, 1⟩
def Fld.SEC_EVT_DONE : Fld := ⟨5, 1⟩
def Fld.SEC_EVT_SCRUBDONE : Fld := ⟨4, 1⟩
def Fld.SEC_EVT_FENCELATE : Fld := ⟨3, 1⟩
def Fld.SEC_EVT_FENCED : Fld := ⟨2, 1⟩
def Fld.SEC_EVT_BKEY : Fld := ⟨1, 1⟩
def Fld.SEC_EVT_VERIFYFAIL : Fld := ⟨0, 1⟩
def Fld.SEC_VSTAT_OBJECT : Fld := ⟨60, 4⟩
def Fld.SEC_VSTAT_HSSOK : Fld := ⟨1, 1⟩
def Fld.SEC_VSTAT_ECDSAOK : Fld := ⟨0, 1⟩
def Fld.SEC_SLOT_CONF : Fld := ⟨63, 1⟩
def Fld.SEC_SLOT_STATE : Fld := ⟨61, 2⟩
def Fld.SEC_SLOT_FENCING : Fld := ⟨60, 1⟩
def Fld.SEC_SLOT_JOB : Fld := ⟨48, 12⟩
def Fld.SEC_SLOT_FENCEDROP : Fld := ⟨0, 32⟩
def Fld.SEC_SCR_CRING_TAG : Fld := ⟨48, 16⟩
def Fld.SEC_SCR_CRING_OP : Fld := ⟨44, 4⟩
def Fld.SEC_SCR_CRING_STATUS : Fld := ⟨40, 4⟩
def Fld.SEC_SCR_CRING_SLOT : Fld := ⟨32, 6⟩
def Fld.SEC_SCR_CRING_ZEROED : Fld := ⟨0, 32⟩
def Fld.WCH_ESC_ESCALATED : Fld := ⟨63, 1⟩
def Fld.WCH_ESC_TESTED : Fld := ⟨62, 1⟩
def Fld.WCH_ESC_AUTOADMIT : Fld := ⟨61, 1⟩
def Fld.WCH_ESC_PREDUMP : Fld := ⟨60, 1⟩
def Fld.WCH_ESC_COUNT : Fld := ⟨48, 4⟩
def Fld.WCH_ESC_DUMPSCOPE : Fld := ⟨40, 8⟩
def Fld.WCH_ESC_WINDOW : Fld := ⟨0, 8⟩
def Fld.WCH_LASTRST_DOMAIN : Fld := ⟨60, 4⟩
def Fld.WCH_LASTRST_CAUSE : Fld := ⟨56, 4⟩
def Fld.WCH_LASTRST_NEXT : Fld := ⟨52, 4⟩
def Fld.WCH_LASTRST_INCARN : Fld := ⟨32, 16⟩
def Fld.WCH_LASTRST_DURATION : Fld := ⟨0, 32⟩
def Fld.LFT_DMP_STAT_RUNNING : Fld := ⟨63, 1⟩
def Fld.LFT_DMP_STAT_STAGED : Fld := ⟨62, 1⟩
def Fld.LFT_DMP_STAT_DUMPID : Fld := ⟨32, 16⟩
def Fld.LFT_DMP_STAT_MIB : Fld := ⟨0, 32⟩
def Fld.LFT_DMP_CRING_TAG : Fld := ⟨48, 16⟩
def Fld.LFT_DMP_CRING_OP : Fld := ⟨44, 4⟩
def Fld.LFT_DMP_CRING_STATUS : Fld := ⟨40, 4⟩
def Fld.LFT_DMP_CRING_DUMPID : Fld := ⟨16, 16⟩
def Fld.LFT_DMP_CRING_UNRESP : Fld := ⟨0, 16⟩
def Fld.WCH_TSTREQ_TEST : Fld := ⟨60, 4⟩
def Fld.WCH_TSTREQ_UNITTYPE : Fld := ⟨56, 4⟩
def Fld.WCH_TSTREQ_DEPTH : Fld := ⟨52, 4⟩
def Fld.WCH_TSTREQ_MODE : Fld := ⟨48, 4⟩
def Fld.WCH_TSTREQ_UNIT : Fld := ⟨32, 16⟩
def Fld.WCH_TSTREQ_TAG : Fld := ⟨16, 16⟩
def Fld.WCH_TSTREQ_DURATION : Fld := ⟨0, 16⟩
def Fld.WCH_TSTRES_TAG : Fld := ⟨48, 16⟩
def Fld.WCH_TSTRES_TEST : Fld := ⟨44, 4⟩
def Fld.WCH_TSTRES_STATUS : Fld := ⟨40, 4⟩
def Fld.WCH_TSTRES_UNITTYPE : Fld := ⟨36, 4⟩
def Fld.WCH_TSTRES_DEPTH : Fld := ⟨32, 4⟩
def Fld.WCH_TSTRES_UNIT : Fld := ⟨16, 16⟩
def Fld.WCH_TSTRES_ERRORS : Fld := ⟨0, 16⟩
def Fld.WCH_MGCTL_ENABLE : Fld := ⟨63, 1⟩
def Fld.WCH_MGCTL_EYEMIN : Fld := ⟨32, 16⟩
def Fld.WCH_MGCTL_INTERVAL : Fld := ⟨0, 16⟩
def Fld.WCH_MG_VALID : Fld := ⟨63, 1⟩
def Fld.WCH_MG_LANE : Fld := ⟨48, 8⟩
def Fld.WCH_MG_EYEH : Fld := ⟨32, 16⟩
def Fld.WCH_MG_EYEW : Fld := ⟨16, 16⟩
def Fld.WCH_PIN_VIN : Fld := ⟨48, 16⟩
def Fld.WCH_PIN_IIN : Fld := ⟨32, 16⟩
def Fld.WCH_COOL_INLET : Fld := ⟨48, 16⟩
def Fld.WCH_COOL_OUTLET : Fld := ⟨32, 16⟩
def Fld.WCH_COOL_FLOW : Fld := ⟨0, 16⟩
def Fld.WCH_PWREVT_CAGEOC : Fld := ⟨4, 1⟩
def Fld.WCH_PWREVT_LOWFLOW : Fld := ⟨3, 1⟩
def Fld.WCH_PWREVT_LATCH : Fld := ⟨2, 1⟩
def Fld.WCH_PWREVT_PCAP : Fld := ⟨1, 1⟩
def Fld.WCH_PWREVT_VRANGE : Fld := ⟨0, 1⟩

/-- Every register of the module. -/
def allRegRows : List RegRow := watchRows ++ bosunRows ++ uzoleyRows ++ clusterRows ++ granaryRows ++ loftRows
  ++ svetnaRows ++ tableRows ++ timeRows ++ telemetryRows ++ securityRows

end Sys2Proof.Machine
end

