-- ==== Sys2Proof/Machine/Operands.lean ====
section
/-! DEFINITION. The operand forms: byte strings and numbers most significant byte first, the
frame header of R27 with its trailer (R46) and lengths (R44, R45), the fields of 64-byte
command-list entries and of table entries, the link control block (R56), and the command
packet (R410). -/

namespace Sys2Proof.Machine

/-! ### Bytes -/

/-- `n` bytes of `v`, most significant first. -/
def beBytes : Nat → Nat → List Byte
  | 0, _ => []
  | n + 1, v => beBytes n (v / 256) ++ [BitVec.ofNat 8 v]

/-- The number that a byte string spells, most significant byte first. -/
def beNat (l : List Byte) : Nat := l.foldl (fun a b => 256 * a + b.toNat) 0

/-- Bytes `i` to `i + n - 1` of a string, zero past its end. -/
def sliceBytes (l : List Byte) (i n : Nat) : List Byte :=
  (List.range n).map (fun k => l.getD (i + k) 0)

/-- The number in bytes `i` to `i + n - 1`. -/
def natAt (l : List Byte) (i n : Nat) : Nat := beNat (sliceBytes l i n)

/-- A payload padded to a multiple of 4 bytes (R44). -/
def pad4 (l : List Byte) : List Byte := l ++ List.replicate ((4 - l.length % 4) % 4) 0

/-- Every byte from `i` up to `j` is zero. -/
def zeroBytes (l : List Byte) (i j : Nat) : Bool := natAt l i (j - i) == 0

/-- Bits `hi` down to `lo` of a number. -/
def bitsOf (v hi lo : Nat) : Nat := v / 2 ^ lo % 2 ^ (hi + 1 - lo)

/-- A bit of a number. -/
def bitOf (v i : Nat) : Bool := v.testBit i

/-- A number as a signed one of `w` bits. -/
def toSigned (w v : Nat) : Int := if v % 2 ^ w < 2 ^ (w - 1) then (v % 2 ^ w : Nat) else (v % 2 ^ w : Nat) - (2 : Int) ^ w

/-- The two's complement of an integer in `w` bits. -/
def ofSigned (w : Nat) (i : Int) : Nat := (i % (2 : Int) ^ w).toNat

/-- `ceil(a ÷ b)`. -/
def ceilDiv (a b : Nat) : Nat := (a + b - 1) / b

/-! ### Cyclic redundancy checks -/

/-- One byte into a reflected CRC of polynomial `poly`. -/
def crcByte (poly c : Nat) (b : Byte) : Nat :=
  (List.range 8).foldl (fun c _ => if c % 2 = 1 then (c / 2) ^^^ poly else c / 2) (c ^^^ b.toNat)

/-- CRC-32C (R46). -/
def crc32c (l : List Byte) : Nat :=
  (l.foldl (crcByte 0x82F63B78) 0xFFFFFFFF) ^^^ 0xFFFFFFFF

/-! ### Frames -/

/-- The 64 header bytes of a frame as one number, byte 0 most significant (R27). -/
def frameHeader (f : Frame) : BitVec 512 :=
  (f.ver ++ f.kind ++ f.vc ++ f.flags ++ f.plen ++ f.job ++ f.dst ++ f.err ++ f.rsvA ++ f.src
    ++ f.hopseq ++ f.coll ++ f.round ++ f.subk ++ f.chunk ++ f.count ++ f.epochnum ++ f.addr
    ++ f.len ++ f.tag ++ f.opnd ++ f.sheaf ++ f.rsvB : BitVec (2 + 6 + 3 + 8 + 13 + 12 + 20 + 8
    + 4 + 20 + 32 + 16 + 16 + 8 + 24 + 32 + 32 + 64 + 32 + 32 + 64 + 16 + 48))

/-- Header bytes followed by the payload. -/
def frameBytes (f : Frame) : List Byte := beBytes 64 (frameHeader f).toNat ++ f.payload

/-- The trailer of a frame (R46). A received frame's is taken over every payload byte received, whatever PLEN says, so that
R50 can check CRC before LENGTH. (DEDUCED, log entry 130) -/
def frameCrc (f : Frame) : Nat := crc32c (frameBytes f)

/-- A frame's cells in a buffer (R45). -/
def frameCells (f : Frame) : Nat := ceilDiv (64 + f.plen.toNat) 128

/-- A frame's length on the wire, trailer included (R45). -/
def frameWire (f : Frame) : Nat := 68 + f.plen.toNat

def frameFence (f : Frame) : Bool := f.flags.getLsbD 7
def frameEpoch (f : Frame) : Bool := f.flags.getLsbD 6
def frameDstmod (f : Frame) : Bool := f.flags.getLsbD 5
def frameSrcmod (f : Frame) : Bool := f.flags.getLsbD 4
def frameSpanned (f : Frame) : Bool := f.flags.getLsbD 3
def framePoison (f : Frame) : Bool := f.flags.getLsbD 2

/-- FLAGS bits (R27). -/
def flFence : BitVec 8 := 0x80
def flEpoch : BitVec 8 := 0x40
def flDstmod : BitVec 8 := 0x20
def flSrcmod : BitVec 8 := 0x10
def flSpanned : BitVec 8 := 0x08
def flPoison : BitVec 8 := 0x04

/-- KIND values (R33). -/
def kData : BitVec 6 := 0x01
def kAck : BitVec 6 := 0x02
def kRdReq : BitVec 6 := 0x04
def kWrReq : BitVec 6 := 0x05
def kAtReq : BitVec 6 := 0x06
def kReply : BitVec 6 := 0x07
def kContrib : BitVec 6 := 0x08
def kResult : BitVec 6 := 0x09
def kCommit : BitVec 6 := 0x0A
def kState : BitVec 6 := 0x0C
def kStateAck : BitVec 6 := 0x0D
def kTime : BitVec 6 := 0x10
def kMgmt : BitVec 6 := 0x11
def kScrub : BitVec 6 := 0x18
def kTest : BitVec 6 := 0x19

/-- The VC of a KIND; none for a reserved KIND (R33). -/
def kindVc (k : BitVec 6) : Option (BitVec 3) :=
  if k = kTime ∨ k = kMgmt then some 0
  else if k = kRdReq ∨ k = kWrReq ∨ k = kAtReq then some 1
  else if k = kAck ∨ k = kReply ∨ k = kStateAck then some 2
  else if k = kContrib then some 3
  else if k = kResult ∨ k = kCommit then some 4
  else if k = kData then some 5
  else if k = kState then some 6
  else if k = kScrub ∨ k = kTest then some 7
  else none

/-- A memory-semantic request. -/
def isRequest (f : Frame) : Bool := f.kind = kRdReq || f.kind = kWrReq || f.kind = kAtReq

/-- ADDR fields (R48). -/
def addrHome (a : Word) : BitVec 12 := a.extractLsb' 41 12
def addrRegion (a : Word) : Nat := (a.extractLsb' 27 14).toNat
def addrOffset (a : Word) : Nat := (a.extractLsb' 0 27).toNat
def addrTop (a : Word) : Nat := (a.extractLsb' 53 11).toNat

/-- The 64-bit words of a frame's header, first byte in bits [63:56] (R51). -/
def headerWord (f : Frame) (i : Nat) : Word := (frameHeader f).extractLsb' (448 - 64 * i) 64

/-! ### Command-list entries -/

/-- Bytes `i` to `i + n - 1` of an entry as a number. -/
def entryNat (e : Entry) (i n : Nat) : Nat := e.toNat / 2 ^ (8 * (64 - i - n)) % 2 ^ (8 * n)

/-- An entry's OP byte. -/
def entryOp (e : Entry) : Nat := entryNat e 0 1

/-- The 64 bytes of an entry as an `Entry`. -/
def entryOfBytes (l : List Byte) : Entry := BitVec.ofNat 512 (natAt l 0 64)

/-! ### Table entries -/

/-- TBL_DATA word `i` of a table entry's bits. -/
def tblWord (d : BitVec 512) (i : Nat) : Word := d.extractLsb' (448 - 64 * i) 64

/-- Bits `hi` down to `lo` of TBL_DATA word `i`. -/
def tblBits (d : BitVec 512) (i hi lo : Nat) : Nat := bitsOf (tblWord d i).toNat hi lo

/-- Table entry bits from the eight TBL_DATA words. -/
def tblOfWords (w : Nat → Word) : BitVec 512 :=
  (w 0 ++ w 1 ++ w 2 ++ w 3 ++ w 4 ++ w 5 ++ w 6 ++ w 7 : BitVec (64 + 64 + 64 + 64 + 64 + 64 + 64 + 64))

/-! ### Sources and ports -/

/-- A source's place in the order of R22. -/
def sourceIndex : Source → Nat
  | .uzA s => s.val
  | .uzB s => 8 + s.val
  | .bosun b => 16 + b.val

/-- The Uzoley port and session slot of a source. -/
def sourceSession : Source → Option (Nat × Nat)
  | .uzA s => some (0, s.val)
  | .uzB s => some (1, s.val)
  | .bosun _ => none

/-- The source that session slot `s` of port `k` is. -/
def sessionSource (k : Fin 2) (s : Fin 8) : Source := if k.val = 0 then .uzA s else .uzB s

/-- A span port (PIN of R146 from 512). -/
def isSpan (port : Nat) : Bool := decide (512 ≤ port)

/-- The key of VC `v` of a port. -/
def pv (port v : Nat) : Nat := 8 * port + v

end Sys2Proof.Machine
end

