-- ==== Sys2Proof/Machine/Ops.lean ====
section
/-! DEFINITION. The named operations every meaning is written over: register fields and
counters, events and the event log (R382 to R384), fault records (R451 to R453), completion
rings (R117), engine queues (R18 to R21), sessions and packets (R410 to R417), free values. -/

namespace Sys2Proof.Machine

/-- The outcome of a command. -/
abbrev Out := Host.Outcome State Fault Refusal

/-! ### Updates of one group of the state -/

def State.onClock (s : State) (f : Clock → Clock) : State := { s with clock := f s.clock }
def State.onPort (s : State) (f : Ports → Ports) : State := { s with port := f s.port }
def State.onSw (s : State) (f : Switch → Switch) : State := { s with sw := f s.sw }
def State.onTbl (s : State) (f : Tables → Tables) : State := { s with tbl := f s.tbl }
def State.onEng (s : State) (f : Engines → Engines) : State := { s with eng := f s.eng }
def State.onRed (s : State) (f : Reduction → Reduction) : State := { s with red := f s.red }
def State.onMill (s : State) (f : Mill → Mill) : State := { s with mill := f s.mill }
def State.onGrn (s : State) (f : Granary → Granary) : State := { s with grn := f s.grn }
def State.onMa (s : State) (f : Access → Access) : State := { s with ma := f s.ma }
def State.onTele (s : State) (f : Tele → Tele) : State := { s with tele := f s.tele }
def State.onUz (s : State) (f : Uzoley → Uzoley) : State := { s with uz := f s.uz }
def State.onWatch (s : State) (f : Watch → Watch) : State := { s with watch := f s.watch }
def State.onBic (s : State) (f : Bic → Bic) : State := { s with bic := f s.bic }
def State.onSec (s : State) (f : Sec → Sec) : State := { s with sec := f s.sec }
def State.onTest (s : State) (f : Tests → Tests) : State := { s with test := f s.test }

/-! ### Register fields -/

/-- A field's value in a word. -/
def Fld.get (f : Fld) (w : Word) : Nat := w.toNat / 2 ^ f.lo % 2 ^ f.width

/-- A word that holds `v` in the field and zero elsewhere. -/
def Fld.word (f : Fld) (v : Nat) : Word := BitVec.ofNat 64 (v % 2 ^ f.width * 2 ^ f.lo)

/-- A word with the field set to `v`. -/
def Fld.put (f : Fld) (v : Nat) (w : Word) : Word :=
  (w &&& ~~~ (f.word (2 ^ f.width - 1))) ||| f.word v

/-- A word packed from fields. -/
def pack (l : List (Fld × Nat)) : Word := l.foldl (fun w p => w ||| p.1.word p.2) 0

/-- A truth value as a bit. -/
def b2n (b : Bool) : Nat := if b then 1 else 0

/-! ### The register file -/

/-- What a register holds. (DESIGN CHOICE, log entry 22) -/
def State.reg (s : State) (k : Nat) : Word :=
  match SMap.get none s.regs k with
  | some v => v
  | none => regReset k

/-- Store a register's value; its reset value removes the entry. (DESIGN CHOICE, log entry 22) -/
def State.setReg (s : State) (k : Nat) (v : Word) : State :=
  { s with regs := SMap.put none s.regs k (if v = regReset k then none else some v) }

/-- A field of a register. -/
def State.fld (s : State) (k : Nat) (f : Fld) : Nat := f.get (s.reg k)

/-- Set a field of a register. -/
def State.setFld (s : State) (k : Nat) (f : Fld) (v : Nat) : State := s.setReg k (f.put v (s.reg k))

/-- A one-bit field is 1. -/
def State.flag (s : State) (k : Nat) (f : Fld) : Bool := s.fld k f == 1

/-- Set bits of a register. -/
def State.setBits (s : State) (k : Nat) (m : Word) : State := s.setReg k (s.reg k ||| m)

/-- Add to a 48-bit counter that saturates. -/
def State.bump (s : State) (k : Nat) (n : Nat) : State :=
  s.setReg k (BitVec.ofNat 64 (min ((s.reg k).toNat + n) 0xFFFFFFFFFFFF))

/-- A copy of a banked register that belongs to one source (R503). -/
def banked (src : Source) (off : Nat) : Nat := off + (sourceIndex src + 1) * 0x100000000

/-! ### Outputs and free values -/

/-- Put something on the record of what leaves the module. (DESIGN CHOICE, log entry 3) -/
def State.emit (s : State) (e : Emission) : State := { s with out := e :: s.out }

/-- A free value, and the state that has used it. (DESIGN CHOICE, log entry 2) -/
def State.free (s : State) : Word × State := (Config.freeValue s.freeCtr, { s with freeCtr := s.freeCtr + 1 })

/-! ### Time -/

/-- Event ticks of 40 ns in `n` microseconds. -/
def usTicks (n : Nat) : Nat := 25 * n

/-- Event ticks in `n` milliseconds. -/
def msTicks (n : Nat) : Nat := 25000 * n

/-- Event ticks in `n` seconds. -/
def secTicks (n : Nat) : Nat := 25000000 * n

/-- Event ticks that cover `n` nanoseconds. -/
def nsTicks (n : Nat) : Nat := ceilDiv n 40

/-- At least `d` ticks have passed since tick `t`. (DEDUCED, log entry 6; DESIGN CHOICE, log entry 126) -/
def State.since (s : State) (t d : Nat) : Bool := decide (t + d ≤ s.tick)

/-- Fabric time in ns, and in the 0.5 ns units of TIM_NOW. -/
def State.nowNs (s : State) : Nat := (s.clock.fine / 2 ^ 36).toNat
def State.nowHalf (s : State) : Nat := (s.clock.fine / 2 ^ 35).toNat % 2 ^ 64

/-! ### Module state -/

def stWatch : Nat := 1
def stStandby : Nat := 2
def stService : Nat := 3
def stDraining : Nat := 4
def stLaidUp : Nat := 5

/-- WCH_STATE.STATE (R385). (DEDUCED, log entry 120) -/
def State.mode (s : State) : Nat := s.fld Reg.WCH_STATE Fld.WCH_STATE_STATE

/-- Site and span ports carry tenant traffic (R23). (DEDUCED, log entry 86) -/
def State.carries (s : State) : Bool := s.mode == stService || s.mode == stDraining

/-- The module is above WATCH, so register writes and command packets reach it (R388). (DEDUCED, log entry 120) -/
def State.awake (s : State) : Bool := decide (stWatch < s.mode)

/-- The module's own number (R11). -/
def State.modnum (s : State) : BitVec 12 := s.watch.record.modnum

/-! ### Events (R382 to R384) -/

/-- A log record stands before a record of the same tick that comes later in R382. -/
def logLater (a b : Word) : Bool :=
  Fld.WCH_EVLOG_TICK.get a == Fld.WCH_EVLOG_TICK.get b
    && (decide (Fld.WCH_EVLOG_CLASS.get b < Fld.WCH_EVLOG_CLASS.get a)
      || (Fld.WCH_EVLOG_CLASS.get a == Fld.WCH_EVLOG_CLASS.get b
        && decide (Fld.WCH_EVLOG_SOURCE.get b < Fld.WCH_EVLOG_SOURCE.get a)))

/-- The record at place `h` of the log moves before those of its tick that come later in R382, over at most `n` places. -/
def State.slideLog : Nat → Nat → State → State
  | 0, _, s => s
  | n + 1, h, s =>
    let p := (h + 4095) % 4096
    let a := s.reg (Reg.WCH_EVLOG p)
    let b := s.reg (Reg.WCH_EVLOG h)
    if logLater a b then ((s.setReg (Reg.WCH_EVLOG h) a).setReg (Reg.WCH_EVLOG p) b).slideLog n p else s

/-- Write a log record at place `h`, in the order of R382 among those of its tick (R384). -/
def State.logRecord (s : State) (h : Nat) (w : Word) : State :=
  { s with regs := ((s.setReg (Reg.WCH_EVLOG h) w).slideLog 4095 h).regs }

/-- Count an event of class `cls` from interrupt source `src` and write its log record.
(DEDUCED, log entries 25, 26, 27) -/
def State.logEvent (s : State) (cls src : Nat) (cancelled : Bool) : State :=
  let h := s.fld Reg.WCH_EVHEAD ⟨0, 12⟩
  let s := s.bump (Reg.WCH_EVCNT cls) 1
  let s := s.logRecord h (pack [(Fld.WCH_EVLOG_TICK, s.tick), (Fld.WCH_EVLOG_CLASS, cls),
    (Fld.WCH_EVLOG_CANCELLED, b2n cancelled), (Fld.WCH_EVLOG_SOURCE, src)])
  let s := s.setReg Reg.WCH_EVHEAD (BitVec.ofNat 64 ((h + 1) % 4096))
  if s.watch.evUnread < 4096 then s.onWatch (fun w => { w with evUnread := w.evUnread + 1 })
  else s.setBits Reg.WCH_EVT (Fld.WCH_EVT_EVLOGOVF.word 1)

/-- Another command of this event tick is one that `p` names: a tick passes only on an empty queue, so every command that
waits falls in it. (DESIGN CHOICE, log entry 133) -/
def State.alsoNow (s : State) (p : Instr → Bool) : Bool := s.pending.any p

/-- Units that a reset or a loss of power takes: every rail outside Watch, the datapath by a trip, the datapath by a reset, a
cluster, a Granary channel, a Mill core. -/
def cutSupply : Nat := 0
def cutTrip : Nat := 1
def cutModule : Nat := 2
def cutCluster (n : Nat) : Nat := 3 + n
def cutChannel (j : Nat) : Nat := 19 + j
def cutCore (n c : Nat) : Nat := 100 + 96 * n + c

/-- A reset or a loss of power takes a unit. -/
def State.cut (s : State) (u : Nat) : State := s.onWatch (fun w => { w with cutAt := SMap.put 0 w.cutAt u (s.tick + 1) })

/-- It was taken in this event tick. -/
def State.isCut (s : State) (u : Nat) : Bool := SMap.get 0 s.watch.cutAt u == s.tick + 1

/-- The datapath was taken in this event tick: later events on its units are logged and not carried out (R383). -/
def State.pathCut (s : State) : Bool := s.isCut cutSupply || s.isCut cutTrip || s.isCut cutModule

/-- Set one bit of an event register and log the event. (DEDUCED, log entry 25) -/
def State.raise (s : State) (k bit cls src : Nat) : State :=
  (s.setBits k (BitVec.ofNat 64 (2 ^ bit))).logEvent cls src false

/-- Interrupt sources (R393). -/
def srcPort (n : Nat) : Nat := 16 * n
def srcEgress (n : Nat) : Nat := 16 * n + 1
def srcReduction (n : Nat) : Nat := 16 * n + 2
def srcDispatch (n : Nat) : Nat := 16 * n + 3
def srcGranary (j : Nat) : Nat := 256 + j
def srcAccess : Nat := 272
def srcLoft : Nat := 273
def srcCrow : Nat := 274
def srcSvetna : Nat := 275
def srcTable : Nat := 276
def srcTime : Nat := 277
def srcTele : Nat := 278
def srcDump : Nat := 279
def srcScrub : Nat := 280
def srcWatch : Nat := 281
def srcUzoley : Nat := 282
def srcSecurity : Nat := 283
def srcDoorbell (m : Nat) : Nat := 512 + m
def srcBic : Nat := 576

/-- A Watch event of class `cls` (R382). (DEDUCED, log entry 25) -/
def State.raiseWatch (s : State) (bit cls : Nat) : State := s.raise Reg.WCH_EVT bit cls srcWatch

/-! ### Sessions and packets -/

/-- Session slot `i` of Uzoley port `k`. -/
def State.session (s : State) (k i : Nat) : Session := SMap.get {} s.uz.sessions (8 * k + i)

def State.setSession (s : State) (k i : Nat) (x : Session) : State :=
  s.onUz (fun u => { u with sessions := SMap.put {} u.sessions (8 * k + i) x })

/-- An open OPERATOR session. -/
def Session.operator (x : Session) : Bool := x.opened && !x.tenant

/-- Close a session: its bulk handles are freed, its quotes that wait are dropped and UZP_EVT.CLOSED is set
(R417, R421). -/
def State.closeSession (s : State) (k i : Nat) : State :=
  if (s.session k i).opened then
    let s := s.setSession k i {}
    let s := s.onUz (fun u => { u with bulk := u.bulk.filter (fun p => !(p.2.held && p.2.owner == 8 * k + i)) })
    let s := s.onSec (fun x => { x with quoteQ := x.quoteQ.filter (fun q => q.1 != 8 * k + i) })
    s.raise (Reg.UZP_EVT k) 3 11 srcUzoley
  else s

/-- Send a packet of an open session: its SEQ rises by 1 and the packet is counted; a session
closes after 2^32 packets in one direction (R415, R416). -/
def State.sendPacket (s : State) (k i : Nat) (p : Packet) : State :=
  let x := s.session k i
  if x.opened then
    let p := { p with session := BitVec.ofNat 16 (i + 1), seq := x.seqOut + 1 }
    let s := s.setSession k i { x with seqOut := x.seqOut + 1 }
    let s := (s.emit (.packet k p)).bump (Reg.UZP_CNT k 1) 1
    if x.seqOut.toNat + 1 ≥ 2 ^ 32 then s.closeSession k i else s
  else s

/-- Port and slot of every session, in the order of R22. -/
def allSessions : List (Nat × Nat) :=
  (List.range 16).map (fun n => (n / 8, n % 8))

/-- Send a packet to every open OPERATOR session. -/
def State.pushOperators (s : State) (p : Packet) : State :=
  allSessions.foldl (fun s ki =>
    if (s.session ki.1 ki.2).operator then s.sendPacket ki.1 ki.2 p else s) s

/-! ### Fault records -/

/-- UNITTYPE codes (R452). -/
def utModule : Nat := 0
def utSite : Nat := 1
def utSpan : Nat := 2
def utCore : Nat := 3
def utCluster : Nat := 4
/-- DEDUCED, log entry 69. -/
def utRound : Nat := 5
def utGranary : Nat := 6
def utLoft : Nat := 7
def utSvetna : Nat := 8
def utTables : Nat := 9
def utBosun : Nat := 10
def utUzoley : Nat := 11
def utSecurity : Nat := 12
def utDump : Nat := 13
def utTime : Nat := 14
def utScore : Nat := 15

/-- A fault record's fields before it is written (R452). -/
structure FaultInfo where
  cls : Nat := 11
  unitType : Nat
  unit : Nat := 0
  register : Nat := 0
  cause : Nat := 0
  action : Nat := 0
  flags : Nat := 0
  detail : Word := 0
  slot : Nat := 0xFF
  deriving DecidableEq, Repr

/-- Write a fault record to the ring and push it to every open OPERATOR session (R451), at
most one per 1 ms for each unit, register and cause (R453). (DEDUCED, log entries 27 and 117) -/
def State.faultRecord (s : State) (r : FaultInfo) : State :=
  let key := ((r.unitType * 65536 + r.unit) * 256 + r.register) * 256 + r.cause
  let q := SMap.get {} s.watch.frKeys key
  if q.seen && !s.since q.lastAt (msTicks 1) then
    s.onWatch (fun w => { w with frKeys := SMap.put {} w.frKeys key { q with withheld := q.withheld + 1 } })
  else
    let h := s.fld Reg.WCH_FRHEAD ⟨0, 10⟩
    let w0 := beBytes 1 r.cls ++ beBytes 1 r.unitType ++ beBytes 2 r.unit ++ beBytes 1 r.register
      ++ beBytes 1 r.cause ++ beBytes 1 r.action ++ beBytes 1 r.flags
    let w1 := beBytes 8 s.tick
    let w2 := beBytes 8 r.detail.toNat
    let w3 := beBytes 4 s.watch.frSeq.toNat ++ beBytes 1 r.slot ++ beBytes 3 q.withheld
    let put := fun (s : State) (i : Nat) (w : List Byte) =>
      s.setReg (Reg.WCH_FR h i) (BitVec.ofNat 64 (beNat w))
    let s := put (put (put (put s 0 w0) 1 w1) 2 w2) 3 w3
    let s := s.setReg Reg.WCH_FRHEAD (BitVec.ofNat 64 ((h + 1) % 1024))
    let full := s.watch.frUnread == 1024
    let s := if full then s.bump Reg.WCH_FRLOST 1 else s
    let s := s.onWatch (fun w => { w with
      frSeq := w.frSeq + 1
      frUnread := if full then 1024 else w.frUnread + 1
      frKeys := SMap.put {} w.frKeys key { lastAt := s.tick, withheld := 0, seen := true } })
    s.pushOperators { kind := 0x93, plen := 32, payload := w0 ++ w1 ++ w2 ++ w3 }

/-- Add to the failure-score input of unit `u` for the second in progress (R473). (DEDUCED, log entry 116) -/
def State.score (s : State) (u w : Nat) : State :=
  s.onWatch (fun x => { x with scoreIn := SMap.put 0 x.scoreIn u (SMap.get 0 x.scoreIn u + w) })

/-! ### Completion rings (R117) -/

/-- A ring's registers: head, tail, first record, event register with its DONE, REFUSED and
CROVF bits, and interrupt source. -/
structure RingRegs where
  head : Nat
  tail : Nat
  records : Nat
  evt : Nat
  done : Nat
  refused : Nat
  crovf : Nat
  src : Nat
  deriving DecidableEq, Repr

/-- The registers of a completion ring. The test ring's event register raises no interrupt
source (R477), and its REFUSED bit stands for FAILED. -/
def ringRegs : Ring → RingRegs
  | .svb => ⟨Reg.SVB_CRHEAD, Reg.SVB_CRTAIL, Reg.SVB_CRING 0, Reg.SVB_EVT, 0, 1, 3, srcSvetna⟩
  | .tbl => ⟨Reg.TBL_CRHEAD, Reg.TBL_CRTAIL, Reg.TBL_CRING 0, Reg.TBL_EVT, 0, 1, 2, srcTable⟩
  | .dsp n => ⟨Reg.DSP_CRHEAD n, Reg.DSP_CRTAIL n, Reg.DSP_CRING n 0, Reg.DSP_EVT n, 0, 1, 2, srcDispatch n⟩
  | .grn j => ⟨Reg.GRN_CRHEAD j, Reg.GRN_CRTAIL j, Reg.GRN_CRING j 0, Reg.GRN_EVT j, 0, 1, 2, srcGranary j⟩
  | .scr => ⟨Reg.SEC_SCR_CRHEAD, Reg.SEC_SCR_CRTAIL, Reg.SEC_SCR_CRING 0, Reg.SEC_EVT, 5, 6, 7, srcScrub⟩
  | .dmp => ⟨Reg.LFT_DMP_CRHEAD, Reg.LFT_DMP_CRTAIL, Reg.LFT_DMP_CRING 0, Reg.LFT_DMP_EVT, 0, 1, 2, srcDump⟩
  | .tst => ⟨Reg.WCH_TSTHEAD, Reg.WCH_TSTTAIL, Reg.WCH_TSTRES 0, Reg.WCH_TSTEVT, 0, 1, 2, 0⟩

/-- Set an event bit of a ring; the test ring's events are not sampled. -/
def State.ringEvent (s : State) (r : RingRegs) (bit : Nat) : State :=
  if r.src = 0 then s.setBits r.evt (BitVec.ofNat 64 (2 ^ bit)) else s.raise r.evt bit 11 r.src

/-- Unread records of a ring. -/
def State.ringUnread (s : State) (r : RingRegs) : Nat :=
  (s.fld r.head ⟨0, 8⟩ + 256 - s.fld r.tail ⟨0, 8⟩) % 256

/-- Write a completion record: DONE is set, and REFUSED for a refusal; a full ring gives up
its oldest record and sets CROVF. -/
def State.ringWrite (s : State) (ring : Ring) (w : Word) (refused : Bool) : State :=
  let r := ringRegs ring
  let h := s.fld r.head ⟨0, 8⟩
  let full := s.ringUnread r == 255
  let s := s.setReg (r.records + 8 * h) w
  let s := s.setReg r.head (BitVec.ofNat 64 ((h + 1) % 256))
  let s := if full then
    (s.setReg r.tail (BitVec.ofNat 64 ((s.fld r.tail ⟨0, 8⟩ + 1) % 256))).ringEvent r r.crovf else s
  let s := s.ringEvent r r.done
  if refused then s.ringEvent r r.refused else s

/-- A write of CRTAIL: an index outside the range from CRTAIL to CRHEAD has no effect. -/
def State.ringTail (s : State) (ring : Ring) (i : Nat) : State :=
  let r := ringRegs ring
  if (i % 256 + 256 - s.fld r.tail ⟨0, 8⟩) % 256 ≤ s.ringUnread r then
    s.setReg r.tail (BitVec.ofNat 64 (i % 256)) else s

/-! ### Engine queues (R18 to R21, R464) -/

/-- ENGINE values of R420. -/
def engDsp (n : Nat) : Nat := n
def engGrn (j : Nat) : Nat := 0x10 + j
def engTable : Nat := 0x20
def engBypass : Nat := 0x21
def engScrub : Nat := 0x22
def engDump : Nat := 0x23

/-- The control register of queue `q` of an engine; bit 0 is HALT. -/
def queueCtl (eng q : Nat) : Nat :=
  if eng < 0x10 then Reg.DSP_QCTL eng q
  else if eng < 0x20 then Reg.GRN_QCTL (eng - 0x10) q
  else if eng = engTable then Reg.TBL_QSTAT q
  else if eng = engBypass then Reg.SVB_QCTL q
  else if eng = engScrub then Reg.SEC_SCR_QCTL q
  else Reg.LFT_DMP_QCTL q

/-- The entries waiting in a queue, oldest first. -/
def State.queue (s : State) (eng q : Nat) : List Entry := SMap.get [] s.eng.queued (8 * eng + q)

def State.setQueue (s : State) (eng q : Nat) (l : List Entry) : State :=
  s.onEng (fun x => { x with queued := SMap.put [] x.queued (8 * eng + q) l })

/-- 1 while an engine is under DRAIN, 2 while it is under FORCE. -/
def State.hold (s : State) (eng : Nat) : Nat := SMap.get 0 s.eng.hold eng

def State.setHold (s : State) (eng v : Nat) : State :=
  s.onEng (fun x => { x with hold := SMap.put 0 x.hold eng v })

/-- Queues from Q7 down to Q0. -/
def queuesDown : List Nat := [7, 6, 5, 4, 3, 2, 1, 0]

/-- The queue an engine takes from next: the highest that is non-empty and not halted (R19),
none while the engine is under DRAIN or FORCE (R464). -/
def State.nextQueue (s : State) (eng : Nat) : Option Nat :=
  if s.hold eng ≠ 0 then none
  else queuesDown.find? (fun q => !(s.queue eng q).isEmpty && !(s.reg (queueCtl eng q)).getLsbD 0)

/-- The entry an engine takes next. -/
def State.nextEntry (s : State) (eng : Nat) : Option (Nat × Entry) :=
  match s.nextQueue eng with
  | none => none
  | some q => match s.queue eng q with
    | [] => none
    | e :: _ => some (q, e)

/-- Take the head of a queue. -/
def State.popQueue (s : State) (eng q : Nat) : State := s.setQueue eng q (s.queue eng q).tail

/-- Every waiting entry of an engine in the order it would be taken (R464). -/
def State.waitingEntries (s : State) (eng : Nat) : List Entry :=
  queuesDown.flatMap (fun q => s.queue eng q)

/-- Empty every queue of an engine. -/
def State.clearQueues (s : State) (eng : Nat) : State :=
  queuesDown.foldl (fun s q => s.setQueue eng q []) s

/-- A forced disable is counted in WCH_FDCNT and recorded (R466). (DEDUCED, log entry 117) -/
def State.forcedDisable (s : State) (eng cause : Nat) : State :=
  (s.bump (Reg.WCH_FDCNT cause) 1).faultRecord
    { unitType := utModule, register := 3, cause := cause, action := 5, detail := BitVec.ofNat 64 eng }

/-! ### Access by sources -/

/-- Writes of a source reach the module: it is out of WATCH; a session is an open OPERATOR
session (R413), a Bosun core is powered (R380). (DEDUCED, log entry 120) -/
def State.mayWrite (s : State) (src : Source) : Bool :=
  s.awake && match sourceSession src with
    | some (k, i) => (s.session k i).operator
    | none => (s.reg Reg.WCH_BOSPWR).getLsbD (sourceIndex src - 16)

/-- Reads of a source reach the module: as a write, but a TENANT session may read (R413).
(DEDUCED, log entry 120) -/
def State.mayRead (s : State) (src : Source) : Bool :=
  s.awake && match sourceSession src with
    | some (k, i) => (s.session k i).opened
    | none => (s.reg Reg.WCH_BOSPWR).getLsbD (sourceIndex src - 16)

/-- The source is a TENANT session (R413). -/
def State.tenantSource (s : State) (src : Source) : Bool :=
  match sourceSession src with
  | some (k, i) => (s.session k i).tenant
  | none => false

/-- The answer to a register access. -/
def State.answer (s : State) (v : Word) (status : Nat) : State :=
  { s with
    readData := v
    accessStatus := status }

/-! ### Interrupt edges (R394, R397) -/

/-- How a source is sensed; a reserved value is taken as 0. -/
def State.sense (s : State) (i : Nat) : Nat :=
  let v := s.fld (Reg.BIC_SRC i) Fld.BIC_SRC_SENSE
  if 4 < v then 0 else v

/-- An edge of a source's line: an edge source becomes pending, or while it is ACTIVE and pending the edge is
merged and counted. -/
def State.lineEdge (s : State) (i : Nat) (rising : Bool) : State :=
  let k := s.sense i
  if k = 4 ∨ k = (if rising then 2 else 3) then
    if SMap.get false s.bic.active i && SMap.get false s.bic.edges i then s.bump Reg.BIC_COAL 1
    else s.onBic (fun b => { b with edges := SMap.put false b.edges i true })
  else s

/-- One pulse of a source's line. -/
def State.linePulse (s : State) (i : Nat) : State := (s.lineEdge i true).lineEdge i false

/-! ### Fixed-point results -/

/-- `a ÷ d`, one of the two nearest integers: which is open. (DESIGN CHOICE, log entry 17) -/
def divOpen (a : Int) (d : Nat) : Int := a / d + (if a % d = 0 then 0 else if Config.roundsUp a d then 1 else 0)

/-! ### Lists -/

/-- Drop the element at place `i`. -/
def dropAt {α : Type} (l : List α) (i : Nat) : List α := l.take i ++ l.drop (i + 1)

/-- Replace the element at place `i`. -/
def putAt {α : Type} (l : List α) (i : Nat) (x : α) : List α :=
  l.take i ++ (match l.drop i with
    | [] => []
    | _ :: r => x :: r)

/-- Insert into a list ordered by `key`, after elements of the same key. -/
def insertBy {α : Type} (key : α → Nat) (x : α) : List α → List α
  | [] => [x]
  | y :: l => if key x < key y then x :: y :: l else y :: insertBy key x l

/-- A list in ascending order of `key`; elements of one key keep their order. -/
def sortBy {α : Type} (key : α → Nat) (l : List α) : List α := l.foldl (fun a x => insertBy key x a) []

/-! ### Periodic boundaries of fabric time -/

/-- The next boundary of period `d` ns under key `k` that has not been taken. -/
def State.nextBound (s : State) (k d : Nat) : Nat :=
  let last := match s.clock.bounds.find? (fun p => p.1 = k) with
    | some p => p.2
    | none => s.clock.base
  (last / d + 1) * d

/-- That boundary has come. -/
def State.boundDue (s : State) (k d : Nat) : Bool := decide (s.nextBound k d ≤ s.nowNs)

/-- Take it. -/
def State.takeBound (s : State) (k d : Nat) : State :=
  let t := s.nextBound k d
  s.onClock (fun c => { c with bounds := SMap.put 0 c.bounds k t })

/-- Keys of the periodic boundaries: shaper refill, power window, tenant window, bandwidth
window, snapshot, and the queue sample of cluster `n`. -/
def bkRefill : Nat := 0
def bkPower : Nat := 1
def bkTenant : Nat := 2
def bkBandwidth : Nat := 3
def bkSnap : Nat := 4
def bkSample (n : Nat) : Nat := 16 + n

/-- Keep the ticks of a window that ends now and add the present one. -/
def State.window (s : State) (l : List Nat) (d : Nat) : List Nat :=
  s.tick :: l.filter (fun t => decide (s.tick < t + d))

/-! ### Units under test (R477 to R481) -/

/-- DEPTH of a test request. -/
def tqDepth (w : Word) : Nat := Fld.WCH_TSTREQ_DEPTH.get w

/-- The depths at which the line side is idle and the port leaves UP (R481). (DEDUCED, log entry 113) -/
def leavesUp : TestUnit → Nat → Bool
  | .site _, d => decide (d ≤ 3)
  | .span _, d => decide (d ≤ 3)
  | .uzoley _, d => d == 2
  | _, _ => false

/-- The port of a unit, numbered as PIN of R146. -/
def unitPort : TestUnit → Option Nat
  | .site p => some p.val
  | .span x => some (512 + x.val)
  | _ => none

end Sys2Proof.Machine
end

