-- ==== Sys2Proof/Machine/Mailbox.lean ====
section
/-! DEFINITION. Mailboxes (R400 to R405), and the power of the Bosun cores (R380), which a send may switch on. -/

namespace Sys2Proof.Machine

/-- Sender codes (R401), which are also the bits of ALLOW. -/
def snUzoleyA : Nat := 0
def snUzoleyB : Nat := 1
def snBosun : Nat := 2
def snDispatcher : Nat := 3
def snSecurity : Nat := 4

/-- What MBX_SENDSTAT reads after a send. -/
def msOk : Nat := 0
def msNotallowed : Nat := 1
def msCollide : Nat := 2

/-- ARG of a packet from its bytes, byte 0 first. -/
def packetArg (l : List Byte) : BitVec 224 := BitVec.ofNat 224 (natAt l 0 28)

/-- The session slot that receives mailbox `m`, when its receiver is one (R405). (DEDUCED, log entry 107) -/
def State.mbxReceiver (s : State) (m : Nat) : Option (Nat × Nat) :=
  let r := s.fld (Reg.MBX_CFG m) ⟨61, 3⟩
  let n := max 1 (s.fld (Reg.MBX_CFG m) ⟨56, 4⟩)
  if (r = 5 ∨ r = 6) ∧ n ≤ 8 then some (r - 5, n - 1) else none

/-- The message of a mailbox. -/
def State.mbxMessage (s : State) (m : Nat) : List Byte :=
  (List.range 8).flatMap (fun w => beBytes 8 (s.reg (Reg.MBX_MSG m w)).toNat)

/-- Push the report of a full mailbox, or owe it until its session opens (R404, R405). (DEDUCED, log entry 107) -/
def State.mbxReport (s : State) (m : Nat) : State :=
  match s.mbxReceiver m with
  | none => s
  | some (k, i) =>
    let open_ := (s.session k i).operator
    let s := s.onUz (fun u => { u with owed := SMap.put false u.owed m (!open_) })
    if open_ then
      s.sendPacket k i
        { kind := 0x92
          plen := 64
          arg := packetArg ([BitVec.ofNat 8 m, 0] ++ beBytes 2 (s.fld (Reg.MBX_STAT m) Fld.MBX_STAT_SEQ))
          payload := s.mbxMessage m }
    else s

/-- A write of WCH_BOSPWR: b0 stays on; a core that is powered on starts at its entry point. -/
def State.bospwr (s : State) (val : Nat) : State :=
  let old := s.reg Reg.WCH_BOSPWR
  let new := BitVec.ofNat 64 (val % 16 ||| 1)
  let s := s.setReg Reg.WCH_BOSPWR new
  s.onWatch (fun w => { w with pets := (List.range 4).foldl (fun m c =>
    if new.getLsbD c && !old.getLsbD c then SMap.put 0 m c s.tick else m) w.pets })

/-- Place a message in a mailbox and ring its doorbell (R400 to R404). (DEDUCED, log entry 107) -/
def State.mbxPlace (s : State) (m sender number : Nat) (w : List Word) : Nat × State :=
  if !bitOf (s.reg (Reg.MBX_CFG m)).toNat sender then (msNotallowed, s)
  else
    let full := s.flag (Reg.MBX_STAT m) Fld.MBX_STAT_FULL
    let seq := s.fld (Reg.MBX_STAT m) Fld.MBX_STAT_SEQ
    let s := (List.range 8).foldl (fun (s : State) i => s.setReg (Reg.MBX_MSG m i) (w.getD i 0)) s
    let s := s.setReg (Reg.MBX_STAT m) (pack [(Fld.MBX_STAT_FULL, 1), (Fld.MBX_STAT_COLLIDE, b2n full),
      (Fld.MBX_STAT_SENDER, sender), (Fld.MBX_STAT_SESSION, number), (Fld.MBX_STAT_SEQ, seq + 1)])
    let s := (s.linePulse (srcDoorbell m)).onWatch (fun w => { w with bellAt := s.tick + 1 })
    let s := s.logEvent 10 (srcDoorbell m) false
    let r := s.fld (Reg.MBX_CFG m) ⟨61, 3⟩
    let s := if r < 4 then s.bospwr ((s.reg Reg.WCH_BOSPWR).toNat ||| 2 ^ r) else s
    (if full then msCollide else msOk, s.mbxReport m)

/-- Sender code and number of a source. -/
def mbxSender (src : Source) : Nat × Nat :=
  match src with
  | .uzA i => (snUzoleyA, i.val + 1)
  | .uzB i => (snUzoleyB, i.val + 1)
  | .bosun b => (snBosun, b.val)

/-- A command sends to mailbox `m`, which allows its sender. -/
def State.sendsTo (s : State) (m : Nat) (c : Instr) : Bool :=
  let ok := fun (src : Source) => s.mayWrite src && bitOf (s.reg (Reg.MBX_CFG m)).toNat (mbxSender src).1
  match c with
  | .mbxSend src k => k.val == m && ok src
  | .registerWrite src off val => off.toNat == Reg.MBX_SEND && val.toNat % 64 == m && ok src
  | _ => false

/-- Free a mailbox: the SEQ must be current (R402), and a session's mailbox is freed by that
session alone (R405). A send of the same event tick applies first, so that the SEQ is old (R407). (DEDUCED, log entry 107) -/
def State.mbxFree (s : State) (src : Source) (m seq : Nat) : State :=
  let mine := match s.mbxReceiver m with
    | some ki => sourceSession src == some ki && (s.session ki.1 ki.2).operator
    | none => true
  if mine && !s.alsoNow (s.sendsTo m) && s.fld (Reg.MBX_STAT m) Fld.MBX_STAT_SEQ == seq then
    let s := s.onUz (fun u => { u with owed := SMap.put false u.owed m false })
    (s.setFld (Reg.MBX_STAT m) Fld.MBX_STAT_FULL 0).setFld (Reg.MBX_STAT m) Fld.MBX_STAT_COLLIDE 0
  else s

/-- A write of MBX_SEND: the source's staged words go to the mailbox (R400). -/
def execMbxSend (src : Source) (m : Fin 64) (s : State) : Out :=
  if s.mayWrite src then
    let w := (List.range 8).map (fun i => s.reg (banked src (Reg.MBX_STAGE i)))
    let x := mbxSender src
    let (st, s) := s.mbxPlace m x.1 x.2 w
    .next (s.setReg (banked src Reg.MBX_SENDSTAT) (BitVec.ofNat 64 st))
  else .next s

/-- A write of MBX_ACK. -/
def execMbxAck (src : Source) (m : Fin 64) (seq : BitVec 16) (s : State) : Out :=
  if s.mayWrite src then .next (s.mbxFree src m seq.toNat) else .next s

end Sys2Proof.Machine
end

