-- ==== Sys2Proof/Machine/Flags.lean ====
section
/-! DEFINITION. Number formats and arithmetic (R260 to R281): exact values, decoding and rounding
of every format, the operations of the Mill array in binary32, Microscaling images, and the
arithmetic counts that each result adds (R279). -/

namespace Sys2Proof.Machine

/-! ### Counts (R279) -/

/-- What results add to the arithmetic counters of R279, counter 0 first. -/
structure Arith where
  nan : Nat := 0
  inf : Nat := 0
  invalid : Nat := 0
  overflow : Nat := 0
  sat : Nat := 0
  mxnan : Nat := 0
  badpair : Nat := 0
  deriving DecidableEq, Repr

def Arith.add (a b : Arith) : Arith :=
  ⟨a.nan + b.nan, a.inf + b.inf, a.invalid + b.invalid, a.overflow + b.overflow, a.sat + b.sat,
   a.mxnan + b.mxnan, a.badpair + b.badpair⟩

/-- The counters in the order of CL_AR_CNT. -/
def Arith.list (a : Arith) : List Nat := [a.nan, a.inf, a.invalid, a.overflow, a.sat, a.mxnan, a.badpair]

/-! ### Exact values -/

/-- A value: NaN, an infinity, or ± m × 2^e exactly; a zero keeps its sign. -/
inductive Num where
  | nan
  | inf (neg : Bool)
  | fin (neg : Bool) (m : Nat) (e : Int)
  deriving DecidableEq, Repr

def Num.isNan : Num → Bool
  | .nan => true
  | _ => false

def Num.isInf : Num → Bool
  | .inf _ => true
  | _ => false

def Num.isFin : Num → Bool
  | .fin _ _ _ => true
  | _ => false

def Num.isZero : Num → Bool
  | .fin _ m _ => m == 0
  | _ => false

/-- An integer as a value. -/
def Num.ofInt (i : Int) : Num := .fin (decide (i < 0)) i.natAbs 0

def Num.abs : Num → Num
  | .nan => .nan
  | .inf _ => .inf false
  | .fin _ m e => .fin false m e

def Num.neg : Num → Num
  | .nan => .nan
  | .inf s => .inf (!s)
  | .fin s m e => .fin (!s) m e

/-- The signed significand of ± m × 2^e at exponent `q`, no larger than `e`. -/
def signedAt (s : Bool) (m : Nat) (e q : Int) : Int :=
  let v : Int := m * 2 ^ (e - q).toNat
  if s then -v else v

/-- Exact sum; an exact zero sum is +0 unless both addends are negative (R272). -/
def Num.add : Num → Num → Num
  | .nan, _ => .nan
  | _, .nan => .nan
  | .inf a, .inf b => if a = b then .inf a else .nan
  | .inf a, _ => .inf a
  | _, .inf b => .inf b
  | .fin s m e, .fin t n f =>
    let q := min e f
    let v := signedAt s m e q + signedAt t n f q
    if v = 0 then .fin (s && t) 0 q else .fin (decide (v < 0)) v.natAbs q

/-- Exact product. -/
def Num.mul : Num → Num → Num
  | .nan, _ => .nan
  | _, .nan => .nan
  | .inf a, .inf b => .inf (a != b)
  | .inf a, .fin t n _ => if n = 0 then .nan else .inf (a != t)
  | .fin s m _, .inf b => if m = 0 then .nan else .inf (s != b)
  | .fin s m e, .fin t n f => .fin (s != t) (m * n) (e + f)

/-- The quotient to 64 bits and a sticky bit, so that rounding it to any format rounds the exact
quotient. -/
def Num.div : Num → Num → Num
  | .nan, _ => .nan
  | _, .nan => .nan
  | .inf _, .inf _ => .nan
  | .inf a, .fin t _ _ => .inf (a != t)
  | .fin s _ _, .inf b => .fin (s != b) 0 0
  | .fin s m e, .fin t n f =>
    if n = 0 then (if m = 0 then .nan else .inf (s != t))
    else
      let k := 64 + n.log2
      let q := m * 2 ^ k / n
      let sticky := if m * 2 ^ k % n = 0 then 0 else 1
      .fin (s != t) (2 * q + sticky) (e - f - k - 1)

/-- The largest r with r × r ≤ n, bit by bit from bit `k` down. -/
def isqrtFrom (n : Nat) : Nat → Nat → Nat
  | 0, r => if (r + 1) * (r + 1) ≤ n then r + 1 else r
  | k + 1, r => isqrtFrom n k (if (r + 2 ^ (k + 1)) * (r + 2 ^ (k + 1)) ≤ n then r + 2 ^ (k + 1) else r)

/-- The square root of a value not below zero, to at least 64 bits and a sticky bit. -/
def Num.sqrt : Num → Num
  | .nan => .nan
  | .inf false => .inf false
  | .inf true => .nan
  | .fin s m e =>
    if m = 0 then .fin s 0 0
    else if s then .nan
    else
      let k := 128 + (e % 2).toNat
      let n := m * 2 ^ k
      let r := isqrtFrom n (n.log2 / 2 + 1) 0
      .fin false (2 * r + (if r * r = n then 0 else 1)) ((e - k) / 2 - 1)

/-- `a < b` for values that are not NaN, with −0 less than +0 (R272). -/
def Num.lt : Num → Num → Bool
  | .nan, _ => false
  | _, .nan => false
  | .inf a, .inf b => a && !b
  | .inf a, _ => a
  | _, .inf b => !b
  | .fin s m e, .fin t n f =>
    let q := min e f
    let x := signedAt s m e q
    let y := signedAt t n f q
    if x = y then s && !t else decide (x < y)

/-! ### Formats (R260, R262) -/

/-- Format codes (R260). -/
def fFp32 : Nat := 0
def fBf16 : Nat := 1
def fFp16 : Nat := 2
def fE4m3 : Nat := 3
def fE5m2 : Nat := 4
def fMxfp8 : Nat := 5
def fMxfp8e5 : Nat := 6
def fMxfp6 : Nat := 7
def fMxfp6e3 : Nat := 8
def fMxfp4 : Nat := 9
def fInt32 : Nat := 10
def fInt8s : Nat := 11
def fFp32c : Nat := 12

/-- A Microscaling format. -/
def isMx (c : Nat) : Bool := decide (5 ≤ c ∧ c ≤ 9)

/-- A floating-point element layout: exponent and mantissa bits, bias, its special values (0 as
IEEE 754, 1 the E4M3 NaN alone, 2 none) and its canonical NaN. -/
structure Layout where
  eb : Nat
  mb : Nat
  bias : Nat
  special : Nat
  canon : Nat
  deriving DecidableEq, Repr

def layoutFp32 : Layout := ⟨8, 23, 127, 0, 0x7FC00000⟩

/-- The element layout of a format; that of its elements for a Microscaling format. -/
def layoutOf : Nat → Layout
  | 1 => ⟨8, 7, 127, 0, 0x7FC0⟩
  | 2 => ⟨5, 10, 15, 0, 0x7E00⟩
  | 3 => ⟨4, 3, 7, 1, 0x7F⟩
  | 4 => ⟨5, 2, 15, 0, 0x7E⟩
  | 5 => ⟨4, 3, 7, 1, 0x7F⟩
  | 6 => ⟨5, 2, 15, 0, 0x7E⟩
  | 7 => ⟨2, 3, 1, 2, 0⟩
  | 8 => ⟨3, 2, 3, 2, 0⟩
  | 9 => ⟨2, 1, 1, 2, 0⟩
  | _ => layoutFp32

/-- Bits of an element of a format. -/
def elemWidth : Nat → Nat
  | 0 => 32
  | 1 => 16
  | 2 => 16
  | 7 => 6
  | 8 => 6
  | 9 => 4
  | 10 => 32
  | 12 => 32
  | _ => 8

/-- Payload length of `n` elements (R265). -/
def payloadLen (c n : Nat) : Nat :=
  if isMx c then ceilDiv (n * elemWidth c) 8 + ceilDiv n 32
  else if c = fInt8s then n + 4
  else if c = fFp32c then 8 * n
  else n * (elemWidth c / 8)

/-- The value that an element's bits spell. -/
def Layout.decode (l : Layout) (b : Nat) : Num :=
  let neg := b.testBit (l.eb + l.mb)
  let ex := b / 2 ^ l.mb % 2 ^ l.eb
  let man := b % 2 ^ l.mb
  let top := decide (ex = 2 ^ l.eb - 1)
  if l.special = 0 && top then (if man = 0 then .inf neg else .nan)
  else if l.special = 1 && top && man == 2 ^ l.mb - 1 then .nan
  else if ex = 0 then .fin neg man (1 - l.bias - l.mb)
  else .fin neg (2 ^ l.mb + man) (ex - l.bias - l.mb)

/-! ### Rounding (R274, R275) -/

/-- `m ÷ 2^sh` rounded: to nearest even, or stochastically with the draw `r` (R275). -/
def roundShift (m sh : Nat) : Option Nat → Nat
  | none =>
    let lo := m / 2 ^ sh
    let rem := m % 2 ^ sh
    if 2 * rem > 2 ^ sh ∨ (2 * rem = 2 ^ sh ∧ lo % 2 = 1) then lo + 1 else lo
  | some r =>
    let lo := m / 2 ^ sh
    let rem := m % 2 ^ sh
    if rem * 65536 / 2 ^ sh + r ≥ 65536 then lo + 1 else lo

/-- m × 2^e as an integer number of 2^q, rounded. -/
def quantize (m : Nat) (e q : Int) (draw : Option Nat) : Nat :=
  if q ≤ e then m * 2 ^ (e - q).toNat else roundShift m (q - e).toNat draw

/-- The magnitude bits of m × 2^e rounded to a layout whose exponent runs on past its largest
finite value. -/
def Layout.magnitude (l : Layout) (m : Nat) (e : Int) (draw : Option Nat) : Nat :=
  if m = 0 then 0
  else
    let top : Int := m.log2 + e
    let q := max top (1 - l.bias) - l.mb
    let n := quantize m e q draw
    let ex := (q + l.mb + l.bias).toNat
    if n < 2 ^ l.mb then n
    else if n = 2 ^ (l.mb + 1) then (ex + 1) * 2 ^ l.mb
    else ex * 2 ^ l.mb + (n - 2 ^ l.mb)

/-- The magnitude bits of the largest finite value. -/
def Layout.maxBits (l : Layout) : Nat :=
  if l.special = 0 then (2 ^ l.eb - 2) * 2 ^ l.mb + (2 ^ l.mb - 1)
  else if l.special = 1 then 2 ^ (l.eb + l.mb) - 2
  else 2 ^ (l.eb + l.mb) - 1

def Layout.infBits (l : Layout) : Nat := (2 ^ l.eb - 1) * 2 ^ l.mb

def Layout.signBits (l : Layout) (neg : Bool) : Nat := if neg then 2 ^ (l.eb + l.mb) else 0

/-- A conversion to a floating-point layout under SAT and the rounding (R274). A layout without
special values always saturates (R268). -/
def Layout.encode (l : Layout) (sat : Bool) (draw : Option Nat) : Num → Nat × Arith
  | .nan => (l.canon, { nan := 1 })
  | .inf neg =>
    if l.special = 0 then (l.signBits neg + l.infBits, { inf := 1 })
    else if l.special = 1 && !sat then (l.canon, { nan := 1 })
    else (l.signBits neg + l.maxBits, { sat := 1 })
  | .fin neg m e =>
    let b := l.magnitude m e draw
    if b ≤ l.maxBits then (l.signBits neg + b, {})
    else if sat || l.special = 2 then (l.signBits neg + l.maxBits, { sat := 1 })
    else if l.special = 0 then (l.signBits neg + l.infBits, { inf := 1, overflow := 1 })
    else (l.canon, { nan := 1, overflow := 1 })

/-- A conversion to a two's complement integer clamped to `lo` to `hi` (R274). -/
def encodeInt (w : Nat) (lo hi : Int) (draw : Option Nat) : Num → Nat × Arith
  | .nan => (0, { invalid := 1 })
  | .inf neg => (ofSigned w (if neg then lo else hi), { sat := 1 })
  | .fin neg m e =>
    let n : Int := quantize m e 0 draw
    let v := if neg then -n else n
    if v > hi then (ofSigned w hi, { sat := 1 })
    else if v < lo then (ofSigned w lo, { sat := 1 })
    else (ofSigned w v, {})

/-! ### Binary32 (R270 to R272) -/

/-- A binary32 value from its bits. -/
def f32 (b : Nat) : Num := layoutFp32.decode b

/-- The bits of a value rounded to binary32, to nearest even. -/
def toF32 (x : Num) : Nat := (layoutFp32.encode false none x).1

/-- The value rounded to binary32. -/
def round32 (x : Num) : Num := f32 (toF32 x)

/-- What a binary32 result adds, by the operands it was computed from. -/
def resultCounts (y : Num) (ops : List Num) : Arith :=
  if y.isNan then { nan := 1, invalid := if ops.any Num.isNan then 0 else 1 }
  else if y.isInf then { inf := 1, overflow := if ops.all Num.isFin then 1 else 0 }
  else {}

/-- A binary32 result with its counts. -/
def result32 (exact : Num) (ops : List Num) : Num × Arith :=
  let y := round32 exact
  (y, resultCounts y ops)

def f32Add (a b : Num) : Num × Arith := result32 (a.add b) [a, b]
def f32Mul (a b : Num) : Num × Arith := result32 (a.mul b) [a, b]
def f32Fma (d a b : Num) : Num × Arith := result32 ((a.mul b).add d) [d, a, b]

def f32Max (a b : Num) : Num × Arith :=
  if a.isNan || b.isNan then (.nan, { nan := 1 })
  else
    let y := if a.lt b then b else a
    (y, { inf := if y.isInf then 1 else 0 })

def f32Min (a b : Num) : Num × Arith :=
  if a.isNan || b.isNan then (.nan, { nan := 1 })
  else
    let y := if b.lt a then b else a
    (y, { inf := if y.isInf then 1 else 0 })

/-- A source value added to a compensated pair (R271): the new sum and term. -/
def pairAdd (s e x : Num) : Num × Num × Arith :=
  let (t, c) := f32Add s x
  if t.isFin then
    let d := (s.add x).add t.neg
    (t, round32 (e.add d), c)
  else (t, .fin false 0 0, c)

/-- INT32 addition saturates (R273). -/
def i32Add (a b : Int) : Int × Arith :=
  let v := a + b
  if v > 2 ^ 31 - 1 then (2 ^ 31 - 1, { sat := 1 })
  else if v < -(2 ^ 31) then (-(2 ^ 31), { sat := 1 })
  else (v, {})

/-! ### The generator (R276) -/

/-- One step of the generator; the draw is the upper half of the new state. -/
def genStep (x : BitVec 32) : BitVec 32 :=
  let x := x ^^^ (x <<< 13)
  let x := x ^^^ (x >>> 17)
  x ^^^ (x <<< 5)

def genDraw (x : BitVec 32) : Nat := x.toNat / 65536

/-- The generator's state at the start of an invocation. -/
def genSeed (seed : BitVec 32) (round : BitVec 16) (chunk : BitVec 24) : BitVec 32 :=
  let x := crc32c (beBytes 4 seed.toNat ++ beBytes 2 round.toNat ++ [0, 0] ++ [0] ++ beBytes 3 chunk.toNat)
  if x = 0 then 1 else BitVec.ofNat 32 x

/-- `n` draws in order, and the state after them. -/
def genDraws : Nat → BitVec 32 → List Nat × BitVec 32
  | 0, x => ([], x)
  | n + 1, x =>
    let y := genStep x
    let (l, z) := genDraws n y
    (genDraw y :: l, z)

/-! ### Elements in a register group (R237, R238) -/

/-- Elements `0` to `n - 1` of width `w` in the bits of a register group, first register lowest. -/
def elemsOf (w n g : Nat) : List Nat := (List.range n).map (fun i => g / 2 ^ (w * i) % 2 ^ w)

/-- The bits of a list of elements, the first lowest. -/
def packElems (w : Nat) : List Nat → Nat
  | [] => 0
  | x :: l => x % 2 ^ w + 2 ^ w * packElems w l

/-- Bytes of an image in a register group (R238). -/
def imageBytes (n g : Nat) : List Byte := (elemsOf 8 n g).map (BitVec.ofNat 8)

/-- The bits of an image. -/
def packBytes (l : List Byte) : Nat := packElems 8 (l.map (fun b => b.toNat))

/-! ### Microscaling (R266 to R268) -/

/-- E of R268 step 2. -/
def mxE : Nat → Int
  | 5 => 8
  | 6 => 15
  | 7 => 2
  | 8 => 4
  | _ => 2

/-- Bytes of the element area of `n` elements. -/
def mxArea (c n : Nat) : Nat := ceilDiv (n * elemWidth c) 8

/-- The exact value of element `i` of an image `g` of `n` elements, and whether its block is NaN. -/
def mxValue (c n g i : Nat) : Num :=
  let w := elemWidth c
  let b := g / 2 ^ (w * i) % 2 ^ w
  let x := g / 2 ^ (8 * (mxArea c n + i / 32)) % 256
  if x = 0xFF then .nan
  else match (layoutOf c).decode b with
    | .fin s m e => .fin s m (e + x - 127)
    | v => v

/-- The fp32 values of an MX image, with what decoding adds (R267). -/
def mxDecode (c n g : Nat) : List (Num × Arith) :=
  (List.range n).map (fun i =>
    let v := mxValue c n g i
    let y := round32 v
    (y, if v.isFin && y.isInf then { inf := 1, overflow := 1 } else {}))

/-- The shared exponent of a block (R268 step 2). (DEDUCED, log entry 91) -/
def mxShared (c : Nat) (blk : List Num) : Int :=
  let a := blk.foldl (fun a x => if a.lt x.abs then x.abs else a) (.fin false 0 0)
  match a with
  | .fin _ m e => if m = 0 then 0 else max (m.log2 + e - mxE c) (-127)
  | _ => 0

/-- One block encoded: its elements, its scale and what it adds. The draws are those of its
elements, when the rounding is stochastic. -/
def mxBlock (c : Nat) (blk : List Num) (draws : Option (List Nat)) : List Nat × Nat × Arith :=
  if blk.any (fun x => !x.isFin) then
    (blk.map (fun _ => 0), 0xFF, { nan := blk.length, mxnan := 1 })
  else
    let e := mxShared c blk
    let r := blk.mapIdx (fun i x =>
      let x' := match x with
        | .fin s m f => Num.fin s m (f - e)
        | v => v
      (layoutOf c).encode true (draws.map (fun d => d.getD i 0)) x')
    (r.map (fun p => p.1), (e + 127).toNat, r.foldl (fun a p => a.add p.2) {})

/-- Blocks of 32. -/
def blocks32 {α : Type} (l : List α) : List (List α) :=
  (List.range (ceilDiv l.length 32)).map (fun j => (l.drop (32 * j)).take 32)

/-- An MX image of a list of fp32 values (R268). -/
def mxEncode (c : Nat) (xs : List Num) (draws : Option (List Nat)) : Nat × Arith :=
  let bs := (blocks32 xs).mapIdx (fun j b => mxBlock c b (draws.map (fun d => (d.drop (32 * j)).take 32)))
  let els := packElems (elemWidth c) (bs.flatMap (fun b => b.1))
  let scales := packElems 8 (bs.map (fun b => b.2.1))
  (els + scales * 2 ^ (8 * mxArea c xs.length), bs.foldl (fun a b => a.add b.2.2) {})

/-! ### Scaled integers (R269) -/

/-- The four scale bytes after the elements of an INT8S image, most significant first. -/
def int8sScale (n g : Nat) : Nat := beNat (imageBytes 4 (g / 2 ^ (8 * n)))

/-- The fp32 values of an INT8S image with what decoding adds. -/
def int8sDecode (n g : Nat) : List (Num × Arith) :=
  let sc := f32 (int8sScale n g)
  (elemsOf 8 n g).map (fun q =>
    let a := Num.ofInt (toSigned 8 q)
    let (y, c) := f32Mul a sc
    (y, { invalid := c.invalid, overflow := c.overflow }))

/-- The scale of an INT8S image of a list of values; none when one is not finite. (DEDUCED, log entry 91) -/
def int8sScaleOf (xs : List Num) : Option Num :=
  if xs.any (fun x => !x.isFin) then none
  else
    let a := xs.foldl (fun a x => if a.lt x.abs then x.abs else a) (.fin false 0 0)
    if a.isZero then some (.fin false 1 0) else some (round32 (a.div (.fin false 127 0)))

/-- One element of an INT8S image: x ÷ scale rounded and clamped. (DEDUCED, log entry 91) -/
def int8sElem (sc : Option Num) (draw : Option Nat) (x : Num) : Nat × Arith :=
  match sc with
  | none => (0, if x.isNan then { invalid := 1 } else {})
  | some s => if x.isZero then (0, {}) else encodeInt 8 (-127) 127 draw (x.div s)

/-- The scale bytes as image bits, to stand above the elements. -/
def int8sScaleBits (sc : Option Num) : Nat :=
  packBytes (beBytes 4 (match sc with
    | none => 0x7FC00000
    | some s => toF32 s))

/-! ### Sources and conversions (R251, R274) -/

/-- The values of `n` elements of format `c` in a register group, with what decoding adds. -/
def sourceValues (c n g : Nat) : List (Num × Arith) :=
  if isMx c then mxDecode c n g
  else if c = fInt8s then int8sDecode n g
  else if c = fInt32 then (elemsOf 32 n g).map (fun b => (Num.ofInt (toSigned 32 b), {}))
  else (elemsOf (elemWidth c) n g).map (fun b => ((layoutOf c).decode b, {}))

/-- A value converted to an element of a format that is neither MX nor INT8S. -/
def convertElem (c : Nat) (sat : Bool) (draw : Option Nat) (x : Num) : Nat × Arith :=
  if c = fInt32 then encodeInt 32 (-(2 ^ 31)) (2 ^ 31 - 1) draw x
  else (layoutOf c).encode sat draw x

/-! ### Top-k lists (R277, R278) -/

/-- A valid pair: its index and value. -/
abbrev TopPair := Nat × Num

/-- The pairs of an image of `k` positions that step 1 keeps, and how many it drops. (DEDUCED, log entry 91) -/
def topPairs (elems k g : Nat) : List TopPair × Nat :=
  let ws := (List.range k).map (fun i => (natAt (imageBytes (8 * k) g) (8 * i) 4, natAt (imageBytes (8 * k) g) (8 * i + 4) 4))
  let r := ws.foldl (fun (a : List TopPair × Option Nat × Nat) w =>
    if !w.1.testBit 31 then a
    else
      let ix := w.1 % 8192
      let low := match a.2.1 with
        | some l => decide (ix ≤ l)
        | none => false
      if ix ≥ elems || low then (a.1, a.2.1, a.2.2 + 1)
      else (a.1 ++ [(ix, f32 w.2)], some ix, a.2.2)) ([], none, 0)
  (r.1, r.2.2)

/-- The union of two lists in ascending index order, values of one index added; each with what it
adds when it is written. -/
def topUnion : List TopPair → List TopPair → List (TopPair × Arith)
  | p, q =>
    let carry := fun (x : Num) => if x.isNan then (Num.nan, ({ nan := 1 } : Arith)) else (x, { inf := if x.isInf then 1 else 0 })
    let only := p.map (fun a => match q.find? (fun b => b.1 = a.1) with
      | some b => let (v, c) := f32Add a.2 b.2; ((a.1, v), c)
      | none => let (v, c) := carry a.2; ((a.1, v), c))
    let rest := (q.filter (fun b => !p.any (fun a => a.1 = b.1))).map (fun b =>
      let (v, c) := carry b.2; ((b.1, v), c))
    (only ++ rest)

/-- `a` ranks before `b`: larger magnitude, a NaN the largest, lower index first. -/
def topBefore (a b : TopPair) : Bool :=
  if a.2.isNan && b.2.isNan then decide (a.1 < b.1)
  else if a.2.isNan then true
  else if b.2.isNan then false
  else if b.2.abs.lt a.2.abs then true
  else if a.2.abs.lt b.2.abs then false
  else decide (a.1 < b.1)

/-- The merge of two lists (R278): the image of `k` positions and what it adds. -/
def topMerge (elems k ga gb : Nat) : Nat × Arith :=
  let (p, dp) := topPairs elems k ga
  let (q, dq) := topPairs elems k gb
  let u := topUnion p q
  let keep := u.filter (fun a => decide ((u.filter (fun b => topBefore b.1 a.1)).length < k))
  let sorted := keep.foldl (fun (l : List (TopPair × Arith)) a =>
    (l.filter (fun b => decide (b.1.1 < a.1.1))) ++ [a] ++ l.filter (fun b => !decide (b.1.1 < a.1.1))) []
  let bytes := sorted.flatMap (fun a => beBytes 4 (2 ^ 31 + a.1.1) ++ beBytes 4 (toF32 a.1.2))
  (packBytes bytes, (sorted.foldl (fun a b => a.add b.2) { badpair := dp + dq }))

end Sys2Proof.Machine
end

