-- ==== Sys2Proof/Machine/Routing.lean ====
section
/-! DEFINITION. Reading the tables (R168 to R176), finding a frame's forwarding target (R148,
R149, R171), the charge and room of egress queues (R129, R130), and the choice of a member
(R150 to R153). -/

namespace Sys2Proof.Machine

/-! ### Table entries -/

/-- Entries of table `t` (R168). -/
def tblSize : Nat → Nat
  | 0 => 8192
  | 1 => 4096
  | 2 => 65536
  | 3 => 16384
  | 4 => 1024
  | _ => 16384

/-- The buffer register that a Buffer Limit index names (R176). -/
def limitReg (i : Nat) : Option Nat :=
  let n := i / 1024
  let k := i % 1024
  if k = 0 then some (Reg.CL_BUF_CTL n)
  else if 0x100 ≤ k ∧ k < 0x210 then some (Reg.CL_QLIM n (k - 0x100))
  else if 0x300 ≤ k then some (Reg.CL_CRLIM n (k - 0x300))
  else none

/-- An entry of a table. A Buffer Limit entry's data lies in the register it names. -/
def State.entry (s : State) (t i : Nat) : TEntry :=
  let e := SMap.get {} s.tbl.entries (65536 * t + i)
  if t = 5 then
    match limitReg i with
    | some k => { e with data := (s.reg k).setWidth 512 <<< 448 }
    | none => e
  else e

/-- Store an entry. -/
def State.setEntry (s : State) (t i : Nat) (e : TEntry) : State :=
  if t = 5 then
    match limitReg i with
    | some k =>
      (s.setReg k (tblWord e.data 0)).onTbl (fun x => { x with entries := SMap.put {} x.entries (65536 * t + i) { e with data := 0 } })
    | none => s
  else s.onTbl (fun x => { x with entries := SMap.put {} x.entries (65536 * t + i) e })

/-- A Job entry's STATE (0 UNBOUND, 1 BOUND, 2 REVOKED) and SLOT (R172). -/
def State.jobState (s : State) (job : Nat) : Nat := tblBits (s.entry 1 job).data 0 63 62
def State.jobSlot (s : State) (job : Nat) : Nat := tblBits (s.entry 1 job).data 0 5 0

/-- The job slot of a frame's job: none for job 0 and for an unbound job. -/
def State.slotOf (s : State) (job : Nat) : Option Nat :=
  if job = 0 ∨ s.jobState job = 0 then none else some (s.jobSlot job)

/-- A job slot is in confidential mode (R448). (DEDUCED, log entry 121) -/
def State.confidential (s : State) (slot : Option Nat) : Bool :=
  match slot with
  | some k => (s.reg (Reg.SEC_SLOT k)).getLsbD 63
  | none => false

/-! ### Spray groups -/

/-- A forwarding target: its members in table order, HASH or ADAPTIVE, site or span, and the
key of its rotating pointer. -/
structure Group where
  members : List Nat
  hash : Bool
  span : Bool
  key : Nat
  deriving DecidableEq, Repr

/-- The members that a Spray Group entry names, in ascending bit order (R173). -/
def groupMembers (d : BitVec 512) : List Nat :=
  let m := tblWord d 1
  let base := if tblBits d 0 62 62 = 1 then 512 else 64 * tblBits d 0 2 0
  ((List.range 64).filter (fun i => m.getLsbD i)).map (fun i => base + i)

/-- A valid group. -/
def State.group (s : State) (g : Nat) : Option Group :=
  let d := (s.entry 4 g).data
  if tblBits d 0 63 63 = 1 then
    some { members := groupMembers d, hash := tblBits d 0 61 61 = 1, span := tblBits d 0 62 62 = 1, key := g }
  else none

/-- A target in port form: a group of one member in ADAPTIVE mode (R171). -/
def portGroup (p : Nat) : Group := { members := [p], hash := false, span := isSpan p, key := 1024 + p }

/-- The target that form and number name. -/
def State.targetBy (s : State) (form v : Nat) : Option Group :=
  if form = 0 then some (portGroup v) else s.group v

/-- The target of a leaf (R148). -/
def State.dlnTarget (s : State) (dln : Nat) : Option Group :=
  let d := (s.entry 0 dln).data
  if tblBits d 0 63 63 = 1 then s.targetBy (tblBits d 0 62 62) (tblBits d 0 57 48) else none

/-- The target of another module (R148). -/
def State.modTarget (s : State) (m : Nat) : Option Group :=
  let d := (s.entry 0 m).data
  if tblBits d 0 31 31 = 1 then s.targetBy (tblBits d 0 30 30) (tblBits d 0 25 16) else none

/-- The forwarding target of a frame by its header. -/
def State.target (s : State) (f : Frame) : Option Group :=
  if frameDstmod f then s.modTarget (f.dst.toNat % 4096) else s.dlnTarget (f.dst.toNat / 128)

/-- The module's acting numbers (R340). -/
def State.acting (s : State) : List (BitVec 12) :=
  s.grn.bindings.filterMap (fun p => if p.2.valid then p.2.acting else none)

/-- A module number that this module answers to (R37). -/
def State.isOwn (s : State) (m : BitVec 12) : Bool := m = s.modnum || s.acting.contains m

/-- SUBK of the SCRUB markers (R441) and of the TEST frames of a loop-back and of its request (R481, R482). -/
def markerSubk : List (BitVec 8) := [1, 2]
def testSubk : List (BitVec 8) := [1, 2, 3]

/-- A frame that the module takes as its own (R37). -/
def State.ownFrame (s : State) (f : Frame) : Bool :=
  (frameDstmod f && s.isOwn (f.dst.setWidth 12)) || (f.kind = kTime && f.subk = 1)
    || (f.kind = kScrub && markerSubk.contains f.subk) || (f.kind = kTest && testSubk.contains f.subk)

/-- The route rule for a frame that arrived on `port` (R159): broken. (DEDUCED, log entry 84) -/
def State.routeBroken (s : State) (port : Nat) (f : Frame) : Bool :=
  let own := s.ownFrame f
  let tgt := s.target f
  let toSpan := match tgt with
    | some g => g.span
    | none => false
  (!own && frameSpanned f && toSpan)
    || (!own && frameDstmod f && isSpan port)
    || (!own && frameDstmod f && !isSpan port && tgt.isSome && !toSpan)
    || ((f.kind = kState || f.kind = kStateAck) && !(frameDstmod f && frameSrcmod f))

/-! ### Ports -/

/-- The state register and lane masks of a port. -/
def statReg (port : Nat) : Nat := if isSpan port then Reg.CL_SX_STAT (port - 512) else Reg.CL_SP_STAT port
def evtReg (port : Nat) : Nat := if isSpan port then Reg.CL_SX_EVT (port - 512) else Reg.CL_SP_EVT port

/-- STATE of a port (R64, R89). -/
def State.portState (s : State) (port : Nat) : Nat := s.fld (statReg port) ⟨0, 4⟩
def pDark : Nat := 0
def pDetect : Nat := 1
def pLock : Nat := 2
def pAlign : Nat := 3
def pParam : Nat := 4
def pResync : Nat := 5
def pUp : Nat := 6
def pHold : Nat := 7

/-- Active transmit lanes: 8 on a span port in UP. -/
def State.txLanes (s : State) (port : Nat) : Nat :=
  if isSpan port then 8
  else ((List.range 4).filter (fun w => (s.reg (statReg port)).getLsbD (16 + w))).length

/-- A member is eligible (R150). -/
def State.eligible (s : State) (port : Nat) : Bool :=
  s.portState port == pUp && (isSpan port || s.txLanes port != 0)

/-! ### Charges and room -/

def State.link (s : State) (port : Nat) : Link := SMap.get {} s.port.links port
def State.setLink (s : State) (port : Nat) (l : Link) : State :=
  s.onPort (fun x => { x with links := SMap.put {} x.links port l })

/-- The port's Svetna path is LOOP: what it transmits returns to its own receiver (R107). -/
def State.looped (s : State) (port : Nat) : Bool :=
  !isSpan port && s.fld (Reg.SVB_PORT port) Fld.SVB_PORT_STATE == 2

/-- Put something on the wire of a port; in LOOP it comes back to the port (R107). -/
def State.putOnWire (s : State) (port : Nat) (e : Emission) : State :=
  let s := s.emit e
  if s.looped port then s.setLink port { s.link port with loop := (s.link port).loop ++ [e] } else s

/-- What may reach the receiver of a port: anything from outside, but in LOOP only the oldest thing on its way back, which
`mine` must accept; it is then taken. In WATCH and OFF nothing arrives (R388). (DEDUCED, log entry 129) -/
def State.arrives (s : State) (port : Nat) (mine : Emission → Bool) : Option State :=
  if !s.awake then none
  else if s.looped port then
    match (s.link port).loop with
    | [] => none
    | e :: l => if mine e then some (s.setLink port { s.link port with loop := l }) else none
  else some s

def State.vc (s : State) (port v : Nat) : LinkVc := SMap.get {} s.port.vcs (pv port v)
def State.setVc (s : State) (port v : Nat) (l : LinkVc) : State :=
  s.onPort (fun x => { x with vcs := SMap.put {} x.vcs (pv port v) l })

def State.equeue (s : State) (port v : Nat) : List Held := SMap.get [] s.sw.queues (pv port v)
def State.setEqueue (s : State) (port v : Nat) (l : List Held) : State :=
  s.onSw (fun x => { x with queues := SMap.put [] x.queues (pv port v) l })

def State.staged (s : State) (port v : Nat) : List Held := SMap.get [] s.sw.staging (pv port v)
def State.setStaged (s : State) (port v : Nat) (l : List Held) : State :=
  s.onSw (fun x => { x with staging := SMap.put [] x.staging (pv port v) l })

def heldCells (l : List Held) : Nat := (l.map (fun h => frameCells h.f)).sum

/-- Transmitted frames that still hold output-buffer cells (R130). -/
def sentCells (l : List TxCopy) : Nat := ((l.filter (fun c => c.inBuf)).map (fun c => frameCells c.h.f)).sum

/-- Cells charged to an egress queue (R130, R134). -/
def State.charge (s : State) (port v : Nat) : Nat :=
  heldCells (s.equeue port v) + sentCells (s.vc port v).unacked
    + ((s.sw.handed.flatMap (fun p => p.2)).filter (fun b => b.port = port ∧ b.vc = v)).foldl
        (fun a b => a + frameCells b.h.f) 0

/-- Index q of a port and VC in its cluster's buffer registers. -/
def qIndex (port v : Nat) : Nat := 8 * localOf port + v

/-- The scheduler of an egress port. -/
def State.egPort (s : State) (port : Nat) : EgPort := SMap.get {} s.sw.eg port
def State.setEgPort (s : State) (port : Nat) (e : EgPort) : State :=
  s.onSw (fun x => { x with eg := SMap.put {} x.eg port e })

/-- The deficit of a VC whose queue has emptied is 0 (R141). (DEDUCED, log entry 81) -/
def State.emptied (s : State) (port v : Nat) : State :=
  if (s.equeue port v).isEmpty ∧ (s.vc port v).resend = [] then
    let e := s.egPort port
    s.setEgPort port { e with deficit := SMap.put 0 e.deficit v 0 }
  else s

/-- Accumulator-region cells and frame-pool cells of a cluster (R129). -/
def State.accCells (s : State) (n : Nat) : Nat := 24576 * s.fld (Reg.CL_BUF_CTL n) ⟨0, 4⟩
def State.poolCells (s : State) (n : Nat) : Nat := 393216 - s.accCells n

/-- Staging allotments of a cluster, in cells. -/
def State.stagingSum (s : State) (n : Nat) : Nat :=
  ((List.range 256).map (fun q => s.fld (Reg.CL_CRLIM n q) ⟨0, 16⟩)).sum

/-- The ports of a cluster. -/
def clusterPorts (n : Nat) : List Nat := (List.range 32).map (fun p => 32 * n + p) ++ [512 + 2 * n, 513 + 2 * n]

/-- Shared cells of a cluster in use: what each queue holds above its reserve of 66. -/
def State.sharedUsed (s : State) (n : Nat) : Nat :=
  ((clusterPorts n).flatMap (fun p => (List.range 8).map (fun v => s.charge p v - 66))).sum

/-- Free shared cells of a cluster. -/
def State.sharedFree (s : State) (n : Nat) : Nat := s.poolCells n - s.stagingSum n - 17952 - s.sharedUsed n

/-- A queue can take `cells` more (R130). -/
def State.canTake (s : State) (port v cells : Nat) : Bool :=
  let n := clusterOf port
  let c := s.charge port v
  decide (c + cells ≤ s.fld (Reg.CL_QLIM n (qIndex port v)) ⟨0, 16⟩)
    && (decide (c + cells ≤ 66) || decide ((c + cells - 66) - (c - 66) ≤ s.sharedFree n))

/-! ### The choice of a member -/

/-- Cost of a member (R151): charge × 4 ÷ TXLANES, as a fraction over 12 so that it is exact
for 1 to 4 lanes; a span member's cost is its charge. -/
def State.cost (s : State) (port v : Nat) : Nat :=
  if isSpan port then 12 * s.charge port v else 48 * s.charge port v / s.txLanes port

/-- The members after the one chosen last, then the others (R151). -/
def State.rotated (s : State) (g : Group) (ms : List Nat) : List Nat :=
  let k := SMap.get 0 s.sw.rotate g.key
  ms.filter (fun p => decide (k ≤ p)) ++ ms.filter (fun p => decide (p < k))

/-- The first member of lowest cost. -/
def State.cheapest (s : State) (v : Nat) : List Nat → Option Nat
  | [] => none
  | p :: ps =>
    match s.cheapest v ps with
    | none => some p
    | some q => if s.cost p v ≤ s.cost q v then some p else some q

/-- The CRC that HASH mode takes over a frame (R152). -/
def hashOf (seed : Nat) (f : Frame) : Nat :=
  let h := beBytes 64 (frameHeader f).toNat
  crc32c (beBytes 4 seed ++ sliceBytes h 4 8 ++ sliceBytes h 16 8 ++ sliceBytes h 44 4)

/-- The member that HASH picks among the eligible ones (R152). `n` is the cluster that makes
the choice. -/
def State.hashPick (s : State) (n : Nat) (f : Frame) (ms : List Nat) : Option Nat :=
  ms[hashOf (s.fld (Reg.CL_RT_SEED n) ⟨0, 32⟩) f % ms.length]?

/-- The outcome of a choice: no eligible member; an eligible one, but no room; a member. -/
inductive Choice where
  | noElig
  | noRoom
  | member (p : Nat)
  deriving DecidableEq, Repr

/-- The choice for a frame at cluster `n` in group `g` (R150 to R153). -/
def State.choose (s : State) (n : Nat) (g : Group) (f : Frame) : Choice :=
  let v := f.vc.toNat
  let el := g.members.filter s.eligible
  if el.isEmpty then .noElig
  else if g.hash then
    match s.hashPick n f el with
    | some p => if s.canTake p v (frameCells f) then .member p else .noRoom
    | none => .noElig
  else
    match s.cheapest v (s.rotated g (el.filter (fun p => s.canTake p v (frameCells f)))) with
    | some p => .member p
    | none => .noRoom

/-- The target that an aim names for a frame. -/
def State.aimGroup (s : State) (f : Frame) : Aim → Option Group
  | .route => s.target f
  | .group g => s.group g
  | .mcast _ => none
  | .port p => some (portGroup p)

/-- Put a frame into an egress queue; the group's pointer moves past the member. -/
def State.enqueue (s : State) (g : Group) (p : Nat) (h : Held) : State :=
  let v := h.f.vc.toNat
  let m := { h.m with
    since := s.tick
    noElig := none
    denq := some s.nowHalf }
  let s := s.setEqueue p v (s.equeue p v ++ [{ h with m := m }])
  if g.hash then s else s.onSw (fun x => { x with rotate := SMap.put 0 x.rotate g.key (p + 1) })

end Sys2Proof.Machine
end

