-- ==== Sys2Proof/Machine/Observe.lean ====
section
/-! DEFINITION. What the module counts and samples as frames pass: the event counters of R365
to R368, tagged frames and journey records (R372 to R374), Crow's nest captures (R145 to
R147). -/

namespace Sys2Proof.Machine

/-! ### Event counters -/

/-- An event for the counter sets: its EVENT value, how many it adds, its cluster (none: counted
by set 0 alone), and the fields its unit carries. -/
structure TelEvent where
  ev : Nat
  n : Nat := 1
  cluster : Option Nat := none
  port : Option Nat := none
  src : Option Nat := none
  vc : Option Nat := none
  kind : Option Nat := none
  slot : Option Nat := none
  region : Option Nat := none
  deriving DecidableEq, Repr

/-- A filter value that the unit carries must meet the test; one it does not carry passes. -/
def carries (x : Option Nat) (p : Nat → Bool) : Bool :=
  match x with
  | some v => p v
  | none => true

/-- The event meets every filter of a counter that applies to it (R367, R368). -/
def telMatch (csel cflt : Word) (conf : Bool) (e : TelEvent) : Bool :=
  let c := fun (f : Fld) => f.get csel
  let t := fun (f : Fld) => f.get cflt
  let mask := if c Fld.TEL_CSEL_VCMASK = 0 then 0xFF else c Fld.TEL_CSEL_VCMASK
  let tenant := c Fld.TEL_CSEL_TENANT = 1
  let mtype := t Fld.TEL_CFLT_MTYPE
  let master := t Fld.TEL_CFLT_MASTER
  c Fld.TEL_CSEL_ENABLE = 1 && c Fld.TEL_CSEL_EVENT = e.ev
    && (!tenant || e.slot == some (c Fld.TEL_CSEL_SLOT))
    && (mtype != 1 || carries e.port (fun p => p == master % 1024))
    && (mtype != 2 || carries e.src (fun p => p == master))
    && (mtype != 3 || carries e.src (fun p => p / 128 == master % 8192))
    && carries e.vc (fun v => bitOf mask v)
    && (c Fld.TEL_CSEL_KINDANY = 1 || carries e.kind (fun k => k == c Fld.TEL_CSEL_KIND))
    && (t Fld.TEL_CFLT_ADDREN != 1 || carries e.region (fun r =>
        decide (t Fld.TEL_CFLT_RFIRST ≤ r ∧ r < t Fld.TEL_CFLT_RFIRST + t Fld.TEL_CFLT_RCOUNT)))
    && !(conf && (tenant || mtype == 2 || mtype == 3))

/-- The value of a 48-bit counter after `n` more events, and whether it wrapped (R365). -/
def telAdd (v rld n : Nat) : Nat × Bool :=
  let room := 2 ^ 48 - v
  if n < room then (v + n, false) else (rld + (n - room) % (2 ^ 48 - rld), true)

/-- Add an event to counter `i` of set `k`. (DEDUCED, log entry 45) -/
def State.telCount (s : State) (k i : Nat) (e : TelEvent) : State :=
  let csel := s.reg (Reg.TEL_CSEL k i)
  if telMatch csel (s.reg (Reg.TEL_CFLT k i)) (s.confidential e.slot) e then
    let r := telAdd (s.reg (Reg.TEL_CNT k i)).toNat (s.reg (Reg.TEL_RLD k i)).toNat e.n
    let s := s.setReg (Reg.TEL_CNT k i) (BitVec.ofNat 64 r.1)
    let s := if Fld.TEL_CSEL_TENANT.get csel = 1 then
      s.onTele (fun x =>
        let w := SMap.get {} x.tenant (64 * k + i)
        let w := { w with window := w.window + e.n }
        { x with tenant := SMap.put {} x.tenant (64 * k + i) w })
      else s
    if r.2 then
      let s := s.setBits (Reg.TEL_OVF k) (BitVec.ofNat 64 (2 ^ i))
      let s := s.logEvent 9 srcTele false
      if Fld.TEL_CSEL_OVFIE.get csel = 1 then s.setBits Reg.TEL_EVT 0x10 else s
    else s
  else s

/-- The counters of set `k` whose TEL_CSEL is not at its reset value. -/
def State.telListed (s : State) (k : Nat) : List Nat :=
  s.regs.filterMap (fun p =>
    let b := Reg.TEL_CSEL k 0
    if b ≤ p.1 ∧ p.1 < b + 512 then some ((p.1 - b) / 8) else none)

/-- Count an event in set 0 and in its cluster's set, unless frozen (R365, R369). -/
def State.count (s : State) (e : TelEvent) : State :=
  if (s.reg Reg.TEL_CTL).getLsbD 0 then s
  else
    let s := (s.telListed 0).foldl (fun s i => s.telCount 0 i e) s
    match e.cluster with
    | some n => if e.ev < 0x0E then (s.telListed (n + 1)).foldl (fun s i => s.telCount (n + 1) i e) s else s
    | none => s

/-- An event of a frame in cluster `c`, at a port or at a source inside the module. (DEDUCED, log entry 45) -/
def State.frameEventIn (s : State) (c ev n port : Nat) (f : Frame) : State :=
  s.count
    { ev := ev, n := n, cluster := some c, port := some port, src := some f.src.toNat,
      vc := some f.vc.toNat, kind := some f.kind.toNat, slot := s.slotOf f.job.toNat }

/-- An event of a frame at a port. -/
def State.frameEvent (s : State) (ev n port : Nat) (f : Frame) : State := s.frameEventIn (clusterOf port) ev n port f

/-! ### Galois registers, tags and journey records -/

/-- One step of the 32-bit Galois register (R372). (DEDUCED, log entry 118) -/
def lfsrStep (x : BitVec 32) : BitVec 32 :=
  if x.getLsbD 0 then (x >>> 1) ^^^ 0x80200003 else x >>> 1

/-- A seed, with 0 taken as 1. -/
def lfsrSeed (x : BitVec 32) : BitVec 32 := if x = 0 then 1 else x

/-- The low `n` bits are all zero. -/
def lowZero (x : BitVec 32) (n : Nat) : Bool := x.toNat % 2 ^ n == 0

/-- TEL_TAG_CTL.LOG2 with a value outside 4 to 24 taken as the nearer bound. -/
def State.tagLog2 (s : State) : Nat := min 24 (max 4 (s.fld Reg.TEL_TAG_CTL Fld.TEL_TAG_CTL_LOG2))

/-- Step a cluster's tag register for an arriving frame: is the frame tagged (R372, R368).
(DEDUCED, log entry 118) -/
def State.tagFrame (s : State) (n : Nat) (f : Frame) : Bool × State :=
  if s.flag Reg.TEL_TAG_CTL Fld.TEL_TAG_CTL_ENABLE then
    let x := lfsrStep (SMap.get 0 s.tele.lfsr n)
    (lowZero x s.tagLog2 && f.job != 0 && !s.confidential (s.slotOf f.job.toNat),
      s.onTele (fun t => { t with lfsr := SMap.put 0 t.lfsr n x }))
  else (false, s)

/-- Unread records of the sample ring. (DEDUCED, log entry 27) -/
def State.srUnread (s : State) : Nat :=
  (s.fld Reg.TEL_SR_WPTR ⟨0, 32⟩ + 2 ^ 32 - s.fld Reg.TEL_SR_RPTR ⟨0, 32⟩) % 2 ^ 32

/-- Write a record of eight words to the sample ring (R374). (DEDUCED, log entry 118) -/
def State.srWrite (s : State) (w : List Byte) : State :=
  if 16384 ≤ s.srUnread then
    (s.bump Reg.TEL_SR_DROP 1).raise Reg.TEL_EVT 2 11 srcTele
  else
    let i := s.fld Reg.TEL_SR_WPTR ⟨0, 32⟩
    let s := (List.range 8).foldl (fun s j =>
      s.setReg (Reg.TEL_SR (i % 16384) j) (BitVec.ofNat 64 (natAt w (8 * j) 8))) s
    let s := s.setReg Reg.TEL_SR_WPTR (BitVec.ofNat 64 ((i + 1) % 2 ^ 32))
    if s.srUnread = s.fld Reg.TEL_SR_CTL ⟨0, 14⟩ then s.raise Reg.TEL_EVT 1 11 srcTele else s

/-- How a frame left the module: its egress port and time-stamp, or consumed (`none`), with the discard cause
and whose cause it is (1 R50, 2 R194). -/
structure Fate where
  pout : Option Nat := none
  tout : Option Nat := none
  consumed : Bool := false
  discarded : Bool := false
  cause : Nat := 0
  cset : Nat := 0
  deriving DecidableEq, Repr

/-- A delta of a journey record. -/
def journeyDelta (tin : Nat) : Option Nat → Nat
  | some t => min (t - tin) 0xFFFFFFFF
  | none => 0xFFFFFFFF

/-- The journey record of a tagged frame (R373). -/
def journeyBytes (h : Held) (t : Fate) (out : Option Nat) (seq : Nat) : List Byte :=
  let f := h.f
  let d := journeyDelta h.m.tin
  beBytes 2 f.job.toNat ++ beBytes 1 f.kind.toNat
    ++ beBytes 1 (f.vc.toNat + 32 * b2n h.m.mcast + 64 * b2n t.consumed + 128 * b2n t.discarded)
    ++ beBytes 4 f.src.toNat ++ beBytes 4 f.dst.toNat ++ beBytes 2 f.coll.toNat
    ++ beBytes 2 f.round.toNat ++ beBytes 4 f.chunk.toNat ++ beBytes 2 h.m.pin
    ++ beBytes 2 (t.pout.getD 0xFFFF) ++ beBytes 8 h.m.tin ++ beBytes 4 (d h.m.denq)
    ++ beBytes 4 (d h.m.dmstart) ++ beBytes 4 (d h.m.dmfin) ++ beBytes 4 (d h.m.dgrn)
    ++ beBytes 4 (d out) ++ beBytes 1 t.cause ++ beBytes 1 t.cset ++ beBytes 2 0 ++ beBytes 8 seq

/-- The other copies of a multicast frame write no journey record (R373). -/
def State.untag (s : State) (h : Held) : State :=
  let other := fun (x : Held) =>
    if x.m.mcast && x.m.pin == h.m.pin && x.m.tin == h.m.tin && x.f.payload == h.f.payload then
      let m := { x.m with tagged := false }
      { x with m := m }
    else x
  s.onSw (fun w => { w with
    queues := w.queues.map (fun p => (p.1, p.2.map other))
    handed := w.handed.map (fun p => (p.1, p.2.map (fun b => { b with h := other b.h }))) })

/-- Write the journey record of a tagged frame when it leaves the module, or its first copy does. A record's sequence
number is taken whether or not the ring has room. (DEDUCED, log entry 118) -/
def State.journey (s : State) (h : Held) (t : Fate) : State :=
  if h.m.tagged then
    let seq := s.tele.tagSeq
    let s := s.onTele (fun x => { x with tagSeq := x.tagSeq + 1 })
    let s := if h.m.mcast then s.untag h else s
    s.srWrite (journeyBytes h t (t.pout.map (fun _ => t.tout.getD s.nowHalf)) seq)
  else s

/-! ### Crow's nest -/

/-- Records that the CAPT ring holds (R147). -/
def State.captSize (s : State) : Nat := s.fld Reg.LFT_PART Fld.LFT_PART_CAPT * 268435456 / 160

/-- A frame matches a capture rule (R145). (DEDUCED, log entry 119) -/
def captMatch (w : Word) (pin : Nat) (f : Frame) : Bool :=
  let g := fun (x : Fld) => x.get w
  g Fld.LFT_CN_MATCH_ENABLE = 1
    && (g Fld.LFT_CN_MATCH_KINDANY = 1 || g Fld.LFT_CN_MATCH_KIND = f.kind.toNat)
    && (g Fld.LFT_CN_MATCH_JOBANY = 1 || g Fld.LFT_CN_MATCH_JOB = f.job.toNat)
    && (g Fld.LFT_CN_MATCH_PORTANY = 1 || g Fld.LFT_CN_MATCH_PORT = pin)
    && bitOf (g Fld.LFT_CN_MATCH_VCMASK) f.vc.toNat

/-- Step the registers of the rules that match; the lowest rule that keeps the frame (R145).
Nothing is captured while capture is off, while CAPT is 0, or for a confidential job. (DEDUCED, log entry 119) -/
def State.captRule (s : State) (pin : Nat) (f : Frame) : Option Nat × State :=
  if !(s.reg Reg.LFT_CN_CTL).getLsbD 0 || s.captSize = 0 || s.confidential (s.slotOf f.job.toNat) then (none, s)
  else
    (List.range 8).foldl (fun (a : Option Nat × State) i =>
      let w := a.2.reg (Reg.LFT_CN_MATCH i)
      if captMatch w pin f then
        let x := lfsrStep (SMap.get 0 a.2.tele.captLfsr i)
        let s := a.2.onTele (fun t => { t with captLfsr := SMap.put 0 t.captLfsr i x })
        let keep := lowZero x (min 24 (Fld.LFT_CN_MATCH_SAMPLE.get w))
        (a.1 <|> (if keep then some i else none), s)
      else a) (none, s)

/-- Unread capture records. (DEDUCED, log entry 27) -/
def State.captUnread (s : State) : Nat :=
  (s.fld Reg.LFT_CN_WPTR ⟨0, 32⟩ + 2 ^ 32 - s.fld Reg.LFT_CN_RPTR ⟨0, 32⟩) % 2 ^ 32

/-- The capture record of a frame (R146). (DEDUCED, log entry 119) -/
def captBytes (h : Held) (t : Fate) (out rule seq : Nat) : List Byte :=
  sliceBytes (frameBytes (h.m.asRx.getD h.f)) 0 128 ++ beBytes 8 h.m.tin ++ beBytes 8 out ++ beBytes 2 h.m.pin
    ++ beBytes 2 (t.pout.getD 0xFFFF) ++ beBytes 1 (b2n t.discarded + 2 * b2n h.m.mcast)
    ++ beBytes 1 t.cause ++ beBytes 1 rule ++ beBytes 1 0 ++ beBytes 8 seq

/-- A record of the Crow's nest is lost (R147). -/
def State.captLost (s : State) : State := (s.bump Reg.LFT_CN_DROP 1).raise Reg.LFT_CN_EVT 1 11 srcCrow

/-- Write a kept frame's capture record (R146, R147): with STOPFULL a full ring loses the
record, else the ring wraps. Whether the Loft's bandwidth lets the record be written within 10 µs (R103) is a free value;
one that cannot be written is lost and its SEQ is skipped. (DEDUCED, log entry 119; DESIGN CHOICE, log entry 126) -/
def State.capture (s : State) (h : Held) (t : Fate) : State :=
  match h.m.rule with
  | none => s
  | some r =>
    let size := s.captSize
    if size = 0 then s
    else
      let full := decide (size ≤ s.captUnread)
      let late := s.free.1.getLsbD 0
      let s := s.free.2
      if full && (s.reg Reg.LFT_CN_CTL).getLsbD 1 then s.captLost
      else if late then (s.onTele (fun x => { x with captSeq := x.captSeq + 1 })).captLost
      else
        let i := s.fld Reg.LFT_CN_WPTR ⟨0, 32⟩
        let seq := s.tele.captSeq
        let out := if t.pout.isSome then t.tout.getD s.nowHalf else 0
        let w := BitVec.ofNat 1280 (beNat (captBytes h t out r seq))
        let s := s.onTele (fun x => { x with
          capt := SMap.put 0 x.capt (i % size) w
          captBad := SMap.put false x.captBad (i % size) false
          captSeq := seq + 1 })
        let s := s.setReg Reg.LFT_CN_WPTR (BitVec.ofNat 64 ((i + 1) % 2 ^ 32))
        if s.captUnread = size then s.raise Reg.LFT_CN_EVT 0 11 srcCrow else s

/-- A frame leaves the module: its journey record and, where one is due, its capture record, which a frame
discarded under R194 does not get (R145). -/
def State.depart (s : State) (h : Held) (t : Fate) : State :=
  let s := s.journey h t
  if t.consumed || t.cset == 2 then s else s.capture h t

end Sys2Proof.Machine
end

