-- ==== Sys2Proof/Machine/Frames.lean ====
section
/-! DEFINITION. What happens to frames at every place: credit returned to the far end (R123,
R124, R131), discards (R50, R51), frames put at internal sources (R132), replies (R310) and the
HOME_DEAD answers of a module that is not the home (R322). -/

namespace Sys2Proof.Machine

/-! ### Credit -/

/-- Link control block types (R57). -/
def lcbAckType : Nat := 1
def lcbNakSelType : Nat := 2
def lcbNakGobackType : Nat := 3
def lcbCreditType : Nat := 4
def lcbReefType : Nat := 5
def lcbLaneReportType : Nat := 6
def lcbEchoType : Nat := 7
def lcbEchoReplyType : Nat := 8
def lcbParamType : Nat := 9
def lcbResyncType : Nat := 10

/-- Cells that a port allots to a VC of the far end (R98, R123). -/
def State.allotment (s : State) (port v : Nat) : Nat :=
  if isSpan port then 8192 * s.fld Reg.LFT_PART Fld.LFT_PART_HOLD
  else s.fld (Reg.CL_CRLIM (clusterOf port) (qIndex port v)) ⟨0, 16⟩

/-- CREDIT blocks for `n` cells, of at most 65,535 cells each (R123). -/
def creditBlocks (n : Nat) : List Nat :=
  List.replicate (n / 65535) 65535 ++ (if n % 65535 = 0 then [] else [n % 65535])

/-- Grant what the allotment allows beyond the credit outstanding (R123, R131). (DEDUCED, log entry 64) -/
def State.grant (s : State) (port v : Nat) : State :=
  let l := s.vc port v
  let lack := s.allotment port v - l.outstanding
  if lack = 0 then s
  else
    let s := s.setVc port v { l with outstanding := l.outstanding + lack }
    (creditBlocks lack).foldl (fun s c => s.putOnWire port (.lcb port lcbCreditType v 0 0 (BitVec.ofNat 64 c))) s

/-- A frame's cells return to the far end; a frame accepted before the last RESYNC holds none
of the credit now outstanding. (DEDUCED, log entry 71) -/
def State.returnCells (s : State) (port : Nat) (h : Held) : State :=
  if h.m.pin = port ∧ h.m.era = (s.link port).era ∧ s.portState port = pUp then
    let v := h.f.vc.toNat
    let l := s.vc port v
    (s.setVc port v { l with outstanding := l.outstanding - frameCells h.f }).grant port v
  else s

/-! ### Sources -/

/-- Places of the internal sources (R132). -/
def qMill (n c : Nat) : Nat := 96 * n + c
def qGranary (j : Nat) : Nat := 1536 + j
def qBosun : Nat := 1552

def sourceKey : FrameSource → Nat
  | .mill n c => qMill n.val c.val
  | .granary j => qGranary j.val
  | .bosun => qBosun

/-- The cluster in which a source's frames enter the switch core (R154). -/
def sourceCluster (q : Nat) : Nat := if q < 1536 then q / 96 else if q < 1552 then q - 1536 else 0

def State.source (s : State) (q : Nat) : List SrcFrame := SMap.get [] s.sw.sources q
def State.setSource (s : State) (q : Nat) (l : List SrcFrame) : State :=
  s.onSw (fun x => { x with sources := SMap.put [] x.sources q l })

/-- Put a frame at an internal source. The module originates no frame of a revoked job (R438). -/
def State.originate (s : State) (q : Nat) (f : Frame) (aims : List Aim) (note : Note) : State :=
  if f.job != 0 && s.jobState f.job.toNat == 2 then s
  else s.setSource q (s.source q ++ [{ f := f, aims := aims, note := note, since := s.tick }])

/-! ### Replies -/

/-- A REPLY frame of this module (R310). -/
def State.replyFrame (s : State) (job : BitVec 12) (dst : BitVec 20) (tag len : BitVec 32) (addr : Word)
    (err : BitVec 8) (flags : BitVec 8) (count : Nat) (payload : List Byte) : Frame :=
  let payload := pad4 payload
  { kind := kReply
    vc := 2
    flags := flSrcmod ||| flags
    plen := BitVec.ofNat 13 payload.length
    job := job
    dst := dst
    err := err
    src := s.modnum.setWidth 20
    count := BitVec.ofNat 32 count
    addr := addr
    len := len
    tag := tag
    payload := payload }

/-- The one REPLY of an error, or of a completed write (R310). -/
def State.replyOne (s : State) (f : Frame) (err : BitVec 8) (payload : List Byte) : Frame :=
  s.replyFrame f.job f.src f.tag f.len f.addr err flFence 1 payload

/-- ERR values (R49). -/
def errOk : BitVec 8 := 0
def errOwnership : BitVec 8 := 1
def errHomeDead : BitVec 8 := 2
def errNotBacked : BitVec 8 := 3
def errAddrMismatch : BitVec 8 := 4
def errStaleEpoch : BitVec 8 := 5
def errIntegrity : BitVec 8 := 6
def errBadRequest : BitVec 8 := 7

/-- `n` bytes of poison (R32). -/
def poisonBytes (n : Nat) : List Byte :=
  (List.range n).map (fun i => if i % 2 = 0 then 0xBA else 0xD0)

/-- Offset and length of each piece of a reply to a read of `len` bytes (R42). -/
def pieces (len : Nat) : List (Nat × Nat) :=
  (List.range (ceilDiv len 4096)).map (fun i => (4096 * i, min 4096 (len - 4096 * i)))

/-- The REPLY frames of a read: one for each piece, the last with FENCE and COUNT (R42). (DEDUCED, log entry 88) -/
def State.readReplies (s : State) (job : BitVec 12) (dst : BitVec 20) (tag len : BitVec 32) (addr : Word)
    (err : BitVec 8) (extra : BitVec 8) (data : Nat → Nat → List Byte) : List Frame :=
  let ps := pieces len.toNat
  let last := ps.length - 1
  ps.mapIdx (fun i p =>
    s.replyFrame job dst tag len (addr + BitVec.ofNat 64 p.1) err
      (if i = last then flFence ||| extra else extra) (if i = last then ps.length else 0) (data p.1 p.2))

/-- The HOME_DEAD reply to a request (R310, R32). (DEDUCED, log entry 87) -/
def State.homeDeadReplies (s : State) (f : Frame) : List Frame :=
  if f.kind = kRdReq then
    s.readReplies f.job f.src f.tag f.len f.addr errHomeDead flPoison (fun _ n => poisonBytes n)
  else
    let n := if f.kind = kWrReq then 8 else min f.len.toNat 4096
    [s.replyFrame f.job f.src f.tag f.len f.addr errHomeDead (flFence ||| flPoison) 1 (poisonBytes n)]

/-! ### Discards -/

/-- A stricter limit of one fault record per 1 ms under key `k`: is one allowed now. (DEDUCED, log entry 87) -/
def State.rateOk (s : State) (k : Nat) : Bool :=
  match s.watch.lastRate.find? (fun p => p.1 = k) with
  | some p => s.since p.2 (msTicks 1)
  | none => true

def State.rateMark (s : State) (k : Nat) : State :=
  s.onWatch (fun w => { w with lastRate := SMap.put 0 w.lastRate k s.tick })

/-- At most one fault record per 1 ms under key `k`. (DEDUCED, log entry 87) -/
def State.faultRated (s : State) (k : Nat) (r : FaultInfo) : State :=
  if s.rateOk k then (s.rateMark k).faultRecord r else s

/-- The slot byte of a fault record. -/
def State.slotByte (s : State) (job : Nat) : Nat := (s.slotOf job).getD 0xFF

/-- A module that is not the home answers a discarded request with HOME_DEAD (R322): 0
NO_ROUTE, 1 FAR_RESET, 2 HOLD expiry. (DEDUCED, log entry 87) -/
def State.homeDead (s : State) (n cause : Nat) (f : Frame) : State :=
  if isRequest f && !s.isOwn (addrHome f.addr) then
    let log := pack [(Fld.CL_MA_DEADLOG_CAUSE, cause), (Fld.CL_MA_DEADLOG_HOME, (addrHome f.addr).toNat),
      (Fld.CL_MA_DEADLOG_SRC, f.src.toNat)]
    let s := (s.bump (Reg.CL_MA_DEAD n) 1).setReg (Reg.CL_MA_DEADLOG n) log
    let s := (s.homeDeadReplies f).foldl (fun s r => s.originate qBosun r [.route] .none) s
    s.faultRated (0x100 + n)
      { unitType := utCluster, unit := n, register := 3, cause := cause, action := 7, detail := log,
        slot := s.slotByte f.job.toNat }
  else s

/-- Discard causes (R50). -/
def dcCrc : Nat := 0
def dcVersion : Nat := 1
def dcKind : Nat := 2
def dcKindVc : Nat := 3
def dcLength : Nat := 4
def dcField : Nat := 5
def dcJob : Nat := 6
def dcNoRoute : Nat := 7
def dcSpan : Nat := 8
def dcInternal : Nat := 0xF

/-- The discard at place `loc` is not the one captured among those of its cycle: one of a lower PORT value was
captured in the same tick (R51; DEDUCED, log entry 65). -/
def State.captured (s : State) (n loc : Nat) : Bool :=
  SMap.get 0 s.sw.captAt n == s.tick + 1 && decide (s.fld (Reg.CL_FCHK_LASTSRC n) Fld.CL_FCHK_LASTSRC_PORT < loc)

/-- Count a discard in cluster `n` and capture the frame's header (R50, R51): for a job in
confidential mode bytes 8 to 63 read as zero (R449). (DEDUCED, log entries 65 and 121) -/
def State.countDiscard (s : State) (n loc : Nat) (f : Frame) (cause : Nat) : State :=
  let s := s.bump (Reg.CL_FCHK_CNT n cause) 1
  if s.captured n loc then s
  else
    let hide := s.confidential (s.slotOf f.job.toNat)
    let s := (List.range 8).foldl (fun s i =>
      s.setReg (Reg.CL_FCHK_LAST n i) (if hide && i != 0 then 0 else headerWord f i)) s
    let s := s.onSw (fun x => { x with captAt := SMap.put 0 x.captAt n (s.tick + 1) })
    s.setReg (Reg.CL_FCHK_LASTSRC n)
      (pack [(Fld.CL_FCHK_LASTSRC_CAUSE, cause), (Fld.CL_FCHK_LASTSRC_PORT, loc)])

/-- Discard a frame that came in on `port` with a cause of R50: it is counted, its journey and
capture records are written (no capture record under CRC), and a request that a module other
than its home discards NO_ROUTE is answered HOME_DEAD. (DEDUCED, log entry 84) -/
def State.discard (s : State) (port : Nat) (h : Held) (cause : Nat) : State :=
  let n := clusterOf port
  let s := s.countDiscard n (localOf port) h.f cause
  let s := s.frameEvent 0x05 1 (if h.m.pin < 544 then h.m.pin else port) h.f
  let t : Fate := { discarded := true, cause := cause, cset := 1 }
  let s := if cause = dcCrc then s.journey h t else s.depart h t
  let s := if cause = dcInternal then
    (s.logEvent 5 (srcPort n) false).faultRecord
      { cls := 5, unitType := utCluster, unit := n, register := 0, cause := cause, action := 7,
        detail := s.reg (Reg.CL_FCHK_LASTSRC n), slot := s.slotByte h.f.job.toNat }
    else s
  if cause = dcNoRoute then s.homeDead n 0 h.f else s

/-- Discard a frame of staging or overflow holding and return its cells. -/
def State.discardStaged (s : State) (port : Nat) (h : Held) (cause : Nat) : State :=
  (s.discard port h cause).returnCells port h

/-- A frame of staging. -/
def State.stagedAt (s : State) (r : StageRef) : Option Held := (s.staged r.port.val r.vc.val)[r.idx]?

/-- Take a frame out of staging. -/
def State.unstage (s : State) (r : StageRef) : State :=
  s.setStaged r.port.val r.vc.val (dropAt (s.staged r.port.val r.vc.val) r.idx)

/-- A consumer inside the module has taken a staged frame: its cells return and its journey
record is written. -/
def State.consume (s : State) (r : StageRef) (h : Held) : State :=
  let m := { h.m with denq := some s.nowHalf }
  ((s.unstage r).returnCells r.port.val h).depart { h with m := m } { consumed := true }

end Sys2Proof.Machine
end

