-- ==== Sys2Proof/Machine/Collective.lean ====
section
/-! DEFINITION. The Collective Context (R175), the home map (R190, R191), the contributor set
(R191, R192), what each contributor owes (R202), slots and reservations (R196, R199), and the
checks of a contribution in its ingress cluster (R193, R194). -/

namespace Sys2Proof.Machine

/-! ### Context fields -/

/-- The bits of a Collective Context entry. -/
abbrev Cx := BitVec 512

def State.cx (s : State) (coll : Nat) : Cx := (s.entry 2 coll).data

def cxValid (d : Cx) : Bool := bitOf (entryNat d 0 1) 7
def cxOp (d : Cx) : Nat := bitsOf (entryNat d 0 1) 6 4
def cxDest (d : Cx) : Nat := bitsOf (entryNat d 0 1) 3 2
def cxJob (d : Cx) : Nat := bitsOf (entryNat d 1 2) 15 4
def cxEfmt (d : Cx) : Nat := bitsOf (entryNat d 3 1) 7 4
def cxOfmt (d : Cx) : Nat := bitsOf (entryNat d 3 1) 3 0
def cxAfmt (d : Cx) : Nat := bitsOf (entryNat d 4 1) 7 4
def cxChunks (d : Cx) : Nat := entryNat d 5 3
def cxElems (d : Cx) : Nat := entryNat d 8 2
def cxProg (d : Cx) : Nat := entryNat d 10 2
def cxK (d : Cx) : Nat := bitsOf (entryNat d 14 2) 9 0
def cxScale (d : Cx) : Nat := entryNat d 16 4
def cxSeed (d : Cx) : BitVec 32 := BitVec.ofNat 32 (entryNat d 20 4)
def cxHmbase (d : Cx) : Nat := bitsOf (entryNat d 24 2) 15 4
def cxHmcount (d : Cx) : Nat := bitsOf (entryNat d 26 2) 15 4
def cxHmstep (d : Cx) : Nat := bitsOf (entryNat d 28 2) 15 4
def cxHshift (d : Cx) : Nat := bitsOf (entryNat d 30 1) 4 0
def cxRmask (d : Cx) : Nat := entryNat d 31 1

/-- The `b`-th of eight 10-bit group numbers, the first most significant. -/
def cxGroupAt (d : Cx) (i b : Nat) : Nat := bitsOf (entryNat d i 10) (79 - 10 * b) (70 - 10 * b)
def cxCset (d : Cx) (b : Nat) : Nat := cxGroupAt d 32 b
def cxMset (d : Cx) (b : Nat) : Nat := cxGroupAt d 42 b
def cxRgrp (d : Cx) (r : Nat) : Nat := cxGroupAt d 52 r
def cxGregion (d : Cx) : Nat := bitsOf (entryNat d 62 2) 15 2

/-- OP values (R189). -/
def opSum : Nat := 0
def opSumScale : Nat := 1
def opMax : Nat := 2
def opMin : Nat := 3
def opTopk : Nat := 4

/-- Round timeout in ticks (R210). -/
def cxTimeout (d : Cx) : Nat := msTicks (if entryNat d 12 2 = 0 then 50 else entryNat d 12 2)

/-- The groups named by one of the three lists, 0x3FF naming none. -/
def namedGroups (g : Nat → Nat) : List Nat := ((List.range 8).map g).filter (fun x => x != 0x3FF)

/-! ### The home map (R190, R191) -/

/-- home(c) by index in the map. -/
def homeOf (d : Cx) (i : Nat) : Nat := (cxHmbase d + cxHmstep d * i) % 4096

/-- Index in the map of chunk `c`. -/
def homeIndex (d : Cx) (c : Nat) : Nat := c / 2 ^ cxHshift d % cxHmcount d

/-- home(c). -/
def home (d : Cx) (c : Nat) : Nat := homeOf d (homeIndex d c)

/-- Chunks of a round whose index in the map is `i`. -/
def homeChunks (d : Cx) (i : Nat) : Nat :=
  let b := 2 ^ cxHshift d
  let p := b * cxHmcount d
  cxChunks d / p * b + min b (cxChunks d % p - i * b)

/-- The homes of the map with the chunks of each, without empty ones. -/
def homeCounts (d : Cx) : List (Nat × Nat) :=
  ((List.range (cxHmcount d)).map (fun i => (homeOf d i, homeChunks d i))).filter (fun p => p.2 != 0)

/-- Home `h` is this module, or one it acts for (R341). -/
def State.ownHome (s : State) (h : Nat) : Bool := s.isOwn (BitVec.ofNat 12 h)

/-- The Destination entry of home `h` names a span port or a span group. -/
def State.spanHome (s : State) (h : Nat) : Bool :=
  match s.modTarget h with
  | some g => g.span
  | none => false

/-- The module handles the chunks of home `h`. -/
def State.handles (s : State) (h : Nat) : Bool := s.ownHome h || s.spanHome h

/-- H of R196: chunks of a round that the module handles. -/
def State.handled (s : State) (d : Cx) : Nat :=
  (((homeCounts d).filter (fun p => s.handles p.1)).map (fun p => p.2)).sum

/-- Chunks of a round homed at the module. -/
def State.homed (s : State) (d : Cx) : Nat :=
  (((homeCounts d).filter (fun p => s.ownHome p.1)).map (fun p => p.2)).sum

/-- Chunks of a round homed at module `h`. -/
def homedAt (d : Cx) (h : Nat) : Nat :=
  (((homeCounts d).filter (fun p => p.1 == h)).map (fun p => p.2)).sum

/-- The module's numbers that home chunks of the collective. -/
def State.ownHomes (s : State) (d : Cx) : List Nat :=
  (((homeCounts d).map (fun p => p.1)).filter s.ownHome).dedup

/-- The other homes of a round (R207). -/
def State.otherHomes (s : State) (d : Cx) : List Nat :=
  (((homeCounts d).map (fun p => p.1)).filter (fun h => s.handles h && !s.ownHome h)).dedup

/-! ### Contributors (R191, R192, R202) -/

/-- The site ports of the contributor set. -/
def State.siteBits (s : State) (d : Cx) : List Nat :=
  (List.range 8).flatMap (fun b =>
    if cxCset d b = 0x3FF then []
    else match s.group (cxCset d b) with
      | some g => if g.span then [] else g.members.filter (fun p => p / 64 == b)
      | none => [])

/-- The remote bits of RMASK. -/
def remoteBits (d : Cx) : List Nat :=
  ((List.range 8).filter (fun r => bitOf (cxRmask d) r)).map (fun r => 512 + r)

/-- The contributor set of chunk `c`. -/
def State.contributors (s : State) (d : Cx) (c : Nat) : List Nat :=
  s.siteBits d ++ (if s.ownHome (home d c) then remoteBits d else [])

/-- N(c). -/
def State.ncontrib (s : State) (d : Cx) (c : Nat) : Nat := (s.contributors d c).length

/-- Every contributor of a round. -/
def State.roundContributors (s : State) (d : Cx) : List Nat :=
  s.siteBits d ++ (if s.homed d = 0 then [] else remoteBits d)

/-- Frames that contributor bit `b` owes a round (R202). -/
def State.owed (s : State) (d : Cx) (b : Nat) : Nat := if b < 512 then s.handled d else s.homed d

/-- The lowest remote slot in RMASK whose group holds span port `p` (R192). -/
def State.remoteSlot (s : State) (d : Cx) (p : Nat) : Option Nat :=
  (List.range 8).find? (fun r => bitOf (cxRmask d) r && match s.group (cxRgrp d r) with
    | some g => cxRgrp d r != 0x3FF && g.members.contains p
    | none => false)

/-- The contributor bit of a frame that arrived on `port`. -/
def State.contribBit (s : State) (d : Cx) (port : Nat) : Option Nat :=
  if isSpan port then (s.remoteSlot d port).map (fun r => 512 + r)
  else if (s.siteBits d).contains port then some port else none

/-! ### Slots (R196, R199) -/

/-- S of R199, in cells. -/
def slotCells (d : Cx) : Nat :=
  if cxOp d = opTopk then 1 + ceilDiv (8 * cxK d) 128
  else 1 + ceilDiv (cxElems d * (if cxAfmt d = fFp32c then 8 else 4)) 128

/-- RESV(x) of R196, in cells. -/
def State.resvCells (s : State) (d : Cx) : Nat := s.handled d * slotCells d + ceilDiv (s.handled d) 1024

/-- Cells of the Loft region SPILL. -/
def State.spillCells (s : State) : Nat := s.fld Reg.LFT_PART Fld.LFT_PART_SPILL * 2097152

/-- Place of a slot in the map: collective, round, chunk. -/
def slotKey (coll round chunk : Nat) : Nat := 2 ^ 40 * coll + 2 ^ 24 * round + chunk
def slotColl (k : Nat) : Nat := k / 2 ^ 40
def slotRound (k : Nat) : Nat := k / 2 ^ 24 % 65536
def slotChunk (k : Nat) : Nat := k % 2 ^ 24

def State.slot (s : State) (k : Nat) : Slot := SMap.get {} s.red.slots k
def State.setSlot (s : State) (k : Nat) (x : Slot) : State :=
  s.onRed (fun r => { r with slots := SMap.put {} r.slots k x })

/-- The slots of a round. -/
def State.roundSlots (s : State) (coll round : Nat) : List (Nat × Slot) :=
  s.red.slots.filter (fun p => slotColl p.1 == coll && slotRound p.1 == round)

/-- The lowest place with `n` free cells among taken runs, below `cap`. (DEDUCED, log entry 97) -/
def placeRun (n cap : Nat) : List (Nat × Nat) → Nat → Option Nat
  | [], at_ => if at_ + n ≤ cap then some at_ else none
  | (a, l) :: rest, at_ => if at_ + n ≤ a then some at_ else placeRun n cap rest (max at_ (a + l))

/-- The free runs between taken ones, below `cap`. -/
def gapsIn (cap : Nat) : List (Nat × Nat) → Nat → List (Nat × Nat)
  | [], at_ => if at_ < cap then [(at_, cap - at_)] else []
  | (a, l) :: rest, at_ =>
    (if at_ < min a cap then [(at_, min a cap - at_)] else []) ++ gapsIn cap rest (max at_ (a + l))

/-- The first `n` cells of some runs. -/
def takeCells : Nat → List (Nat × Nat) → List (Nat × Nat)
  | _, [] => []
  | n, (a, l) :: rest => if n = 0 then [] else if n ≤ l then [(a, n)] else (a, l) :: takeCells (n - l) rest

/-- The `i`-th cell of some runs. -/
def cellAt : List (Nat × Nat) → Nat → Nat
  | [], i => i
  | (a, l) :: rest, i => if i < l then a + i else cellAt rest (i - l)

/-- Cells of some runs. -/
def runsCells (l : List (Nat × Nat)) : Nat := (l.map (fun r => r.2)).sum

/-- Room for `n` cells: the lowest place that holds them together, else the lowest free cells (R199). (DEDUCED, log
entry 97) -/
def placeCells (n cap : Nat) (taken : List (Nat × Nat)) : Option (List (Nat × Nat)) :=
  match placeRun n cap taken 0 with
  | some a => some [(a, n)]
  | none => if runsCells (gapsIn cap taken 0) < n then none else some (takeCells n (gapsIn cap taken 0))

/-- A slot's first cell, its cells, and whether one is its own. -/
def Slot.cell (y : Slot) : Nat := (y.runs.headD (0, 0)).1
def Slot.cells (y : Slot) : Nat := runsCells y.runs
def Slot.covers (y : Slot) (c : Nat) : Bool := y.runs.any (fun r => decide (r.1 ≤ c ∧ c < r.1 + r.2))

/-- Cells taken in the accumulator region of a core's bank (`some` core) or in SPILL. (DEDUCED, log entry 97) -/
def State.takenRuns (s : State) (bank : Option Nat) : List (Nat × Nat) :=
  sortBy (fun p => p.1) ((s.red.slots.filter (fun p => match bank with
    | some c => !p.2.spill && p.2.owner == c
    | none => p.2.spill)).flatMap (fun p => p.2.runs))

/-! ### Counters of a collective (R200, R279) -/

/-- The tally cluster of a collective. -/
def tallyCluster (coll : Nat) : Nat := coll % 16

/-- Add to CL_RD_CTXCNT[i] of a collective, 48 bits, saturating. (DEDUCED, log entry 68) -/
def State.ctxCount (s : State) (coll i n : Nat) : State :=
  let k := 8 * (65536 * tallyCluster coll + coll) + i
  s.onRed (fun r => { r with ctxCnt := SMap.put 0 r.ctxCnt k (min (SMap.get 0 r.ctxCnt k + n) 0xFFFFFFFFFFFF) })

/-- Add to CL_AR_CNT[i] of a collective. -/
def State.arCount (s : State) (coll i n : Nat) : State :=
  let k := 8 * (65536 * tallyCluster coll + coll) + i
  s.onRed (fun r => { r with arCnt := SMap.put 0 r.arCnt k (min (SMap.get 0 r.arCnt k + n) 0xFFFFFFFFFFFF) })

/-! ### Discards of R194 -/

/-- Reduction discard causes. -/
def rdNoContext : Nat := 0
def rdNotContrib : Nat := 1
def rdNotHandled : Nat := 2
def rdNotHome : Nat := 3
def rdNoSlot : Nat := 4
def rdChunk : Nat := 5
def rdSize : Nat := 6
def rdLength : Nat := 7
def rdWindow : Nat := 8
def rdNoRecord : Nat := 9
def rdNoRoom : Nat := 0xA
def rdFaulted : Nat := 0xB
def rdUnbound : Nat := 0xC
def rdDup : Nat := 0xD

/-- Discard a frame under R194: counted in cluster `n`, its cells returned, its records written.
A DUP also counts in CL_RD_CTXCNT[1] (R195, R200). (DEDUCED, log entry 89) -/
def State.rdDrop (s : State) (n : Nat) (h : Held) (cause : Nat) : State :=
  let s := s.bump (Reg.CL_RD_DROP n cause) 1
  let f := h.f
  let e : TelEvent := { ev := 0x05, cluster := some n, port := some h.m.pin, src := some f.src.toNat, vc := some f.vc.toNat,
                        kind := some f.kind.toNat, slot := s.slotOf f.job.toNat }
  let s := s.count e
  let s := if cause = rdDup then
    (s.ctxCount f.coll.toNat 1 1).count
      { ev := 0x0B, cluster := some n, port := some h.m.pin, slot := s.slotOf f.job.toNat }
    else s
  (s.returnCells h.m.pin h).depart h { discarded := true, cause := cause, cset := 2 }

/-! ### Checks in the ingress cluster (R193, R194) -/

/-- A contribution's PLEN is the one its context asks for. -/
def contribLenOk (d : Cx) (plen : Nat) : Bool :=
  if cxOp d = opTopk then plen % 8 == 0 && decide (plen ≤ 8 * cxK d)
  else plen == ceilDiv (payloadLen (cxEfmt d) (cxElems d)) 4 * 4

/-- Payload length of a result or an element list (R265). -/
def cxLen (d : Cx) (c : Nat) : Nat := if cxOp d = opTopk then 8 * cxK d else payloadLen c (cxElems d)

/-- The first check of 0x0 to 0x7 that a CONTRIB frame fails. (DEDUCED, log entry 89) -/
def State.contribCheck (s : State) (port : Nat) (f : Frame) : Option Nat :=
  let d := s.cx f.coll.toNat
  let c := f.chunk.toNat
  if !cxValid d || cxJob d != f.job.toNat then some rdNoContext
  else if (if isSpan port then !frameSrcmod f else frameSrcmod f || (s.contribBit d port).isNone) then some rdNotContrib
  else if !s.handles (home d c) then some rdNotHandled
  else if isSpan port && !s.ownHome (home d c) then some rdNotHome
  else if isSpan port && (s.contribBit d port).isNone then some rdNoSlot
  else if cxChunks d ≤ c then some rdChunk
  else if 4096 < cxLen d (cxEfmt d) ∨ 4096 < cxLen d (cxOfmt d) then some rdSize
  else if !contribLenOk d f.plen.toNat then some rdLength
  else none

/-- The check that a RESULT or COMMIT frame fails (R194). (DEDUCED, log entry 89) -/
def State.downCheck (s : State) (port : Nat) (f : Frame) : Option Nat :=
  let d := s.cx f.coll.toNat
  let h := f.src.toNat
  if !cxValid d || cxJob d != f.job.toNat then some rdNoContext
  else if !isSpan port then some rdNotHome
  else if f.kind = kResult then (if h = home d f.chunk.toNat then none else some rdNotHome)
  else if ((List.range (cxHmcount d)).map (homeOf d)).contains h then none
  else some rdNotHome

end Sys2Proof.Machine
end

