-- ==== Sys2Proof/Machine/Clock.lean ====
section
/-! DEFINITION. The passing of one event tick (R382), the running of fabric time between commands (R351, R359, R362), and the
servo's state with what follows from a lock that is lost (R140, R360). -/

namespace Sys2Proof.Machine

/-- 2^−36 ns units of fabric time in one 40 ns tick at frequency adjust `freq`, a signed
number of 2^−32 units (TIM_FREQ). -/
def fineOfTick (freq : Int) : Int := 40 * 2 ^ 36 + 40 * 16 * freq

/-- What is left of a slew after the tick, and how much of it the tick takes (R359). (DEDUCED, log entry 44) -/
def slewTick (c : Clock) : Int :=
  if c.slewLeft = 0 then 0
  else if c.slewLeft.natAbs ≤ c.slewPer.natAbs then c.slewLeft else c.slewPer

/-- The Watch domain carries fabric time: a datapath warm reset runs (R362). -/
def State.watchTime (s : State) : Bool :=
  match s.watch.run with
  | some r => r.domain == 2
  | none => false

/-- One event tick passes: WCH_TICK and fabric time run; in a datapath warm reset time runs in whole ticks of 40 ns (R362).
(DESIGN CHOICE, log entry 1) -/
def State.clockTick (s : State) : State :=
  let on := !s.watchTime
  let freq := if on then toSigned 32 (s.reg Reg.TIM_FREQ).toNat else 0
  let d := if on then slewTick s.clock else 0
  { s with
    tick := s.tick + 1
    clock := { s.clock with fine := s.clock.fine + fineOfTick freq + d, slewLeft := s.clock.slewLeft - d } }

/-- Fabric time goes over to the Watch domain: its whole ticks of 40 ns, and no slew (R362). -/
def Clock.carried (c : Clock) : Clock :=
  { c with
    fine := c.fine / (40 * 2 ^ 36) * (40 * 2 ^ 36)
    slewLeft := 0 }

/-! ### The servo's state (R360) -/

/-- Servo states (R360). -/
def tsFree : Nat := 0
def tsLocking : Nat := 1
def tsLocked : Nat := 2
def tsHoldover : Nat := 3

def State.servo (s : State) : Nat := s.fld Reg.TIM_STAT Fld.TIM_STAT_STATE

/-- The module is the grandmaster: SRCMOD names it, by its own number or one it acts under (R341). -/
def State.grandmaster (s : State) : Bool := s.isOwn (BitVec.ofNat 12 (s.fld Reg.TIM_CTL Fld.TIM_CTL_SRCMOD))

/-- Fabric time is locked (R360): LOCKED, or being the grandmaster. -/
def State.timeLocked (s : State) : Bool := s.servo == tsLocked || s.grandmaster

/-- The gates apply: GATEEN is 1 and a list operates. -/
def State.gated (s : State) (port : Nat) : Bool :=
  (s.reg (Reg.CL_EG_CTL port)).getLsbD 0 && s.fld (Reg.CL_EG_STAT port) Fld.CL_EG_STAT_OPERLEN != 0

/-- An event of an egress port's gates: the egress source of its cluster. -/
def State.raiseEgress (s : State) (port bit : Nat) : State :=
  s.raise (Reg.CL_EG_EVT port) bit 11 (srcEgress (clusterOf port))

/-- Fabric time is not locked, so the lists of a gated port run on holdover time (R140). (DEDUCED, log entry 80) -/
def State.noteHoldover (s : State) (port : Nat) : State :=
  if s.gated port ∧ !s.timeLocked ∧ !s.flag (Reg.CL_EG_EVT port) Fld.CL_EG_EVT_HOLDOVER then s.raiseEgress port 3 else s

/-- Every port. -/
def allPorts : List Nat := List.range 544

/-- The ports whose gates apply run on holdover time from now, if the lock is lost. -/
def State.noteHoldovers (s : State) : State := allPorts.foldl (fun s p => s.noteHoldover p) s

/-- A time event. -/
def State.raiseTime (s : State) (bit : Nat) : State := s.raise Reg.TIM_EVT bit 11 srcTime

/-- Change the servo's state; the run toward the next change starts again. -/
def State.setServo (s : State) (st : Nat) : State :=
  let old := s.servo
  if old = st then s
  else
    let s := (s.setFld Reg.TIM_STAT Fld.TIM_STAT_STATE st).onClock (fun c => { c with gated := 0 })
    let s := if st = tsLocked then s else s.setFld Reg.TIM_STAT Fld.TIM_STAT_RUN 0
    if st = tsLocked then s.raiseTime 0 else if old = tsLocked then (s.raiseTime 1).noteHoldovers else s

end Sys2Proof.Machine
end

