-- ==== Sys2Proof/Machine/Links.lean ====
section
/-! DEFINITION. The shared operations of the links: link control blocks (R56, R57), hop
acknowledgement and resends (R60 to R63), loss of a link, HOLD and DARK (R64 to R68, R89 to
R91), lane masks and their causes (R70 to R74), and the start of a link (R64, R67). -/

namespace Sys2Proof.Machine

/-! ### Registers that a site port and a span port both have -/

def ctlReg (port : Nat) : Nat := if isSpan port then Reg.CL_SX_CTL (port - 512) else Reg.CL_SP_CTL port
def rttReg (port : Nat) : Nat := if isSpan port then Reg.CL_SX_RTT (port - 512) else Reg.CL_SP_RTT port
def peerReg (port : Nat) : Nat := if isSpan port then Reg.CL_SX_PEER (port - 512) else Reg.CL_SP_PEER port
def rtxReg (port v : Nat) : Nat := if isSpan port then Reg.CL_SX_RTX (port - 512) v else Reg.CL_SP_RTX port v
def holdovfReg (port v : Nat) : Nat :=
  if isSpan port then Reg.CL_SX_HOLDOVF (port - 512) v else Reg.CL_SP_HOLDOVF port v
def lcbbadReg (port : Nat) : Nat :=
  if isSpan port then Reg.CL_SX_LCBBAD (port - 512) else Reg.CL_SP_LCBBAD port
def droplnkReg (port : Nat) : Nat :=
  if isSpan port then Reg.CL_SX_DROPLNK (port - 512) else Reg.CL_SP_DROPLNK port

/-- An event of a port (R393: the port interrupt source of its cluster). -/
def State.raisePort (s : State) (port bit cls : Nat) : State :=
  s.raise (evtReg port) bit cls (srcPort (clusterOf port))

/-- A fault record of a port: site port or span port (R452); a DARK port is then DARK by a fault.
(DEDUCED, log entry 75) -/
def State.portFault (s : State) (port register cause cls action flags detailReg : Nat) : State :=
  let s := if s.fld (statReg port) ⟨0, 4⟩ = 0 then s.onPort (fun p => { p with
    links := SMap.put {} p.links port { SMap.get {} p.links port with faulted := true } }) else s
  s.faultRecord
    { cls := cls
      unitType := if isSpan port then utSpan else utSite
      unit := if isSpan port then port - 512 else port
      register := register
      cause := cause
      action := action
      flags := flags
      detail := s.reg detailReg }

/-- A port changes its link state; out of DARK its fault is over. (DEDUCED, log entry 75) -/
def State.setPortState (s : State) (port st : Nat) : State :=
  let s := s.setFld (statReg port) ⟨0, 4⟩ st
  if st = 0 then s
  else s.onPort (fun p => { p with links := SMap.put {} p.links port { SMap.get {} p.links port with faulted := false } })

/-- The round trip of a port in ns. (DEDUCED, log entry 74) -/
def State.rttNs (s : State) (port : Nat) : Nat := s.fld (rttReg port) ⟨0, 32⟩

/-! ### Link control blocks -/

/-- One bit into CRC-16, polynomial 0x1021. -/
def crc16Bit (c : Nat) : Nat :=
  if c.testBit 15 then (2 * c % 65536) ^^^ 0x1021 else 2 * c

/-- CRC-16 over bytes, initial value 0xFFFF (R56). -/
def crc16 (l : List Byte) : Nat :=
  l.foldl (fun c b => (List.range 8).foldl (fun c _ => crc16Bit c) (c ^^^ (256 * b.toNat))) 0xFFFF

/-- The TYPE byte of a block that comes under the row of `type` (R57). -/
def lcbTypeByte (b : Lcb) (type : Nat) : Nat :=
  match b.reserved with
  | some t => if t.toNat = 0 ∨ lcbResyncType < t.toNat then t.toNat else type
  | none => type

/-- Bytes 0 to 29 of a link control block. -/
def lcbBytes (type : Nat) (b : Lcb) : List Byte :=
  [b.btype, BitVec.ofNat 8 (lcbTypeByte b type), b.vc, b.flags] ++ beBytes 4 b.seq.toNat ++ beBytes 8 b.arg.toNat
    ++ beBytes 14 b.tail.toNat

/-- The block has a good CRC, a TYPE that is not reserved and fields that keep the tables of R56 and R57. Bits of SEQ and ARG
that the TYPE does not use are not judged, nor whether the SEQ of a RESYNC names a frame that was sent. (DEDUCED,
log entry 72) -/
def lcbGood (type : Nat) (usesVc : Bool) (b : Lcb) : Bool :=
  decide (crc16 (lcbBytes type b) = b.crc.toNat) && decide (b.btype = 0x4C) && decide (lcbTypeByte b type = type)
    && decide (b.tail = 0)
    && (if type = lcbResyncType then decide (b.flags.toNat ≤ 1) else decide (b.flags = 0))
    && (if usesVc then decide (b.vc.toNat < 8) else decide (b.vc = 0))

/-- A bad block is discarded and counted (R57). -/
def State.lcbBad (s : State) (port : Nat) : State :=
  let l := s.link port
  (s.bump (lcbbadReg port) 1).setLink port { l with badLcbs := s.window l.badLcbs (msTicks 1) }

/-- The states in which a port receives link control blocks. -/
def State.linked (s : State) (port : Nat) : Bool :=
  s.awake && decide (pParam ≤ s.portState port ∧ s.portState port ≤ pUp)

/-- What was sent is received as block `b`: a good block as it went out, a bad one from any block (R107). -/
def lcbFrom (port type : Nat) (good : Bool) (b : Lcb) : Emission → Bool
  | .lcb p t v fl seq arg =>
    !good || (p == port && t == type && v == b.vc.toNat && fl == b.flags.toNat && seq == b.seq && arg == b.arg)
  | _ => false

/-- A received link control block: a bad one is discarded, a good one has the effect `f`. -/
def State.lcb (s : State) (port type : Nat) (usesVc : Bool) (b : Lcb) (f : State → State) : State :=
  let good := lcbGood type usesVc b
  match s.arrives port (lcbFrom port type good b) with
  | none => s
  | some s => if !s.linked port then s else if good then f s else s.lcbBad port

/-- Put a link control block on the wire. -/
def State.sendLcb (s : State) (port type v flags : Nat) (seq : BitVec 32) (arg : Nat) : State :=
  s.putOnWire port (.lcb port type v flags seq (BitVec.ofNat 64 arg))

/-! ### Acknowledgement and resends -/

/-- `a` is at or before `b` in HOPSEQ order, modulo 2^32. -/
def seqLe (a b : BitVec 32) : Bool := decide ((b - a).toNat < 2 ^ 31)

/-- The HOPSEQ of the next new frame (R58). -/
def LinkVc.txNext (l : LinkVc) : BitVec 32 := BitVec.ofNat 32 l.sent

/-- SEQ names a frame that has been sent (R57). (DEDUCED, log entry 72) -/
def LinkVc.wasSent (l : LinkVc) (seq : BitVec 32) : Bool :=
  if l.sent < 2 ^ 31 then decide (seq.toNat < l.sent) else seqLe seq (l.txNext - 1)

/-- Release the copies up to SEQ (R60). -/
def LinkVc.release (l : LinkVc) (seq : BitVec 32) : LinkVc :=
  let kept := l.unacked.filter (fun c => !seqLe c.seq seq)
  { l with
    unacked := kept
    resend := l.resend.filter (fun q => kept.any (fun c => c.seq = q))
    expiries := if kept.length < l.unacked.length then 0 else l.expiries }

/-- Send one unacknowledged frame again, ahead of the others (R62). (DEDUCED, log entry 72) -/
def LinkVc.resendOne (l : LinkVc) (seq : BitVec 32) : LinkVc :=
  if l.unacked.any (fun c => c.seq = seq) then
    { l with resend := seq :: l.resend.filter (fun q => q != seq) }
  else l

/-- Send every unacknowledged frame from SEQ onward again, in HOPSEQ order (R62). (DEDUCED, log entry 72) -/
def LinkVc.resendFrom (l : LinkVc) (seq : BitVec 32) : LinkVc :=
  { l with resend := (l.unacked.filter (fun c => l.resend.contains c.seq || seqLe seq c.seq)).map (fun c => c.seq) }

/-- Send every unacknowledged frame again, from the oldest (R62, R67). -/
def LinkVc.resendAll (l : LinkVc) : LinkVc := { l with resend := l.unacked.map (fun c => c.seq) }

/-- A frame's acknowledgement timer has run out (R62, R95): it was last transmitted RTT plus
2 µs (site) or 20 µs (span) ago and does not wait to be sent again. -/
def State.timedOut (s : State) (port v : Nat) : Bool :=
  let l := s.vc port v
  let d := nsTicks (s.rttNs port + if isSpan port then 20000 else 2000)
  l.unacked.any (fun c => !l.resend.contains c.seq && s.since c.sentAt d)

/-! ### Lanes -/

/-- Bits of a lane's cause group (R70). -/
def cSignal : Nat := 0
def cFec : Nat := 1
def cTherm : Nat := 2
def cSwap : Nat := 3
def cCmd : Nat := 4

def lanes4 : List Nat := [0, 1, 2, 3]

/-- The cause group of a lane: 5 bits. -/
def State.causes (s : State) (p : Nat) (rx : Bool) (w : Nat) : Nat :=
  s.fld (Reg.CL_SP_LANE p) ⟨(if rx then 20 else 0) + 5 * w, 5⟩

/-- Lanes with cause THERM in either direction show in DEGRADED. -/
def State.showDegraded (s : State) (p : Nat) : State :=
  s.setFld (Reg.CL_SP_STAT p) Fld.CL_SP_STAT_DEGRADED
    ((lanes4.filter (fun w => bitOf (s.causes p false w) cTherm || bitOf (s.causes p true w) cTherm)).map (fun w => 2 ^ w)).sum

/-- The causes of a transmit lane that this end has set. -/
def State.ownCauses (s : State) (p w : Nat) : Nat := SMap.get 0 (s.link p).ownTx w

/-- The cause of a transmit lane that the far end asked for (R70). -/
def State.farCauses (s : State) (p w : Nat) : Nat :=
  match SMap.get 0 (s.link p).askedCause w with
  | 0 => 0
  | c + 1 => 2 ^ c

/-- TXCAUSE of a lane shows the causes of both ends (R70, R80). -/
def State.showTx (s : State) (p w : Nat) : State :=
  (s.setFld (Reg.CL_SP_LANE p) ⟨5 * w, 5⟩ (s.ownCauses p w ||| s.farCauses p w)).showDegraded p

/-- A number with a bit set or clear. -/
def withBit (n i : Nat) (on : Bool) : Nat := if bitOf n i = on then n else if on then n + 2 ^ i else n - 2 ^ i

/-- Set or clear a cause of this end: each clears on its own terms (R80). -/
def State.setCause (s : State) (p : Nat) (rx : Bool) (w bit : Nat) (on : Bool) : State :=
  if rx then (s.setFld (Reg.CL_SP_LANE p) ⟨20 + 5 * w + bit, 1⟩ (b2n on)).showDegraded p
  else
    let l := s.link p
    (s.setLink p { l with ownTx := SMap.put 0 l.ownTx w (withBit (s.ownCauses p w) bit on) }).showTx p w

/-- Set the cause that the far end asks for on a transmit lane, plus 1; 0 for none. -/
def State.setFarCause (s : State) (p w c : Nat) : State :=
  let l := s.link p
  (s.setLink p { l with askedCause := SMap.put 0 l.askedCause w c }).showTx p w

/-- A Svetna path of the port moves now (R115). -/
def State.pathMoves (s : State) (p : Nat) : Bool := s.eng.moving.any (fun m => m.1 = p || m.2.1 = p)

/-- The port's fibre does not reach its engine: FURLED or FAULT, or its path moves (R81, R107,
R115). -/
def State.furled (s : State) (p : Nat) : Bool :=
  let st := s.fld (Reg.SVB_PORT p) Fld.SVB_PORT_STATE
  st == 1 || st == 3 || s.pathMoves p

/-- The stripe number of a port now: 51.2 ns a stripe from alignment (R55). (DESIGN CHOICE, log entry 73) -/
def State.stripe (s : State) (p : Nat) : BitVec 32 :=
  BitVec.ofNat 32 ((s.tick - (s.link p).alignAt) * 25 / 32)

/-- The lanes that the last of these announced masks leaves, or the active ones. -/
def State.maskAfter (s : State) (p : Nat) (l : List (BitVec 4 × BitVec 32)) : BitVec 4 :=
  match l.getLast? with
  | some (m, _) => m
  | none => BitVec.ofNat 4 (s.fld (Reg.CL_SP_STAT p) Fld.CL_SP_STAT_TXLANES)

/-- Active transmit lanes, or those that the last REEF under way leaves. -/
def State.txMask (s : State) (p : Nat) : BitVec 4 := s.maskAfter p (s.link p).reefTx

/-- The stripe that a REEF sent now names (R72). (DESIGN CHOICE, log entry 73) -/
def State.reefStripe (s : State) (p : Nat) : BitVec 32 := s.stripe p + 32

/-- The announced masks that a REEF sent now does not replace. -/
def State.reefsKept (s : State) (p : Nat) : List (BitVec 4 × BitVec 32) :=
  (s.link p).reefTx.filter (fun r => r.2 != s.reefStripe p)

/-- The lanes among which a REEF sent now chooses: those active before its stripe, and those that a change due in the
same stripe adds. -/
def State.reefLanes (s : State) (p : Nat) : BitVec 4 := s.maskAfter p (s.reefsKept p) ||| s.txMask p

/-- The lanes of a mask that hold no cause; if every lane holds one, the lane with the fewest
uncorrectable codeword pairs in the last 1 ms stays, the lowest-numbered on a tie (R71).
(DESIGN CHOICE, log entry 15) -/
def State.allowed (s : State) (p : Nat) (rx : Bool) (m : BitVec 4) : BitVec 4 :=
  let ok := lanes4.filter (fun w => m.getLsbD w && s.causes p rx w == 0)
  if ok.isEmpty then
    let c := lanes4.filter (fun w => m.getLsbD w)
    match c.argmin (fun w => Config.fecPairs s.tick p rx w) with
    | some w => BitVec.ofNat 4 (2 ^ w)
    | none => m
  else BitVec.ofNat 4 ((ok.map (fun w => 2 ^ w)).sum)

/-- A REEF block of a port that names stripe `q`. -/
def isReef (p : Nat) (q : BitVec 32) : Emission → Bool
  | .lcb port t _ _ seq _ => port == p && t == lcbReefType && seq == q
  | _ => false

/-- Take back the blocks of a REEF that a change due in the same stripe replaces: the model puts a REEF's blocks out at once,
where the transmitter sends one every 4 stripes. (DESIGN CHOICE, log entry 73) -/
def State.recallReef (s : State) (p : Nat) (q : BitVec 32) : State :=
  let s := { s with out := s.out.filter (fun e => !isReef p q e) }
  s.setLink p { s.link p with loop := (s.link p).loop.filter (fun e => !isReef p q e) }

/-- Announce a new transmit mask 32 stripes ahead, repeated every 4 stripes (R72); changes due in the same stripe go in one
REEF (R80). (DESIGN CHOICE, log entry 73) -/
def State.sendReef (s : State) (p : Nat) (m : BitVec 4) : State :=
  let q := s.reefStripe p
  let kept := s.reefsKept p
  let s := if (s.link p).reefTx = kept then s else s.recallReef p q
  let s := s.setLink p { s.link p with reefTx := kept ++ [(m, q)] }
  (List.range 8).foldl (fun s _ => s.sendLcb p lcbReefType 0 0 q m.toNat) s

/-- Lanes with a cause leave at the next REEF (R73). -/
def State.reefUpdate (s : State) (p : Nat) : State :=
  if s.portState p = pUp then
    let m := s.allowed p false (s.reefLanes p)
    if m = s.txMask p then s else s.sendReef p m
  else s

/-- The engine of a site port, and its laser register for lane `w`. -/
def State.laser (s : State) (p w : Nat) (f : Fld) : Nat := s.fld (Reg.CL_OE_LASER (p / 8) w) f

/-- The only cause left on the lane, if any, is SWAP with the spare in place, so the lane may
be retrained (R74, R75). -/
def State.retrainable (s : State) (p w : Nat) : Bool :=
  let c := s.causes p false w
  c == 0 || (c == 2 ^ cSwap && s.laser p w Fld.CL_OE_LASER_STATE != 2)

/-- Start the training pattern on each lane that may rejoin (R74). -/
def State.trainUpdate (s : State) (p : Nat) : State :=
  lanes4.foldl (fun s w =>
    let l := s.link p
    if s.portState p = pUp && !(s.reg (Reg.CL_SP_CTL p)).getLsbD 1 && !(s.txMask p).getLsbD w
        && !l.training.getLsbD w && s.retrainable p w then
      (s.setLink p { l with training := l.training ||| BitVec.ofNat 4 (2 ^ w) }).emit (.training p w)
    else s) s

/-- Report the receive lanes: locked, and asked to leave (R57, R70). -/
def State.laneReport (s : State) (p : Nat) : State :=
  let ask := ((lanes4.filter (fun w => s.causes p true w != 0)).map (fun w => 2 ^ w)).sum
  if s.portState p = pUp then s.sendLcb p lcbLaneReportType 0 0 0 ((s.link p).lockedLanes.toNat + 16 * ask) else s

/-- A cause on a receive lane: the lane is no longer locked and the far end is told. -/
def State.rxCause (s : State) (p w bit : Nat) : State :=
  let s := s.setCause p true w bit true
  let l := s.link p
  (s.setLink p { l with lockedLanes := l.lockedLanes &&& ~~~(BitVec.ofNat 4 (2 ^ w)) }).laneReport p

/-- A cause on a transmit lane: the lane leaves. -/
def State.txCause (s : State) (p w bit : Nat) : State := (s.setCause p false w bit true).reefUpdate p

/-- Clear a cause on a transmit lane: the lane retrains if none is left. -/
def State.txClear (s : State) (p w bit : Nat) : State := (s.setCause p false w bit false).trainUpdate p

/-- The laser of lane `w` is a spare that has failed: the lane stays out with cause SIGNAL (R78). -/
def State.spareFailed (s : State) (p w : Nat) : Bool :=
  s.laser p w Fld.CL_OE_LASER_STATE == 3 && s.laser p w Fld.CL_OE_LASER_SOURCE == 1

/-- The causes that stand as long as something else does: CMD while TXALLOW bars the lane (R70), SIGNAL behind a failed
spare (R78). A furled port's lanes count no causes (R81). (DEDUCED, log entry 131) -/
def State.settleCauses (s : State) (p : Nat) : State :=
  let off := s.furled p
  lanes4.foldl (fun s w =>
    let s := if off then
      [cSignal, cFec, cTherm, cSwap].foldl (fun s b => (s.setCause p false w b false).setCause p true w b false) s
    else if s.spareFailed p w then s.setCause p false w cSignal true else s
    s.setCause p false w cCmd (!off && !(s.reg (Reg.CL_SP_CTL p)).getLsbD (4 + w))) s

/-- Receive lanes that had left for FEC and are back: from now a trip within 1 s keeps them out (R74).
(DESIGN CHOICE, log entry 73) -/
def State.noteBack (s : State) (p : Nat) (m : BitVec 4) : State :=
  lanes4.foldl (fun s w =>
    let l := s.link p
    if m.getLsbD w && SMap.get 0 l.fecAt w != 0 then s.setLink p { l with
      fecAt := SMap.put 0 l.fecAt w 0
      fecBack := SMap.put 0 l.fecBack w (s.tick + 1) }
    else s) s

/-! ### Copies discarded, frames handed back -/

/-- The unacknowledged copies of a port, VC by VC. -/
def State.copiesOf (s : State) (port : Nat) : List TxCopy :=
  (List.range 8).flatMap (fun v => (s.vc port v).unacked)

/-- Discard every unacknowledged copy of a port, count them in DROPLNK and answer the requests
among them HOME_DEAD (R67, R68, R91, R322): 1 FAR_RESET, 2 HOLD expiry. (DEDUCED, log entry 87) -/
def State.dropCopies (s : State) (port cause : Nat) : State :=
  let cs := s.copiesOf port
  let s := (List.range 8).foldl (fun s v =>
    s.setVc port v { s.vc port v with
      unacked := []
      resend := [] } |>.emptied port v) s
  let s := s.bump (droplnkReg port) cs.length
  cs.foldl (fun s c => s.homeDead (clusterOf port) cause c.h.f) s

/-- Number from 0 again, in both directions (R58, R459). (DEDUCED, log entry 71) -/
def State.restartHop (s : State) (port : Nat) : State :=
  (List.range 8).foldl (fun s v =>
    s.setVc port v { s.vc port v with
      sent := 0
      rxNext := 0
      rxHold := []
      overflowed := false
      expiries := 0 }) s

/-- A frame that finds no eligible member waits, and is counted once (R154). (DEDUCED, log entry 82) -/
def State.noteNoElig (s : State) (n : Nat) (h : Held) : Held × State :=
  let m := { h.m with
    waited := true
    noElig := some (h.m.noElig.getD s.tick) }
  ({ h with m := m }, if h.m.waited then s else s.bump (Reg.CL_RT_NOELIG n) 1)

/-- A frame of cluster `n` is bound for queue `p`: by HASH, or by ADAPTIVE among others. -/
def State.boundFor (s : State) (n p : Nat) (f : Frame) (a : Aim) : Bool :=
  match s.aimGroup f a with
  | some g =>
    let el := g.members.filter s.eligible
    if g.hash then s.hashPick n f el == some p else el.contains p
  | none => false

/-- A frame handed back that came in earlier on the same port and VC is bound for queue `p` and must go first (R156); among
those of one instant, the ones in `first`. (DEDUCED, log entry 83) -/
def State.behindHanded (s : State) (first : List HandedBack) (h : Held) (p : Nat) : Bool :=
  let same := fun (b : HandedBack) => decide (h.m.pin < 544) && b.h.m.pin == h.m.pin && b.h.f.vc == h.f.vc
  s.sw.handed.any (fun x => x.2.any (fun b => same b && decide (b.h.m.tin < h.m.tin) && s.boundFor x.1 p b.h.f b.h.m.aim))
    || first.any (fun b => same b && b.h.m.tin == h.m.tin && s.boundFor (clusterOf b.port) p b.h.f b.h.m.aim)

/-- Choose again for a frame handed back to cluster `n` (R153, R154): it goes to another queue, or
stays, charged to its old one (R134); `first` are those before it. (DEDUCED, log entry 82) -/
def State.rechoose (s : State) (n : Nat) (first : List HandedBack) (b : HandedBack) : Option HandedBack × State :=
  let wait := fun (s : State) =>
    let (h, s) := s.noteNoElig n b.h
    (some { b with h := h }, s)
  let stay := fun (s : State) =>
    let m := { b.h.m with noElig := none }
    (some { b with h := { b.h with m := m } }, s)
  match s.aimGroup b.h.f b.h.m.aim with
  | none => wait s
  | some g =>
    match s.choose n g b.h.f with
    | .noElig => wait s
    | .noRoom => stay s
    | .member p => if s.behindHanded first b.h p then stay s else (none, (s.enqueue g p b.h).bump (Reg.CL_RT_REPICK n) 1)

/-- Frames handed back to a cluster. -/
def State.handedAt (s : State) (n : Nat) : List HandedBack := SMap.get [] s.sw.handed n
def State.setHanded (s : State) (n : Nat) (l : List HandedBack) : State :=
  s.onSw (fun x => { x with handed := SMap.put [] x.handed n l })

/-- Choose again for the frame at place `i`, if there is one. -/
def State.rechooseAt (s : State) (n i : Nat) : Bool × State :=
  match (s.handedAt n)[i]? with
  | none => (false, s)
  | some b =>
    match s.rechoose n ((s.handedAt n).take i) b with
    | (some b, s) => (false, s.setHanded n (putAt (s.handedAt n) i b))
    | (none, s) => (true, s.setHanded n (dropAt (s.handedAt n) i))

/-- Choose again for the frames from place `i` on, oldest first. (DEDUCED, log entry 82) -/
def State.rechooseFrom (s : State) (n i : Nat) : Nat → State
  | 0 => s
  | k + 1 =>
    match s.rechooseAt n i with
    | (true, s) => s.rechooseFrom n i k
    | (false, s) => s.rechooseFrom n (i + 1) k

/-- Hand back the untransmitted frames of a port for a new egress choice (R66, R153). (DEDUCED, log entry 82) -/
def State.handBack (s : State) (port : Nat) : State :=
  let n := clusterOf port
  let back := (List.range 8).flatMap (fun v => (s.equeue port v).map (fun h =>
    let m := { h.m with
      since := s.tick
      waited := false
      noElig := none }
    ({ port := port, vc := v, h := { h with m := m } } : HandedBack)))
  let s := (List.range 8).foldl (fun s v => s.setEqueue port v []) s
  let s := s.onSw (fun x =>
    let e := SMap.get {} x.eg port
    { x with eg := SMap.put {} x.eg port { e with deficit := [] } })
  let i := (s.handedAt n).length
  (s.setHanded n (s.handedAt n ++ back)).rechooseFrom n i back.length

/-! ### Loss of the link, HOLD, DARK -/

/-- The port has been UP and has not been DARK since: its copies are kept (R64, R68). -/
def State.holding (s : State) (port : Nat) : Bool :=
  (s.link port).upOnce && s.portState port != pUp && s.portState port != pDark

/-- The active lane fields. -/
def State.setLanes (s : State) (port tx rx : Nat) : State :=
  if isSpan port then s.setFld (statReg port) Fld.CL_SX_STAT_LANES tx
  else (s.setFld (statReg port) Fld.CL_SP_STAT_TXLANES tx).setFld (statReg port) Fld.CL_SP_STAT_RXLANES rx

/-- What the agent does to a pluggable: low power, its release, data path activation (R85). -/
def cmisLowPower : Nat := 0
def cmisRelease : Nat := 1
def cmisActivate : Nat := 2

/-- The pluggable of a DARK span port is in low power, and no bring-up runs (R89). -/
def State.plugLow (s : State) (x : Nat) : State :=
  let s := s.onPort (fun p =>
    let c := SMap.get {} p.cmis x
    { p with cmis := SMap.put {} p.cmis x { c with
        step := 0
        timeouts := 0 } })
  if (s.reg (Reg.CL_SX_CMIS_STAT x)).getLsbD 63 then s.emit (.cmis x cmisLowPower) else s

/-- The link of a port goes dark under the discard rule of R68. (DEDUCED, log entries 71 and 131) -/
def State.darkLink (s : State) (port : Nat) : State :=
  let s := (s.dropCopies port 2).restartHop port
  let s := (s.setPortState port pDark).setLanes port 0 0
  let l := s.link port
  let s := (List.range 8).foldl (fun s v =>
    s.setVc port v { s.vc port v with
      credit := 0
      creditGot := 0
      outstanding := 0
      resynced := false }) s
  s.setLink port { ({} : Link) with
    era := l.era + 1
    lastRx := l.lastRx
    fecAt := l.fecAt
    fecBack := l.fecBack
    fecStuck := l.fecStuck
    ownTx := l.ownTx
    losses := l.losses
    badLcbs := l.badLcbs }

/-- The port goes to DARK under the discard rule of R68; a pluggable goes to low power. -/
def State.goDark (s : State) (port : Nat) : State :=
  let s := s.darkLink port
  if isSpan port then s.plugLow (port - 512)
  else (lanes4.foldl (fun s w => s.showTx port w) s).settleCauses port

/-- The port starts over while its link is not UP. -/
def State.restart (s : State) (port : Nat) : State :=
  let l := s.link port
  let s := s.setLink port { l with
    lockedLanes := 0
    reefTx := []
    reefRx := []
    training := 0
    echo := none
    asked := 0
    askedCause := []
    loop := [] }
  let s := if isSpan port then s else lanes4.foldl (fun s w => s.showTx port w) s
  let s := s.setReg (peerReg port) (Fld.CL_SP_PEER_VALID.put 0 (s.reg (peerReg port)))
  s.setPortState port (if l.upOnce then pHold else if isSpan port then pAlign else pDetect)

/-- Loss of a link that is UP (R66, R90): HOLD, with the copies kept and the untransmitted
frames handed back. The eighth loss within 1 min darkens the port (R460). -/
def State.linkLost (s : State) (port : Nat) : State :=
  if s.portState port = pUp then
    let s := s.raisePort port 0 6
    let s := ((s.setLanes port 0 0).restart port).handBack port
    let l := s.link port
    let ls := s.window l.losses (secTicks 60)
    let s := s.setLink port { l with
      holdAt := s.tick
      losses := ls }
    if 8 ≤ ls.length then
      let s := s.setFld (ctlReg port) ⟨0, 1⟩ 0
      let s := s.goDark port
      s.portFault port 0 0 6 5 0 (evtReg port)
    else s
  else if pDetect < s.portState port ∧ s.portState port ≠ pHold then s.restart port
  else s

/-- The port is treated as reset: its copies are discarded, and its RESYNC will carry FAR_RESET (R104). -/
def State.hopReset (s : State) (port : Nat) : State :=
  let s := s.linkLost port
  let s := (s.dropCopies port 1).restartHop port
  s.setLink port { s.link port with kept := false }

/-- HOLD has lasted its limit (R68, R91). -/
def State.holdOver (s : State) (port d : Nat) : Bool := s.holding port && s.since (s.link port).holdAt d

/-- HOLD ends in DARK with an event and a fault record (R68, R91). (DEDUCED, log entry 75) -/
def State.holdExpire (s : State) (port : Nat) : State :=
  let s := (s.goDark port).raisePort port 5 11
  s.portFault port 0 5 11 7 0 (evtReg port)

/-- 0 while cluster `n` runs, 1 while it is dark (R226), 2 in reset (R458), 3 while it wakes. -/
def State.clusterState (s : State) (n : Nat) : Nat := SMap.get 0 s.watch.clusterDown n

def State.setCluster (s : State) (n v : Nat) : State :=
  s.onWatch (fun w => { w with clusterDown := SMap.put 0 w.clusterDown n v })

/-- A dark cluster starts to wake (R226). -/
def State.wakeCluster (s : State) (n : Nat) : State := if s.clusterState n = 1 then s.setCluster n 3 else s

/-- A loop-back test has taken the line side of a port (R481). -/
def State.loopHeld (s : State) (p : Nat) : Bool :=
  s.test.runs.any (fun r => unitPort r.u == some p && leavesUp r.u (tqDepth r.req))

/-- A site port leaves DARK when it is enabled and not furled (R64), once its cluster runs; in LAID_UP, and while a test
holds them, ports stay dark. (DEDUCED, log entries 61 and 74) -/
def State.leaveDark (s : State) (p : Nat) : State :=
  if s.portState p = pDark ∧ (s.reg (Reg.CL_SP_CTL p)).getLsbD 0 ∧ s.furled p = false ∧ s.loopHeld p = false
      ∧ s.clusterState (clusterOf p) = 0 ∧ s.mode ≠ stLaidUp then
    (s.settleCauses p).setPortState p pDetect
  else s

/-! ### Start of the link -/

/-- Alignment done: PARAM and ECHO go out (R64). (DEDUCED, log entry 74) -/
def State.startParam (s : State) (port : Nat) : State :=
  let (arg, s) := s.free
  let s := s.setLink port { s.link port with
    alignAt := s.tick
    echoAt := s.tick
    echo := some arg }
  let s := s.setPortState port pParam
  let s := s.sendLcb port lcbParamType 0 0 0 (s.modnum.toNat + 2 ^ 20)
  s.sendLcb port lcbEchoType 0 0 0 arg.toNat

/-- RESYNC starts: credit is zeroed, and for each VC the port's allotment is granted and a RESYNC
block goes out (R64, R67, R123, R124, R459). (DEDUCED, log entries 64 and 71) -/
def State.startResync (s : State) (port : Nat) : State :=
  let l := s.link port
  let s := s.setPortState port pResync
  let s := s.setLink port { l with
    era := l.era + 1
    farReset := false }
  (List.range 8).foldl (fun s v =>
    let x := s.vc port v
    let s := s.setVc port v { x with
      credit := 0
      creditGot := 0
      outstanding := 0
      resynced := false }
    (s.grant port v).sendLcb port lcbResyncType v (b2n (!l.kept)) (x.rxNext - 1) 0) s

/-- The port enters UP with the lanes that locked (R65). -/
def State.enterUp (s : State) (port : Nat) : State :=
  let l := s.link port
  let s := s.setPortState port pUp
  let s := s.setLink port { l with
    upOnce := true
    kept := true
    echo := none }
  let s := if isSpan port then s.setLanes port 0xFF 0xFF
    else
      let rx := s.allowed port true l.lockedLanes
      (s.setLanes port (s.allowed port false l.lockedLanes).toNat rx.toNat).noteBack port rx
  let s := s.onPort (fun x =>
    let q := (SMap.get {} x.peerDelay port).seq
    { x with peerDelay := SMap.put {} x.peerDelay port { seq := q } })
  let s := s.raisePort port 1 11
  if isSpan port then s else (s.trainUpdate port).laneReport port

end Sys2Proof.Machine
end

