-- ==== Sys2Proof/Machine/LinkBlocks.lean ====
section
/-! DEFINITION. Link control blocks received (R56 to R63, R67, R69 to R72, R124) but RESYNC,
the acknowledgement timer (R62, R456), and the link states (R64 to R68). -/

namespace Sys2Proof.Machine

/-- ACK (R60): release the copies up to SEQ; an ACK of a frame never sent is bad (R57). (DEDUCED, log entry 72) -/
def execLcbAck (port : Fin 544) (b : Lcb) (s : State) : Out :=
  .next (s.lcb port lcbAckType true b (fun s =>
    let l := s.vc port b.vc.toNat
    if l.wasSent b.seq then (s.setVc port b.vc.toNat (l.release b.seq)).emptied port b.vc.toNat else s.lcbBad port))

/-- NAK_SEL (R62): the named frame is sent next on its VC. (DEDUCED, log entry 72) -/
def execNakSel (port : Fin 544) (b : Lcb) (s : State) : Out :=
  .next (s.lcb port lcbNakSelType true b (fun s =>
    s.setVc port b.vc.toNat ((s.vc port b.vc.toNat).resendOne b.seq)))

/-- NAK_GOBACK (R62): every unacknowledged frame from SEQ onward is sent again. (DEDUCED, log entry 72) -/
def execNakGoback (port : Fin 544) (b : Lcb) (s : State) : Out :=
  .next (s.lcb port lcbNakGobackType true b (fun s =>
    s.setVc port b.vc.toNat ((s.vc port b.vc.toNat).resendFrom b.seq)))

/-- CREDIT (R124): in RESYNC the far end grants, and in UP the first block of a VC that has been granted
nothing is its grant (DEDUCED, log entry 64); else cells return, and a block that would raise the credit above
the cells granted since RESYNC is bad. -/
def execCredit (port : Fin 544) (b : Lcb) (s : State) : Out :=
  .next (s.lcb port lcbCreditType true b (fun s =>
    let v := b.vc.toNat
    let l := s.vc port v
    let n := bitsOf b.arg.toNat 15 0
    if s.portState port = pResync ∨ (s.portState port = pUp ∧ l.creditGot = 0) then
      s.setVc port v { l with
        credit := l.credit + n
        creditGot := l.creditGot + n }
    else if s.portState port = pUp then
      if l.creditGot < l.credit + n then s.lcbBad port
      else s.setVc port v { l with credit := l.credit + n }
    else s))

/-- REEF (R72): the receiver takes the first intact copy; a span port discards it (R84). A mask
of no lane breaks R71. -/
def execReef (port : Fin 544) (b : Lcb) (s : State) : Out :=
  .next (s.lcb port lcbReefType false b (fun s =>
    let m : BitVec 4 := b.arg.setWidth 4
    if isSpan port || m = 0 then s.lcbBad port
    else if s.portState port = pUp then
      let l := s.link port
      if l.reefRx.any (fun r => r.2 = b.seq) then s else s.setLink port { l with reefRx := l.reefRx ++ [(m, b.seq)] }
    else s))

/-- The lanes that the far receiver asks to leave: a lane newly asked takes the same cause as there, which the
block does not name (a free value among SIGNAL, FEC and THERM); a lane no longer asked loses it (R70).
(DESIGN CHOICE, log entry 73) -/
def State.askLanes (s : State) (p : Nat) (ask : BitVec 4) : State :=
  let s := lanes4.foldl (fun s w =>
    let l := s.link p
    if ask.getLsbD w && !l.asked.getLsbD w then
      let (x, s) := s.free
      s.setFarCause p w (x.toNat % 3 + 1)
    else if !ask.getLsbD w && l.asked.getLsbD w then s.setFarCause p w 0
    else s) s
  s.setLink p { s.link p with asked := ask }

/-- The lanes that rejoin: the far receiver has locked to their training pattern (R74). -/
def State.rejoining (s : State) (p : Nat) (locked : BitVec 4) : List Nat :=
  let hold := (s.reg (Reg.CL_SP_CTL p)).getLsbD 1
  lanes4.filter (fun w => locked.getLsbD w && (s.link p).training.getLsbD w && !hold && s.retrainable p w)

/-- Those lanes rejoin at the next REEF (R74), which leaves out every lane that holds a cause (R70, R71). -/
def State.rejoinLanes (s : State) (p : Nat) (locked : BitVec 4) : State :=
  let back := s.rejoining p locked
  let s := back.foldl (fun s w =>
    let l := s.link p
    (s.setLink p { l with training := l.training &&& ~~~(BitVec.ofNat 4 (2 ^ w)) }).setCause p false w cSwap false) s
  if back.isEmpty then s
  else s.sendReef p (s.allowed p false (s.reefLanes p ||| BitVec.ofNat 4 ((back.map (fun w => 2 ^ w)).sum)))

/-- LANE_REPORT (R70, R74): lanes asked to leave, lanes that rejoin. A span port discards the block (R84). -/
def execLaneReport (port : Fin 544) (b : Lcb) (s : State) : Out :=
  .next (s.lcb port lcbLaneReportType false b (fun s =>
    if isSpan port then s.lcbBad port
    else if s.portState port = pUp then
      (((s.askLanes port ((b.arg >>> 4).setWidth 4)).reefUpdate port).rejoinLanes port (b.arg.setWidth 4)).trainUpdate port
    else s))

/-- ECHO (R57): its ARG goes back unchanged. (DEDUCED, log entry 74) -/
def execEcho (port : Fin 544) (b : Lcb) (s : State) : Out :=
  .next (s.lcb port lcbEchoType false b (fun s =>
    s.sendLcb port lcbEchoReplyType 0 0 0 b.arg.toNat))

/-- ECHO_REPLY (R64, R96): the reply to the outstanding ECHO sets the round trip; a span port
above 1,677 µs sets LONGRTT. (DEDUCED, log entry 74) -/
def execEchoReply (port : Fin 544) (b : Lcb) (s : State) : Out :=
  .next (s.lcb port lcbEchoReplyType false b (fun s =>
    let l := s.link port
    if s.portState port = pParam ∧ l.echo = some b.arg then
      let ns := 40 * (s.tick - l.echoAt)
      let s := s.setLink port { l with echo := none }
      let s := s.setReg (rttReg port) (BitVec.ofNat 64 (min ns 0xFFFFFFFF))
      if isSpan port ∧ 1677000 < ns then s.raisePort port 6 11 else s
    else s))

/-- PARAM (R69): the far end's identity goes to the peer register. -/
def execParam (port : Fin 544) (b : Lcb) (s : State) : Out :=
  .next (s.lcb port lcbParamType false b (fun s =>
    s.setReg (peerReg port) (pack [(Fld.CL_SP_PEER_VALID, 1), (Fld.CL_SP_PEER_ISMOD, b2n (b.arg.getLsbD 20)),
      (Fld.CL_SP_PEER_ID, bitsOf b.arg.toNat 19 0)])))

/-- A write of RETRAIN (R66, R74, R90): a lane that FEC keeps out for good is free again, and the link is taken down and
retrained. -/
def State.retrain (s : State) (port : Nat) : State :=
  let s := if isSpan port then s else
    let stuck := (s.link port).fecStuck
    lanes4.foldl (fun s w => if stuck.getLsbD w then s.setCause port true w cFec false else s)
      (s.setLink port { s.link port with fecStuck := 0 })
  s.linkLost port

/-- The acknowledgement timer runs out (R62, R95): every unacknowledged frame of the VC is sent
again; 16 times in a row take the port down (R456). (DEDUCED, log entry 6) -/
def execAckTimerExpiry (port : Fin 544) (v : Fin 8) (s : State) : Out :=
  if s.awake ∧ s.portState port = pUp ∧ s.timedOut port v then
    let l := (s.vc port v).resendAll
    if 16 ≤ l.expiries + 1 then
      let s := s.setVc port v { l with expiries := 0 }
      .next ((s.portFault port 0 0 8 1 0 (evtReg port)).retrain port)
    else .next (s.setVc port v { l with expiries := l.expiries + 1 })
  else .next s

/-- Light on at least one lane (R64). A port that may leave DARK is in DETECT by then; one that retrains in HOLD shows HOLD
until light comes, and then LOCK. (DEDUCED, log entry 131) -/
def execLightDetected (p : Fin 512) (lanes : BitVec 4) (s : State) : Out :=
  if s.awake ∧ lanes ≠ 0 then
    let s := s.leaveDark p
    if s.portState p = pDetect ∨ s.portState p = pHold then .next (s.setPortState p pLock) else .next s
  else .next s

/-- At least one lane has locked (R64, R65): a locked lane shows light again. -/
def execLaneLocked (p : Fin 512) (lanes : BitVec 4) (s : State) : Out :=
  if s.awake ∧ s.portState p = pLock ∧ lanes ≠ 0 then
    let s := s.setLink p { s.link p with lockedLanes := lanes }
    let s := lanes4.foldl (fun s w => if lanes.getLsbD w then s.setCause p true w cSignal false else s) s
    .next (s.setPortState p pAlign)
  else .next s

/-- Alignment and deskew done (R64, R89). A span port in HOLD recovers here while its pluggable
is still up. -/
def execAligned (port : Fin 544) (s : State) : Out :=
  let ready := s.portState port = pAlign ∨ (isSpan port ∧ s.portState port = pHold
    ∧ (SMap.get {} s.port.cmis (port.val - 512)).step = 0
    ∧ (s.reg (Reg.CL_SX_CMIS_STAT (port.val - 512))).getLsbD 63)
  if s.awake ∧ ready then .next (s.startParam port) else .next s

/-- Both ends have finished PARAM and ECHO (R64). -/
def execParamExchangeDone (port : Fin 544) (s : State) : Out :=
  if s.awake ∧ s.portState port = pParam ∧ (s.reg (peerReg port)).getLsbD 63 ∧ (s.link port).echo = none then
    .next (s.startResync port)
  else .next s

/-- Every active lane (site) or any lane (span) has shown loss of signal for 10 µs (R66, R90). -/
def execLossOfSignal (port : Fin 544) (s : State) : Out :=
  if s.awake then .next (s.linkLost port) else .next s

/-- FEC alignment is lost (R66, R90). -/
def execFecAlignmentLost (port : Fin 544) (s : State) : Out :=
  if s.awake then .next (s.linkLost port) else .next s

/-- More than 16 bad blocks within 1 ms (R57) take the port down. -/
def execLcbBadLimit (port : Fin 544) (s : State) : Out :=
  let l := s.link port
  if s.linked port ∧ 16 < (l.badLcbs.filter (fun t => decide (s.tick < t + msTicks 1))).length then
    let s := s.setLink port { l with badLcbs := [] }
    .next ((s.raisePort port 3 11).linkLost port)
  else .next s

/-- CL_SP_CMD.RETRAIN (R66). -/
def execSiteRetrain (p : Fin 512) (s : State) : Out :=
  if s.awake then .next (s.retrain p) else .next s

/-- HOLD has lasted 2 s (R68). (DEDUCED, log entry 75) -/
def execSiteHoldExpiry (p : Fin 512) (s : State) : Out :=
  if s.awake ∧ s.holdOver p (secTicks 2) then .next (s.holdExpire p) else .next s

/-- A write of CL_SP_CTL.ENABLE (R64). -/
def execSitePortEnable (p : Fin 512) (on : Bool) (s : State) : Out :=
  if s.awake then
    let s := s.setFld (Reg.CL_SP_CTL p) Fld.CL_SP_CTL_ENABLE (b2n on)
    if on then .next ((s.wakeCluster (clusterOf p)).leaveDark p)
    else if s.portState p = pDark then .next s
    else .next ((s.linkLost p).goDark p)
  else .next s

/-! ### Lanes (R70 to R74) -/

/-- A write of CL_SP_CTL.TXALLOW: cause CMD for each lane whose bit is 0; none while the port is furled (R70, R81). -/
def execTxallowWrite (p : Fin 512) (lanes : BitVec 4) (s : State) : Out :=
  if s.awake then
    let s := s.setFld (Reg.CL_SP_CTL p) Fld.CL_SP_CTL_TXALLOW lanes.toNat
    .next (((s.settleCauses p).reefUpdate p).trainUpdate p)
  else .next s

/-- A write of CL_SP_CTL.REEFHOLD: lanes leave but do not rejoin while it is 1. -/
def execReefholdWrite (p : Fin 512) (on : Bool) (s : State) : Out :=
  if s.awake then
    let s := s.setFld (Reg.CL_SP_CTL p) Fld.CL_SP_CTL_REEFHOLD (b2n on)
    if on then .next (s.setLink p { s.link p with training := 0 }) else .next (s.trainUpdate p)
  else .next s

/-- Loss of signal on one receive lane for 1 µs (R70). (DESIGN CHOICE, log entry 122) -/
def execLaneSignalLoss (p : Fin 512) (w : Fin 4) (s : State) : Out :=
  if s.awake ∧ s.portState p ≠ pDark then .next (s.rxCause p w cSignal) else .next s

/-- Light returns on a receive lane (R70): cause SIGNAL clears. -/
def execLaneSignalRestored (p : Fin 512) (w : Fin 4) (s : State) : Out :=
  if s.awake ∧ bitOf (s.causes p true w) cSignal then
    .next ((s.setCause p true w cSignal false).laneReport p)
  else .next s

/-- More than 16 uncorrectable codeword pairs on a receive lane within 1 ms (R70). A lane that had left for FEC and trips
again within 1 s of rejoining stays out until RETRAIN (R74). -/
def execLaneFecLimit (p : Fin 512) (w : Fin 4) (s : State) : Out :=
  if s.awake ∧ s.portState p ≠ pDark then
    let l := s.link p
    let back := SMap.get 0 l.fecBack w
    let again := decide (0 < back ∧ s.tick < back - 1 + secTicks 1)
    let s := s.setLink p { l with
      fecAt := SMap.put 0 l.fecAt w (s.tick + 1)
      fecStuck := if again then l.fecStuck ||| BitVec.ofNat 4 (2 ^ w.val) else l.fecStuck }
    let s := s.rxCause p w cFec
    if again then .next (s.portFault p 1 (s.causes p true w) 11 7 0 (Reg.CL_SP_LANE p)) else .next s
  else .next s

/-- Cause FEC clears 100 ms after it was set (R74). -/
def execLaneFecClear (p : Fin 512) (w : Fin 4) (s : State) : Out :=
  let l := s.link p
  let at1 := SMap.get 0 l.fecAt w
  if s.awake ∧ bitOf (s.causes p true w) cFec ∧ !l.fecStuck.getLsbD w ∧ 0 < at1 ∧ s.since (at1 - 1) (msTicks 100) then
    .next ((s.setCause p true w cFec false).laneReport p)
  else .next s

/-- The receiver has locked to a rejoining lane's training pattern (R74) and reports it. -/
def execLaneRetrained (p : Fin 512) (w : Fin 4) (s : State) : Out :=
  let l := s.link p
  if s.awake ∧ s.portState p = pUp ∧ s.causes p true w = 0 ∧ !l.lockedLanes.getLsbD w then
    .next ((s.setLink p { l with lockedLanes := l.lockedLanes ||| BitVec.ofNat 4 (2 ^ w.val) }).laneReport p)
  else .next s

end Sys2Proof.Machine
end

