-- ==== Sys2Proof/Machine/Lasers.lean ====
section
/-! DEFINITION. The lasers and rings of the optical engines (R75 to R80), and the stripe at
which an announced lane mask takes effect (R72). -/

namespace Sys2Proof.Machine

/-- The site ports of engine `g` (R53). -/
def enginePorts (g : Nat) : List Nat := (List.range 8).map (fun i => 8 * g + i)

def State.setLaser (s : State) (g w : Nat) (f : Fld) (v : Nat) : State := s.setFld (Reg.CL_OE_LASER g w) f v
def State.laserFld (s : State) (g w : Nat) (f : Fld) : Nat := s.fld (Reg.CL_OE_LASER g w) f

/-- POWER as a signed number of 0.01 dB. -/
def State.laserPower (s : State) (g w : Nat) : Int := toSigned 16 (s.laserFld g w Fld.CL_OE_LASER_POWER)

def State.raiseEngine (s : State) (g bit : Nat) : State := s.raise (Reg.CL_OE_EVT g) bit 11 (srcPort (g / 4))

/-- The swap cannot be held back: the working laser is 3.0 dB down or has stopped (R76, R78).
(DEDUCED, log entry 78) -/
def State.swapForced (s : State) (g w : Nat) : Bool :=
  decide (s.laserPower g w ≤ -300) || s.laserFld g w Fld.CL_OE_LASER_STATE == 3

/-- A port that no swap concerns: DARK, or with its Svetna path not STRAIGHT (R75, R119). -/
def State.skipsSwap (s : State) (p : Nat) : Bool :=
  s.portState p == pDark || s.fld (Reg.SVB_PORT p) Fld.SVB_PORT_STATE != 0

/-- A port of the engine has lane `w` as its only active transmit lane. -/
def State.soleLane (s : State) (p w : Nat) : Bool :=
  !s.skipsSwap p && s.portState p == pUp && s.txMask p == BitVec.ofNat 4 (2 ^ w)

/-- A locked spare waits to be swapped in. -/
def State.swapWaits (s : State) (g w : Nat) : Bool :=
  s.laserFld g w Fld.CL_OE_LASER_SPARE == 2 && s.laserFld g w Fld.CL_OE_LASER_STATE != 2

/-- The swap starts (R75): cause SWAP on lane `w` of each port that takes part. A port with no other active lane goes
through HOLD (R77); one whose lane is out for another cause is skipped (R80). -/
def State.startSwap (s : State) (g w : Nat) : State :=
  (enginePorts g).foldl (fun s p =>
    if s.skipsSwap p then s
    else if s.soleLane p w then (s.setCause p false w cSwap true).linkLost p
    else if s.causes p false w ≠ 0 then s
    else s.txCause p w cSwap) (s.setLaser g w Fld.CL_OE_LASER_STATE 2)

/-- Swap in a locked spare (R75), if SWAPHELD or SWAPGO, and R77, allow it. (DEDUCED, log entry 78) -/
def State.trySwap (s : State) (g w : Nat) : State :=
  let ctl := s.reg (Reg.CL_OE_CTL g)
  let held := ctl.getLsbD 0 && !ctl.getLsbD 4
  let sole := (enginePorts g).any (fun p => s.soleLane p w)
  if s.swapWaits g w && (s.swapForced g w || (!held && !sole)) then s.startSwap g w else s

/-- Swaps that waited are tried again, and SWAPGO clears once every locked spare is being swapped in (R76, R77).
(DEDUCED, log entry 78) -/
def State.retrySwaps (s : State) (g : Nat) : State :=
  let ready := lanes4.filter (fun w => s.swapWaits g w)
  let s := ready.foldl (fun s w => s.trySwap g w) s
  if !ready.isEmpty && ready.all (fun w => !s.swapWaits g w) then s.setFld (Reg.CL_OE_CTL g) Fld.CL_OE_CTL_SWAPGO 0
  else s

/-- A mask on the wire changes when a frame is under way: its wire time lengthens with the lanes that leave, and an end past
its window is an overrun (R138). (DEDUCED, log entry 80) -/
def State.slowWire (s : State) (p m : Nat) : State :=
  let e := s.egPort p
  match e.onWire with
  | none => s
  | some o =>
    let n := ((List.range 4).filter (fun w => bitOf m w)).length
    if s.nowNs < o.endAt ∧ 0 < n then
      let late := s.nowNs + ceilDiv ((o.endAt - s.nowNs) * s.txLanes p) n
      let s := s.setEgPort p { e with onWire := some { o with endAt := late } }
      if o.endAt ≤ o.winEnd ∧ o.winEnd < late then (s.bump (Reg.CL_EG_OVERRUN p o.vc) 1).raise (Reg.CL_EG_EVT p) 2 11 (srcEgress (clusterOf p))
      else s
    else s

/-- Stripe S is reached (R72): the mask announced takes effect, on the transmitter's side or the
receiver's. (DESIGN CHOICE, log entry 73) -/
def execReefTakesEffect (p : Fin 512) (transmit : Bool) (s : State) : Out :=
  let l := s.link p
  match (if transmit then l.reefTx else l.reefRx) with
  | [] => .next s
  | (m, q) :: later =>
    if s.awake ∧ s.portState p = pUp ∧ seqLe q (s.stripe p) then
      if transmit then
        let s := (s.setLink p { l with reefTx := later }).slowWire p m.toNat
        let s := s.setFld (Reg.CL_SP_STAT p) Fld.CL_SP_STAT_TXLANES m.toNat
        let s := (s.bump (Reg.CL_SP_REEFS p) 1).raisePort p 2 11
        .next (s.retrySwaps (p / 8))
      else
        let new := m &&& ~~~(BitVec.ofNat 4 (s.fld (Reg.CL_SP_STAT p) Fld.CL_SP_STAT_RXLANES))
        let s := (s.setLink p { l with reefRx := later }).noteBack p new
        .next ((s.setFld (Reg.CL_SP_STAT p) Fld.CL_SP_STAT_RXLANES m.toNat).raisePort p 2 11)
    else .next s

/-- A working laser fades to 1.5 dB below its record (R75): its spare warms. -/
def execPrespare (g : Fin 64) (w : Fin 4) (power : BitVec 16) (s : State) : Out :=
  if s.awake ∧ s.laserFld g w Fld.CL_OE_LASER_SOURCE = 0 ∧ s.laserFld g w Fld.CL_OE_LASER_STATE = 0 ∧ power.toInt ≤ -150 then
    let s := s.setLaser g w Fld.CL_OE_LASER_POWER power.toNat
    let s := (s.setLaser g w Fld.CL_OE_LASER_STATE 1).setLaser g w Fld.CL_OE_LASER_SPARE 1
    .next (s.raiseEngine g w)
  else .next s

/-- The spare is locked (R75, R76). A SWAPGO that waits for it is used up. (DEDUCED, log entry 78) -/
def execSpareLocked (g : Fin 64) (w : Fin 4) (s : State) : Out :=
  if s.awake ∧ s.laserFld g w Fld.CL_OE_LASER_SPARE = 1 then
    .next ((s.setLaser g w Fld.CL_OE_LASER_SPARE 2).retrySwaps g)
  else .next s

/-- The optical switch has reached the spare (R75): lane `w` retrains on each port. -/
def execOpticalSwitchMoved (g : Fin 64) (w : Fin 4) (power : BitVec 16) (s : State) : Out :=
  if s.awake ∧ s.laserFld g w Fld.CL_OE_LASER_STATE = 2 then
    let s := s.setReg (Reg.CL_OE_LASER g w) (pack [(Fld.CL_OE_LASER_SPARE, 3), (Fld.CL_OE_LASER_STATE, 0),
      (Fld.CL_OE_LASER_SOURCE, 1), (Fld.CL_OE_LASER_POWER, power.toNat)])
    let s := s.raiseEngine g (4 + w)
    .next ((enginePorts g).foldl (fun s p =>
      if s.portState p = pUp then s.trainUpdate p else s.setCause p false w cSwap false) s)
  else .next s

/-- SWAPGO (R76): swaps of locked spares start, and the bit clears when they do. (DEDUCED, log entry 78) -/
def execSwapgo (g : Fin 64) (s : State) : Out :=
  if s.awake then .next ((s.setFld (Reg.CL_OE_CTL g) Fld.CL_OE_CTL_SWAPGO 1).retrySwaps g) else .next s

/-- A write of CL_OE_CTL: SWAPGO is W1S; clearing SWAPHELD frees the spares that wait for it (R76). (DEDUCED, log
entry 78) -/
def State.writeEngineCtl (s : State) (g : Nat) (val : Word) : State :=
  let go := s.fld (Reg.CL_OE_CTL g) Fld.CL_OE_CTL_SWAPGO
  let w := val &&& Fld.CL_OE_CTL_SWAPHELD.word 1 ||| Fld.CL_OE_CTL_SWAPGO.word (max go (Fld.CL_OE_CTL_SWAPGO.get val))
  (s.setReg (Reg.CL_OE_CTL g) w).retrySwaps g

/-- A working laser reaches 3.0 dB below its record (R76, R77): a locked spare is swapped in, and
one that still warms is swapped in once locked. -/
def execLaserFailThreshold (g : Fin 64) (w : Fin 4) (power : BitVec 16) (s : State) : Out :=
  if s.awake ∧ s.laserFld g w Fld.CL_OE_LASER_SOURCE = 0 ∧ power.toInt ≤ -300 then
    let s := s.setLaser g w Fld.CL_OE_LASER_POWER power.toNat
    let s := if s.laserFld g w Fld.CL_OE_LASER_SPARE = 0 then
      ((s.setLaser g w Fld.CL_OE_LASER_STATE 1).setLaser g w Fld.CL_OE_LASER_SPARE 1).raiseEngine g w else s
    if s.laserFld g w Fld.CL_OE_LASER_STATE = 2 then .next s else .next (s.retrySwaps g)
  else .next s

/-- A working laser stops (R78): the spare is warmed, or swapped in if it is locked already. The
power read from a stopped laser is a free value. (DEDUCED, log entry 78) -/
def execLaserStop (g : Fin 64) (w : Fin 4) (s : State) : Out :=
  if s.awake ∧ s.laserFld g w Fld.CL_OE_LASER_SOURCE = 0 ∧ s.laserFld g w Fld.CL_OE_LASER_STATE ≠ 2 then
    let (x, s) := s.free
    let s := (s.setLaser g w Fld.CL_OE_LASER_POWER (x.toNat % 65536)).setLaser g w Fld.CL_OE_LASER_STATE 3
    if s.laserFld g w Fld.CL_OE_LASER_SPARE = 0 then .next (s.setLaser g w Fld.CL_OE_LASER_SPARE 1)
    else .next (s.retrySwaps g)
  else .next s

/-- A spare in use fades to 3.0 dB below its record (R78): lane `w` leaves for good on each port
and a record asks for the module to be replaced; its UNIT, which no rule gives for an engine, is the engine's lowest
site port. (DEDUCED, log entry 78) -/
def execSpareFail (g : Fin 64) (w : Fin 4) (power : BitVec 16) (s : State) : Out :=
  if s.awake ∧ s.laserFld g w Fld.CL_OE_LASER_SOURCE = 1 ∧ s.laserFld g w Fld.CL_OE_LASER_STATE ≠ 3 ∧ power.toInt ≤ -300 then
    let s := (s.setLaser g w Fld.CL_OE_LASER_POWER power.toNat).setLaser g w Fld.CL_OE_LASER_STATE 3
    let s := s.raiseEngine g (8 + w)
    let s := (enginePorts g).foldl (fun s p => if s.furled p then s else s.txCause p w cSignal) s
    .next (s.portFault (8 * g) 2 (8 + w) 11 7 1 (Reg.CL_OE_EVT g))
  else .next s

/-- The rings of engine `g` that a mask names: ring 4i + w is lane `w` of port 8g + i. -/
def ringsOf (g : Nat) (m : BitVec 32) : List (Nat × Nat) :=
  ((List.range 32).filter (fun r => m.getLsbD r)).map (fun r => (8 * g + r / 4, r % 4))

/-- A sensor of the engine changes by more than 2.0 °C within 100 µs (R79): the rings named, whose
lock error is above a quarter of the range, are degraded; each port sends one REEF for all its lanes (R80). -/
def execThermfast (g : Fin 64) (txRings rxRings : BitVec 32) (s : State) : Out :=
  if s.awake then
    let s := s.raiseEngine g 12
    let s := (ringsOf g txRings).foldl (fun s (r : Nat × Nat) =>
      if s.furled r.1 then s else s.setCause r.1 false r.2 cTherm true) s
    let s := (enginePorts g).foldl (fun s p => s.reefUpdate p) s
    .next ((ringsOf g rxRings).foldl (fun s (r : Nat × Nat) =>
      if s.furled r.1 then s else s.rxCause r.1 r.2 cTherm) s)
  else .next s

/-- The engine's sensors have been steady for 1 ms (R79): THERM clears on the rings named, whose
lock error is within an eighth of the range. -/
def execThermClear (g : Fin 64) (txRings rxRings : BitVec 32) (s : State) : Out :=
  if s.awake then
    let s := (ringsOf g txRings).foldl (fun s (r : Nat × Nat) => s.txClear r.1 r.2 cTherm) s
    .next ((ringsOf g rxRings).foldl (fun s (r : Nat × Nat) =>
      if bitOf (s.causes r.1 true r.2) cTherm then (s.setCause r.1 true r.2 cTherm false).laneReport r.1 else s) s)
  else .next s

end Sys2Proof.Machine
end

