-- ==== Sys2Proof/Machine/Svetna.lean ====
section
/-! DEFINITION. The Svetna bypass matrix and its engine (R106 to R121). -/

namespace Sys2Proof.Machine

/-! ### Entries (R109) -/

def bypA (e : Entry) : Nat := entryNat e 2 2
def bypB (e : Entry) : Nat := entryNat e 4 2
def bypTag (e : Entry) : Nat := entryNat e 6 2
def bypInstant (e : Entry) : Nat := entryNat e 8 8

/-- CONNECT, RELEASE and LOOP. -/
def opConnect : Nat := 1
def opRelease : Nat := 2
def opLoop : Nat := 3

/-- Completion causes (R117). -/
def bcOk : Nat := 0
def bcBadentry : Nat := 1
def bcGroup : Nat := 2
def bcLate : Nat := 3
def bcConflict : Nat := 4
def bcNotime : Nat := 5
def bcInuse : Nat := 6
def bcNotconn : Nat := 7
def bcRefs : Nat := 8
def bcBusy : Nat := 9
def bcFault : Nat := 10
def bcAborted : Nat := 11

/-- The entry keeps the layout of R109. -/
def bypGood (e : Entry) : Bool :=
  decide (1 ≤ entryOp e ∧ entryOp e ≤ 3) && entryNat e 1 1 == 0 && entryNat e 16 48 == 0

/-- An entry names port `p`. -/
def bypNames (p : Nat) (e : Entry) : Bool := bypA e == p || bypB e == p

/-- End an entry with a completion record (R117). Of an OP or a port that its field of the record cannot hold, the record
keeps the low bits. (DEDUCED, log entry 79) -/
def State.bypassDone (s : State) (e : Entry) (cause settle : Nat) : State :=
  let s := s.bump (Reg.SVB_CNT cause) 1
  s.ringWrite .svb (pack [(Fld.SVB_CRING_TAG, bypTag e), (Fld.SVB_CRING_OP, entryOp e), (Fld.SVB_CRING_CAUSE, cause),
    (Fld.SVB_CRING_PORTA, bypA e), (Fld.SVB_CRING_PORTB, bypB e), (Fld.SVB_CRING_SETTLE, settle)])
    (cause != bcOk && cause != bcFault)

/-- The cause that refuses an entry as it is taken (R111), or OK. -/
def State.bypassCheck (s : State) (e : Entry) : Nat :=
  let a := bypA e
  let b := bypB e
  if !bypGood e then bcBadentry
  else if 511 < a ∨ 511 < b ∨ a / 64 ≠ b / 64 ∨ (entryOp e = opConnect ∧ a = b) ∨ (entryOp e = opLoop ∧ a ≠ b) then bcGroup
  else if bypInstant e < s.nowNs + 10000 then bcLate
  else if s.eng.bypass.any (fun x => bypInstant x == bypInstant e && (bypNames a x || bypNames b x)) then bcConflict
  else bcOk

/-- Take the next entry into the pending table (R110, R111), if it is one that `mine` names. -/
def State.bypassTake (s : State) (mine : Nat → Bool) : State :=
  match s.nextEntry engBypass with
  | none => s
  | some (q, e) =>
    if s.awake ∧ mine (entryOp e) ∧ s.eng.bypass.length < 256 then
      let s := s.popQueue engBypass q
      let c := s.bypassCheck e
      if c = bcOk then s.onEng (fun x => { x with bypass := x.bypass ++ [e] }) else s.bypassDone e c 0
    else s

/-- A CONNECT entry is taken. An entry whose OP is not listed is taken here and refused.
(DESIGN CHOICE, log entry 28) -/
def execBypassConnect (s : State) : Out := .next (s.bypassTake (fun op => op != opRelease && op != opLoop))

/-- A RELEASE entry is taken. -/
def execBypassRelease (s : State) : Out := .next (s.bypassTake (fun op => op == opRelease))

/-- A LOOP entry is taken. -/
def execBypassLoop (s : State) : Out := .next (s.bypassTake (fun op => op == opLoop))

/-! ### The instant (R112 to R115) -/

/-- Table entries that name site port `p` (R114): Destination entries in port form, and groups. -/
def State.portRefs (s : State) (p : Nat) : Nat :=
  (s.tbl.entries.filter (fun x =>
    let d := x.2.data
    if x.1 < 65536 then
      (tblBits d 0 63 62 == 2 && tblBits d 0 57 48 == p) || (tblBits d 0 31 30 == 2 && tblBits d 0 25 16 == p)
    else decide (4 * 65536 ≤ x.1 ∧ x.1 < 5 * 65536) && tblBits d 0 63 63 == 1 && (groupMembers d).contains p)).length

/-- The port is drained (R113). -/
def State.drainedPort (s : State) (p : Nat) : Bool :=
  (s.copiesOf p).isEmpty && (List.range 8).all (fun v => (s.equeue p v).isEmpty)
    && ((s.link p).lastRx == 0 || s.since ((s.link p).lastRx - 1) (nsTicks (s.rttNs p + 2000)))

def State.pathState (s : State) (p : Nat) : Nat := s.fld (Reg.SVB_PORT p) Fld.SVB_PORT_STATE
def State.pathPeer (s : State) (p : Nat) : Nat := s.fld (Reg.SVB_PORT p) Fld.SVB_PORT_PEER

/-- Ports `a` and `b` form one path that RELEASE can return (R109, R112): a furled pair, a loop, or
ports in FAULT. A path that still moves counts as the path it will be. (DEDUCED, log entry 79) -/
def State.onePath (s : State) (a b : Nat) : Bool :=
  if a = b then s.pathState a == 2 || s.pathState a == 3
  else (s.pathState a == 1 && s.pathPeer a == b) || (s.pathState a == 3 && s.pathState b == 3)

/-- The cause that refuses an entry at its instant (R112), or OK. (DEDUCED, log entry 79) -/
def State.bypassJudge (s : State) (e : Entry) : Nat :=
  let a := bypA e
  let b := bypB e
  let make := entryOp e != opRelease
  if !s.timeLocked then bcNotime
  else if make && (s.pathState a != 0 || s.pathState b != 0) then bcInuse
  else if !make && !s.onePath a b then bcNotconn
  else if make && (s.portRefs a != 0 || s.portRefs b != 0) then bcRefs
  else if make && (!s.drainedPort a || !s.drainedPort b) then bcBusy
  else bcOk

/-- Write a port's path state. -/
def State.setPath (s : State) (p st peer : Nat) : State :=
  s.setReg (Reg.SVB_PORT p) (pack [(Fld.SVB_PORT_STATE, st), (Fld.SVB_PORT_PEER, peer)])

/-- A port goes to DARK at the instant of a bypass change: one that was UP raises DOWN. -/
def State.bypassDark (s : State) (p : Nat) : State :=
  let s := if s.portState p = pUp then ((s.raisePort p 0 6).setPortState p pHold).handBack p else s
  if s.portState p = pDark then s else s.goDark p

/-- Judge an entry at its instant, and move the matrix if it passes (R112, R115): STATE and PEER show the new path from the
instant on, though it is established later. (DEDUCED, log entry 79) -/
def State.bypassRun (s : State) (e : Entry) : State :=
  let a := bypA e
  let b := bypB e
  let c := s.bypassJudge e
  if c ≠ bcOk then s.bypassDone e c 0
  else
    let s := (s.bypassDark a).bypassDark b
    let s := s.onEng (fun x => { x with moving := x.moving ++ [(a, b, e, bypInstant e)] })
    let st := if entryOp e = opConnect then 1 else if entryOp e = opLoop then 2 else 0
    let s := if st = 0 then (s.setPath a 0 0).setPath b 0 0 else (s.setPath a st b).setPath b st a
    (s.settleCauses a).settleCauses b

/-- The earliest instant among the pending entries. -/
def earliest : List Entry → Option Nat
  | [] => none
  | e :: l =>
    match earliest l with
    | none => some (bypInstant e)
    | some t => some (min (bypInstant e) t)

/-- Pending entries in order of instant, then in the order taken. (DEDUCED, log entry 79) -/
def byInstant (l : List Entry) : List Entry := sortBy bypInstant l

/-- A step of fabric time forward past an entry's instant refuses it NOTIME (R361). (DEDUCED, log entry 79) -/
def State.bypassPassed (s : State) : State :=
  let gone := byInstant (s.eng.bypass.filter (fun e => decide (bypInstant e ≤ s.nowNs)))
  let s := s.onEng (fun x => { x with bypass := x.bypass.filter (fun e => decide (s.nowNs < bypInstant e)) })
  gone.foldl (fun s e => s.bypassDone e bcNotime 0) s

/-- The path that moves at port `p`. -/
def State.movingAt (s : State) (p : Nat) : Option (Nat × Nat × Entry × Nat) :=
  s.eng.moving.find? (fun m => m.1 = p || m.2.1 = p)

/-- That path moves no more; another that moves there goes on. -/
def State.endMove (s : State) (p : Nat) : State :=
  s.onEng (fun x => { x with moving := x.moving.eraseP (fun m => m.1 = p || m.2.1 = p) })

/-- A port whose fibre reaches its engine again enters DETECT if it is enabled; its cluster wakes if it is dark (R115,
R226). -/
def State.portLit (s : State) (p : Nat) : State :=
  let s := s.settleCauses p
  if (s.reg (Reg.CL_SP_CTL p)).getLsbD 0 ∧ s.furled p = false then (s.wakeCluster (clusterOf p)).leaveDark p else s

/-- The light has settled within 4 µs of the instant (R115, R116): the completion record is written, and ports whose fibre
reaches their engine enter DETECT. -/
def execSvbPathEstablished (p : Fin 512) (settle : BitVec 14) (s : State) : Out :=
  match s.movingAt p with
  | none => .next s
  | some (a, b, e, t) =>
    if s.awake ∧ settle.toNat ≤ 4000 ∧ s.nowNs ≤ t + 4000 then
      let s := (s.endMove p).bypassDone e bcOk settle.toNat
      .next (if a = b then s.portLit a else (s.portLit a).portLit b)
    else .next s

/-- A path is not established within 4 µs (R116): both ports go to FAULT. -/
def execSvbPathFault (p : Fin 512) (s : State) : Out :=
  match s.movingAt p with
  | none => .next s
  | some (a, b, e, t) =>
    if s.awake ∧ t + 4000 ≤ s.nowNs then
      let s := ((s.endMove p).setPath a 3 0).setPath b 3 0
      let s := (((s.settleCauses a).settleCauses b).bypassDone e bcFault 0).raise Reg.SVB_EVT 2 11 srcSvetna
      .next (s.faultRecord { unitType := utSvetna, register := 1, cause := 2, action := 7, detail := s.reg Reg.SVB_EVT })
    else .next s

/-! ### Drain, force, resume (R120, R464) -/

/-- DRAIN of an engine; a FORCE in force stays. -/
def State.drainEngine (s : State) (eng : Nat) : State := s.setHold eng (max 1 (s.hold eng))

/-- SVB_CMD.DRAIN. -/
def execSvbDrain (s : State) : Out := if s.awake then .next (s.drainEngine engBypass) else .next s

/-- Cancel every pending entry, then refuse every waiting one, ABORTED (R120, R464). -/
def State.forceBypass (s : State) (cause : Nat) : State :=
  let l := byInstant s.eng.bypass ++ s.waitingEntries engBypass
  let s := (s.onEng (fun x => { x with bypass := [] })).clearQueues engBypass
  let s := l.foldl (fun s e => s.bypassDone e bcAborted 0) s
  (s.setHold engBypass 2).forcedDisable engBypass cause

/-- SVB_CMD.FORCE. -/
def execSvbForce (s : State) : Out := if s.awake then .next (s.forceBypass 0) else .next s

/-- SVB_CMD.RESUME. -/
def execSvbResume (s : State) : Out := if s.awake then .next (s.setHold engBypass 0) else .next s

end Sys2Proof.Machine
end

