-- ==== Sys2Proof/Machine/Egress.lean ====
section
/-! DEFINITION. Egress scheduling (R136 to R143): gates, shapers, weighted deficit round robin,
transmission; queue sampling (R144); the Crow's nest controls (R145, R147). -/

namespace Sys2Proof.Machine

/-! ### Gates (R137 to R140) -/

/-- The operating list: OPEN mask and duration of each entry. -/
def State.gates (s : State) (port : Nat) : List (Nat × Nat) :=
  (List.range (s.fld (Reg.CL_EG_STAT port) Fld.CL_EG_STAT_OPERLEN)).map (fun i =>
    let w := (s.reg (Reg.CL_EG_GCLOPER port i)).toNat
    (bitsOf w 55 48, bitsOf w 31 0))

/-- Index of the entry in force at phase `t` of the cycle, and the time into it. -/
def gateAt : List (Nat × Nat) → Nat → Nat → Nat × Nat
  | [], i, t => (i, t)
  | (_, d) :: l, i, t => if t < d then (i, t) else gateAt l (i + 1) (t - d)

/-- The length of the run of entries at the head of a list that open VC `v`. -/
def openRun (v : Nat) : List (Nat × Nat) → Nat
  | [] => 0
  | (m, d) :: l => if bitOf m v then d + openRun v l else 0

/-- Phase of the cycle now, for a list that has begun. -/
def State.gatePhase (s : State) (port : Nat) : Nat :=
  let c := s.fld (Reg.CL_EG_STAT port) Fld.CL_EG_STAT_CYCLE
  if c = 0 then 0 else (s.nowNs + c - (s.egPort port).operBase % c) % c

/-- The window of VC `v` now: how long ago it began and how long until it ends, in ns; `none`
for a gate that is never closed. The windows of a list end where the next list starts (R139). (DEDUCED, log entry 80) -/
def State.window? (s : State) (port v : Nat) : Option (Nat × Nat) :=
  let l := s.gates port
  if !s.gated port then none
  else if l.all (fun g => bitOf g.1 v) then
    (s.egPort port).swapAt.map (fun x => (s.nowNs - (s.egPort port).operBase, x - s.nowNs))
  else
    let (i, t) := gateAt l 0 (s.gatePhase port)
    let turned := l.drop i ++ l.take i
    let ahead := openRun v turned - t
    let back := match turned with
      | [] => 0
      | g :: rest => if bitOf g.1 v then t + openRun v rest.reverse else 0
    match (s.egPort port).swapAt with
    | some x => some (back, min ahead (x - s.nowNs))
    | none => some (back, ahead)

/-- Transmit rate in Gbit/s (R138). -/
def State.rate (s : State) (port : Nat) : Nat := if isSpan port then 1600 else 200 * s.txLanes port

/-- Wire time of a frame in ns (R138). -/
def State.wireTime (s : State) (port : Nat) (f : Frame) : Nat := ceilDiv (frameWire f * 8) (s.rate port) + 2

/-- What the gate says of a head frame: it fits; it does not; it is sent all the same, having
found no window for a whole cycle (R138). -/
inductive GateFit where
  | fits
  | waits
  | overrun
  deriving DecidableEq, Repr

/-- Judge the head frame of VC `v` against its gate. (DEDUCED, log entry 80) -/
def State.gateFit (s : State) (port v : Nat) (f : Frame) : GateFit :=
  match s.window? port v with
  | none => .fits
  | some (back, ahead) =>
    if s.wireTime port f < ahead then .fits
    else
      let since := SMap.get 0 (s.egPort port).noFit v
      if 0 < since ∧ 0 < ahead ∧ since - 1 + s.fld (Reg.CL_EG_STAT port) Fld.CL_EG_STAT_CYCLE + back ≤ s.nowNs then .overrun
      else .waits

/-- The administrative list of a port. -/
def State.adminList (s : State) (port : Nat) : List Word :=
  (List.range (s.fld (Reg.CL_EG_CTL port) Fld.CL_EG_CTL_ADMINLEN)).map (fun i => s.reg (Reg.CL_EG_GCL port i))

/-- The administrative list passes the checks of R139. -/
def adminGood (l : List Word) : Bool :=
  let ds := l.map (fun w => bitsOf w.toNat 31 0)
  decide (1 ≤ l.length ∧ l.length ≤ 256) && ds.all (fun d => decide (100 ≤ d)) && decide (ds.sum ≤ 10000000)

/-- Check the administrative list and schedule its start (R139). -/
def State.gclCommit (s : State) (port : Nat) : State :=
  if s.flag (Reg.CL_EG_CTL port) Fld.CL_EG_CTL_COMMIT then s
  else
    let l := s.adminList port
    if adminGood l then
      let cycle := (l.map (fun w => bitsOf w.toNat 31 0)).sum
      let base := (s.reg (Reg.CL_EG_BASE port)).toNat
      let first := s.nowNs + 10000
      let t := if first ≤ base then base else base + ceilDiv (first - base) cycle * cycle
      (s.setFld (Reg.CL_EG_CTL port) Fld.CL_EG_CTL_COMMIT 1).setEgPort port { s.egPort port with
        swapAt := some t
        swapLen := l.length }
    else s.raiseEgress port 1

/-- CL_EG_CTL.COMMIT is written 1 (R139). -/
def execGclCommit (port : Fin 544) (s : State) : Out :=
  if s.awake then .next (s.gclCommit port) else .next s

/-- The OPEN mask that the list in force gives now; a DARK port has no window open (R118). -/
def State.openNow (s : State) (port : Nat) : Nat :=
  if s.gated port then
    if s.portState port = pDark then 0 else
    let l := s.gates port
    match l[(gateAt l 0 (s.gatePhase port)).1]? with
    | some g => g.1
    | none => 0
  else 0xFF

/-- Note which entry is in force. -/
def State.showGates (s : State) (port : Nat) : State :=
  s.setEgPort port { s.egPort port with gateIdx := (gateAt (s.gates port) 0 (s.gatePhase port)).1 }

/-- CL_EG_STAT shows the VCs open now. -/
def State.egStat (s : State) (port : Nat) : Word := Fld.CL_EG_STAT_OPEN.put (s.openNow port) (s.reg (Reg.CL_EG_STAT port))

/-- A write of CL_EG_CTL: while COMMIT is 1 it stays, and a 1 starts a swap (R139); GATEEN tells whether the gates apply. -/
def State.writeEgCtl (s : State) (port : Nat) (val : Word) : State :=
  let k := Reg.CL_EG_CTL port
  let s := (s.setReg k ((val &&& 0x1FF01) ||| (s.reg k &&& 2))).noteHoldover port
  if val.getLsbD 1 then s.gclCommit port else s

/-- A write of the administrative list: ignored while COMMIT is 1 (R139). -/
def State.writeGcl (s : State) (port i : Nat) (val : Word) : State :=
  if s.flag (Reg.CL_EG_CTL port) Fld.CL_EG_CTL_COMMIT then s
  else s.setReg (Reg.CL_EG_GCL port i) (val &&& 0x00FF0000FFFFFFFF)

/-- The scheduled instant has come (R139): the list that was checked runs. -/
def execGclSwap (port : Fin 544) (s : State) : Out :=
  match (s.egPort port).swapAt with
  | none => .next s
  | some t =>
    if s.awake ∧ t ≤ s.nowNs then
      let l := (List.range (s.egPort port).swapLen).map (fun i => s.reg (Reg.CL_EG_GCL port i))
      let s := (l.zipIdx).foldl (fun s x => s.setReg (Reg.CL_EG_GCLOPER port x.2) x.1) s
      let s := s.setFld (Reg.CL_EG_STAT port) Fld.CL_EG_STAT_OPERLEN l.length
      let s := s.setFld (Reg.CL_EG_STAT port) Fld.CL_EG_STAT_CYCLE ((l.map (fun w => bitsOf w.toNat 31 0)).sum)
      let s := s.setEgPort port { s.egPort port with
        operBase := t
        swapAt := none
        noFit := [] }
      let s := s.setFld (Reg.CL_EG_CTL port) Fld.CL_EG_CTL_COMMIT 0
      .next (((s.raiseEgress port 0).showGates port).noteHoldover port)
    else .next s

/-! ### Shapers (R142, R143) -/

def shBurst (w : Word) : Int := max 4164 (Fld.CL_EG_SHAPE_BURST.get w)
def shEnabled (w : Word) : Bool := w.getLsbD 63

/-- A bucket at a refill boundary: a shaper value written since takes effect, then RATE is added. -/
def refill (old new : Word) (tokens : Int) : Int :=
  let t := if shEnabled new && !shEnabled old then shBurst new else min tokens (shBurst new)
  if shEnabled new then min (shBurst new) (t + Fld.CL_EG_SHAPE_RATE.get new) else t

/-- Refill the buckets of one port. -/
def State.refillPort (s : State) (port : Nat) : State :=
  (List.range 8).foldl (fun s v =>
    let e := s.egPort port
    let new := s.reg (Reg.CL_EG_SHAPE port v)
    let old := SMap.get 0 e.shape v
    if new = old ∧ !shEnabled new then s
    else s.setEgPort port { e with
      shape := SMap.put 0 e.shape v new
      tokens := SMap.put 0 e.tokens v (refill old new (SMap.get 0 e.tokens v)) }) s

/-- The 1 µs boundary (R142). -/
def execShaperRefill (s : State) : Out :=
  if s.awake ∧ s.boundDue bkRefill 1000 then
    let s := s.takeBound bkRefill 1000
    .next (allPorts.foldl (fun s p => s.refillPort p) s)
  else .next s

/-- A write of CL_EG_SHAPE (R143): it takes effect at the next refill boundary. -/
def execShaperWrite (port : Fin 544) (v : Fin 8) (val : Word) (s : State) : Out :=
  if s.awake then .next (s.setReg (Reg.CL_EG_SHAPE port v) (val &&& 0x8000FFFFF0FFFFFF)) else .next s

/-- The shaper holds more than 0 tokens. -/
def State.hasTokens (s : State) (port v : Nat) : Bool :=
  let e := s.egPort port
  !shEnabled (SMap.get 0 e.shape v) || decide (0 < SMap.get 0 e.tokens v)

/-! ### The retry window of a span port (R93) -/

/-- Cells of the retry window that a VC holds. -/
def State.windowCells (s : State) (port v : Nat) : Nat :=
  ((s.vc port v).unacked.map (fun c => frameCells c.h.f)).sum

/-- The window has room for a new frame of `cells` cells. -/
def State.windowRoom (s : State) (port v cells : Nat) : Bool :=
  let used := s.windowCells port v
  let shared := ((List.range 8).map (fun w => s.windowCells port w - 66)).sum
  !isSpan port || decide (used + cells ≤ 66) || decide ((used + cells - 66) - (used - 66) + shared ≤ 2621440 - 528)

/-! ### The choice of a VC (R136, R141) -/

/-- The frame that VC `v` would send: a copy to be sent again, or the head of its queue. -/
inductive Head where
  | again (c : TxCopy)
  | new (h : Held)
  deriving DecidableEq, Repr

def Head.frame : Head → Frame
  | .again c => c.h.f
  | .new h => h.f

def State.head? (s : State) (port v : Nat) : Option Head :=
  let l := s.vc port v
  match l.resend with
  | q :: _ => (l.unacked.find? (fun c => c.seq = q)).map Head.again
  | [] => (s.equeue port v).head?.map Head.new

/-- Note since when the head frames that find no window have waited (R138); a frame that finds one waits no longer.
(DEDUCED, log entry 80) -/
def State.noteWaits (s : State) (port : Nat) : State :=
  (List.range 8).foldl (fun s v =>
    let e := s.egPort port
    let note := fun (t : Nat) => s.setEgPort port { e with noFit := SMap.put 0 e.noFit v t }
    match s.head? port v with
    | none => note 0
    | some h =>
      match s.gateFit port v h.frame with
      | .fits => note 0
      | .waits => if SMap.get 0 e.noFit v = 0 then note (s.nowNs + 1) else s
      | .overrun => s) s

/-- The duration of the entry in force has ended (R137): the next entry's mask applies. -/
def execGateBoundary (port : Fin 544) (s : State) : Out :=
  let l := s.gates port
  if s.awake ∧ s.gated port ∧ (gateAt l 0 (s.gatePhase port)).1 ≠ (s.egPort port).gateIdx then
    .next (((s.showGates port).noteWaits port).noteHoldover port)
  else .next s

/-- Credit that sending the head frame takes: none for a copy whose credit is still held. -/
def State.headCredit (s : State) (port : Nat) : Head → Nat
  | .again c => if c.era = (s.link port).era then 0 else frameCells c.h.f
  | .new h => frameCells h.f

/-- Frames of a job are carried only in SERVICE and DRAINING (R23). (DEDUCED, log entry 86) -/
def State.mayCarry (s : State) (f : Frame) : Bool := s.carries || f.job == 0

/-- VC `v` is eligible (R136, R93). -/
def State.vcEligible (s : State) (port v : Nat) : Bool :=
  match s.head? port v with
  | none => false
  | some h =>
    s.mayCarry h.frame && bitOf (s.openNow port) v && s.gateFit port v h.frame != .waits && s.hasTokens port v
      && decide (s.headCredit port h ≤ (s.vc port v).credit)
      && (match h with
        | .again _ => true
        | .new x => s.windowRoom port v (frameCells x.f))

/-- QUANTUM × 64 bytes (R141). -/
def State.quantum (s : State) (port v : Nat) : Nat := 64 * max 1 (s.fld (Reg.CL_EG_WDRR port v) ⟨0, 16⟩)

/-- Wire bytes of the head frame of VC `v`. -/
def State.headBytes (s : State) (port v : Nat) : Nat :=
  match s.head? port v with
  | some h => frameWire h.frame
  | none => 0

/-- Visit eligible VCs in turn, each visit adding the quantum, until one can send (R141). A
maximum frame needs at most 66 visits. (DEDUCED, log entry 81) -/
def wdrrVisit (quantum bytes : Nat → Nat) : Nat → List Nat → SMap Nat → Option (Nat × SMap Nat)
  | 0, _, _ => none
  | _ + 1, [], _ => none
  | fuel + 1, v :: vs, d =>
    let x := SMap.get 0 d v + quantum v
    let d := SMap.put 0 d v x
    if bytes v ≤ x then some (v, d) else wdrrVisit quantum bytes fuel (vs ++ [v]) d

/-- The VC served next, with the deficits after the visits: the one served last goes on while its
deficit covers its head frame. (DEDUCED, log entry 81) -/
def State.pickVc (s : State) (port : Nat) : Option (Nat × SMap Nat) :=
  let e := s.egPort port
  let el := (List.range 8).filter (fun v => s.vcEligible port v)
  if el.contains e.lastVc && decide (s.headBytes port e.lastVc ≤ SMap.get 0 e.deficit e.lastVc) then
    some (e.lastVc, e.deficit)
  else
    let order := el.filter (fun v => decide (e.lastVc < v)) ++ el.filter (fun v => decide (v ≤ e.lastVc))
    wdrrVisit (s.quantum port) (s.headBytes port) 560 order e.deficit

/-! ### Transmission -/

/-- TIM_PD[p] + TIM_ASYM[p] in 1/16 ns: the inbound delay of a port (R356). -/
def State.inboundDelay (s : State) (port : Nat) : Int :=
  toSigned 32 (s.reg (Reg.TIM_PD port)).toNat + toSigned 32 (s.reg (Reg.TIM_ASYM port)).toNat

/-- Put bytes into a payload. (PRESUMED, log entry 18) -/
def putBytes (p : List Byte) (i : Nat) (l : List Byte) : List Byte := p.take i ++ l ++ p.drop (i + l.length)

/-- messageType of a PTP message (R351). -/
def ptpType (p : List Byte) : Nat := natAt p 0 1 % 16
def ptpReq : Nat := 2
def ptpResp : Nat := 3

/-- A write of TIM_SET that comes in this tick: the Syncs sent in it carry the new time (R364). -/
def setAhead : List Instr → Option Word
  | [] => none
  | .timSet v :: _ => some v
  | .registerWrite _ off v :: l => if off.toNat = Reg.TIM_SET then some v else setAhead l
  | _ :: l => setAhead l

/-- The instant of egress, in 0.5 ns of fabric time, at place `sub` of this tick (R354); a Sync's is judged after a write of
TIM_SET in the same tick (R364). -/
def State.egressAt (s : State) (f : Frame) (sub : Nat) : Nat :=
  match setAhead s.pending with
  | some v => if s.grandmaster ∧ f.kind = kTime ∧ f.subk = 0 then v.toNat + sub else s.nowHalf + sub
  | none => s.nowHalf + sub

/-- The egress time-stamp `t` in a TIME frame of this module (R353, R355): a Sync carries it, and a
Pdelay_Resp, whose correctionField holds t2 till now, the turnaround. (DEDUCED, log entry 43) -/
def stampOwn (t : Nat) (p : List Byte) (subk : BitVec 8) : List Byte :=
  if subk = 0 then
    putBytes (putBytes p 8 (beBytes 8 (32768 * (t % 2)))) 34 (beBytes 6 (t / 2000000000) ++ beBytes 4 (t / 2 % 1000000000))
  else if ptpType p = ptpResp then putBytes p 8 (beBytes 8 (ofSigned 64 (32768 * ((t : Int) - (natAt p 8 8 : Int)))))
  else p

/-- The frame as it goes on the wire at `t`: a span port sets SPANNED (R31), and a routed TIME frame that
the module forwards has its inbound delay and residence time added to correctionField (R357). -/
def State.wireFrame (s : State) (port t : Nat) (h : Held) : Frame :=
  let f := if isSpan port then { h.f with flags := h.f.flags ||| flSpanned } else h.f
  let f := if f.kind = kTime ∧ 544 ≤ h.m.pin then { f with payload := stampOwn t f.payload f.subk } else f
  if f.kind = kTime ∧ f.subk = 0 ∧ h.m.pin < 544 then
    let d := 4096 * s.inboundDelay h.m.pin + 32768 * ((t : Int) - (h.m.tin : Int))
    let c := BitVec.ofInt 64 ((BitVec.ofNat 64 (natAt f.payload 8 8)).toInt + d)
    { f with payload := f.payload.take 8 ++ beBytes 8 c.toNat ++ f.payload.drop 16 }
  else f

/-- Count a corrected TIME frame (R357); a Pdelay_Req of this module leaves at t1 (R355). -/
def State.countTime (s : State) (port t : Nat) (h : Held) : State :=
  if h.f.kind = kTime ∧ h.f.subk = 0 ∧ h.m.pin < 544 then s.bump (Reg.TIM_CNT 7) 1
  else if h.f.kind = kTime ∧ h.f.subk = 1 ∧ 544 ≤ h.m.pin ∧ ptpType h.f.payload = ptpReq then
    let q := SMap.get {} s.port.peerDelay port
    s.onPort (fun x => { x with peerDelay := SMap.put {} x.peerDelay port { q with
      sent := some (BitVec.ofNat 16 (natAt h.f.payload 30 2), t) } })
  else s

/-- Wire bytes leave a port: bandwidth, shaper, and what the wire carries until when (R138). -/
def State.spend (s : State) (port v : Nat) (f : Frame) (d : SMap Nat) : State :=
  let e := s.egPort port
  let n := frameWire f
  let left := SMap.get 0 d v - n
  let wire := (s.window? port v).map (fun w => ({ vc := v, endAt := s.nowNs + s.wireTime port f, winEnd := s.nowNs + w.2 } : OnWire))
  s.setEgPort port { e with
    lastVc := v
    onWire := wire
    deficit := SMap.put 0 d v left
    tokens := if shEnabled (SMap.get 0 e.shape v) then SMap.put 0 e.tokens v (SMap.get 0 e.tokens v - n) else e.tokens
    noFit := SMap.put 0 e.noFit v 0 }

/-- Count an overrun (R138). -/
def State.countOverrun (s : State) (port v : Nat) (g : GateFit) : State :=
  if g = .overrun then (s.bump (Reg.CL_EG_OVERRUN port v) 1).raiseEgress port 2 else s

/-- Send a copy again (R62, R63). -/
def State.sendAgain (s : State) (port v t : Nat) (c : TxCopy) : State :=
  let l := s.vc port v
  let era := (s.link port).era
  let cost := if c.era = era then 0 else frameCells c.h.f
  let s := s.setVc port v { l with
    resend := l.resend.tail
    credit := l.credit - cost
    unacked := l.unacked.map (fun x => if x.seq = c.seq then { x with sentAt := s.tick, era := era } else x) }
  let s := s.bump (rtxReg port v) 1
  let s := (s.countTime port t c.h).frameEvent 0x06 1 port c.h.f
  let f := { s.wireFrame port t c.h with hopseq := c.seq }
  s.putOnWire port (.frame port f (BitVec.ofNat 32 (frameCrc f)) true)

/-- Send a frame for the first time (R58, R60): a copy is kept until it is acknowledged. -/
def State.sendNew (s : State) (port v t : Nat) (h : Held) : State :=
  let l := s.vc port v
  let s := s.setEqueue port v (s.equeue port v).tail
  let s := s.setVc port v { l with
    sent := l.sent + 1
    credit := l.credit - frameCells h.f
    unacked := l.unacked ++ [{ seq := l.txNext, h := h, sentAt := s.tick, era := (s.link port).era }] }
  let s := (s.countTime port t h).frameEvent 0x03 1 port h.f
  let s := s.frameEvent 0x04 (frameWire h.f) port h.f
  let s := s.onTele (fun t => { t with bwTx := SMap.put 0 t.bwTx (pv port v) (SMap.get 0 t.bwTx (pv port v) + frameWire h.f) })
  let f := { s.wireFrame port t h with hopseq := l.txNext }
  (s.putOnWire port (.frame port f (BitVec.ofNat 32 (frameCrc f)) false)).depart h { pout := some port, tout := some t }

/-- A cell of the frame chosen holds an error that its ECC cannot correct: the frame is not sent but discarded INTERNAL (R47).
Behind a copy that is gone the hop cannot go on, and the port is treated as reset, as R104 has it for a retry copy.
(DEDUCED, log entry 132) -/
def State.cellError (s : State) (port v : Nat) : Head → State
  | .new h => ((s.setEqueue port v (s.equeue port v).tail).discard port h dcInternal).emptied port v
  | .again c => (s.discard port { f := c.h.f, m := { pin := port } } dcInternal).hopReset port

/-- The scheduler sends one frame of the VC it serves (R136, R141). (DESIGN CHOICE, log entry 126) -/
def execFrameTransmit (x : Transmission) (s : State) : Out :=
  let port := x.port
  if s.awake ∧ s.portState port = pUp then
    let s := s.noteWaits port
    match s.pickVc port with
    | none => .next s
    | some (v, d) =>
      match s.head? port v with
      | none => .next s
      | some h =>
        if x.cellBad then .next (s.cellError port v h)
        else
          let t := s.egressAt h.frame x.sub
          let g := s.gateFit port v h.frame
          let s := (s.spend port v h.frame d).countOverrun port v g
          match h with
          | .again c => .next ((s.sendAgain port v t c).emptied port v)
          | .new y => .next ((s.sendNew port v t y).emptied port v)
  else .next s

/-! ### Queue sampling (R144) -/

/-- A port's queue by its index q in cluster `n`. -/
def queuePort (n q : Nat) : Nat := if q / 8 < 32 then 32 * n + q / 8 else 512 + 2 * n + (q / 8 - 32)

/-- The sample of queue `q` of cluster `n`, and the maxima field by field. -/
def State.sampleQueue (s : State) (n q : Nat) : State :=
  let port := queuePort n q
  let depth := min (s.charge port (q % 8)) 0xFFFF
  let delay := match s.equeue port (q % 8) with
    | h :: _ => min (40 * (s.tick - h.m.since)) 0xFFFFFFFF
    | [] => 0
  let old := s.reg (Reg.CL_QMAX n q)
  let word := fun (de dl : Nat) => pack [(⟨0, 16⟩, de), (⟨32, 32⟩, dl)]
  (s.setReg (Reg.CL_QSAMP n q) (word depth delay)).setReg (Reg.CL_QMAX n q)
    (word (max depth (bitsOf old.toNat 15 0)) (max delay (bitsOf old.toNat 63 32)))

/-- Sample all queues of a cluster at a 10 µs boundary. -/
def execQueueSample (n : Fin 16) (s : State) : Out :=
  if s.awake ∧ s.boundDue (bkSample n) 10000 then
    .next ((List.range 272).foldl (fun (s : State) q => s.sampleQueue n q) (s.takeBound (bkSample n) 10000))
  else .next s

/-! ### Crow's nest (R145, R147) -/

/-- A write of LFT_CN_CTL: ENABLE rising seeds the rules' registers (R145), and sets NORING while CAPT is 0 (R147).
(DEDUCED, log entry 119) -/
def State.cnWrite (s : State) (val : Word) : State :=
  let on := val.getLsbD 0 && !(s.reg Reg.LFT_CN_CTL).getLsbD 0
  let s := s.setReg Reg.LFT_CN_CTL (val &&& 0xFFFFFFFF00000003)
  if on then
    let s := if s.captSize = 0 then s.raise Reg.LFT_CN_EVT 2 11 srcCrow else s
    s.onTele (fun t => { t with
      captSeq := 0
      captLfsr := (List.range 8).foldl (fun m i =>
        SMap.put 0 m i (lfsrSeed (BitVec.ofNat 32 (bitsOf val.toNat 63 32 + i)))) [] })
  else s

def execCnEnable (val : Word) (s : State) : Out := if s.awake then .next (s.cnWrite val) else .next s

/-- A write of LFT_CN_RPTR (R147). -/
def execCnRptrWrite (val : BitVec 32) (s : State) : Out :=
  if s.awake then .next (s.setReg Reg.LFT_CN_RPTR (val.setWidth 64)) else .next s

end Sys2Proof.Machine
end

