-- ==== Sys2Proof/Machine/Forward.lean ====
section
/-! DEFINITION. Forwarding: a frame leaves staging, overflow holding or its source (R97, R125,
R128, R132, R153, R154), and the limits of its wait (R154, R166). -/

namespace Sys2Proof.Machine

/-- Replace the frame of staging. -/
def State.restage (s : State) (r : StageRef) (h : Held) : State :=
  s.setStaged r.port.val r.vc.val (putAt (s.staged r.port.val r.vc.val) r.idx h)

/-- An earlier frame of the same allotment, or one of it handed back since, is bound for queue `p` and must go first (R125,
R156). (DEDUCED, log entry 83) -/
def State.behind (s : State) (r : StageRef) (h : Held) (p : Nat) : Bool :=
  ((s.staged r.port.val r.vc.val).take r.idx).any (fun h => !s.ownFrame h.f && s.boundFor (clusterOf r.port) p h.f .route)
    || s.behindHanded [] h p

/-- NRWAIT and LATE in µs; 0 is taken as 1. -/
def State.nrwait (s : State) (n : Nat) : Nat := max 1 (s.fld (Reg.CL_RT_CTL n) Fld.CL_RT_CTL_NRWAIT)
def State.late (s : State) (n : Nat) : Nat := max 1 (s.fld (Reg.CL_RT_CTL n) Fld.CL_RT_CTL_LATE)

/-- Try to forward a frame out of staging or overflow holding (R148 to R154, R159): its target is
judged now; it waits without an eligible member or without room. (DEDUCED, log entries 83 and 84) -/
def State.tryLeave (s : State) (r : StageRef) : State :=
  let port := r.port.val
  let n := clusterOf port
  match s.stagedAt r with
  | none => s
  | some h =>
    if s.ownFrame h.f then s
    else match s.target h.f with
      | none => (s.unstage r).discardStaged port h dcNoRoute
      | some g =>
        if s.routeBroken port h.f then (s.unstage r).discardStaged port h dcSpan
        else match s.choose n g h.f with
          | .noElig =>
            let (h, s) := s.noteNoElig n h
            s.restage r h
          | .noRoom =>
            let m := { h.m with noElig := none }
            s.restage r { h with m := m }
          | .member p => if s.behind r h p then s else ((s.unstage r).enqueue g p h).returnCells port h

/-- A staged frame leaves for an egress queue (R153); one with a cell that its ECC cannot correct is discarded INTERNAL
(R47). -/
def execFrameLeaveStaging (x : Leaving) (s : State) : Out :=
  if !s.awake then .next s
  else if x.cellBad then
    match s.stagedAt x.frame with
    | some h => .next ((s.unstage x.frame).discardStaged x.frame.port h dcInternal)
    | none => .next s
  else .next (s.tryLeave x.frame)

/-- A frame of overflow holding moves into output-buffer cells (R97). -/
def execOverflowMove (x : Fin 32) (v : Fin 8) (idx : Nat) (s : State) : Out :=
  let port : Fin 544 := ⟨512 + x.val, by omega⟩
  if s.awake then .next (s.tryLeave ⟨port, v, idx⟩) else .next s

/-! ### Internal sources (R132) -/

/-- PIN of a frame that enters at cluster `n` (R146). -/
def pinSource (n : Nat) : Nat := 768 + n

/-- Admit one copy of a frame to one group, if a member can take it. -/
def State.admitCopy (s : State) (n : Nat) (h : Held) (g : Group) : Option State :=
  match s.choose n g h.f with
  | .member p => some (s.enqueue g p h)
  | _ => none

/-- Admit a copy to every group of a multicast set, or none (R128). (DEDUCED, log entry 90) -/
def State.admitAll (s : State) (n : Nat) (h : Held) : List Nat → Option State
  | [] => some s
  | g :: gs =>
    match s.group g with
    | none => s.admitAll n h gs
    | some G =>
      let m := { h.m with aim := .group g }
      match s.admitCopy n { h with m := m } G with
      | some s => s.admitAll n h gs
      | none => none

/-- What an attempt to admit a frame under one aim comes to. -/
inductive Admission where
  | noTarget
  | waits
  | done (s : State)

/-- Attempt one aim of a frame at an internal source. -/
def State.admitAim (s : State) (n : Nat) (f : Frame) (a : Aim) : Admission :=
  let (rule, s') := s.captRule (pinSource n) f
  let h : Held := { f := f, m := { pin := pinSource n, tin := s.nowHalf, since := s.tick, rule := rule } }
  match a with
  | .mcast gs =>
    let m := { h.m with mcast := true }
    match s'.admitAll n { h with m := m } gs with
    | some s => .done s
    | none => .waits
  | a =>
    match s.aimGroup f a with
    | none => .noTarget
    | some g =>
      let m := { h.m with aim := a }
      match s'.admitCopy n { h with m := m } g with
      | some s => .done s
      | none => .waits

/-- A frame whose target does not exist is discarded NO_ROUTE at its source, in cluster `n` (R154). It has no port: PORT of
CL_FCHK_LASTSRC shows 0 for it. (DEDUCED, log entry 65) -/
def State.sourceNoRoute (s : State) (n : Nat) (f : Frame) : State :=
  let (rule, s) := s.captRule (pinSource n) f
  let s := s.countDiscard n 0 f dcNoRoute
  let s := s.frameEventIn n 0x05 1 (pinSource n) f
  let s := s.depart { f := f, m := { pin := pinSource n, tin := s.nowHalf, rule := rule } }
    { discarded := true, cause := dcNoRoute, cset := 1 }
  let s := s.homeDead n 0 f
  s.faultRated (0x200 + n)
    { unitType := utCluster, unit := n, register := 0, cause := dcNoRoute, action := 7,
      detail := s.reg (Reg.CL_FCHK_LASTSRC n), slot := s.slotByte f.job.toNat }

/-- What is left of an aim without the groups of it that do not exist (R154), and whether there are any. -/
def State.pruneAim (s : State) : Aim → List Aim × Bool
  | .mcast gs =>
    let ok := gs.filter (fun g => (s.group g).isSome)
    (if ok.isEmpty then [] else [.mcast ok], decide (ok.length < gs.length))
  | a => ([a], false)

/-- The first aim that can be settled now: admitted, or found without target; a multicast set first loses its groups that do
not exist. (DEDUCED, log entry 67) -/
def State.settleAim (s : State) (n : Nat) (f : Frame) : List Aim → List Aim → Option (List Aim × State)
  | _, [] => none
  | before, a :: after =>
    match s.pruneAim a with
    | (l, true) => some (before ++ l ++ after, s.sourceNoRoute n f)
    | (_, false) =>
      match s.admitAim n f a with
      | .done s => some (before ++ after, s)
      | .noTarget => some (before ++ after, s.sourceNoRoute n f)
      | .waits => s.settleAim n f (before ++ [a]) after

/-- Admit one copy of the frame at place `idx` of an internal source. Answers the frame when its
last copy has been settled. -/
def State.admitSource (s : State) (q idx : Nat) : Option SrcFrame × State :=
  match (s.source q)[idx]? with
  | none => (none, s)
  | some x =>
    match s.settleAim (sourceCluster q) x.f [] x.aims with
    | none => (none, s)
    | some ([], s) => (some x, s.setSource q (dropAt (s.source q) idx))
    | some (l, s) => (none, s.setSource q (putAt (s.source q) idx { x with aims := l }))

/-! ### Waits that end (R154, R166) -/

/-- No member of the target's is eligible for the frame. -/
def State.noEligible (s : State) (f : Frame) (a : Aim) : Bool :=
  match s.aimGroup f a with
  | some g => !(g.members.any s.eligible)
  | none => true

/-- The frame is a RESULT or COMMIT that the module multicasts to its own groups (R207). -/
def State.downFrame? (s : State) (f : Frame) : Bool := s.ownFrame f && (f.kind = kResult || f.kind = kCommit)

/-- Its groups: those that exist, and the number of those that do not. -/
def State.downGroups (s : State) (f : Frame) : List Nat × Nat :=
  let ms := namedGroups (cxMset (s.cx f.coll.toNat))
  let ok := ms.filter (fun g => (s.group g).isSome)
  (ok, ms.length - ok.length)

/-- A staged frame finds no eligible member: of its target, or of a group of its multicast. -/
def State.stagedNoElig (s : State) (f : Frame) : Bool :=
  if s.downFrame? f then (s.downGroups f).1.any (fun g => s.noEligible f (.group g)) else s.noEligible f .route

/-- NRWAIT has passed for a frame without an eligible member (R154): a staged or handed-back one is
discarded NO_ROUTE; a source's frame raises one fault record. A member that becomes eligible in the same event tick comes
first (R325). (DESIGN CHOICE, log entry 133) -/
def execNrwaitExpiry (w : WaitRef) (s : State) : Out :=
  if !s.awake ∨ s.alsoNow (fun i => i == .memberEligible w) then .next s
  else match w with
  | .staged r =>
    match s.stagedAt r with
    | none => .next s
    | some h =>
      match h.m.noElig with
      | some t =>
        if s.since t (usTicks (s.nrwait (clusterOf r.port))) ∧ s.stagedNoElig h.f then
          .next ((s.unstage r).discardStaged r.port h dcNoRoute)
        else .next s
      | none => .next s
  | .handedBack n idx =>
    match (s.handedAt n)[idx]? with
    | none => .next s
    | some b =>
      if s.since b.h.m.since (usTicks (s.nrwait n)) ∧ s.noEligible b.h.f b.h.m.aim then
        .next ((s.setHanded n (dropAt (s.handedAt n) idx)).discard b.port b.h dcNoRoute)
      else .next s
  | .atSource q idx =>
    let k := sourceKey q
    let n := sourceCluster k
    match (s.source k)[idx]? with
    | none => .next s
    | some x =>
      let stuck := x.aims.any (fun a => match a with
        | .mcast gs => gs.any (fun g => s.noEligible x.f (.group g))
        | a => (s.aimGroup x.f a).isSome && s.noEligible x.f a)
      if !x.faulted ∧ stuck ∧ s.since x.since (usTicks (s.nrwait n)) then
        let s := s.setSource k (putAt (s.source k) idx { x with faulted := true })
        .next (s.faultRecord
          { unitType := utCluster, unit := n, register := 0, cause := dcNoRoute, action := 7,
            detail := s.reg (Reg.CL_FCHK_LASTSRC n), slot := s.slotByte x.f.job.toNat })
      else .next s

/-- A forwarded VC0 or VC7 frame has waited LATE (R166). (DEDUCED, log entry 83) -/
def execLateExpiry (r : StageRef) (s : State) : Out :=
  match s.stagedAt r with
  | none => .next s
  | some h =>
    let n := clusterOf r.port
    if s.awake ∧ (r.vc.val = 0 ∨ r.vc.val = 7) ∧ !s.ownFrame h.f ∧ s.since h.m.since (usTicks (s.late n)) then
      .next (((s.unstage r).returnCells r.port h).bump (Reg.CL_RT_LATE n (if r.vc.val = 0 then 0 else 1)) 1)
    else .next s

end Sys2Proof.Machine
end

