-- ==== Sys2Proof/Machine/Rounds.lean ====
section
/-! DEFINITION. Rounds (R195 to R211): records, the tally, emissions and COMMITs (R203 to R206),
closing and passing over (R198), round faults (R211), and the HELD partials sent again (R208).
With them the abort of a sheaf (R327, R330). -/

namespace Sys2Proof.Machine

/-! ### Sheaves -/

/-- Sheaf states (R327). -/
def shFree : BitVec 2 := 0
def shOpen : BitVec 2 := 1
def shCommitted : BitVec 2 := 2
def shAborted : BitVec 2 := 3

def State.sheaf (s : State) (id : Nat) : Sheaf := SMap.get {} s.tbl.sheaves id
def State.setSheaf (s : State) (id : Nat) (x : Sheaf) : State :=
  s.onTbl (fun t => { t with sheaves := SMap.put {} t.sheaves id x })

/-- The epoch-switch sheaf of round record `key` = 256n + j (R326). -/
def epochSheaf (key : Nat) : Nat := 0xF000 + key

/-- Abort an OPEN sheaf: nothing staged in it takes effect (R330). (DEDUCED, log entry 34) -/
def State.abortSheaf (s : State) (id cause estat : Nat) : State :=
  let x := s.sheaf id
  if x.state = shOpen then
    let x' := { x with
      state := shAborted
      cause := BitVec.ofNat 4 cause
      estat := BitVec.ofNat 5 estat }
    ((s.setSheaf id x').bump (Reg.TBL_SH_CNT 1) 1).raise Reg.TBL_SH_EVT 1 7 srcTable
  else s

/-- Abort causes (R330). -/
def saCommand : Nat := 1
def saEntry : Nat := 2
def saExpired : Nat := 3
def saRound : Nat := 4
def saProgram : Nat := 5
def saEngine : Nat := 6
def saOwnPlane : Nat := 7
def saNoReplica : Nat := 8
def saNotLoaded : Nat := 9

/-! ### Round records -/

/-- Round states (R198). -/
def rsOpen : BitVec 4 := 1
def rsTallied : BitVec 4 := 2
def rsWaitHome : BitVec 4 := 3
def rsFaulted : BitVec 4 := 4

/-- Round fault causes (R211). -/
def rfTimeout : Nat := 1
def rfCount : Nat := 2
def rfSpillUe : Nat := 3
def rfNoSpill : Nat := 4
def rfProgram : Nat := 5
def rfNoCommit : Nat := 6
def rfAborted : Nat := 7
def rfEngine : Nat := 8

def State.round (s : State) (key : Nat) : Round := SMap.get {} s.red.rounds key
def State.setRound (s : State) (key : Nat) (r : Round) : State :=
  s.onRed (fun x => { x with rounds := SMap.put {} x.rounds key r })

/-- The record of round `x` of a collective. -/
def State.findRound (s : State) (coll : BitVec 16) (x : BitVec 16) : Option Nat :=
  (s.red.rounds.find? (fun p => p.2.state != 0 && p.2.coll == coll && p.2.round == x)).map (fun p => p.1)

/-- The collective has a round registered and not closed. -/
def State.roundActive (s : State) (coll : BitVec 16) : Bool :=
  s.red.rounds.any (fun p => p.2.state != 0 && p.2.coll == coll)

/-- The lowest free record of tally cluster `n`. -/
def State.freeRecord (s : State) (n : Nat) : Option Nat :=
  ((List.range 256).find? (fun j => (s.round (256 * n + j)).state == 0)).map (fun j => 256 * n + j)

/-- L of a collective (R195). -/
def lKey (coll : BitVec 16) : Nat := 16 * coll.toNat + tallyCluster coll.toNat
def State.lastClosed (s : State) (coll : BitVec 16) : BitVec 16 := SMap.get 0 s.red.lastClosed (lKey coll)
def State.setLastClosed (s : State) (coll x : BitVec 16) : State :=
  s.onRed (fun r => { r with lastClosed := SMap.put 0 r.lastClosed (lKey coll) x })

/-- A contributor's FENCE count is met (R202). -/
def Round.met (r : Round) (b : Nat) : Bool :=
  SMap.get 0 r.fences b == SMap.get 0 r.counts b + 1

/-- Contributors whose FENCE count is not yet met, in ascending order. -/
def State.unmet (s : State) (r : Round) : List Nat :=
  (s.roundContributors (s.cx r.coll.toNat)).filter (fun b => !r.met b)

/-- Handled chunks of the round past ACCUM: in EMIT, HELD or DONE. -/
def State.pastAccum (s : State) (r : Round) : Nat :=
  r.done.length + ((s.roundSlots r.coll.toNat r.round.toNat).filter (fun p => decide (2 ≤ p.2.state))).length

/-- The round may go to TALLIED (R202). -/
def State.tallyMet (s : State) (r : Round) : Bool :=
  (s.unmet r).isEmpty && s.pastAccum r == s.handled (s.cx r.coll.toNat)

/-- Chunks of the round homed here that are DONE. (DEDUCED, log entry 35) -/
def State.homeDone (s : State) (r : Round) : Nat :=
  (r.done.filter (fun p => s.ownHome (home (s.cx r.coll.toNat) p.1))).length

/-! ### Slots -/

/-- The window store holds no slot. -/
def Core.noWindow (x : Core) : Core :=
  { x with
    winKey := none
    winFirst := false
    winBytes := []
    present := []
    dirty := [] }

/-- A core's window that holds slot `k` is dropped without write-back (R244); one whose FTX has yet to retire is
dropped then (R242). -/
def State.dropWindow (s : State) (k : Nat) : State :=
  s.onMill (fun m => { m with cores := m.cores.map (fun p =>
    if p.2.winKey = some k ∧ p.2.dropAt = none then (p.1, p.2.noWindow) else p) })

/-- Release the slot of a chunk. -/
def State.releaseSlot (s : State) (k : Nat) : State := (s.setSlot k {}).dropWindow k

/-- The chunk's slot is released and its done bit set (R201). -/
def State.chunkDone (s : State) (key c : Nat) : State :=
  let r := s.round key
  let s := s.releaseSlot (slotKey r.coll.toNat r.round.toNat c)
  s.setRound key { r with done := SMap.put false r.done c true }

/-! ### Emissions (R203 to R206) -/

/-- EPOCHNUM of a round (R203). -/
def State.epochnum (s : State) (x : BitVec 16) : BitVec 32 := x ++ s.watch.incarn

/-- A RESULT or COMMIT of this module (R203 to R205). -/
def downFrame (kind : BitVec 6) (job coll : Nat) (chunk : Nat) (src : BitVec 12) (epochnum : BitVec 32)
    (payload : List Byte) : Frame :=
  let p := pad4 payload
  { kind := kind
    vc := 4
    flags := flEpoch ||| flSrcmod
    plen := BitVec.ofNat 13 p.length
    job := BitVec.ofNat 12 job
    src := src.setWidth 20
    coll := BitVec.ofNat 16 coll
    round := epochnum.extractLsb' 16 16
    chunk := BitVec.ofNat 24 chunk
    epochnum := epochnum
    payload := p }

/-- The module number in CL_SX_PEER of a group's lowest member. -/
def State.groupPeer (s : State) (g : Nat) : BitVec 20 :=
  match s.group g with
  | some x => match x.members with
    | p :: _ => BitVec.ofNat 20 (s.fld (peerReg p) ⟨0, 12⟩)
    | [] => 0
  | none => 0

/-- Put one emission of a RESULT or COMMIT at a source (R205): a multicast to the MSET groups, and
one frame for each remote slot in RMASK. (DEDUCED, log entry 90) -/
def State.emitDown (s : State) (q : Nat) (d : Cx) (f : Frame) (note : Note) : State :=
  let ms := namedGroups (cxMset d)
  let s := if ms.isEmpty then s else s.originate q f [.mcast ms] note
  (remoteBits d).foldl (fun s b =>
    let g := cxRgrp d (b - 512)
    s.originate q { f with
      flags := f.flags ||| flDstmod
      dst := s.groupPeer g } [.group g] note) s

/-- A frame with this note still waits at some source. -/
def State.noteAtSource (s : State) (n : Note) : Bool :=
  s.sw.sources.any (fun p => p.2.any (fun x => x.note == n))

/-- The COMMIT of one home for the round that an EPOCHNUM names (R204). (DEDUCED, log entry 90) -/
def commitFrame (d : Cx) (coll h : Nat) (epochnum : BitVec 32) : Frame :=
  downFrame kCommit (cxJob d) coll 0 (BitVec.ofNat 12 h) epochnum (beBytes 4 (homedAt d h))

/-- Begin the COMMIT emissions of a collective, one for each of the homes named. (DEDUCED, log entries 66 and 90) -/
def State.emitCommits (s : State) (coll : Nat) (homes : List Nat) (epochnum : BitVec 32) : State :=
  let d := s.cx coll
  homes.foldl (fun s h =>
    s.emitDown (qGranary (tallyCluster coll)) d (commitFrame d coll h epochnum) (.commit coll h)) s

/-- Round `L + 1` has no record: it closes with no result and no COMMIT (R198). (DEDUCED, log entry 68) -/
def State.passOver (s : State) (coll x : BitVec 16) : State :=
  if x = s.lastClosed coll + 2 ∧ s.findRound coll (x - 1) = none then
    (s.setLastClosed coll (x - 1)).ctxCount coll.toNat 4 1
  else s

/-- The home number of a binding: of a promoted one its ACTING, of a REPLICA its primary (R289, R335, R341). -/
def State.coverHome (s : State) (b : Binding) : Nat :=
  if b.replica then b.peer.toNat else (b.acting.getD s.modnum).toNat

/-- UNNOTICED clears on the bindings of a home once every copy of its COMMIT has been admitted (R333).
(DEDUCED, log entries 40 and 67) -/
def State.settleCommit (s : State) (coll home : Nat) : State :=
  if s.noteAtSource (.commit coll home) then s
  else s.onGrn (fun g => { g with bindings := g.bindings.map (fun p =>
    if p.2.valid && p.2.coll.toNat == coll && s.coverHome p.2 == home then (p.1, { p.2 with unnoticed := false }) else p) })

/-- Issue the COMMIT of a round (R204). (DEDUCED, log entry 66) -/
def State.issueCommit (s : State) (key : Nat) : State :=
  let r := s.round key
  let homes := s.ownHomes (s.cx r.coll.toNat)
  let s := s.passOver r.coll r.round
  let s := s.emitCommits r.coll.toNat homes (s.epochnum r.round)
  homes.foldl (fun s h => s.settleCommit r.coll.toNat h) (s.setRound key { r with committed := true })

/-- What the COMMIT of a round waits for beside the round before it (R204): every chunk homed here DONE under DEST 0, the
epoch switch under DEST 1 and 2. (DEDUCED, log entry 35) -/
def State.commitDue (s : State) (key : Nat) : Bool :=
  let r := s.round key
  let d := s.cx r.coll.toNat
  if cxDest d = 0 then s.homeDone r == s.homed d else (s.sheaf (epochSheaf key)).state == shCommitted

/-- The COMMIT of round x does not wait for that of round x − 1 (R204). (DEDUCED, log entries 35 and 66) -/
def State.commitAllowed (s : State) (r : Round) : Bool :=
  match s.findRound r.coll (r.round - 1) with
  | some k => (s.round k).state != rsOpen && (s.round k).state != rsTallied
  | none => true

/-! ### Closing (R198) -/

/-- A record may go to FREE: every earlier round has closed, or has no record. -/
def State.mayFree (s : State) (r : Round) : Bool :=
  r.round != s.lastClosed r.coll + 2 || (s.findRound r.coll (r.round - 1)).isNone

/-- A frame of the RESULT of a round, or of a site partial of it. -/
def Note.resultOf (key : Nat) : Note → Bool
  | .result r _ => r == key
  | _ => false

def Note.partialOf (key : Nat) : Note → Bool
  | .sitePartial r _ => r == key
  | _ => false

/-- The emissions of a round that still wait at sources are counted and no longer tied to its record.
(DEDUCED, log entries 67 and 68) -/
def State.untieEmissions (s : State) (key : Nat) : State :=
  let r := s.round key
  let notes := (s.sw.sources.flatMap (fun p => p.2.map (fun x => x.note))).dedup
  let s := s.ctxCount r.coll.toNat 3 (notes.filter (Note.resultOf key)).length
  let s := s.ctxCount r.coll.toNat 2 (notes.filter (Note.partialOf key)).length
  s.onSw (fun w => { w with sources := w.sources.map (fun p => (p.1, p.2.map (fun x =>
    if x.note.resultOf key || x.note.partialOf key then { x with note := .none } else x))) })

/-- The record goes to FREE: its slots and reservation are released, and L becomes its round.
(DEDUCED, log entry 68) -/
def State.freeRound (s : State) (key : Nat) : State :=
  let r := s.round key
  let s := s.untieEmissions key
  let s := s.passOver r.coll r.round
  let s := (s.roundSlots r.coll.toNat r.round.toNat).foldl (fun s p => s.releaseSlot p.1) s
  let s := s.setReg Reg.LFT_RESV (s.reg Reg.LFT_RESV - BitVec.ofNat 64 r.resv)
  ((s.setRound key {}).setLastClosed r.coll r.round).ctxCount r.coll.toNat 4 1

/-- Move one record as far as it goes (R198, R202, R204, R207). -/
def State.settleRecord (s : State) (key : Nat) : State :=
  let r := s.round key
  let d := s.cx r.coll.toNat
  let s := if r.state = rsOpen ∧ s.tallyMet r then
    s.setRound key { r with
      state := rsTallied
      talliedAt := s.tick } else s
  let r := s.round key
  let s := if r.state = rsTallied ∧ !r.committed ∧ s.homed d ≠ 0 ∧ s.commitDue key ∧ s.commitAllowed r then
    s.issueCommit key else s
  let r := s.round key
  let s := if r.state = rsTallied ∧ (r.committed ∨ s.homed d = 0) then
    s.setRound key { r with state := rsWaitHome } else s
  let r := s.round key
  if r.state = rsWaitHome ∧ (s.otherHomes d).all (fun h => r.commits.contains h) ∧ s.mayFree r then
    s.freeRound key else s

/-- Move the records of a collective, the earlier round first. -/
def State.settleColl (s : State) (coll : BitVec 16) : State :=
  (List.range 3).foldl (fun s i =>
    match s.findRound coll (s.lastClosed coll + BitVec.ofNat 16 (if i = 1 then 2 else 1)) with
    | some k => s.settleRecord k
    | none => s) s

/-! ### Round faults (R211) -/

/-- A core without some of its descriptors: in RUN with no invocation and none left it goes to IDLE (R225). -/
def Core.without (x : Core) (p : Desc → Bool) (tick : Nat) : Core :=
  let x := { x with dq := x.dq.filter (fun d => !p d) }
  if x.st = 2 ∧ x.desc = none ∧ x.dq = [] then
    { x with
      st := 1
      idleAt := tick }
  else x

/-- Drop descriptors of a round that wait at any core. -/
def State.dropDescriptors (s : State) (p : Desc → Bool) : State :=
  s.mill.cores.foldl (fun s kc =>
    let gone := kc.2.dq.filter p
    let s := if gone.isEmpty then s
      else s.onMill (fun m => { m with cores := SMap.put {} m.cores kc.1 (kc.2.without p s.tick) })
    gone.foldl (fun s d => s.rdDrop (d.chunk.toNat % 16) d.h rdFaulted) s) s

/-- The frames of a round's emissions that no queue has admitted leave their sources. -/
def State.dropEmissions (s : State) (key : Nat) : State :=
  let keep := fun (f : SrcFrame) => !(f.note.resultOf key || f.note.partialOf key)
  s.onSw (fun x => { x with sources := (x.sources.map (fun p => (p.1, p.2.filter keep))).filter (fun p => !p.2.isEmpty) })

/-- The state copies and NOTICEs of a round are no longer sent (R339). -/
def State.dropCopiesOf (s : State) (key : Nat) : State :=
  let r := s.round key
  let same := fun (c : Copy) => c.frames.any (fun f => f.coll == r.coll && f.round == r.round)
  let keep := fun (c : Copy) => match c.kind with
    | .step _ _ _ _ k => k != key || !same c
    | .notice k _ => k != key || !same c
    | _ => true
  s.onMa (fun x => { x with copies := x.copies.filter (fun p => p.2.all keep) })

/-- A fault of a round, with its cause and the contributor bit to report. (DEDUCED, log entry 69) -/
def State.roundFault (s : State) (key cause contrib : Nat) : State :=
  let r := s.round key
  if r.state = rsOpen ∨ r.state = rsTallied ∨ r.state = rsWaitHome then
    let s := ((s.dropEmissions key).dropCopiesOf key).abortSheaf (epochSheaf key) saRound 0
    let s := (s.roundSlots r.coll.toNat r.round.toNat).foldl (fun s p => s.releaseSlot p.1) s
    let s := s.dropDescriptors (fun d => d.coll == r.coll && d.round == r.round)
    let n := key / 256
    let log := pack [(Fld.CL_RD_FLOG_CAUSE, cause), (Fld.CL_RD_FLOG_CONTRIB, contrib),
      (Fld.CL_RD_FLOG_COLL, r.coll.toNat), (Fld.CL_RD_FLOG_ROUND, r.round.toNat)]
    let cls := if cause = rfTimeout ∨ cause = rfNoCommit then 8 else 11
    let s := ((s.setReg (Reg.CL_RD_FLOG n) log).ctxCount r.coll.toNat 5 1).raise (Reg.CL_RD_EVT n) 0 cls (srcReduction n)
    let s := s.faultRecord
      { cls := cls, unitType := utRound, unit := key, cause := cause, action := 7, detail := log,
        slot := s.slotByte (cxJob (s.cx r.coll.toNat)) }
    let s := s.setRound key { r with
      state := rsFaulted
      fcause := BitVec.ofNat 4 cause
      faultAt := s.tick }
    s.settleColl r.coll
  else s

/-- A fault whose report names the lowest unmet contributor. -/
def State.roundFaultUnmet (s : State) (key cause : Nat) : State :=
  s.roundFault key cause ((s.unmet (s.round key)).headD 0x3FF)

/-- Fault every round that has a record matching the test. -/
def State.faultRounds (s : State) (cause : Nat) (p : Nat → Round → Bool) : State :=
  (s.red.rounds.filter (fun kr => p kr.1 kr.2)).foldl (fun s kr => s.roundFaultUnmet kr.1 cause) s

/-! ### Rows -/

/-- The round timer has run out (R210): a round not TALLIED faults with cause TIMEOUT. (DEDUCED, log entry 6) -/
def execRoundTimeout (n : Fin 16) (j : Byte) (s : State) : Out :=
  let key := 256 * n.val + j.toNat
  let r := s.round key
  if s.awake ∧ r.state = rsOpen ∧ s.since r.regAt (cxTimeout (s.cx r.coll.toNat)) then
    .next (s.roundFaultUnmet key rfTimeout)
  else .next s

/-- A COMMIT of another home is still missing 4 × TIMEOUT after TALLIED (R209). -/
def execNocommitTimeout (n : Fin 16) (j : Byte) (s : State) : Out :=
  let key := 256 * n.val + j.toNat
  let r := s.round key
  let d := s.cx r.coll.toNat
  if s.awake ∧ (r.state = rsTallied ∨ r.state = rsWaitHome) ∧ !(s.otherHomes d).all (fun h => r.commits.contains h)
      ∧ s.since r.talliedAt (4 * cxTimeout d) then
    .next (s.roundFaultUnmet key rfNoCommit)
  else .next s

/-- TIMEOUT has passed since a round faulted (R198): its record goes to FREE. -/
def execFaultedRoundRelease (n : Fin 16) (j : Byte) (s : State) : Out :=
  let key := 256 * n.val + j.toNat
  let r := s.round key
  if s.awake ∧ r.state = rsFaulted ∧ s.since r.faultAt (cxTimeout (s.cx r.coll.toNat)) ∧ s.mayFree r then
    .next ((s.freeRound key).settleColl r.coll)
  else .next s

/-! ### Frames from another home (R207) -/

/-- A RESULT or COMMIT received over a span as it is multicast to the module's own groups (R207). -/
def downCopy (h : Held) : Held :=
  let m := { h.m with
    mcast := true
    asRx := some (h.m.asRx.getD h.f) }
  { f := { h.f with
      flags := (h.f.flags &&& ~~~flDstmod) ||| flSpanned
      dst := 0 }
    m := m }

/-- Its copies are admitted to every group at once, or the frame waits: for room, or for an eligible member (R154, R163). A
copy for a group that does not exist is discarded NO_ROUTE. (DEDUCED, log entry 90) -/
def State.downCopies (s : State) (r : StageRef) (h : Held) : Bool × State :=
  let gs := s.downGroups h.f
  if s.stagedNoElig h.f then
    let (h, s) := s.noteNoElig (clusterOf r.port) h
    (false, s.restage r h)
  else
    match s.admitAll (clusterOf r.port) (downCopy h) gs.1 with
    | none =>
      let m := { h.m with noElig := none }
      (false, s.restage r { h with m := m })
    | some s => (true, (List.range gs.2).foldl (fun s _ => s.discard r.port (downCopy h) dcNoRoute) s)

/-- Take a RESULT or COMMIT of staging as its consumer, then do `after`. Its journey record is that of its first copy
(R373). (DEDUCED, log entry 90) -/
def State.takeDown (s : State) (r : StageRef) (kind : BitVec 6) (after : Frame → State → State) : State :=
  match s.stagedAt r with
  | none => s
  | some h =>
    if h.f.kind = kind ∧ s.ownFrame h.f then
      match s.downCheck r.port h.f with
      | some c => (s.unstage r).rdDrop (clusterOf r.port) h c
      | none =>
        match s.downCopies r h with
        | (false, s) => s
        | (true, s) =>
          let m := { h.m with tagged := h.m.tagged && (s.downGroups h.f).1.isEmpty }
          after h.f (s.consume r { h with m := m })
    else s

/-- A RESULT received over a span is multicast to the module's own groups (R207). -/
def execResultReceive (r : StageRef) (s : State) : Out :=
  if s.awake then .next (s.takeDown r kResult (fun _ s => s)) else .next s

/-- The COMMIT of home `f.src` reaches the round's record: HELD chunks homed there are DONE. -/
def State.commitFrom (s : State) (f : Frame) : State :=
  match s.findRound f.coll f.round with
  | none => s
  | some key =>
    let r := s.round key
    if r.state = rsFaulted then s
    else
      let d := s.cx f.coll.toNat
      let h := f.src.toNat
      let s := s.setRound key { r with commits := if r.commits.contains h then r.commits else r.commits ++ [h] }
      let held := (s.roundSlots f.coll.toNat f.round.toNat).filter (fun p => p.2.state == 3 && home d (slotChunk p.1) == h)
      (held.foldl (fun s p => s.chunkDone key (slotChunk p.1)) s).settleColl f.coll

/-- A COMMIT received over a span (R207). -/
def execCommitReceive (r : StageRef) (s : State) : Out :=
  if s.awake then .next (s.takeDown r kCommit (fun f s => s.commitFrom f)) else .next s

/-! ### FAR_RESET (R208) and RESYNC (R67) -/

/-- A span port sets FARRESET: HELD partials of the homes it leads to are sent again, and RESEND is
set in the tally cluster of each collective that has one. -/
def State.resendHeld (s : State) (port : Nat) : State :=
  let again := s.red.slots.filter (fun p =>
    p.2.state == 3 && (match s.modTarget (home (s.cx (slotColl p.1)) (slotChunk p.1)) with
      | some g => g.members.contains port
      | none => false))
  let s := again.foldl (fun s p => match p.2.partialF with
    | some f => s.originate p.2.owner f [.route] .none
    | none => s) s
  (again.map (fun p => slotColl p.1)).dedup.foldl (fun s c =>
    s.raise (Reg.CL_RD_EVT (tallyCluster c)) 3 11 (srcReduction (tallyCluster c))) s

/-- FAR_RESET of the far end: copies are discarded, hop numbering restarts, FARRESET is set (R67).
(DEDUCED, log entry 71) -/
def State.farReset (s : State) (port : Nat) : State :=
  if (s.link port).farReset then s
  else
    let l := s.link port
    let s := s.setLink port { l with farReset := true }
    let s := (s.dropCopies port 1).restartHop port
    let s := s.raisePort port 4 11
    if isSpan port then s.resendHeld port else s

/-- A RESYNC block (R67): copies up to SEQ are released and the rest resent, or FAR_RESET discards
them all. RESYNC on all 8 VCs brings the port UP (R64). (DEDUCED, log entry 71) -/
def execResync (port : Fin 544) (b : Lcb) (s : State) : Out :=
  .next (s.lcb port lcbResyncType true b (fun s =>
    if s.portState port = pResync ∨ s.portState port = pUp then
      let v := b.vc.toNat
      let s := if b.flags.getLsbD 0 then s.farReset port
        else
          let l := s.vc port v
          (s.setVc port v ((l.release b.seq).resendAll)).emptied port v
      let l := s.vc port v
      let s := s.setVc port v { l with resynced := true }
      if s.portState port = pResync ∧ (List.range 8).all (fun v => (s.vc port v).resynced) then s.enterUp port else s
    else s))

end Sys2Proof.Machine
end

