-- ==== Sys2Proof/Machine/Tables.lean ====
section
/-! DEFINITION. The table engine: what a written entry must keep (R171 to R176, R184), what it
must agree with (R114, R131, R149, R175, R180), staging into a sheaf (R181, R182), application of
a change (R170, R179) with what a revoked job takes with it (R438), the operations of TBL_CMD
(R177, R178, R503) and of the command lists (R185, R186). -/

namespace Sys2Proof.Machine

/-! ### Statuses (R184) -/

def tsOk : Nat := 0x00
def tsRange : Nat := 0x01
def tsField : Nat := 0x02
def tsNosheaf : Nat := 0x03
def tsSheafonly : Nat := 0x04
def tsStaged : Nat := 0x05
def tsStagefull : Nat := 0x06
def tsCasfail : Nat := 0x07
def tsPort : Nat := 0x08
def tsGroup : Nat := 0x09
def tsNogroup : Nat := 0x0A
def tsInuse : Nat := 0x0B
def tsActive : Nat := 0x0C
def tsNojob : Nat := 0x0D
def tsSlotused : Nat := 0x0E
def tsQuarantine : Nat := 0x0F
def tsLimit : Nat := 0x10
def tsAborted : Nat := 0x11

/-- The first refusal among two. -/
def orElseStatus (a b : Nat) : Nat := if a = tsOk then b else a

/-! ### Form: RANGE and FIELD -/

/-- Width of an entry of table `t` in bits (R168). -/
def tblWidth : Nat → Nat
  | 0 => 64
  | 1 => 64
  | 2 => 512
  | 3 => 128
  | 4 => 128
  | _ => 64

/-- The bits of an entry that its table holds. -/
def tblNarrow (t : Nat) (d : BitVec 512) : BitVec 512 := (d >>> (512 - tblWidth t)) <<< (512 - tblWidth t)

/-- The index names no entry, for any operation (R168, R174, R176). (DEDUCED, log entry 106) -/
def indexBad (t i : Nat) : Bool :=
  decide (tblSize t ≤ i) || (t == 3 && decide (15872 ≤ i)) || (t == 5 && (limitReg i).isNone)

/-- A Destination entry keeps its reserved bits zero and R171. -/
def destForm (i : Nat) (d : BitVec 512) : Bool :=
  tblBits d 0 61 58 == 0 && tblBits d 0 47 32 == 0 && tblBits d 0 29 26 == 0 && tblBits d 0 15 0 == 0
    && !(tblBits d 0 63 62 == 2 && decide (543 < tblBits d 0 57 48))
    && !(tblBits d 0 31 30 == 2 && decide (543 < tblBits d 0 25 16))
    && (decide (i < 4096) || (tblBits d 0 31 30 == 0 && tblBits d 0 25 16 == 0))

/-- A Job entry keeps its reserved bits zero and names no reserved STATE. -/
def jobForm (d : BitVec 512) : Bool := tblBits d 0 61 6 == 0 && tblBits d 0 63 62 != 3

/-- The STATE and SLOT changes that R172 allows. -/
def jobChange (old new : BitVec 512) : Bool :=
  let a := tblBits old 0 63 62
  let b := tblBits new 0 63 62
  (a == b || [(0, 1), (1, 2), (2, 0)].contains (a, b))
    && (a == 0 || b == 0 || tblBits old 0 5 0 == tblBits new 0 5 0)

/-- A Spray Group entry keeps its reserved bits zero. -/
def groupForm (d : BitVec 512) : Bool :=
  tblBits d 0 60 3 == 0 && (tblBits d 0 62 62 == 0 || tblBits d 1 63 32 == 0)

/-- A Region Ownership entry keeps its reserved bits zero and R174. (DEDUCED, log entry 106) -/
def ownerForm (d : BitVec 512) : Bool :=
  tblBits d 0 60 44 == 0 && tblBits d 0 31 20 == 0 && tblBits d 1 63 29 == 0 && tblBits d 1 15 14 == 0
    && tblBits d 0 62 61 != 3
    && !(tblBits d 0 63 61 == 5 && (tblBits d 1 13 0 == 0 || decide (8192 < tblBits d 1 13 0)
        || decide (8192 < tblBits d 1 28 16 + tblBits d 1 13 0)))

/-- The formats of a context keep R261. -/
def contextFormats (d : Cx) : Bool :=
  let e := cxEfmt d
  let o := cxOfmt d
  let a := cxAfmt d
  decide (e < 0xD ∧ o < 0xD) && (a == fFp32 || a == fFp32c || a == fInt32) && e != fFp32c && o != fFp32c
    && !(a == fInt32 && ((e != fInt32 && e != fInt8s) || o != fInt32))
    && !(a == fFp32c && cxOp d != opSum && cxOp d != opSumScale)
    && !(cxOp d == opTopk && (e != fFp32 || a != fFp32 || o != fFp32))

/-- A VALID Collective Context keeps its reserved bits zero, R175, R189 and R261. -/
def contextForm (d : Cx) : Bool :=
  bitsOf (entryNat d 0 1) 1 0 == 0 && bitsOf (entryNat d 1 2) 3 0 == 0 && bitsOf (entryNat d 4 1) 3 0 == 0
    && bitsOf (entryNat d 14 2) 15 10 == 0 && bitsOf (entryNat d 24 2) 3 0 == 0
    && bitsOf (entryNat d 26 2) 3 0 == 0 && bitsOf (entryNat d 28 2) 3 0 == 0
    && bitsOf (entryNat d 30 1) 7 5 == 0 && bitsOf (entryNat d 62 2) 1 0 == 0
    && decide (cxOp d < 5 ∧ cxDest d < 3) && contextFormats d
    && cxChunks d != 0 && decide (1 ≤ cxElems d ∧ cxElems d ≤ 8192) && decide (cxProg d ≤ 32767)
    && cxHmcount d != 0
    && (if cxOp d = opTopk then decide (1 ≤ cxK d ∧ cxK d ≤ 512) else cxK d == 0)

/-- The entry written keeps its own form (FIELD). -/
def formGood (t i : Nat) (d : BitVec 512) : Bool :=
  if t = 0 then destForm i d
  else if t = 1 then jobForm d
  else if t = 2 then !cxValid d || contextForm d
  else if t = 3 then ownerForm d
  else if t = 4 then groupForm d
  else tblBits d 0 63 (if i % 1024 = 0 then 4 else 16) == 0

/-- RANGE and FIELD of a written entry, as far as they concern it alone (R181). (DEDUCED, log entry 106) -/
def formStatus (t i : Nat) (d : BitVec 512) : Nat :=
  if indexBad t i || (t == 1 && i == 0) then tsRange
  else if formGood t i d then tsOk
  else tsField

/-! ### Agreement with the rest of the state, PORT to LIMIT -/

/-- The site ports that an entry names (R114). -/
def entryPorts (t : Nat) (d : BitVec 512) : List Nat :=
  if t = 0 then
    (if tblBits d 0 63 62 = 2 then [tblBits d 0 57 48] else []) ++ (if tblBits d 0 31 30 = 2 then [tblBits d 0 25 16] else [])
  else if t = 4 ∧ tblBits d 0 63 63 = 1 then groupMembers d
  else []

/-- A port that no entry may name: FURLED, LOOP or FAULT, or named by a pending CONNECT or LOOP.
(DEDUCED, log entry 106) -/
def State.portRefused (s : State) (p : Nat) : Bool :=
  !isSpan p && (s.pathState p != 0
    || s.eng.bypass.any (fun e => entryOp e != opRelease && bypNames p e))

/-- The groups that an entry names: a Destination entry in group form, or a valid context. -/
def entryGroups (t : Nat) (d : BitVec 512) : List Nat :=
  if t = 0 then
    (if tblBits d 0 63 62 = 3 then [tblBits d 0 57 48] else []) ++ (if tblBits d 0 31 30 = 3 then [tblBits d 0 25 16] else [])
  else if t = 2 ∧ cxValid d then namedGroups (cxCset d) ++ namedGroups (cxMset d) ++ namedGroups (cxRgrp d)
  else []

/-- The Destination and Collective Context entries that name group `g`, as table and index. -/
def State.groupNamers (s : State) (g : Nat) : List (Nat × Nat) :=
  s.tbl.entries.filterMap (fun p =>
    let t := p.1 / 65536
    if (t == 0 || t == 2) && (entryGroups t p.2.data).contains g then some (t, p.1 % 65536) else none)

/-- Group `g` is a valid site group of BLOCK `b`. -/
def State.siteGroup (s : State) (g b : Nat) : Bool :=
  let d := (s.entry 4 g).data
  tblBits d 0 63 62 == 2 && tblBits d 0 2 0 == b

/-- Group `g` is a valid span group. -/
def State.spanGroup (s : State) (g : Nat) : Bool := tblBits (s.entry 4 g).data 0 63 62 == 3

/-- The groups that a valid context names are as R175 asks. -/
def State.contextGroups (s : State) (d : Cx) : Bool :=
  (List.range 8).all (fun b =>
    (cxCset d b == 0x3FF || s.siteGroup (cxCset d b) b) && (cxMset d b == 0x3FF || s.siteGroup (cxMset d b) b)
      && (if cxRgrp d b = 0x3FF then !bitOf (cxRmask d) b else s.spanGroup (cxRgrp d b)))

/-- A Job entry that is BOUND or REVOKED holds its SLOT; another entry holds slot `k`. (DEDUCED, log entry 105) -/
def State.slotHeld (s : State) (i k : Nat) : Bool :=
  s.tbl.entries.any (fun p => p.1 / 65536 == 1 && p.1 % 65536 != i
    && tblBits p.2.data 0 63 62 != 0 && tblBits p.2.data 0 5 0 == k)

/-- STATE of a job slot (R437): 0 FREE, 1 BOUND, 2 QUARANTINED, 3 SCRUBBED. (DEDUCED, log entry 105) -/
def State.slotState (s : State) (k : Nat) : Nat := s.fld (Reg.SEC_SLOT k) Fld.SEC_SLOT_STATE

/-- A slot lies in the accumulator region of cluster `n`. -/
def State.accHolds (s : State) (n : Nat) : Bool :=
  s.red.slots.any (fun p => !p.2.spill && p.2.state != 0 && p.2.owner / 96 == n)

/-- A Buffer Limit entry keeps R131, against the limits that state `s'` holds. (DEDUCED, log entry 106) -/
def State.limitOk (s s' : State) (i : Nat) (d : BitVec 512) : Bool :=
  let n := i / 1024
  let k := i % 1024
  let v := tblBits d 0 63 0
  let sum := decide (s'.stagingSum n + 17952 ≤ s'.poolCells n)
  if k = 0 then
    decide (v ≤ 12) && (v == s.fld (Reg.CL_BUF_CTL n) ⟨0, 4⟩ || !s.accHolds n) && sum
  else decide (66 ≤ v ∧ v ≤ 65535) && (decide (k < 0x300) || sum)

/-- The refusal of a group entry: GROUP, INUSE or ACTIVE. -/
def State.groupStatus (s s' : State) (i : Nat) (d : BitVec 512) : Nat :=
  let old := (s.entry 4 i).data
  let valid := tblBits d 0 63 63 == 1
  let names := s'.groupNamers i
  if valid && (tblBits d 1 63 0 == 0 || (tblBits d 0 62 62 == 1 && tblBits d 0 2 0 != 0)) then tsGroup
  else if tblBits old 0 63 63 == 1 && !names.isEmpty
      && (!valid || tblBits d 0 62 62 != tblBits old 0 62 62 || tblBits d 0 2 0 != tblBits old 0 2 0) then tsInuse
  else if tblBits d 1 63 0 != tblBits old 1 63 0
      && names.any (fun x => x.1 == 2 && s.roundActive (BitVec.ofNat 16 x.2)) then tsActive
  else tsOk

/-- The refusal of a context: NOGROUP, ACTIVE or NOJOB. -/
def State.contextStatus (s s' : State) (i : Nat) (d : Cx) : Nat :=
  if cxValid d && !s'.contextGroups d then tsNogroup
  else if s.roundActive (BitVec.ofNat 16 i) then tsActive
  else if cxValid d && s'.jobState (cxJob d) != 1 then tsNojob
  else tsOk

/-- The refusal of a Job entry: FIELD, SLOTUSED or QUARANTINE. -/
def State.jobStatus (s s' : State) (i : Nat) (d : BitVec 512) : Nat :=
  let old := (s.entry 1 i).data
  if !jobChange old d then tsField
  else if tblBits d 0 63 62 = 1 ∧ s'.slotHeld i (tblBits d 0 5 0) then tsSlotused
  else if tblBits old 0 63 62 = 2 ∧ tblBits d 0 63 62 = 0 ∧ s.slotState (tblBits old 0 5 0) ≠ 3 then tsQuarantine
  else tsOk

/-- The first of PORT to LIMIT that refuses an entry, where `s'` holds every change judged with
it (R183, R184). (DEDUCED, log entry 106) -/
def State.stateStatus (s s' : State) (t i : Nat) (d : BitVec 512) : Nat :=
  if (entryPorts t d).any s.portRefused then tsPort
  else if t = 0 then (if (entryGroups 0 d).all (fun g => (s'.group g).isSome) then tsOk else tsNogroup)
  else if t = 1 then s.jobStatus s' i d
  else if t = 2 then s.contextStatus s' i d
  else if t = 3 then (if tblBits d 0 63 63 = 1 ∧ s'.jobState (tblBits d 0 43 32) ≠ 1 then tsNojob else tsOk)
  else if t = 4 then s.groupStatus s' i d
  else if s.limitOk s' i d then tsOk
  else tsLimit

/-! ### Application (R170, R179) -/

/-- Bits of an entry, its generation one more. -/
def State.storeEntry (s : State) (t i : Nat) (d : BitVec 512) : State :=
  s.setEntry t i { gen := (s.entry t i).gen + 1, data := d }

/-- Add to FENCEDROP of a slot. (DEDUCED, log entry 105) -/
def State.fenceDrop (s : State) (slot n : Nat) : State :=
  s.setFld (Reg.SEC_SLOT slot) Fld.SEC_SLOT_FENCEDROP (min (s.fld (Reg.SEC_SLOT slot) Fld.SEC_SLOT_FENCEDROP + n) 0xFFFFFFFF)

/-- Every staged or held frame that the test names is discarded with cause JOB (R438, R439).
(DEDUCED, log entry 105) -/
def State.discardJob (s : State) (slot : Nat) (p : Nat → Held → Bool) : State :=
  s.sw.staging.foldl (fun s kv =>
    let port := kv.1 / 8
    let gone := kv.2.filter (p port)
    let s := s.setStaged port (kv.1 % 8) (kv.2.filter (fun h => !p port h))
    gone.foldl (fun s h => (s.discardStaged port h dcJob).fenceDrop slot 1) s) s

/-- An entry staged in a sheaf names the job (R438). -/
def stagedNames (job : Nat) (x : Staged) : Bool :=
  (x.t == 1 && x.idx == job) || (x.t == 2 && cxValid x.data && cxJob x.data == job)
    || (x.t == 3 && tblBits x.data 0 63 63 == 1 && tblBits x.data 0 43 32 == job)

/-- The job's number is revoked: its slot is quarantined, its work goes (R438), and its TENANT sessions close
(R413). (DEDUCED, log entry 105) -/
def State.revokeJob (s : State) (job : Nat) : State :=
  let slot := s.jobSlot job
  let s := (s.setFld (Reg.SEC_SLOT slot) Fld.SEC_SLOT_STATE 2).setFld (Reg.SEC_SLOT slot) Fld.SEC_SLOT_FENCING 1
  let s := s.onSec (fun x => { x with tr := SMap.put 0 x.tr slot (s.tick + 1) })
  let s := s.faultRounds rfAborted (fun _ r => r.state != 0 && cxJob (s.cx r.coll.toNat) == job)
  let s := (s.tbl.sheaves.filter (fun p => decide (p.1 < 0xF000) && p.2.state == shOpen && p.2.staged.any (stagedNames job))).foldl
    (fun s p => s.abortSheaf p.1 saCommand 0) s
  let s := s.discardJob slot (fun port h => h.f.job.toNat == job
    && (h.f.kind = kContrib || isRequest h.f) && (!isSpan port || s.ownFrame h.f))
  let s := s.onMa (fun a => { a with
    trackers := a.trackers.filter (fun x => x.job.toNat != job)
    reads := a.reads.filter (fun x => x.job.toNat != job)
    atoms := a.atoms.filter (fun x => x.job.toNat != job) })
  let waits := (s.sw.sources.map (fun p => (p.2.filter (fun f => f.f.job.toNat == job)).length)).sum
  let s := s.onSw (fun x => { x with sources :=
    (x.sources.map (fun p => (p.1, p.2.filter (fun f => f.f.job.toNat != job)))).filter (fun p => !p.2.isEmpty) })
  let s := s.fenceDrop slot waits
  allSessions.foldl (fun (s : State) ki =>
    let x := s.session ki.1 ki.2
    if x.opened && x.tenant && x.job.toNat == job then s.closeSession ki.1 ki.2 else s) s

/-- What a change of entry `(t, i)` from `old` brings with it. -/
def State.afterEntry (s : State) (t i : Nat) (old : BitVec 512) : State :=
  let d := (s.entry t i).data
  if t = 1 then
    let a := tblBits old 0 63 62
    let b := tblBits d 0 63 62
    let k := tblBits d 0 5 0
    if a = 0 ∧ b = 1 then
      s.setReg (Reg.SEC_SLOT k) (pack [(Fld.SEC_SLOT_CONF, s.fld (Reg.SEC_SLOT k) Fld.SEC_SLOT_CONF),
        (Fld.SEC_SLOT_STATE, 1), (Fld.SEC_SLOT_JOB, i)])
    else if a = 1 ∧ b = 2 then s.revokeJob i
    else if a = 2 ∧ b = 0 then
      let k := tblBits old 0 5 0
      (s.setFld (Reg.SEC_SLOT k) Fld.SEC_SLOT_STATE 0).setFld (Reg.SEC_SLOT k) Fld.SEC_SLOT_CONF 0
    else s
  else if t = 2 ∧ !cxValid old ∧ cxValid d then
    let c := BitVec.ofNat 16 i
    let s := (s.setLastClosed c 0xFFFF).wakeCluster (tallyCluster i)
    let k := 8 * (65536 * tallyCluster i + i)
    s.onRed (fun r => { r with arCnt := r.arCnt.filter (fun p => !(decide (k ≤ p.1 ∧ p.1 < k + 8))) })
  else if t = 5 ∧ 0x300 ≤ i % 1024 then
    let port := 32 * (i / 1024) + (i % 1024 - 0x300) / 8
    let v := i % 8
    if s.portState port = pResync ∨ s.portState port = pUp then s.grant port v else s
  else s

/-- A Job entry that was REVOKED: its change releases a slot, which another entry of the same change may bind. -/
def freesSlot (c : Nat × Nat × BitVec 512) : Bool := c.1 == 1 && tblBits c.2.2 0 63 62 == 2

/-- Apply changes in one cycle: every entry is stored before what they bring with them, and slots are released
before they are bound (R183, R437). -/
def State.applyEntries (s : State) (l : List (Nat × Nat × BitVec 512)) : State :=
  let olds := l.map (fun c => (c.1, c.2.1, (s.entry c.1 c.2.1).data))
  let s := l.foldl (fun s c => s.storeEntry c.1 c.2.1 c.2.2) s
  (olds.filter freesSlot ++ olds.filter (fun c => !freesSlot c)).foldl (fun s c => s.afterEntry c.1 c.2.1 c.2.2) s

/-! ### Operations (R177 to R182) -/

/-- The open sheaf that holds entry `(t, i)` staged. -/
def State.stagedIn (s : State) (t i : Nat) : Option Nat :=
  (s.tbl.sheaves.find? (fun p => p.2.state == shOpen && p.2.staged.any (fun x => x.t == t && x.idx == i))).map (fun p => p.1)

/-- Staged entries over all open sheaves (TBL_STAGED). -/
def State.stagedTotal (s : State) : Nat := ((s.tbl.sheaves.filter (fun p => p.2.state == shOpen)).map (fun p => p.2.staged.length)).sum

/-- Replace an entry in place, or add it at the end (R182). -/
def stageInto (x : Staged) : List Staged → List Staged
  | [] => [x]
  | y :: l => if y.t = x.t ∧ y.idx = x.idx then x :: l else y :: stageInto x l

/-- Stage an entry that has passed RANGE and FIELD in a sheaf. -/
def State.stageEntry (s : State) (id : Nat) (x : Staged) : Nat × State :=
  let h := s.sheaf id
  if h.state ≠ shOpen then (tsNosheaf, s)
  else match s.stagedIn x.t x.idx with
    | some k =>
      if k = id then (tsOk, s.setSheaf id { h with staged := stageInto x h.staged }) else (tsStaged, s)
    | none =>
      if 8192 ≤ s.stagedTotal then (tsStagefull, s)
      else (tsOk, s.setSheaf id { h with staged := h.staged ++ [x] })

/-- What an operation answers: its status, a generation and an entry for the source, and the index
it named. -/
structure TblAnswer where
  status : Nat
  gen : Option (BitVec 16) := none
  back : Option (BitVec 512) := none
  deriving DecidableEq, Repr

/-- Operations of TBL_CMD.OP. -/
def toRead : Nat := 0
def toWrite : Nat := 1
def toCas : Nat := 2
def toSwap : Nat := 3

/-- The status that refuses a change of an entry in place, after RANGE and FIELD. -/
def State.directStatus (s : State) (t i op : Nat) (gen : BitVec 16) (d : BitVec 512) : Nat :=
  if t = 3 then tsSheafonly
  else if (s.stagedIn t i).isSome then tsStaged
  else if op = toCas ∧ (s.entry t i).gen ≠ gen then tsCasfail
  else s.stateStatus (s.setEntry t i { gen := 0, data := d }) t i d

/-- Run one operation (R177, R181, R184). (DESIGN CHOICE, log entry 29) -/
def State.tblOp (s : State) (t i op : Nat) (stage : Bool) (id : Nat) (gen : BitVec 16) (d : BitVec 512) : TblAnswer × State :=
  let e := s.entry t i
  if op = toRead then
    if indexBad t i then ({ status := tsRange }, s)
    else if stage then ({ status := tsField }, s)
    else ({ status := tsOk, gen := some e.gen, back := some e.data }, s)
  else
    let d := tblNarrow t d
    let f := formStatus t i d
    let f := if f = tsOk ∧ t = 1 ∧ !stage ∧ !jobChange e.data d then tsField else f
    if f ≠ tsOk then ({ status := f }, s)
    else if stage then
      if op = toSwap then ({ status := tsField }, s)
      else
        let r := s.stageEntry id { t := t, idx := i, data := d, cas := if op = toCas then some gen else none }
        ({ status := r.1 }, r.2)
    else
      let c := s.directStatus t i op gen d
      if c = tsCasfail then ({ status := c, gen := some e.gen, back := some e.data }, s)
      else if c ≠ tsOk then ({ status := c }, s)
      else
        ({ status := tsOk, gen := some (e.gen + 1), back := if op = toSwap then some e.data else none },
          s.applyEntries [(t, i, d)])

/-- Count an operation's status. -/
def State.tblCount (s : State) (status : Nat) : State :=
  if status ≤ tsAborted then s.bump (Reg.TBL_CNT status) 1 else s

/-- A source's own TBL_DATA as entry bits (R503). -/
def State.tblData (s : State) (src : Source) (t : Nat) : BitVec 512 :=
  tblOfWords (fun i => s.reg (banked src (Reg.TBL_DATA t i)))

/-- BUSY of a source's own operation register: an operation lasts until its event tick ends.
(DESIGN CHOICE, log entry 29) -/
def State.opBusy (s : State) (key : Nat) : Bool := SMap.get 0 s.tbl.busy key == s.tick + 1

/-- An operation starts. -/
def State.startOp (s : State) (key : Nat) : State := s.onTbl (fun x => { x with busy := SMap.put 0 x.busy key (s.tick + 1) })

/-- BUSY of a source's TBL_CMD of table `t`. -/
def State.tblBusy (s : State) (src : Source) (t : Nat) : Bool := s.opBusy (banked src (Reg.TBL_CMD t))

/-- A write to TBL_CMD or TBL_DATA of a busy operation: TBL_EVT.COLLIDE and nothing else (R177). -/
def State.tblCollide (s : State) : State := s.setBits Reg.TBL_EVT 8

/-- A write of TBL_DATA word `j` of table `t`. -/
def State.tblDataWrite (s : State) (src : Source) (t j : Nat) (val : Word) : State :=
  if s.tblBusy src t then s.tblCollide else s.setReg (banked src (Reg.TBL_DATA t j)) val

/-- The bits of TBL_CMD that a write gives, but for OP: STAGE, SHEAF, GEN and INDEX. -/
def tblCmdKept : Word := 0x0380FFFFFFFFFFFF

/-- A write of TBL_CMD that is not BUSY: the operation runs, and its outcome shows in the source's own registers.
(DESIGN CHOICE, log entry 29) -/
def State.tblRunOp (s : State) (src : Source) (t : Nat) (op : Nat) (w : Word) : State :=
  let s := s.startOp (banked src (Reg.TBL_CMD t))
  let w := w &&& tblCmdKept
  let i := Fld.TBL_CMD_INDEX.get w
  let (a, s) := s.tblOp t i op (Fld.TBL_CMD_STAGE.get w == 1) (Fld.TBL_CMD_SHEAF.get w)
    (BitVec.ofNat 16 (Fld.TBL_CMD_GEN.get w)) (s.tblData src t)
  let s := match a.back with
    | some d => (List.range (tblWidth t / 64)).foldl (fun (s : State) j => s.setReg (banked src (Reg.TBL_DATA t j)) (tblWord d j)) s
    | none => s
  let w := Fld.TBL_CMD_OP.put op (Fld.TBL_CMD_STATUS.put a.status (Fld.TBL_CMD_BUSY.put 0 w))
  let w := match a.gen with
    | some g => Fld.TBL_CMD_GEN.put g.toNat w
    | none => w
  (s.setReg (banked src (Reg.TBL_CMD t)) w).tblCount a.status

/-- A write of TBL_CMD (R177). -/
def State.tblCommand (s : State) (src : Source) (t : Nat) (op : Nat) (w : Word) : State :=
  if s.tblBusy src t then s.tblCollide else s.tblRunOp src t op w

/-- A write of TBL_CMD with OP READ. -/
def execTblRead (src : Source) (t : Fin 6) (cmd : Word) (s : State) : Out :=
  if s.mayWrite src then .next (s.tblCommand src t toRead cmd) else .next s

/-- A write of TBL_CMD with OP WRITE. -/
def execTblWrite (src : Source) (t : Fin 6) (cmd : Word) (s : State) : Out :=
  if s.mayWrite src then .next (s.tblCommand src t toWrite cmd) else .next s

/-- A write of TBL_CMD with OP CAS. -/
def execTblCas (src : Source) (t : Fin 6) (cmd : Word) (s : State) : Out :=
  if s.mayWrite src then .next (s.tblCommand src t toCas cmd) else .next s

/-- A write of TBL_CMD with OP SWAP. -/
def execTblSwap (src : Source) (t : Fin 6) (cmd : Word) (s : State) : Out :=
  if s.mayWrite src then .next (s.tblCommand src t toSwap cmd) else .next s

/-! ### Bulk data (R421) -/

/-- The bytes under a bulk handle, when it is complete. -/
def State.bulkData (s : State) (handle : Nat) : Option (List Byte) :=
  let b := SMap.get {} s.uz.bulk handle
  if b.held && b.type == 0 && b.got.length == b.total then some ((List.range b.total).map (fun i => SMap.get 0 b.bytes i)) else none

/-! ### Command lists (R185, R186) -/

/-- Fields of a table engine entry. -/
def teTable (e : Entry) : Nat := entryNat e 1 1
def teIndex (e : Entry) : Nat := entryNat e 8 4
def teCount (e : Entry) : Nat := entryNat e 12 4
def teTag (e : Entry) : Nat := entryNat e 24 2

/-- Write an entry's completion record and count its status. -/
def State.tblDone (s : State) (e : Entry) (status index gen : Nat) : State :=
  (s.tblCount status).ringWrite .tbl
    (pack [(Fld.TBL_CRING_TAG, teTag e), (Fld.TBL_CRING_TABLE, teTable e), (Fld.TBL_CRING_STATUS, status),
      (Fld.TBL_CRING_INDEX, index), (Fld.TBL_CRING_GEN, gen)]) (status != tsOk)

/-- Every field of the entry lies in its range. -/
def teGood (e : Entry) : Bool :=
  decide (1 ≤ entryOp e ∧ entryOp e ≤ 3) && decide (teTable e < 6) && decide (entryNat e 2 1 < 2)
    && entryNat e 3 1 == 0 && entryNat e 26 38 == 0
    && (if entryOp e = 3 then decide (1 ≤ teCount e ∧ teCount e ≤ 256) else teCount e == 1)

/-- Run one change of an entry in progress: the first refusal and the last change end the entry with its record
(R185). (DESIGN CHOICE, log entry 29) -/
def State.tblStep (s : State) (m : TblImage) : State :=
  let e := m.e
  let w := tblWidth (teTable e) / 8
  let d : BitVec 512 := BitVec.ofNat 512 (natAt m.data (w * m.k) w * 2 ^ (8 * (64 - w)))
  let op := if entryOp e = 2 then toCas else toWrite
  let (a, s) := s.tblOp (teTable e) (teIndex e + m.k) op (entryNat e 2 1 == 1) (entryNat e 4 2) (BitVec.ofNat 16 (entryNat e 6 2)) d
  let gen := match a.gen with
    | some g => g.toNat
    | none => 0
  let s := s.onTbl (fun x => { x with image := none })
  if a.status ≠ tsOk then s.tblDone e a.status (teIndex e + m.k) 0
  else if teCount e ≤ m.k + 1 then s.tblDone e tsOk (teIndex e + m.k) gen
  else s.onTbl (fun x => { x with image := some { m with k := m.k + 1, gen := gen } })

/-- The entry in progress makes its next change. -/
def State.imageStep (s : State) : State :=
  match s.tbl.image with
  | none => s
  | some m => s.tblStep m

/-- Run an entry. The table engine has no BULK status, so what refuses an entry without complete
data is a free value. (DEDUCED, log entry 106) -/
def State.tblEntry (s : State) (e : Entry) : State :=
  let i := teIndex e
  if !teGood e then s.tblDone e tsField i 0
  else match s.bulkData (entryNat e 16 8) with
    | none =>
      let (w, s) := s.free
      s.tblDone e (w.toNat % 32) i 0
    | some data => s.tblStep { e := e, data := data }

/-- Take the next entry if its OP is one of `ops`; the first row also takes unlisted ones.
(DESIGN CHOICE, log entry 28) -/
def State.tblTake (s : State) (mine : Nat → Bool) : State :=
  match s.nextEntry engTable with
  | none => s
  | some (q, e) => if s.awake && s.tbl.image.isNone && mine (entryOp e) then (s.popQueue engTable q).tblEntry e else s

/-- A WRITE entry is taken. -/
def execTblEntryWrite (s : State) : Out := .next (s.tblTake (fun op => op != 2 && op != 3))

/-- A CAS entry is taken. -/
def execTblEntryCas (s : State) : Out := .next (s.tblTake (fun op => op == 2))

/-- An IMAGE entry is taken. -/
def execTblImage (s : State) : Out := .next (s.tblTake (fun op => op == 3))

/-- TBL_QCTL.DRAIN. -/
def execTblDrain (s : State) : Out := if s.awake then .next (s.drainEngine engTable) else .next s

/-- Refuse an entry ABORTED. -/
def State.tblAbort (s : State) (e : Entry) : State := s.tblDone e tsAborted (teIndex e) 0

/-- The entry in progress ends ABORTED before its next change (R186). -/
def State.abortImage (s : State) : State :=
  match s.tbl.image with
  | none => s
  | some m => (s.onTbl (fun x => { x with image := none })).tblDone m.e tsAborted (teIndex m.e + m.k) 0

/-- Refuse every waiting entry, ABORTED, and end the entry in progress (R186, R464). -/
def State.forceTable (s : State) (cause : Nat) : State :=
  let s := s.abortImage
  let l := s.waitingEntries engTable
  let s := l.foldl (fun s e => s.tblAbort e) (s.clearQueues engTable)
  (s.setHold engTable 2).forcedDisable engTable cause

/-- TBL_QCTL.FORCE. -/
def execTblForce (s : State) : Out := if s.awake then .next (s.forceTable 0) else .next s

/-- TBL_QCTL.RESUME. -/
def execTblResume (s : State) : Out := if s.awake then .next (s.setHold engTable 0) else .next s

end Sys2Proof.Machine
end

