-- ==== Sys2Proof/Machine/Resets.lean ====
section
/-! DEFINITION. Reset domains (R457 to R463), escalation (R460, R461, R465), the pre-reset dump's
start (R472), the changes of module state they bring (R385, R386), and a hang of the table engine
(R455, R457). -/

namespace Sys2Proof.Machine

/-! ### Records of tests (R477, R478) -/

/-- UNITTYPE and UNIT of a unit under test. (DEDUCED, log entry 117) -/
def testUnit : TestUnit → Nat × Nat
  | .core k => (utCore, k.val)
  | .site p => (utSite, p.val)
  | .span x => (utSpan, x.val)
  | .channel j => (utGranary, j.val)
  | .stack k => (utLoft, k.val)
  | .uzoley k => (utUzoley, k.val)
  | .full => (utModule, 0)

/-- WCH_TSTRES.STATUS. -/
def teFail : Nat := 1
def teCancelled : Nat := 6

/-- Write a result record: TAG, TEST and DEPTH come from the request. -/
def State.testRecord (s : State) (req : Word) (status unitType unit errors : Nat) : State :=
  s.ringWrite .tst (pack [(Fld.WCH_TSTRES_TAG, Fld.WCH_TSTREQ_TAG.get req), (Fld.WCH_TSTRES_TEST, Fld.WCH_TSTREQ_TEST.get req),
    (Fld.WCH_TSTRES_STATUS, status), (Fld.WCH_TSTRES_UNITTYPE, unitType), (Fld.WCH_TSTRES_DEPTH, Fld.WCH_TSTREQ_DEPTH.get req),
    (Fld.WCH_TSTRES_UNIT, unit), (Fld.WCH_TSTRES_ERRORS, min 65535 errors)]) (status == teFail)

/-- A reset of their domain ends the tests that `p` names, CANCELLED. -/
def State.cancelTests (s : State) (p : TestUnit → Bool) : State :=
  let gone := s.test.runs.filter (fun r => p r.u)
  let s := s.onTest (fun t => { t with runs := t.runs.filter (fun r => !p r.u) })
  gone.foldl (fun (s : State) r => s.testRecord r.req teCancelled (testUnit r.u).1 (testUnit r.u).2 0) s

/-- The unit lies in cluster `n`, or the test covers it. -/
def testInCluster (n : Nat) : TestUnit → Bool
  | .core k => k.val / 96 == n
  | .site p => p.val / 32 == n
  | .span x => x.val / 2 == n
  | .channel _ => false
  | .stack _ => false
  | .uzoley _ => false
  | .full => true

/-- The unit lies in the datapath; the Uzoley ports do not (R435). -/
def testInDatapath : TestUnit → Bool
  | .uzoley _ => false
  | _ => true

/-! ### Module state -/

/-- WCH_STATE.CAUSE. -/
def mcCommand : Nat := 0
def mcWake : Nat := 1
def mcDrained : Nat := 2
def mcDrainwait : Nat := 3
def mcTrip : Nat := 4
def mcSupply : Nat := 5
def mcEscalation : Nat := 6
def mcPowerOn : Nat := 7

/-- The module changes state (R385). -/
def State.enterMode (s : State) (st cause : Nat) : State :=
  let w := Fld.WCH_STATE_PREV.put s.mode (s.reg Reg.WCH_STATE)
  s.setReg Reg.WCH_STATE (Fld.WCH_STATE_STATE.put st (Fld.WCH_STATE_CAUSE.put cause w))

/-- Every port goes to DARK under the discard rule of R68. -/
def State.darkAll (s : State) : State :=
  (List.range 544).foldl (fun s p => if s.portState p = pDark then s else s.goDark p) s

/-- The MRDIMMs enter or leave self-refresh. -/
def State.selfRefresh (s : State) (on : Bool) : State :=
  s.onGrn (fun g => { g with engines := (List.range 16).foldl (fun m j =>
    let e := SMap.get {} m j
    SMap.put {} m j { e with selfRefresh := on }) g.engines })

/-- The module enters LAID_UP (R386, R468): the flag sets and TESTED clears. -/
def State.enterLaid (s : State) (cause : Nat) (fault : Bool) : State :=
  let s := (s.enterMode stLaidUp cause).setFld Reg.WCH_STATE Fld.WCH_STATE_LAIDFLAG 1
  let s := s.setFld Reg.WCH_ESC Fld.WCH_ESC_TESTED 0
  (s.onWatch (fun w => { w with
    moduleFault := fault
    laid := false })).darkAll

/-- A module fault (R461): LAID_UP, with a record of ACTION 6 and REPLACE. (DEDUCED, log entry 117) -/
def State.moduleFault (s : State) (r : FaultInfo) : State :=
  let s := s.faultRecord { r with action := 6, flags := 1 }
  if s.mode = stLaidUp then s.onWatch (fun w => { w with moduleFault := true })
  else if s.mode = stWatch then s
  else s.enterLaid mcEscalation true

/-! ### What a reset takes from the parts of the module -/

/-- Keep the entries whose key meets the test. -/
def keepKeys {α : Type} (p : Nat → Bool) (m : SMap α) : SMap α := m.filter (fun x => p x.1)

/-- A port whose logic is reset: its frames and copies are lost, and it is DARK (R459). -/
def State.cutPort (s : State) (port : Nat) : State :=
  let l := s.link port
  let s := (s.setPortState port pDark).setLanes port 0 0
  let s := s.setReg (peerReg port) (Fld.CL_SP_PEER_VALID.put 0 (s.reg (peerReg port)))
  let s := if isSpan port then s
    else (s.setReg (Reg.CL_SP_LANE port) 0).setFld (Reg.CL_SP_STAT port) Fld.CL_SP_STAT_DEGRADED 0
  let s := s.onPort (fun x => { x with vcs := keepKeys (fun k => k / 8 != port) x.vcs })
  let s := s.onSw (fun x => { x with
    staging := keepKeys (fun k => k / 8 != port) x.staging
    queues := keepKeys (fun k => k / 8 != port) x.queues
    eg := keepKeys (fun k => k != port) x.eg })
  s.setLink port { ({} : Link) with
    era := l.era + 1
    losses := l.losses
    badLcbs := l.badLcbs }

/-- Requests taken, trackers, groups, buffered reads and copies of the channels named go without
reply (R324); written blocks and the journal stay. -/
def State.dropAccess (s : State) (p : Nat → Bool) : State :=
  s.onMa (fun a => { a with
    trackers := a.trackers.filter (fun x => !p x.j)
    reads := a.reads.filter (fun x => !p x.j)
    atoms := a.atoms.filter (fun x => !p x.j)
    copies := a.copies.filter (fun x => x.2.all (fun c => match c.kind with
      | .step j _ _ _ _ => !p j
      | .resilver j _ _ => !p j
      | .blocks j => !p j
      | .notice _ _ => true)) })

/-- Work of the Granary engines named is lost; records and memory stay (R285, R307). -/
def State.dropEngineWork (s : State) (p : Nat → Bool) : State :=
  s.onGrn (fun g => { g with engines := g.engines.map (fun x =>
    if p x.1 then (x.1, { x.2 with
      chunks := []
      ftxWait := [] })
    else x) })

/-- The pending table of the bypass engine empties without records; a fault record says how many
entries were lost. A path that moves already is the matrix's, which keeps it and ends its move (R121).
(DEDUCED, log entries 61 and 79) -/
def State.losePending (s : State) (action : Nat) : State :=
  let n := s.eng.bypass.length
  let s := s.onEng (fun x => { x with bypass := [] })
  if n = 0 then s
  else s.faultRecord { unitType := utSvetna, register := 1, action := action, detail := BitVec.ofNat 64 n }

/-! ### Counted resets and module-level resets (R462 to R465) -/

/-- WCH_LASTRST.CAUSE. -/
def rcOperator : Nat := 0
def rcWatchdog : Nat := 1
def rcTrip : Nat := 2
def rcSupply : Nat := 3
def rcFirmware : Nat := 4
def rcEscalation : Nat := 5
def rcActivate : Nat := 6

/-- The window of counted resets, in ticks. -/
def State.escWindow (s : State) : Nat := secTicks (3600 * min 168 (max 1 (s.fld Reg.WCH_ESC Fld.WCH_ESC_WINDOW)))

/-- COUNT shows the counted resets of the window. -/
def State.showCount (s : State) : State := s.setFld Reg.WCH_ESC Fld.WCH_ESC_COUNT (min 3 s.watch.counted.length)

/-- A reset is counted when its cause is 1 to 5 (R465): does it bring COUNT to 3. (DEDUCED, log entry 60) -/
def State.countReset (s : State) (cause : Nat) : Bool × State :=
  if rcWatchdog ≤ cause ∧ cause ≤ rcEscalation then
    let l := s.window s.watch.counted s.escWindow
    (decide (3 ≤ l.length), (s.onWatch (fun w => { w with counted := l })).showCount)
  else (false, s)

/-- Every OPEN sheaf is discarded and its ID returns to FREE (R331). -/
def State.discardSheaves (s : State) : State :=
  let n := (s.tbl.sheaves.filter (fun p => p.2.state == shOpen)).length
  (s.onTbl (fun t => { t with sheaves := t.sheaves.filter (fun p => p.2.state != shOpen) })).bump (Reg.TBL_SH_CNT 5) n

/-- Mailboxes whose receiver is not the security core are reset (R406). -/
def State.resetMailboxes (s : State) : State :=
  (List.range 64).foldl (fun s m =>
    if s.fld (Reg.MBX_CFG m) ⟨61, 3⟩ = 4 then s
    else
      let s := (s.setReg (Reg.MBX_STAT m) 0).setReg (Reg.MBX_CFG m) (regReset (Reg.MBX_CFG m))
      let s := (List.range 8).foldl (fun s w => s.setReg (Reg.MBX_MSG m w) 0) s
      s.onUz (fun u => { u with owed := SMap.put false u.owed m false })) s

/-- Registers in a range of offsets return to their reset values, but those that `keep` names. -/
def State.resetRegs (s : State) (lo hi : Nat) (keep : Nat → Bool) : State :=
  { s with regs := keepKeys (fun k => !(decide (lo ≤ offsetOf k ∧ offsetOf k < hi)) || keep (offsetOf k)) s.regs }

/-- The time registers that a datapath warm reset keeps: those of R362, the delays of ports that leave UP (R355), and
the frequency of HOLDOVER (R360) with the servo's state. (DEDUCED, log entry 61) -/
def timeKept (off : Nat) : Bool :=
  [Reg.TIM_CTL, Reg.TIM_STAT, Reg.TIM_SERVO, Reg.TIM_INT, Reg.TIM_FREQ].contains off || decide (Reg.TIM_FAN 0 ≤ off)

/-- Fabric time passes to the Watch domain and the servo to HOLDOVER; LOCKED was left (R360, R362). -/
def State.timeCarried (s : State) : State :=
  let s := s.resetRegs Reg.TIM_CTL Reg.TEL_CTL timeKept
  (s.onClock Clock.carried).setServo tsHoldover

/-- The ENGINE values of R420. -/
def allEngines : List Nat := List.range 0x24

/-- What a datapath warm reset discards (R121, R233, R285, R324, R331, R362, R406, R417, R458).
(DEDUCED, log entry 61) -/
def State.discardDatapath (s : State) : State :=
  let s := (s.cancelTests testInDatapath).discardSheaves.losePending 3
  let s := s.faultRounds rfAborted (fun _ r => r.state != 0)
  let s := (allEngines.foldl (fun s e => s.forcedDisable e 4) s).onSec (fun x => { x with
    slotDone := []
    scrub := none })
  let s := s.onTbl (fun x => { x with image := none })
  let s := s.onEng (fun x => { x with
    queued := []
    hold := [] })
  let s := ((List.range 544).foldl (fun s p => s.cutPort p) s).onPort (fun p => { p with loftFailed := 0 })
  let s := s.onSw (fun _ => {})
  let s := s.onRed (fun r => { r with
    rounds := []
    slots := [] })
  let s := (s.setReg Reg.LFT_RESV 0).onMill (fun _ => {})
  let s := (s.dropEngineWork (fun _ => true)).selfRefresh true
  let s := s.onMa (fun a => { a with
    copies := []
    incoming := []
    trackers := []
    reads := []
    atoms := [] })
  let s := (s.resetRegs (Reg.TEL_CNT 0 0) (Reg.TEL_BWTX 0 0) (fun k => !decide (0x400 ≤ k % 0x10000 ∧ k % 0x10000 < 0x600))).resetRegs
    (Reg.TEL_OVF 0) (Reg.TEL_OVF 17) (fun _ => false)
  let s := s.onTele (fun t => { t with tenant := [] })
  let s := s.timeCarried.onWatch (fun w => { w with reissueDue := true })
  let s := (s.resetRegs Reg.BIC_CTL (Reg.MBX_STAGE 0) (fun _ => false)).onBic (fun _ => {})
  let s := s.resetMailboxes
  let s := s.onTest (fun t => { t with
    dump := { t.dump with
      running := none
      sending := none
      predump := none } })
  let s := (List.range 16).foldl (fun s n => s.setCluster n 2) s
  allSessions.foldl (fun s ki => s.closeSession ki.1 ki.2) s

/-- What a cold reset leaves: the Watch domain and the flash (R285, R362, R458). (DEDUCED, log entry 61) -/
def State.discardAll (s : State) : State :=
  let s := s.cancelTests (fun _ => true)
  { State.reset with
    pending := s.pending
    freeCtr := s.freeCtr
    tick := s.tick
    out := s.out
    readData := s.readData
    accessStatus := s.accessStatus
    regs := keepKeys (fun k => decide (k < Reg.BIC_CTL) && k != Reg.WCH_CAGEPWR) s.regs
    watch := { s.watch with
      run := none
      after := none
      clusterDown := [] }
    sec := { s.sec with
      bkeySet := false
      bkey := 0
      tr := []
      slotDone := []
      quoteQ := [] } }

/-- A module-level reset starts (R458, R462): in-flight work is discarded, INCARN rises, sessions
close, and the boot steps run again. A cold reset passes through WATCH until Bosun is released.
(DEDUCED, log entry 61) -/
def State.startRun (s : State) (r : ResetRun) : State :=
  let s := (if r.domain = 3 then s.discardAll else s.discardDatapath).cut cutModule
  let s := s.onWatch (fun w => { w with
    incarn := w.incarn + 1
    wakeTick := s.tick
    rejected := false
    after := none
    run := some { r with startAt := s.tick } })
  let slot := s.fld Reg.WCH_BOOT Fld.WCH_BOOT_SLOT
  let s := s.setReg Reg.WCH_BOOT (pack [(Fld.WCH_BOOT_STEP, 1), (Fld.WCH_BOOT_SLOT, slot)])
  let cause := if r.trip then mcTrip else if r.cause = rcEscalation then mcEscalation else mcCommand
  if r.domain = 3 then (if s.mode = stWatch then s else s.enterMode stWatch cause)
  else if s.mode = stLaidUp then s
  else s.enterMode stStandby cause

/-- Refuse the entry that the dump engine runs, ABORTED (R471, R472). -/
def State.dumpAbort (s : State) : State :=
  let d := s.test.dump
  let one := fun (s : State) (e : Entry) (id n : Nat) =>
    (s.bump (Reg.LFT_DMP_CNT 5) 1).ringWrite .dmp
      (pack [(Fld.LFT_DMP_CRING_TAG, entryNat e 6 2), (Fld.LFT_DMP_CRING_OP, entryOp e), (Fld.LFT_DMP_CRING_STATUS, 5),
        (Fld.LFT_DMP_CRING_DUMPID, id), (Fld.LFT_DMP_CRING_UNRESP, n)]) true
  let s := match d.running with
    | some (e, _) => one s e d.id d.unresp
    | none => s
  let s := match d.sending with
    | some (e, _) => one s e (entryNat e 8 2) 0
    | none => s
  s.onTest (fun t => { t with dump := { t.dump with
    running := none
    sending := none } })

/-- The entry of a pre-reset dump: DUMP of DUMPSCOPE over every cluster, TAG 0xFFFF. (DEDUCED, log entry 61) -/
def State.predumpEntry (s : State) : Entry :=
  entryOfBytes ([1, BitVec.ofNat 8 (s.fld Reg.WCH_ESC Fld.WCH_ESC_DUMPSCOPE), 0, 0, 0xFF, 0xFF, 0xFF, 0xFF])

/-- The Watch domain starts a DUMP ahead of every queue (R472). -/
def State.startPredump (s : State) : State :=
  s.dumpAbort.onTest (fun t => { t with dump := { t.dump with
    running := some (s.predumpEntry, s.tick)
    id := (t.dump.id + 1) % 65536
    staged := false
    recs := []
    unresp := 0
    hung := []
    predump := some s.tick } })

/-- A cold reset takes the place of a warm one that runs: with the fault's cause when both fall in one event tick (R476),
else with its own; a count that has reached 3 stays. (DEDUCED, log entry 60) -/
def State.colder (s : State) (r : ResetRun) (domain cause : Nat) : State :=
  if r.startAt = s.tick then s.startRun { r with domain := domain }
  else
    let (laid, s) := s.countReset cause
    s.startRun { domain := domain, cause := cause, startAt := s.tick, laid := r.laid || laid }

/-- A module-level reset is decided (R465, R472, R476): a cold reset takes the place of a warm one
that is due or runs; any other request meets the reset that runs. (DEDUCED, log entry 60) -/
def State.decideReset (s : State) (domain cause : Nat) : State :=
  match s.watch.run, s.watch.after with
  | some r, _ => if r.domain < domain then s.colder r domain cause else s
  | none, some r =>
    if r.domain < domain then s.onWatch (fun w => { w with after := some { r with domain := domain } }) else s
  | none, none =>
    let (laid, s) := s.countReset cause
    let r : ResetRun := { domain := domain, cause := cause, startAt := s.tick, trip := cause == rcTrip, laid := laid }
    let dump := (cause == rcWatchdog || cause == rcFirmware || cause == rcEscalation) && s.flag Reg.WCH_ESC Fld.WCH_ESC_PREDUMP
    if dump then (s.onWatch (fun w => { w with after := some r })).startPredump else s.startRun r

/-- WCH_LASTRST of a reset that has come to its end: NEXT is 0 SERVICE, 1 STANDBY, 2 LAID_UP.
(DEDUCED, log entries 57 and 60) -/
def State.lastReset (s : State) (r : ResetRun) (next : Nat) : State :=
  s.setReg Reg.WCH_LASTRST (pack [(Fld.WCH_LASTRST_DOMAIN, r.domain), (Fld.WCH_LASTRST_CAUSE, r.cause),
    (Fld.WCH_LASTRST_NEXT, next), (Fld.WCH_LASTRST_INCARN, s.watch.incarn.toNat),
    (Fld.WCH_LASTRST_DURATION, (s.tick - r.startAt) / 25000)])

/-! ### Cluster reset (R233, R458 to R460) -/

/-- Rounds with a record or a slot in cluster `n`. -/
def State.roundIn (s : State) (n key : Nat) (r : Round) : Bool :=
  r.state != 0 && (key / 256 == n || (s.roundSlots r.coll.toNat r.round.toNat).any (fun p => slotChunk p.1 % 16 == n))

/-- Free the FAULTED records of cluster `n`, the earlier round of a collective first. -/
def State.freeRecords (s : State) (n : Nat) : State :=
  (List.range 2).foldl (fun s _ =>
    ((s.red.rounds.filter (fun p => p.1 / 256 == n)).map (fun p => p.1)).foldl (fun s key =>
      let r := s.round key
      if r.state = rsFaulted ∧ s.mayFree r then s.freeRound key else s) s) s

/-- A reset of cluster `n`; the third within 1 h takes a datapath warm reset. (DEDUCED, log entry 61) -/
def State.clusterReset (s : State) (n : Nat) : State :=
  let s := ((s.cancelTests (testInCluster n)).faultRounds rfAborted (s.roundIn n)).freeRecords n
  let s := (s.forcedDisable (engDsp n) 4).losePending 2
  let s := (s.clearQueues (engDsp n)).setHold (engDsp n) 0
  let s := (clusterPorts n).foldl (fun s p => s.cutPort p) s
  let s := (s.setHanded n []).onSw (fun x => { x with
    sources := keepKeys (fun q => q = qBosun || sourceCluster q != n) x.sources })
  let s := s.onMill (fun m => { m with
    cores := keepKeys (fun k => k / 96 != n) m.cores
    pstore := keepKeys (fun k => k / 32768 != n) m.pstore
    pdir := keepKeys (fun k => k / 256 != n) m.pdir
    binds := keepKeys (fun k => k / 1024 != n) m.binds
    flights := m.flights.filter (fun f => f.n != n) })
  let s := (s.dropEngineWork (fun j => j == n)).dropAccess (fun j => j == n)
  let s := (s.setCluster n 2).cut (cutCluster n)
  let l := s.window (SMap.get [] s.watch.clusterResets n) (secTicks 3600)
  let s := s.onWatch (fun w => { w with
    clusterResets := SMap.put [] w.clusterResets n l
    unitResets := SMap.put [] w.unitResets n [] })
  if 3 ≤ l.length then s.decideReset 2 rcEscalation else s

/-- A unit reset in cluster `n`; the eighth within 1 s resets the cluster (R460). (DEDUCED, log entry 93) -/
def State.unitReset (s : State) (n : Nat) : State :=
  let l := s.window (SMap.get [] s.watch.unitResets n) (secTicks 1)
  let s := s.onWatch (fun w => { w with unitResets := SMap.put [] w.unitResets n l })
  if 8 ≤ l.length then s.clusterReset n else s

/-! ### The table engine (R457, R460) -/

/-- A table operation or entry without progress for 100 µs (R455, R457): it ends ABORTED, applying
nothing. The second such reset within 1 s takes a datapath warm reset. -/
def State.tableReset (s : State) : State :=
  let s := (s.logEvent 8 srcTable false).faultRecord
    { cls := 8, unitType := utTables, cause := tsAborted, action := 1, detail := s.reg (Reg.TBL_CRING ((s.fld Reg.TBL_CRHEAD ⟨0, 8⟩ + 255) % 256)) }
  let l := s.window s.watch.tableResets (secTicks 1)
  let s := s.onWatch (fun w => { w with tableResets := l })
  if 2 ≤ l.length then s.decideReset 2 rcEscalation else s

/-- The table engine hangs in an operation of a source, or in the entry it has taken. -/
def execTableEngineHang (h : HungOp) (s : State) : Out :=
  match h with
  | .cmd src t w =>
    if s.mayWrite src then
      let w := Fld.TBL_CMD_OP.put (Fld.TBL_CMD_OP.get w) (Fld.TBL_CMD_STATUS.put tsAborted (Fld.TBL_CMD_BUSY.put 0 (w &&& tblCmdKept)))
      .next (((s.setReg (banked src (Reg.TBL_CMD t)) w).tblCount tsAborted).tableReset)
    else .next s
  | .entry =>
    if !s.awake then .next s
    else if s.tbl.image.isSome then .next (s.abortImage.tableReset)
    else match s.nextEntry engTable with
      | none => .next s
      | some (q, e) => .next (((s.popQueue engTable q).tblAbort e).tableReset)

end Sys2Proof.Machine
end

