-- ==== Sys2Proof/Machine/SpanPort.lean ====
section
/-! DEFINITION. The span ports: bring-up of the pluggable through CMIS (R85 to R88), loss of
the link and HOLD (R90, R91), and completion of Loft retry copies (R92). -/

namespace Sys2Proof.Machine

/-- The port number of span port `x` (R146). -/
def spanPort (x : Nat) : Nat := 512 + x

def State.cmis (s : State) (x : Nat) : Cmis := SMap.get {} s.port.cmis x
def State.setCmis (s : State) (x : Nat) (c : Cmis) : State :=
  s.onPort (fun p => { p with cmis := SMap.put {} p.cmis x c })

def State.cmisFld (s : State) (x : Nat) (f : Fld) (v : Nat) : State := s.setFld (Reg.CL_SX_CMIS_STAT x) f v

/-- A pluggable is present. -/
def State.present (s : State) (x : Nat) : Bool := (s.reg (Reg.CL_SX_CMIS_STAT x)).getLsbD 63

/-- REFUSE code of a pluggable that R85 refuses: POWER, REVISION, NO_APP. (DEDUCED, log entry 76) -/
def refusal (i : PlugInfo) : Nat :=
  if 140 < i.maxPwr.toNat then 1
  else if i.revMajor < 5 then 3
  else if i.apps.contains (8, true) then 0 else 2

/-- Steps 1 to 3 of the bring-up (R85): the application APSEL is staged and low power released; a pluggable refused stays in
low power, with a fault record. (DEDUCED, log entry 76) -/
def State.bringUp (s : State) (x : Nat) (i : PlugInfo) : State :=
  let port := spanPort x
  let s := s.cmisFld x Fld.CL_SX_CMIS_STAT_MAXPWR i.maxPwr.toNat
  let r := refusal i
  let s := s.cmisFld x Fld.CL_SX_CMIS_STAT_REFUSE r
  if r = 0 then
    let s := s.setCmis x { s.cmis x with
      step := 3
      waitAt := s.tick
      timeouts := 0 }
    let s := s.emit (.cmisStage x (s.fld (Reg.CL_SX_CTL x) Fld.CL_SX_CTL_APSEL))
    (s.setPortState port 1).emit (.cmis x cmisRelease)
  else
    let s := s.setCmis x { s.cmis x with step := 0 }
    let s := if s.holding port then s else s.setPortState port pDark
    let s := (s.emit (.cmis x cmisLowPower)).raisePort port 2 11
    s.portFault port 1 r 11 7 0 (Reg.CL_SX_CMIS_STAT x)

/-- Begin the bring-up if the port is enabled, a pluggable is present and the port is DARK or
recovers from HOLD (R85, R89). -/
def State.tryBringUp (s : State) (x : Nat) : State :=
  let port := spanPort x
  match (s.cmis x).info with
  | some i =>
    if s.present x ∧ (s.reg (Reg.CL_SX_CTL x)).getLsbD 0 ∧ (s.cmis x).caged = false ∧ s.loopHeld port = false
        ∧ (s.portState port = pDark ∨ s.portState port = pHold) ∧ s.clusterState (x / 2) = 0 ∧ s.mode ≠ stLaidUp then
      s.bringUp x i
    else s
  | none => s

/-- A bring-up that a timeout ends (R86): low power, REFUSE = TIMEOUT, DARK. -/
def State.cmisTimeout (s : State) (x : Nat) : State :=
  let port := spanPort x
  let s := s.setCmis x { s.cmis x with
    step := 0
    timeouts := 0 }
  let s := s.cmisFld x Fld.CL_SX_CMIS_STAT_REFUSE 4
  ((s.raisePort port 2 11).linkLost port).goDark port

/-- A transaction of the agent times out (R86); the third in a row ends as R86 says. -/
def State.cmisTransaction (s : State) (x : Nat) : State :=
  let c := s.cmis x
  if 3 ≤ c.timeouts + 1 then s.cmisTimeout x else s.setCmis x { c with timeouts := c.timeouts + 1 }

/-- Presence is asserted (R85). (DEDUCED, log entry 77) -/
def execCagePresence (x : Fin 32) (info : PlugInfo) (s : State) : Out :=
  if s.awake then
    let s := s.cmisFld x Fld.CL_SX_CMIS_STAT_PRESENT 1
    .next ((s.setCmis x { s.cmis x with info := some info }).tryBringUp x)
  else .next s

/-- The pluggable reaches ModuleReady (R85): its data path is activated. -/
def execModuleReady (x : Fin 32) (s : State) : Out :=
  if s.awake ∧ (s.cmis x).step = 3 then
    let s := s.cmisFld x Fld.CL_SX_CMIS_STAT_MODSTATE 3
    let s := s.setCmis x { s.cmis x with
      step := 4
      waitAt := s.tick
      timeouts := 0 }
    .next (s.emit (.cmis x cmisActivate))
  else .next s

/-- The data path reaches DPActivated (R85): the port enters ALIGN, unless a test holds it. -/
def execDpActivated (x : Fin 32) (dpState : BitVec 4) (s : State) : Out :=
  if s.awake ∧ (s.cmis x).step = 4 then
    let s := s.cmisFld x Fld.CL_SX_CMIS_STAT_DPSTATE dpState.toNat
    let s := s.setCmis x { s.cmis x with
      step := 0
      timeouts := 0 }
    .next (if s.loopHeld (spanPort x) then s else s.setPortState (spanPort x) pAlign)
  else .next s

/-- The bound of the wait in progress: what the pluggable advertises, at most 60 s for ModuleReady and 30 s for
DPActivated (R86). -/
def Cmis.bound (c : Cmis) : Nat :=
  match c.info with
  | some i => if c.step = 3 then msTicks (min i.readyMs 60000) else msTicks (min i.activateMs 30000)
  | none => 0

/-- A wait of the bring-up passes its bound (R86). -/
def execCmisWaitTimeout (x : Fin 32) (s : State) : Out :=
  let c := s.cmis x
  if s.awake ∧ c.step ≠ 0 ∧ s.since c.waitAt c.bound then .next (s.cmisTimeout x) else .next s

/-- A management transaction times out after 10 ms (R86). (DESIGN CHOICE, log entry 127) -/
def execCmisTransactionTimeout (x : Fin 32) (s : State) : Out :=
  if s.awake ∧ s.present x then .next (s.cmisTransaction x) else .next s

/-- The agent reads the pluggable's flags and states (R87). A flag of line-side loss, or leaving
ModuleReady, loses the link (R90). (DEDUCED, log entry 76) -/
def State.readFlags (s : State) (x : Nat) (fl : PlugFlags) (event : Bool) : State :=
  let s := s.cmisFld x Fld.CL_SX_CMIS_STAT_MODSTATE fl.modState.toNat
  let s := s.cmisFld x Fld.CL_SX_CMIS_STAT_DPSTATE fl.dpState.toNat
  let s := s.setCmis x { s.cmis x with timeouts := 0 }
  let s := if event || fl.lineLos || fl.lineLol then s.raisePort (spanPort x) 2 11 else s
  if s.portState (spanPort x) = pUp ∧ (fl.lineLos ∨ fl.lineLol ∨ fl.modState ≠ 3) then
    let s := s.linkLost (spanPort x)
    if fl.modState ≠ 3 ∧ s.portState (spanPort x) ≠ pDark then
      s.setCmis x { s.cmis x with
        step := 3
        waitAt := s.tick }
    else s
  else s

/-- IntL (R87). -/
def execIntl (x : Fin 32) (fl : PlugFlags) (s : State) : Out :=
  if s.awake ∧ s.present x then .next (s.readFlags x fl true) else .next s

/-- The 1 ms read of the flags (R87). -/
def execCmisFlagPoll (x : Fin 32) (fl : PlugFlags) (s : State) : Out :=
  if s.awake ∧ s.present x then .next (s.readFlags x fl false) else .next s

/-- R88 denies the access that a CL_SX_CMIS_CMD word asks for.
(DESIGN CHOICE, log entry 19; DEDUCED, log entry 76) -/
def State.cmisDenied (s : State) (x : Nat) (val : Word) : Bool :=
  let g := fun (f : Fld) => f.get val
  let len := if g Fld.CL_SX_CMIS_CMD_LEN = 0 then 128 else g Fld.CL_SX_CMIS_CMD_LEN
  let first := g Fld.CL_SX_CMIS_CMD_OFFSET
  let page := g Fld.CL_SX_CMIS_CMD_PAGE
  let upper := decide (128 < first + len)
  let write := g Fld.CL_SX_CMIS_CMD_WRITE = 1
  let dark := s.portState (spanPort x) = pDark
  g Fld.CL_SX_CMIS_CMD_BANK ≠ 0
    || (write && !dark && ((upper && (page = 0x10 || Config.ccmisConfigPage page))
        || (decide (first ≤ 31) && decide (26 < first + len))))
    || (write && upper && page = 0x13)

/-- The fields of CL_SX_CMIS_CMD that a write sets; its dash bits stay 0 (R8). -/
def cmisCmdMask : Word := 0x01FFFFFF000000FF

/-- A write of CL_SX_CMIS_CMD (R88): ignored while BUSY; NOT_PRESENT without a pluggable; DENIED
under R88; else the access starts. (DEDUCED, log entry 76) -/
def execCmisCmd (x : Fin 32) (val : Word) (s : State) : Out :=
  let k := Reg.CL_SX_CMIS_CMD x
  let val := val &&& cmisCmdMask
  if s.awake ∧ !(s.reg k).getLsbD 63 then
    let put := fun (busy status : Nat) =>
      s.setReg k (Fld.CL_SX_CMIS_CMD_BUSY.put busy (Fld.CL_SX_CMIS_CMD_STATUS.put status val))
    if !s.present x then .next (put 0 3)
    else if s.cmisDenied x val then .next (put 0 1)
    else
      let s := put 1 0
      .next (s.setCmis x { s.cmis x with access := some val })
  else .next s

/-- The window after a read of `len` bytes: the bytes read, then the old ones. (DEDUCED, log entry 76) -/
def windowBytes (old new : List Byte) (len : Nat) : List Byte := new.take len ++ old.drop len

/-- A CMIS window access ends (R86, R88): BUSY clears with its status, and a read fills the first
bytes of the window. (DESIGN CHOICE, log entry 23; DEDUCED, log entry 76) -/
def execCmisAccessComplete (x : Fin 32) (timedOut : Bool) (data : Vector Word 16) (s : State) : Out :=
  let k := Reg.CL_SX_CMIS_CMD x
  match (s.cmis x).access with
  | none => .next s
  | some val =>
    if s.awake then
      let s := s.setCmis x { s.cmis x with access := none }
      let s := s.setFld k Fld.CL_SX_CMIS_CMD_BUSY 0
      if timedOut then
        .next ((s.setFld k Fld.CL_SX_CMIS_CMD_STATUS 2).cmisTransaction x)
      else
        let s := (s.setFld k Fld.CL_SX_CMIS_CMD_STATUS 0).setCmis x { s.cmis x with
          access := none
          timeouts := 0 }
        if Fld.CL_SX_CMIS_CMD_WRITE.get val = 1 then .next s
        else
          let len := if Fld.CL_SX_CMIS_CMD_LEN.get val = 0 then 128 else min 128 (Fld.CL_SX_CMIS_CMD_LEN.get val)
          let old := (List.range 16).flatMap (fun i => beBytes 8 (s.reg (Reg.CL_SX_CMIS_DATA x i)).toNat)
          let new := data.toList.flatMap (fun w => beBytes 8 w.toNat)
          let win := windowBytes old new len
          .next ((List.range 16).foldl (fun s i =>
            s.setReg (Reg.CL_SX_CMIS_DATA x i) (BitVec.ofNat 64 (natAt win (8 * i) 8))) s)
    else .next s

/-- Presence is deasserted (R90): the link is lost, and a port that was not yet UP goes to DARK.
(DEDUCED, log entry 77) -/
def execPresenceDeassert (x : Fin 32) (s : State) : Out :=
  if s.awake ∧ s.present x then
    let port := spanPort x
    let s := (s.cmisFld x Fld.CL_SX_CMIS_STAT_PRESENT 0).cmisFld x Fld.CL_SX_CMIS_STAT_REFUSE 0
    let s := if (s.cmis x).caged then s.setBits Reg.WCH_CAGEPWR (BitVec.ofNat 64 (2 ^ x.val)) else s
    let s := s.setCmis x { s.cmis x with
      step := 0
      caged := false
      info := none }
    let s := s.linkLost port
    if s.holding port then .next (s.setPortState port pHold)
    else if s.portState port = pDark then .next s
    else .next (s.goDark port)
  else .next s

/-- CL_SX_CMD.RETRAIN (R90). -/
def execSpanRetrain (x : Fin 32) (s : State) : Out :=
  if s.awake then .next (s.retrain (spanPort x)) else .next s

/-- CL_SX_CTL.HOLDMAX in seconds, with a value outside 2 to 60 taken as the nearer bound (R91). -/
def State.holdMax (s : State) (x : Nat) : Nat := min 60 (max 2 (s.fld (Reg.CL_SX_CTL x) Fld.CL_SX_CTL_HOLDMAX))

/-- HOLD has lasted HOLDMAX (R91). (DEDUCED, log entries 6 and 75) -/
def execSpanHoldmaxExpiry (x : Fin 32) (s : State) : Out :=
  if s.awake ∧ s.holdOver (spanPort x) (secTicks (s.holdMax x)) then
    .next (s.holdExpire (spanPort x))
  else .next s

/-- A write of CL_SX_CTL.ENABLE (R89): 1 starts the bring-up; 0 puts the pluggable in low power
and the port in DARK under R68's discard rule. (DEDUCED, log entry 75) -/
def execSpanPortEnable (x : Fin 32) (on : Bool) (s : State) : Out :=
  if s.awake then
    let port := spanPort x
    let s := s.setFld (Reg.CL_SX_CTL x) Fld.CL_SX_CTL_ENABLE (b2n on)
    if on then .next ((s.wakeCluster (x / 2)).tryBringUp x)
    else if s.portState port = pDark then .next s
    else .next ((s.linkLost port).goDark port)
  else .next s

/-- A transmitted frame's Loft copy is complete (R92): its output-buffer cells are released. -/
def execLoftCopyDone (x : Fin 32) (v : Fin 8) (seq : BitVec 32) (s : State) : Out :=
  if s.awake then
    let l := s.vc (spanPort x) v
    .next (s.setVc (spanPort x) v { l with
      unacked := l.unacked.map (fun c => if c.seq = seq then { c with inBuf := false } else c) })
  else .next s

end Sys2Proof.Machine
end

