-- ==== Sys2Proof/WellFormed.lean ====
section
/-! DEFINITION. Which commands the hardware can be given: a command that names a place which the hardware does not have is
ill formed; what it says of that place has no effect. -/

namespace Sys2Proof

/-- A Loft finding lies in the Loft's 288 GiB (R99). -/
def LoftFinding.wf : LoftFinding → Bool
  | .corrected a => decide (a < 288 * 2 ^ 30)
  | .uncorrectable a _ => decide (a < 288 * 2 ^ 30)
  | .trainFail _ => true

/-- A Granary finding names one of a channel's 256-byte blocks (R286). -/
def GrnFinding.wf : GrnFinding → Bool
  | .corrected b => decide (b < 2 ^ 29)
  | .eccUe b => decide (b < 2 ^ 29)
  | .tagBad b => decide (b < 2 ^ 29)
  | .unseen b _ => decide (b < 2 ^ 29)
  | .trainFail => true

/-- The command is one the hardware can be given. (DESIGN CHOICE, log entries 9 and 127) -/
def Instr.wf : Instr → Bool
  | .loftPatrol l => l.all LoftFinding.wf
  | .grnPatrol _ l => l.all GrnFinding.wf
  | _ => true

end Sys2Proof
end

