-- ==== Sys2Proof/Machine/Loft.lean ====
section
/-! DEFINITION. The Loft (R99 to R105): its regions and what they hold, corrected and uncorrectable
errors, and a stack that fails. -/

namespace Sys2Proof.Machine

/-- The stack of a Loft byte address (R99). -/
def loftStack (addr : Nat) : Nat := addr / 2048 % 8

/-- The region of a use (R101). -/
def loftRegion : LoftUse → Nat
  | .retryCopy _ _ _ => 0
  | .receiveHold _ _ _ => 0
  | .hold _ _ _ => 1
  | .spill _ => 2
  | .capt _ => 3
  | .dump _ => 4
  | .unused r => r.val

/-- Bytes of the records of a dump (R470). -/
def Dump.size (d : Dump) : Nat := (d.recs.map (fun r => 32 + r.data.length)).sum

/-- Cells in use in a region (LFT_USE). (DEDUCED, log entry 104) -/
def State.loftUse (s : State) (r : Nat) : Nat :=
  let spans := (List.range 32).map spanPort
  if r = 0 then
    (spans.map (fun p => ((s.copiesOf p).map (fun c => frameCells c.h.f)).sum
      + ((List.range 8).map (fun v => heldCells ((s.vc p v).rxHold.map (fun x => x.2)))).sum)).sum
  else if r = 1 then (spans.map (fun p => ((List.range 8).map (fun v => heldCells (s.staged p v))).sum)).sum
  else if r = 2 then runsCells (s.takenRuns none)
  else if r = 3 then ceilDiv (160 * s.captUnread) 128
  else if r = 4 then
    ceilDiv (s.test.dump.size + (s.uz.bulk.map (fun b => if b.2.held ∧ b.2.type = 0 then b.2.total else 0)).sum) 128
  else 0

/-- The region sizes of an LFT_PART value, by region. -/
def partSize (w : Word) (r : Nat) : Nat :=
  if r = 1 then Fld.LFT_PART_HOLD.get w
  else if r = 2 then Fld.LFT_PART_SPILL.get w
  else if r = 3 then Fld.LFT_PART_CAPT.get w
  else Fld.LFT_PART_DUMP.get w

/-- A value that LFT_PART takes (R102). (DEDUCED, log entry 104) -/
def State.partOk (s : State) (w : Word) : Bool :=
  let old := s.reg Reg.LFT_PART
  partSize w 1 + partSize w 2 + partSize w 3 + partSize w 4 == 1111
    && decide (32 ≤ partSize w 1 ∧ partSize w 3 ≤ 16 ∧ 16 ≤ partSize w 4)
    && [1, 2, 3, 4].all (fun r => decide (partSize old r ≤ partSize w r) || s.loftUse r == 0)
    && (partSize old 1 == partSize w 1 || (List.range 32).all (fun x => s.portState (spanPort x) == pDark))

/-- A write of LFT_PART. (DEDUCED, log entry 104) -/
def execLftPartWrite (val : Word) (s : State) : Out :=
  if !s.awake then .next s
  else if s.partOk val then
    .next (s.setReg Reg.LFT_PART (pack [(Fld.LFT_PART_DUMP, partSize val 4), (Fld.LFT_PART_CAPT, partSize val 3),
      (Fld.LFT_PART_HOLD, partSize val 1), (Fld.LFT_PART_SPILL, partSize val 2), (Fld.LFT_PART_RETRY, 41)]))
  else .next (s.raise Reg.LFT_EVT 0 11 srcLoft)

/-- A stack fails: it is not trained until the next boot, and a module fault puts the span ports in DARK (R99, R105,
R461). -/
def State.stackFail (s : State) (k : Nat) : State :=
  let s := s.onPort (fun p => { p with loftFailed := p.loftFailed ||| BitVec.ofNat 8 (2 ^ k) })
  let s := s.raise Reg.LFT_EVT 2 5 srcLoft
  let s := (List.range 32).foldl (fun s x => if s.portState (spanPort x) = pDark then s else s.goDark (spanPort x)) s
  s.moduleFault { cls := 5, unitType := utLoft, unit := k, register := 1, cause := 2, detail := s.reg Reg.LFT_EVT }

/-- A span port whose retry copy is lost is treated as reset (R104). (DEDUCED, log entry 104) -/
def State.loftReset (s : State) (port : Nat) : State :=
  (s.raisePort port 7 11).hopReset port

/-- What an uncorrectable word does, by its use (R104). (DEDUCED, log entry 104) -/
def State.loftEffect (s : State) (u : LoftUse) : State :=
  match u with
  | .retryCopy x v seq =>
    let port := spanPort x
    if (s.vc port v).unacked.any (fun c => c.seq == seq) then s.loftReset port else s
  | .receiveHold x v seq =>
    let port := spanPort x
    let l := s.vc port v
    if l.rxHold.any (fun h => h.1 == seq) then
      (s.setVc port v { l with rxHold := l.rxHold.filter (fun h => h.1 != seq) }).sendLcb port lcbNakGobackType v 0 seq 0
    else s
  | .hold x v idx =>
    let port := spanPort x
    match (s.staged port v)[idx]? with
    | some h => (s.setStaged port v (dropAt (s.staged port v) idx)).discardStaged port h dcInternal
    | none => s
  | .spill cell =>
    match s.red.slots.find? (fun p => p.2.spill && p.2.state != 0 && p.2.covers cell) with
    | some p =>
      (match s.findRound (BitVec.ofNat 16 (slotColl p.1)) (BitVec.ofNat 16 (slotRound p.1)) with
      | some k => s.roundFaultUnmet k rfSpillUe
      | none => s)
    | none => s
  | .capt r =>
    if (SMap.get 0 s.tele.capt r) = 0 then s else s.onTele (fun t => { t with captBad := SMap.put false t.captBad r true })
  | .dump r =>
    s.onTest (fun t => { t with dump := { t.dump with
      recs := t.dump.recs.mapIdx (fun i x => if i = r ∧ x.status = 0 then { x with status := 3, data := [] } else x) } })
  | .unused _ => s

/-- An uncorrectable word (R104, R105): counted and logged, its use dealt with, and the stack failed
after more than 16 within 1 s. (DEDUCED, log entry 104) -/
def State.loftUe (s : State) (addr : Nat) (u : LoftUse) : State :=
  let k := loftStack addr
  let s := (s.bump (Reg.LFT_ECCU k) 1).score (560 + k) 1048576
  let s := s.setReg Reg.LFT_UELOG (pack [(Fld.LFT_UELOG_REGION, loftRegion u), (Fld.LFT_UELOG_STACK, k), (Fld.LFT_UELOG_ADDR, addr)])
  let s := (s.raise Reg.LFT_EVT 1 5 srcLoft).faultRecord
    { cls := 5, unitType := utLoft, unit := k, register := 0, cause := loftRegion u, action := 7, detail := s.reg Reg.LFT_UELOG }
  let s := s.loftEffect u
  let l := s.window (SMap.get [] s.port.loftUes k) (secTicks 1)
  let s := s.onPort (fun p => { p with loftUes := SMap.put [] p.loftUes k l })
  if 16 < l.length then s.stackFail k else s

/-- One finding of a read or patrol. -/
def State.loftFinding (s : State) (f : LoftFinding) : State :=
  match f with
  | .corrected a => (s.bump (Reg.LFT_ECCC (loftStack a)) 1).score (560 + loftStack a) 16
  | .uncorrectable a u => s.loftUe a u
  | .trainFail k => s.stackFail k.val

/-- A finding that is an event of class 5 (R382). -/
def LoftFinding.grave : LoftFinding → Bool
  | .corrected _ => false
  | .uncorrectable _ _ => true
  | .trainFail _ => true

/-- The patrol scrub reads words of the Loft (R100); a finding at no Loft address is none. (DESIGN CHOICE, log entries 9,
122 and 127) -/
def execLoftPatrol (l : List LoftFinding) (s : State) : Out :=
  if s.pathCut then .next ((l.filter LoftFinding.grave).foldl (fun (s : State) _ => s.logEvent 5 srcLoft true) s)
  else if s.awake then .next ((l.filter LoftFinding.wf).foldl (fun s f => s.loftFinding f) s) else .next s

end Sys2Proof.Machine
end

