-- ==== Sys2Proof/Machine/MillCode.lean ====
section
/-! DEFINITION. The Mill instruction set as it is encoded (R235, R236): the instructions with their
fields, their words, which field values they take, the registers and the unit they use (R237 to
R241), and their latency and occupancy. -/

namespace Sys2Proof.Machine

/-! ### Instructions -/

/-- The instructions of sub-field layout A. -/
inductive AluOp where
  | vadd
  | vfma
  | vmax
  | vmin
  | vscl
  | vcast
  | vsrnd
  deriving DecidableEq, Repr

/-- A Mill instruction. Register bytes are as in R236; the NR of LDB and STB is one less than the
count of registers. -/
inductive MInstr where
  | br (a : BitVec 8) (cond : BitVec 4) (bit : BitVec 6) (target : BitVec 15)
  | loop (a : BitVec 8) (count body : BitVec 12)
  | wait (d : BitVec 8) (ev : BitVec 4) (mask : BitVec 8)
  | sig (a : BitVec 8) (core : BitVec 7) (mask : BitVec 8)
  | halt (a : BitVec 8) (cond : BitVec 4) (bit : BitVec 6)
  | frx (d : BitVec 8) (w : BitVec 1) (nr off : BitVec 4) (cell : BitVec 10)
  | ftx (a : BitVec 8) (fmt : BitVec 4) (tgt : BitVec 1) (ne : BitVec 14)
  | alu (op : AluOp) (d a b : BitVec 8) (fa fb : BitVec 4) (c sat pe : BitVec 1) (pred : BitVec 3) (ne : BitVec 14)
  | vmxd (d a : BitVec 8) (fa fb : BitVec 4) (rnd : BitVec 2) (ne : BitVec 14)
  | vmxe (d a : BitVec 8) (fa fb : BitVec 4) (rnd : BitVec 2) (ne : BitVec 14)
  | vtkm (d a b : BitVec 8)
  | tally (d a : BitVec 8)
  | ldb (d b : BitVec 8) (nr : BitVec 6) (cell : BitVec 10)
  | stb (a b : BitVec 8) (nr : BitVec 6) (cell : BitVec 10)
  | shb (d : BitVec 8)
  | shc (d a : BitVec 8)
  | sha (d a : BitVec 8)
  deriving DecidableEq, Repr

/-- The byte that names no register. -/
def noReg : BitVec 8 := 0xC0

/-- Major opcodes of layout A. -/
def AluOp.major : AluOp → BitVec 8
  | .vadd => 0x20
  | .vfma => 0x21
  | .vmax => 0x22
  | .vmin => 0x23
  | .vscl => 0x24
  | .vcast => 0x25
  | .vsrnd => 0x26

def aluOf (m : BitVec 8) : AluOp :=
  if m = 0x20 then .vadd
  else if m = 0x21 then .vfma
  else if m = 0x22 then .vmax
  else if m = 0x23 then .vmin
  else if m = 0x24 then .vscl
  else if m = 0x25 then .vcast
  else .vsrnd

/-- The skeleton of an instruction word (R235). -/
def millWord (major d a b : BitVec 8) (low : BitVec 32) : Word :=
  (major ++ d ++ a ++ b ++ low : BitVec (8 + 8 + 8 + 8 + 32))

/-- The word of an instruction. -/
def encodeMill : MInstr → Word
  | .br a cond bit target =>
    millWord 0x01 noReg a noReg (cond ++ (0 : BitVec 6) ++ bit ++ (0 : BitVec 1) ++ target : BitVec (4 + 6 + 6 + 1 + 15))
  | .loop a count body => millWord 0x02 noReg a noReg ((0 : BitVec 8) ++ count ++ body : BitVec (8 + 12 + 12))
  | .wait d ev mask => millWord 0x03 d noReg noReg (ev ++ (0 : BitVec 20) ++ mask : BitVec (4 + 20 + 8))
  | .sig a core mask => millWord 0x04 noReg a noReg ((0 : BitVec 17) ++ core ++ mask : BitVec (17 + 7 + 8))
  | .halt a cond bit =>
    millWord 0x05 noReg a noReg (cond ++ (0 : BitVec 6) ++ bit ++ (0 : BitVec 16) : BitVec (4 + 6 + 6 + 16))
  | .frx d w nr off cell =>
    millWord 0x10 d noReg noReg ((0 : BitVec 7) ++ w ++ nr ++ off ++ (0 : BitVec 6) ++ cell : BitVec (7 + 1 + 4 + 4 + 6 + 10))
  | .ftx a fmt tgt ne =>
    millWord 0x11 noReg a noReg (fmt ++ (0 : BitVec 3) ++ tgt ++ (0 : BitVec 10) ++ ne : BitVec (4 + 3 + 1 + 10 + 14))
  | .alu op d a b fa fb c sat pe pred ne =>
    millWord op.major d a b
      (fa ++ fb ++ c ++ sat ++ (0 : BitVec 3) ++ pe ++ pred ++ (0 : BitVec 1) ++ ne : BitVec (4 + 4 + 1 + 1 + 3 + 1 + 3 + 1 + 14))
  | .vmxd d a fa fb rnd ne =>
    millWord 0x30 d a noReg (fa ++ fb ++ rnd ++ (0 : BitVec 8) ++ ne : BitVec (4 + 4 + 2 + 8 + 14))
  | .vmxe d a fa fb rnd ne =>
    millWord 0x31 d a noReg (fa ++ fb ++ rnd ++ (0 : BitVec 8) ++ ne : BitVec (4 + 4 + 2 + 8 + 14))
  | .vtkm d a b => millWord 0x38 d a b 0
  | .tally d a => millWord 0x40 d a noReg 0
  | .ldb d b nr cell =>
    millWord 0x48 d noReg b ((0 : BitVec 8) ++ nr ++ (0 : BitVec 8) ++ cell : BitVec (8 + 6 + 8 + 10))
  | .stb a b nr cell =>
    millWord 0x49 noReg a b ((0 : BitVec 8) ++ nr ++ (0 : BitVec 8) ++ cell : BitVec (8 + 6 + 8 + 10))
  | .shb d => millWord 0x50 d noReg noReg 0
  | .shc d a => millWord 0x51 d a noReg 0
  | .sha d a => millWord 0x52 d a noReg 0

/-- The fields of a word by its layout, reserved bits dropped. -/
def millFields (w : Word) : Option MInstr :=
  let m : BitVec 8 := w.extractLsb' 56 8
  let d : BitVec 8 := w.extractLsb' 48 8
  let a : BitVec 8 := w.extractLsb' 40 8
  let b : BitVec 8 := w.extractLsb' 32 8
  let ne : BitVec 14 := w.extractLsb' 0 14
  if m = 0x01 then some (.br a (w.extractLsb' 28 4) (w.extractLsb' 16 6) (w.extractLsb' 0 15))
  else if m = 0x02 then some (.loop a (w.extractLsb' 12 12) (w.extractLsb' 0 12))
  else if m = 0x03 then some (.wait d (w.extractLsb' 28 4) (w.extractLsb' 0 8))
  else if m = 0x04 then some (.sig a (w.extractLsb' 8 7) (w.extractLsb' 0 8))
  else if m = 0x05 then some (.halt a (w.extractLsb' 28 4) (w.extractLsb' 16 6))
  else if m = 0x10 then
    some (.frx d (w.extractLsb' 24 1) (w.extractLsb' 20 4) (w.extractLsb' 16 4) (w.extractLsb' 0 10))
  else if m = 0x11 then some (.ftx a (w.extractLsb' 28 4) (w.extractLsb' 24 1) ne)
  else if 0x20 ≤ m ∧ m ≤ 0x26 then
    some (.alu (aluOf m) d a b (w.extractLsb' 28 4) (w.extractLsb' 24 4) (w.extractLsb' 23 1) (w.extractLsb' 22 1)
      (w.extractLsb' 18 1) (w.extractLsb' 15 3) ne)
  else if m = 0x30 then some (.vmxd d a (w.extractLsb' 28 4) (w.extractLsb' 24 4) (w.extractLsb' 22 2) ne)
  else if m = 0x31 then some (.vmxe d a (w.extractLsb' 28 4) (w.extractLsb' 24 4) (w.extractLsb' 22 2) ne)
  else if m = 0x38 then some (.vtkm d a b)
  else if m = 0x40 then some (.tally d a)
  else if m = 0x48 then some (.ldb d b (w.extractLsb' 18 6) (w.extractLsb' 0 10))
  else if m = 0x49 then some (.stb a b (w.extractLsb' 18 6) (w.extractLsb' 0 10))
  else if m = 0x50 then some (.shb d)
  else if m = 0x51 then some (.shc d a)
  else if m = 0x52 then some (.sha d a)
  else none

/-- A word's major opcode is a reserved one (R235). (DEDUCED, log entry 30) -/
def reservedMajor (w : Word) : Bool := (millFields w).isNone

/-! ### What each field takes (R236, R239, R246 to R253) -/

def isV (b : BitVec 8) : Bool := decide (b.toNat < 64)
def isS (b : BitVec 8) : Bool := decide (64 ≤ b.toNat ∧ b.toNat < 96)
def isP (b : BitVec 8) : Bool := decide (128 ≤ b.toNat ∧ b.toNat < 136)

/-- SRCA of BR and HALT by COND (R246). -/
def condReg (cond : BitVec 4) (a : BitVec 8) : Bool :=
  if cond = 0 then a == noReg
  else if cond.toNat ≤ 3 then isP a
  else decide (cond.toNat ≤ 5) && isS a

/-- NE lies in its range, 0 taking s3. -/
def neGood (ne : BitVec 14) : Bool := decide (ne.toNat ≤ 8192)

/-- The formats, C and SAT of layout A (R251, R252). -/
def aluFormats (op : AluOp) (fa fb : Nat) (c sat : Bool) : Bool :=
  decide (fa ≤ fInt8s ∧ fb ≤ fInt8s)
    && (!c || (op == .vadd && fa == fFp32))
    && (!sat || op == .vcast || op == .vsrnd || op == .vscl)
    && (match op with
      | .vadd | .vmax | .vmin => fa == fFp32 || (fa == fInt32 && (fb == fInt8s || fb == fInt32))
      | .vfma => fa == fFp32
      | .vscl => fb == fFp32 && decide (fa ≤ fE5m2)
      | .vcast => !isMx fa && !isMx fb
      | .vsrnd => !isMx fa && !isMx fb && decide (elemWidth fa < elemWidth fb))

/-- SRCB of layout A. -/
def aluSrcB (op : AluOp) (b : BitVec 8) : Bool :=
  match op with
  | .vadd | .vfma | .vmax | .vmin => isV b
  | .vscl => isS b
  | .vcast | .vsrnd => b == noReg

/-- The instruction's register bytes, modifiers and counts are ones it takes. -/
def MInstr.good : MInstr → Bool
  | .br a cond _ _ => condReg cond a
  | .halt a cond _ => condReg cond a
  | .loop a count _ => if count = 0 then isS a else a == noReg
  | .wait d ev _ => (d == noReg || isS d) && decide (ev.toNat ≤ 2)
  | .sig a core _ => if core = 0x7F then isS a else a == noReg
  | .frx d w nr off _ => (if w = 1 then d == noReg else isV d) && decide (nr.toNat + off.toNat ≤ 16)
  | .ftx a fmt _ ne => isV a && decide (fmt.toNat ≤ fFp32c) && neGood ne
  | .alu op d a b fa fb c sat _ _ ne =>
    isV d && isV a && aluSrcB op b && aluFormats op fa.toNat fb.toNat (c == 1) (sat == 1) && neGood ne
  | .vmxd d a fa fb rnd ne =>
    isV d && isV a && (fa.toNat == fFp32 || fa.toNat == fBf16) && isMx fb.toNat && rnd == 0 && neGood ne
  | .vmxe d a fa fb rnd ne =>
    isV d && isV a && isMx fa.toNat && fb.toNat == fFp32 && decide (rnd.toNat ≤ 1) && neGood ne
  | .vtkm d a b => isV d && isV a && isV b
  | .tally d a => isP d && (a == noReg || isS a)
  | .ldb d b _ _ => isV d && (b == noReg || isS b)
  | .stb a b _ _ => isV a && (b == noReg || isS b)
  | .shb d => isS d
  | .shc d a => isS d && isS a
  | .sha d a => isS d && isS a

/-- The instruction that a word encodes: none where the encoding is reserved, or names a register or
modifier that the instruction does not take (ILLEGAL). -/
def decodeMill (w : Word) : Option MInstr :=
  match millFields w with
  | some i => if encodeMill i = w ∧ i.good then some i else none
  | none => none

/-! ### Registers, units and times (R237 to R242) -/

/-- A register of a core: file (0 v, 1 s, 2 p) and index. -/
abbrev MReg := Nat × Nat

/-- The register that a byte names. -/
def regOf (b : BitVec 8) : List MReg := if b = noReg then [] else [(b.toNat / 64, b.toNat % 64)]

/-- A group of `n` vector registers from the one that a byte names. -/
def vGroup (b : BitVec 8) (n : Nat) : List MReg := (List.range n).map (fun i => (0, b.toNat % 64 + i))

/-- Registers of a group of `n` elements in a format. -/
def groupRegs (c n : Nat) : Nat :=
  if c = fFp32c then 2 * ceilDiv n 64
  else if isMx c || c == fInt8s then ceilDiv (payloadLen c n) 256
  else ceilDiv (n * elemWidth c) 2048

/-- What the operands of an instruction depend on beside its word: the element count in force, the
frame's PLEN, and K of the context under OP TOPK, else 0. -/
structure MEnv where
  ne : Nat
  plen : Nat
  k : Nat
  deriving DecidableEq, Repr

/-- Blocks that an FRX takes. -/
def frxBlocks (nr off plen : Nat) : Nat := if nr = 0 then ceilDiv plen 256 - off else nr

/-- Registers that an FRX with W = 0 writes (R249). -/
def frxRegs (nr off : Nat) (e : MEnv) : Nat :=
  if nr = 0 then ceilDiv (max e.plen (8 * e.k)) 256 - off else nr

/-- Registers of a list image of `n` pairs. -/
def pairRegs (n : Nat) : Nat := ceilDiv (8 * n) 256

/-- Registers of a source A or destination group of layout A, pair groups under C. -/
def aluGroup (fa : Nat) (c : Bool) (ne : Nat) : Nat := if c then 2 * ceilDiv ne 64 else groupRegs fa ne

/-- The registers that an instruction reads. -/
def MInstr.reads (e : MEnv) : MInstr → List MReg
  | .br a _ _ _ => regOf a
  | .halt a _ _ => regOf a
  | .loop a _ _ => regOf a
  | .sig a _ _ => regOf a
  | .wait _ _ _ => []
  | .frx _ _ _ _ _ => []
  | .ftx a fmt _ ne =>
    vGroup a (if e.k = 0 then groupRegs fmt.toNat e.ne else pairRegs e.ne) ++ (if ne = 0 then [(1, 3)] else [])
  | .alu op d a b fa fb c _ pe pred ne =>
    (match op with
      | .vadd | .vmax | .vmin => vGroup a (aluGroup fa.toNat (c == 1) e.ne) ++ vGroup b (groupRegs fb.toNat e.ne)
      | .vfma => vGroup d (groupRegs fa.toNat e.ne) ++ vGroup a (groupRegs fb.toNat e.ne) ++ vGroup b (groupRegs fb.toNat e.ne)
      | .vscl => vGroup a (groupRegs fa.toNat e.ne) ++ regOf b
      | .vcast | .vsrnd => vGroup a (groupRegs fb.toNat e.ne))
    ++ (if pe = 1 then [(2, pred.toNat)] else []) ++ (if ne = 0 then [(1, 3)] else [])
  | .vmxd _ a _ fb _ ne => vGroup a (groupRegs fb.toNat e.ne) ++ (if ne = 0 then [(1, 3)] else [])
  | .vmxe _ a _ fb _ ne => vGroup a (groupRegs fb.toNat e.ne) ++ (if ne = 0 then [(1, 3)] else [])
  | .vtkm _ a b => vGroup a (pairRegs e.k) ++ vGroup b (pairRegs e.k)
  | .tally _ _ => []
  | .ldb _ b _ _ => regOf b
  | .stb a b nr _ => vGroup a (nr.toNat + 1) ++ regOf b
  | .shb _ => []
  | .shc _ a => regOf a
  | .sha _ a => regOf a

/-- The registers that an instruction writes. -/
def MInstr.writes (e : MEnv) : MInstr → List MReg
  | .br _ _ _ _ => []
  | .halt _ _ _ => []
  | .loop _ _ _ => []
  | .sig _ _ _ => []
  | .wait d ev _ => if ev = 0 then regOf d else []
  | .frx d w nr off _ => if w = 1 then [] else vGroup d (frxRegs nr.toNat off.toNat e)
  | .ftx _ _ _ _ => []
  | .alu _ d _ _ fa _ c _ _ _ _ => vGroup d (aluGroup fa.toNat (c == 1) e.ne)
  | .vmxd d _ fa _ _ _ => vGroup d (groupRegs fa.toNat e.ne)
  | .vmxe d _ fa _ _ _ => vGroup d (groupRegs fa.toNat e.ne)
  | .vtkm d _ _ => vGroup d (pairRegs e.k)
  | .tally d a => regOf d ++ regOf a
  | .ldb d _ nr _ => vGroup d (nr.toNat + 1)
  | .stb _ _ _ _ => []
  | .shb d => regOf d
  | .shc d _ => regOf d
  | .sha d _ => regOf d

/-- The NE field, where the layout has one. -/
def MInstr.neField : MInstr → Option Nat
  | .ftx _ _ _ ne => some ne.toNat
  | .alu _ _ _ _ _ _ _ _ _ _ ne => some ne.toNat
  | .vmxd _ _ _ _ _ ne => some ne.toNat
  | .vmxe _ _ _ _ _ ne => some ne.toNat
  | _ => none

/-- Units: 0 CTL, 1 FRM, 2 WRD, 3 WWR, 4 VEC, 5 TAL, 6 SHF. -/
def MInstr.unit : MInstr → Nat
  | .br _ _ _ _ => 0
  | .loop _ _ _ => 0
  | .wait _ _ _ => 0
  | .sig _ _ _ => 0
  | .halt _ _ _ => 0
  | .frx _ _ _ _ _ => 1
  | .ftx _ _ _ _ => 1
  | .alu _ _ _ _ _ _ _ _ _ _ _ => 4
  | .vmxd _ _ _ _ _ _ => 4
  | .vmxe _ _ _ _ _ _ => 4
  | .vtkm _ _ _ => 4
  | .tally _ _ => 5
  | .ldb _ _ _ _ => 2
  | .stb _ _ _ _ => 3
  | .shb _ => 6
  | .shc _ _ => 6
  | .sha _ _ => 6

/-- L of the instruction tables. -/
def MInstr.latency : MInstr → Nat
  | .br _ _ _ _ => 1
  | .loop _ _ _ => 1
  | .wait _ _ _ => 1
  | .sig _ _ _ => 1
  | .halt _ _ _ => 0
  | .frx _ _ _ _ _ => 2
  | .ftx _ _ _ _ => 2
  | .alu op _ _ _ _ _ _ _ _ _ _ => if op = .vfma then 3 else 2
  | .vmxd _ _ _ _ _ _ => 4
  | .vmxe _ _ _ _ _ _ => 4
  | .vtkm _ _ _ => 6
  | .tally _ _ => 2
  | .ldb _ _ _ _ => 2
  | .stb _ _ _ _ => 1
  | .shb _ => 4
  | .shc _ _ => 4
  | .sha _ _ => 4

/-- Elements per cycle by a format: 64 of 32 bits, 128 of 16 bits, 256 of 8 bits or MX. -/
def rateOf (c : Nat) : Nat :=
  if isMx c then 256
  else if elemWidth c = 32 then 64
  else if elemWidth c = 16 then 128
  else 256

/-- Elements per cycle of an instruction of layout A. -/
def aluRate (op : AluOp) (fa fb : Nat) (c : Bool) : Nat :=
  match op with
  | .vadd | .vmax | .vmin => if c then rateOf fb / 2 else rateOf fb
  | .vfma => rateOf fb / 2
  | .vcast => max (rateOf fa) (rateOf fb)
  | .vscl | .vsrnd => rateOf fa

/-- O of the instruction tables; an LDB's is that of present cells. -/
def MInstr.occupancy (e : MEnv) : MInstr → Nat
  | .br _ _ _ _ => 1
  | .loop _ _ _ => 1
  | .wait _ _ _ => 1
  | .sig _ _ _ => 1
  | .halt _ _ _ => 1
  | .frx _ w nr off _ =>
    max 1 (if w = 1 then frxBlocks nr.toNat off.toNat e.plen else frxRegs nr.toNat off.toNat e)
  | .ftx _ fmt _ _ => max 1 (if e.k = 0 then groupRegs fmt.toNat e.ne else pairRegs e.ne)
  | .alu op _ _ _ fa fb c _ _ _ _ => ceilDiv e.ne (aluRate op fa.toNat fb.toNat (c == 1))
  | .vmxd _ _ _ _ _ _ => ceilDiv e.ne 256
  | .vmxe _ _ _ _ _ _ => ceilDiv e.ne 128
  | .vtkm _ _ _ => max 1 (ceilDiv (2 * e.k) 32)
  | .tally _ _ => 1
  | .ldb _ _ nr _ => ceilDiv (nr.toNat + 1) 2
  | .stb _ _ nr _ => ceilDiv (nr.toNat + 1) 2
  | .shb _ => 1
  | .shc _ _ => 1
  | .sha _ _ => 1

end Sys2Proof.Machine
end

