-- ==== Sys2Proof/Machine/Mill.lean ====
section
/-! DEFINITION. The Mill array around its programs: the dispatcher (R219 to R224), descriptors and
the queue of a core (R216, R217), core states (R225, R231), cluster power (R226), exceptions (R228
to R233) and the start of an invocation (R214, R218, R243, R244). -/

namespace Sys2Proof.Machine

/-! ### Cores, bindings and programs -/

/-- Core states (R225). -/
def coGated : Nat := 0
def coIdle : Nat := 1
def coRun : Nat := 2
def coWait : Nat := 3
def coFault : Nat := 4
def coReset : Nat := 5
def coDisabled : Nat := 6

def State.core (s : State) (n c : Nat) : Core := SMap.get {} s.mill.cores (96 * n + c)
def State.setCore (s : State) (n c : Nat) (x : Core) : State :=
  s.onMill (fun m => { m with cores := SMap.put {} m.cores (96 * n + c) x })

/-- The bindings of cluster `n`, by index. -/
def State.bindings (s : State) (n : Nat) : List (Nat × Bind) :=
  s.mill.binds.filterMap (fun p => if p.1 / 1024 = n then p.2.map (fun b => (p.1 % 1024, b)) else none)

/-- The core of cluster `n` bound to a chunk (R216). -/
def State.boundCore (s : State) (n : Nat) (coll : BitVec 16) (chunk : Nat) : Option Nat :=
  ((s.bindings n).find? (fun b => b.2.coll == coll && decide (b.2.first ≤ chunk ∧ chunk ≤ b.2.last))).map (fun b => b.2.core)

/-- The bindings on one core. -/
def State.coreBinds (s : State) (n c : Nat) : List Bind := ((s.bindings n).map (fun b => b.2)).filter (fun b => b.core == c)

/-- The valid programs of cluster `n`, by directory entry. -/
def State.programs (s : State) (n : Nat) : List (Nat × Prog) :=
  s.mill.pdir.filterMap (fun p => if p.1 / 256 = n then p.2.map (fun g => (p.1 % 256, g)) else none)

/-- The program of cluster `n` with a BASE. -/
def State.program (s : State) (n base : Nat) : Option Prog :=
  ((s.programs n).find? (fun p => p.2.base == base)).map (fun p => p.2)

/-- The program that holds a store index. -/
def State.programAt (s : State) (n i : Nat) : Option Prog :=
  ((s.programs n).find? (fun p => decide (p.2.base ≤ i ∧ i < p.2.base + p.2.len))).map (fun p => p.2)

/-- An instruction of the program store. -/
def State.storeWord (s : State) (n i : Nat) : Word := SMap.get 0 s.mill.pstore (32768 * n + i)

/-- The lowest index below `cap` that a list of taken ones does not hold. (DEDUCED, log entry 97) -/
def lowestFree (cap : Nat) (taken : List Nat) : Option Nat := (List.range cap).find? (fun i => !taken.contains i)

/-- Every v, s and p register, the event flags and the window store go to zero (R214, R244, R248). -/
def Core.zero (x : Core) : Core :=
  { x.noWindow with
    v := []
    sreg := []
    p := []
    flags := 0
    flagAt := []
    dropAt := none
    shadow := [] }

/-! ### The dispatcher (R221 to R224) -/

/-- Statuses of R223. -/
def dpOk : Nat := 0
def dpBadentry : Nat := 1
def dpRange : Nat := 2
def dpNocontext : Nat := 3
def dpNoprog : Nat := 4
def dpOwner : Nat := 5
def dpOverlap : Nat := 6
def dpFull : Nat := 7
def dpActive : Nat := 8
def dpInuse : Nat := 9
def dpPsfull : Nat := 10
def dpBulk : Nat := 11
def dpCorestate : Nat := 12
def dpNotbound : Nat := 13
def dpAborted : Nat := 14

/-- Fields of a dispatcher entry (R221). -/
def deCore (e : Entry) : Nat := entryNat e 2 2
def deColl (e : Entry) : BitVec 16 := BitVec.ofNat 16 (entryNat e 4 2)
def deTag (e : Entry) : Nat := entryNat e 6 2
def deFirst (e : Entry) : Nat := entryNat e 8 4
def deLast (e : Entry) : Nat := entryNat e 12 4
def deBase (e : Entry) : Nat := entryNat e 16 2
def deLen (e : Entry) : Nat := entryNat e 18 2
def deOwner (e : Entry) : Nat := entryNat e 20 1
def deBulk (e : Entry) : Nat := entryNat e 24 8

/-- Write a dispatcher entry's completion record and count its status. -/
def State.dspDone (s : State) (n : Fin 16) (e : Entry) (status : Nat) : State :=
  let op := entryOp e
  (s.bump (Reg.DSP_CNT n.val status) 1).ringWrite (.dsp n)
    (pack [(Fld.DSP_CRING_TAG, deTag e), (Fld.DSP_CRING_OP, op), (Fld.DSP_CRING_STATUS, status),
      (Fld.DSP_CRING_CORE, if op = 3 ∨ op = 4 then deCore e else 0xFF)]) (status != dpOk)

/-- Fields that must be zero are (BADENTRY). -/
def deGood (e : Entry) : Bool :=
  let op := entryOp e
  let bound := op == 3 || op == 4
  decide (1 ≤ op ∧ op ≤ 4) && entryNat e 1 1 == 0 && entryNat e 21 3 == 0 && entryNat e 32 32 == 0
    && (if bound then decide (deCore e < 128) else deCore e == 0 && deColl e == 0)
    && (if op = 3 then decide (deFirst e < 2 ^ 24 ∧ deLast e < 2 ^ 24) else deFirst e == 0 && deLast e == 0)
    && (if bound then deBase e == 0 else decide (deBase e < 2 ^ 15))
    && (op == 1 || (deLen e == 0 && deOwner e == 0 && deBulk e == 0))

/-- Some chunk of a range is homed in cluster `n`. -/
def rangeHas (n first last : Nat) : Bool := decide (first + (n + 16 - first % 16) % 16 ≤ last)

/-- Two ranges share a chunk homed in cluster `n`. -/
def rangesMeet (n a b c d : Nat) : Bool := rangeHas n (max a c) (min b d)

/-- A round of the collective is registered, or a contribution of this event tick will register one: registration
applies first (R234). (DESIGN CHOICE, log entry 133) -/
def State.roundBusy (s : State) (coll : BitVec 16) : Bool :=
  s.roundActive coll || s.alsoNow (fun i => match i with
    | .frameReceive p f _ _ => f.kind == kContrib && f.coll == coll && s.ownFrame f
        && (f.round == s.lastClosed coll + 1 || f.round == s.lastClosed coll + 2) && (s.contribCheck p.val f).isNone
    | _ => false)

/-- The status of a BIND. -/
def State.bindStatus (s : State) (n : Nat) (e : Entry) : Nat :=
  let d := s.cx (deColl e).toNat
  let c := deCore e
  let f := deFirst e
  let l := deLast e
  if 95 < c ∨ l < f ∨ (cxValid d ∧ cxChunks d ≤ l) ∨ !rangeHas n f l then dpRange
  else if !cxValid d then dpNocontext
  else match s.program n (cxProg d) with
    | none => dpNoprog
    | some g =>
      if g.owner ≠ 0 ∧ g.owner ≠ 1 + s.jobSlot (cxJob d) then dpOwner
      else if (s.bindings n).any (fun b => b.2.coll == deColl e && rangesMeet n f l b.2.first b.2.last) then dpOverlap
      else if 1024 ≤ (s.bindings n).length ∨ 32 ≤ (s.coreBinds n c).length then dpFull
      else if s.roundBusy (deColl e) then dpActive
      else if (s.core n c).st = coDisabled then dpCorestate
      else dpOk

/-- The status of an UNBIND. -/
def State.unbindStatus (s : State) (n : Nat) (e : Entry) : Nat :=
  if 95 < deCore e then dpRange
  else if s.roundBusy (deColl e) then dpActive
  else if (s.coreBinds n (deCore e)).any (fun b => b.coll == deColl e) then dpOk
  else dpNotbound

/-- The words of a program image. -/
def progWords (l : List Byte) : List Word := (List.range (l.length / 8)).map (fun i => BitVec.ofNat 64 (natAt l (8 * i) 8))

/-- The status of a LOADPROG, with the bytes of its handle. -/
def State.loadStatus (s : State) (n : Nat) (e : Entry) (data : Option (List Byte)) : Nat :=
  let b := deBase e
  let l := deLen e
  if l = 0 ∨ 64 < deOwner e ∨ 32768 < b + l then dpRange
  else if (s.programs n).any (fun p => decide (p.2.base < b + l ∧ b < p.2.base + p.2.len)) then dpOverlap
  else if (lowestFree 256 ((s.programs n).map (fun p => p.1))).isNone then dpPsfull
  else match data with
    | none => dpBulk
    | some x => if x.length ≠ 8 * l ∨ (progWords x).any reservedMajor then dpBulk else dpOk

/-- A binding names the program at `base`. -/
def State.progUses (s : State) (n base : Nat) : Nat :=
  ((s.bindings n).filter (fun b => cxProg (s.cx b.2.coll.toNat) == base)).length

/-- The status of a FREEPROG. -/
def State.freeStatus (s : State) (n : Nat) (e : Entry) : Nat :=
  if (s.program n (deBase e)).isNone then dpNoprog
  else if s.progUses n (deBase e) ≠ 0 then dpInuse
  else dpOk

/-- Write a program into the store and the directory. -/
def State.loadProgram (s : State) (n : Nat) (e : Entry) (data : List Byte) : State :=
  match lowestFree 256 ((s.programs n).map (fun p => p.1)) with
  | none => s
  | some d =>
    let g : Prog := { owner := deOwner e, len := deLen e, base := deBase e, measure := Config.sha384 data }
    s.onMill (fun m => { m with
      pdir := SMap.put none m.pdir (256 * n + d) (some g)
      pstore := ((progWords data).mapIdx (fun i w => (32768 * n + deBase e + i, w))).foldl
        (fun t p => SMap.put 0 t p.1 p.2) m.pstore })

/-- Take a program out: its run reads 0x0 (R219), and the next program of a core that ran it last is another (R243). -/
def State.freeProgram (s : State) (n base : Nat) : State :=
  match s.program n base with
  | none => s
  | some g =>
    let lo := 32768 * n + base
    s.onMill (fun m => { m with
      pdir := m.pdir.filter (fun p => !(p.1 / 256 == n && p.2 == some g))
      pstore := m.pstore.filter (fun p => !decide (lo ≤ p.1 ∧ p.1 < lo + g.len))
      cores := m.cores.map (fun p =>
        if p.1 / 96 = n ∧ p.2.lastProg = some base then (p.1, { p.2 with lastProg := none }) else p) })

/-- Bind a core. -/
def State.bindCore (s : State) (n : Nat) (e : Entry) : State :=
  match lowestFree 1024 ((s.bindings n).map (fun b => b.1)) with
  | none => s
  | some b =>
    let x : Bind := { core := deCore e, coll := deColl e, first := deFirst e, last := deLast e }
    s.onMill (fun m => { m with binds := SMap.put none m.binds (1024 * n + b) (some x) })

/-- The job slot of a collective. -/
def State.collSlot (s : State) (coll : BitVec 16) : Nat := s.jobSlot (cxJob (s.cx coll.toNat))

/-- Remove every binding of a collective on a core; the last of its job slot zeroes the core (R214). -/
def State.unbindCore (s : State) (n c : Nat) (coll : BitVec 16) : State :=
  let s := s.onMill (fun m => { m with binds := m.binds.filter (fun p =>
    !(p.1 / 1024 == n && (match p.2 with
      | some b => b.core == c && b.coll == coll
      | none => false))) })
  if (s.coreBinds n c).any (fun b => s.collSlot b.coll == s.collSlot coll) then s
  else s.setCore n c (s.core n c).zero

/-- Take the next entry of a dispatcher if its OP is one of `mine`.
(DEDUCED, log entry 21; DESIGN CHOICE, log entry 28) -/
def State.dspTake (s : State) (n : Fin 16) (mine : Nat → Bool) (run : Entry → State → Nat × State) : State :=
  match s.nextEntry (engDsp n.val) with
  | none => s
  | some (q, e) =>
    if s.awake && s.clusterState n.val == 0 && mine (entryOp e) then
      let s := s.popQueue (engDsp n.val) q
      if !deGood e then s.dspDone n e dpBadentry
      else
        let (st, s) := run e s
        s.dspDone n e st
    else s

/-- A LOADPROG is taken; an entry with an unlisted OP ends here too (R223). (DESIGN CHOICE, log entries 8 and 28) -/
def execLoadprog (n : Fin 16) (s : State) : Out :=
  .next (s.dspTake n (fun op => op != 2 && op != 3 && op != 4) (fun e s =>
    let data := s.bulkData (deBulk e)
    let st := s.loadStatus n.val e data
    (st, if st = dpOk then s.loadProgram n.val e (data.getD []) else s)))

/-- A FREEPROG is taken. -/
def execFreeprog (n : Fin 16) (s : State) : Out :=
  .next (s.dspTake n (fun op => op == 2) (fun e s =>
    let st := s.freeStatus n.val e
    (st, if st = dpOk then s.freeProgram n.val (deBase e) else s)))

/-- A BIND is taken. -/
def execDspBind (n : Fin 16) (s : State) : Out :=
  .next (s.dspTake n (fun op => op == 3) (fun e s =>
    let st := s.bindStatus n.val e
    (st, if st = dpOk then s.bindCore n.val e else s)))

/-- An UNBIND is taken. -/
def execDspUnbind (n : Fin 16) (s : State) : Out :=
  .next (s.dspTake n (fun op => op == 4) (fun e s =>
    let st := s.unbindStatus n.val e
    (st, if st = dpOk then s.unbindCore n.val (deCore e) (deColl e) else s)))

/-- DSP_CMD.DRAIN (R232). -/
def execDspDrain (n : Fin 16) (s : State) : Out :=
  if s.awake then .next (s.drainEngine (engDsp n.val)) else .next s

/-- Refuse every waiting entry of a dispatcher, ABORTED (R232, R464). -/
def State.forceDispatcher (s : State) (n : Fin 16) (cause : Nat) : State :=
  let l := s.waitingEntries (engDsp n.val)
  let s := l.foldl (fun s e => s.dspDone n e dpAborted) (s.clearQueues (engDsp n.val))
  (s.setHold (engDsp n.val) 2).forcedDisable (engDsp n.val) cause

/-- DSP_CMD.FORCE. -/
def execDspForce (n : Fin 16) (s : State) : Out := if s.awake then .next (s.forceDispatcher n 0) else .next s

/-- DSP_CMD.RESUME. -/
def execDspResume (n : Fin 16) (s : State) : Out :=
  if s.awake then .next (s.setHold (engDsp n.val) 0) else .next s

/-! ### The window store (R244) -/

/-- Copy cells from one byte store into another. -/
def copyCells (src dst : SMap Byte) (cells : List Nat) : SMap Byte :=
  cells.foldl (fun m c => (List.range 128).foldl (fun m b =>
    SMap.put 0 m (128 * c + b) (SMap.get 0 src (128 * c + b))) m) dst

/-- Cycles of a write-back of `d` dirty cells. -/
def writeBackCost (spill : Bool) (d : Nat) : Nat := ceilDiv d 2 * (if spill then 4 else 1)

/-- Write the dirty cells of a core's window back to their slot, if its chunk is still in ACCUM;
answers the cycles it takes. -/
def State.writeBack (s : State) (n c : Nat) : Nat × State :=
  let x := s.core n c
  match x.winKey with
  | none => (0, s)
  | some k =>
    let y := s.slot k
    let cells := x.dirty.map (fun p => p.1)
    if y.state ≠ 1 then (0, s)
    else
      let s := s.setSlot k { y with
        bytes := copyCells x.winBytes y.bytes cells
        written := cells.foldl (fun m c => SMap.put false m c true) y.written }
      (writeBackCost y.spill cells.length, s.setCore n c { x with dirty := [] })

/-! ### Descriptors (R216, R217) -/

/-- Descriptor word 0, as in MIL_DQHEAD0. -/
def Desc.word0 (d : Desc) : Word :=
  pack [(Fld.MIL_DQHEAD0_VALID, 1), (Fld.MIL_DQHEAD0_FIRST, b2n d.first), (Fld.MIL_DQHEAD0_SPILL, b2n d.spill),
    (Fld.MIL_DQHEAD0_CBIT, d.cbit), (Fld.MIL_DQHEAD0_COLL, d.coll.toNat), (Fld.MIL_DQHEAD0_ROUND, d.round.toNat),
    (Fld.MIL_DQHEAD0_PORT, d.port)]

/-- Descriptor word 1, as in MIL_DQHEAD1. -/
def Desc.word1 (d : Desc) : Word := BitVec.ofNat 64 (d.chunk.toNat * 2 ^ 40 + d.slot % 2 ^ 32)

/-- The slot of a descriptor's chunk. -/
def Desc.key (d : Desc) : Nat := slotKey d.coll.toNat d.round.toNat d.chunk.toNat

/-- Find a slot for a chunk bound to core `c` of cluster `n`: in the accumulator region of its bank,
else in SPILL; none when neither has room (R199). (DEDUCED, log entry 97) -/
def State.takeSlot (s : State) (n c : Nat) (d : Cx) : Option (Slot × State) :=
  let z := slotCells d
  let key := 96 * n + c
  match placeCells z (256 * s.fld (Reg.CL_BUF_CTL n) ⟨0, 4⟩) (s.takenRuns (some key)) with
  | some l => some ({ state := 1, runs := l, owner := key }, s)
  | none =>
    let s := s.raise (Reg.CL_RD_EVT n) 2 11 (srcReduction n)
    match placeCells z s.spillCells (s.takenRuns none) with
    | some l => some ({ state := 1, spill := true, runs := l, owner := key }, s)
    | none => none

/-- Put a contribution in the queue of its bound core. -/
def State.enqueueDesc (s : State) (n c b : Nat) (slot : Slot) (first : Bool) (h : Held) : State :=
  let f := h.f
  let k := slotKey f.coll.toNat f.round.toNat f.chunk.toNat
  let s := s.setSlot k { slot with queued := slot.queued ||| BitVec.ofNat 520 (2 ^ b) }
  let d : Desc := { first := first, spill := slot.spill, cbit := b, coll := f.coll, round := f.round, port := h.m.pin,
                    chunk := f.chunk, slot := slot.cell, h := h }
  let x := s.core n c
  let wake := if x.st = coGated ∧ x.wakeAt = none then some s.tick else x.wakeAt
  s.setCore n c { x with
    dq := x.dq ++ [d]
    wakeAt := wake }

/-- An event of a contribution that names no egress port: MTYPE 1 meets a free value there (R367). (DEDUCED, log
entry 45) -/
def State.millEvent (s : State) (n ev k : Nat) (f : Frame) : State :=
  let (w, s) := s.free
  s.count { ev := ev, n := k, cluster := some n, port := some (w.toNat % 1024), slot := s.slotOf f.job.toNat }

/-- A contribution in staging asks for a descriptor (R194, R199, R200, R216): a round that has faulted counts it in
its tally cluster. (DEDUCED, log entry 97) -/
def State.askDescriptor (s : State) (r : StageRef) (h : Held) : State :=
  let f := h.f
  let n := f.chunk.toNat % 16
  let d := s.cx f.coll.toNat
  let drop := fun (cause : Nat) => (s.unstage r).rdDrop n h cause
  match s.findRound f.coll f.round with
  | none => drop rdDup
  | some rk =>
    if (s.round rk).state = rsFaulted then (s.unstage r).rdDrop (tallyCluster f.coll.toNat) h rdFaulted
    else match s.boundCore n f.coll f.chunk.toNat, s.contribBit d h.m.pin with
      | some c, some b =>
        let x := s.core n c
        if x.st = coDisabled then drop rdUnbound
        else if x.st = coReset ∨ 64 ≤ x.dq.length ∨ s.clusterState n ≠ 0 then s
        else
          let k := slotKey f.coll.toNat f.round.toNat f.chunk.toNat
          let y := s.slot k
          if SMap.get false (s.round rk).done f.chunk.toNat || y.state == 3 || y.bitmap.getLsbD b || y.queued.getLsbD b then drop rdDup
          else if y.state ≠ 0 then (s.unstage r).enqueueDesc n c b y false h
          else match s.takeSlot n c d with
            | some (y, s) =>
              (((if y.spill then s.millEvent n 0x0D 1 f else s).unstage r).enqueueDesc n c b y true h)
            | none => ((s.unstage r).roundFaultUnmet rk rfNoSpill).rdDrop (tallyCluster f.coll.toNat) h rdFaulted
      | _, _ => drop rdUnbound

/-- A contribution gets a descriptor in its bound core's queue. -/
def execDescriptorEnqueue (r : StageRef) (s : State) : Out :=
  match s.stagedAt r with
  | none => .next s
  | some h => if s.awake ∧ h.f.kind = kContrib ∧ s.ownFrame h.f then .next (s.askDescriptor r h) else .next s

/-! ### Exceptions (R228 to R233) -/

/-- Exception codes. -/
def exIllegal : Nat := 1
def exWindow : Nat := 2
def exFormat : Nat := 3
def exResidue : Nat := 4
def exTally : Nat := 5
def exEmit : Nat := 6
def exSheaf : Nat := 7
def exHang : Nat := 8
def exPstore : Nat := 9
def exRegecc : Nat := 10
def exAborted : Nat := 11

/-- Cycles of the Mill clock in one event tick (R389). -/
def cyclesPerTick : Nat := 80

/-- The dispatcher's message about a core (R403). (DEDUCED, log entry 93) -/
def State.dspMail (s : State) (n c : Nat) (disabled : Bool) : State :=
  let w := (s.reg (Reg.MBX_DSPMBX n)).toNat
  if bitOf w 6 then
    (s.mbxPlace (w % 64) snDispatcher n
      [s.reg (Reg.MIL_EXC n c), s.reg (Reg.MIL_EXCX n c), BitVec.ofNat 64 (c + 256 * b2n disabled)]).2
  else s

/-- Exceptions of the last 24 h (MIL_FAULTS). (DEDUCED, log entry 93) -/
def State.millFaults (s : State) (n c : Nat) : List Nat := SMap.get [] s.watch.millFaults (96 * n + c)

/-- A core enters DISABLED: its event, message and record (R231). (DEDUCED, log entry 93) -/
def State.coreDisabled (s : State) (n c : Nat) : State :=
  let x := s.core n c
  let s := s.setCore n c { x with
    st := coDisabled
    wakeAt := none }
  let s := (s.raise (Reg.DSP_EVT n) 4 11 (srcDispatch n)).dspMail n c true
  s.faultRecord { unitType := utCore, unit := 96 * n + c, cause := s.fld (Reg.MIL_EXC n c) Fld.MIL_EXC_CODE,
                  action := 5, detail := s.reg (Reg.MIL_EXC n c) }

/-- The rounds that have a chunk bound to a core in ACCUM or EMIT. -/
def State.coreRounds (s : State) (n c : Nat) : List Nat :=
  ((s.red.slots.filter (fun p => p.2.owner == 96 * n + c && (p.2.state == 1 || p.2.state == 2))).filterMap
    (fun p => s.findRound (BitVec.ofNat 16 (slotColl p.1)) (BitVec.ofNat 16 (slotRound p.1)))).dedup

/-- The arithmetic counts of an invocation reach the tally cluster (R280). -/
def State.sendCounts (s : State) (n c : Nat) : State :=
  let x := s.core n c
  match x.desc with
  | none => s
  | some d => x.arith.foldl (fun s p => s.arCount d.coll.toNat p.1 p.2) s

/-- Core cycles in RUN of the invocation: MIL_CYC and event MILL_CYC (R366). (DEDUCED, log entry 92) -/
def State.runCycles (s : State) (n c k : Nat) : State :=
  let s := s.bump (Reg.MIL_CYC n c) k
  match (s.core n c).desc with
  | some d => s.millEvent n 0x0C k d.h.f
  | none => s

/-- The frame of the invocation's descriptor is no longer wanted: its cells return. (DEDUCED, log entry 93) -/
def State.dropCurrent (s : State) (n c : Nat) (t : Fate) : State :=
  let x := s.core n c
  match x.desc with
  | none => s
  | some d =>
    if x.owes then s.depart d.h { consumed := true }
    else if x.tallied then s
    else (s.returnCells d.h.m.pin d.h).depart d.h t

/-- A core that leaves its work: no descriptor, no invocation, the window dropped. -/
def Core.stopped (x : Core) (st : Nat) : Core :=
  { x.zero with
    st := st
    desc := none
    dq := []
    loops := []
    ftxGrn := false
    emitted := false
    tallied := false
    complete := false
    owes := false
    blocks := 0
    waitEv := none
    wakeAt := none
    arith := []
    tm := {} }

/-- A core whose invocation has ended: it goes on with the next descriptor or to IDLE, and a window that an FTX has
dropped is gone. -/
def Core.ended (x : Core) (tick : Nat) : Core :=
  let x := if x.dropAt.isSome then x.noWindow else x
  { x with
    st := if x.dq = [] then coIdle else coRun
    desc := none
    owes := false
    arith := []
    loops := []
    waitEv := none
    shadow := []
    dropAt := none
    idleAt := tick
    tm := {} }

/-- A descriptor leaves its core uncounted: its bit is no longer pending, and if it was its chunk's first the next one
of the chunk is, or the slot is free again. (DEDUCED, log entry 95) -/
def State.unpend (s : State) (n c : Nat) (d : Desc) : State :=
  let y := s.slot d.key
  let x := s.core n c
  let s' := s.setSlot d.key { y with queued := y.queued &&& ~~~(BitVec.ofNat 520 (2 ^ d.cbit)) }
  if y.state = 0 then s
  else if !d.first then s'
  else match x.dq.findIdx? (fun e => e.key == d.key) with
    | some i => s'.setCore n c { x with dq := x.dq.mapIdx (fun j e => if j = i then { e with first := true } else e) }
    | none => s.releaseSlot d.key

/-- The invocation ends on a Loft error in cycle `cyc`: the round of the slot has faulted, nothing more retires, and the
current descriptor is dropped (R245). (DEDUCED, log entry 95) -/
def State.loftEnd (s : State) (n c cyc : Nat) : State :=
  let x := s.core n c
  let s := (s.runCycles n c (cyc + 1 - x.tm.waited)).sendCounts n c
  let s := s.dropCurrent n c { discarded := true, cause := rdFaulted, cset := 2 }
  let s := match x.desc with
    | some d => if x.tallied then s else s.unpend n c d
    | none => s
  s.setCore n c ((s.core n c).ended s.tick)

/-- An exception of a core, in the order of R229: `major` is the failing instruction's opcode, `cyc`
the exception cycle, `disable` a forced disable. A reset or a disable of the core in the same event tick finds it taken
(R234, R476). (DEDUCED, log entry 93) -/
def State.exception (s : State) (n c code major cyc : Nat) (disable : Bool) : State :=
  let x := s.core n c
  let key := 96 * n + c
  let s := s.cut (cutCore n c)
  let coll := (x.desc.map (fun d => d.coll.toNat)).getD 0
  let s := if x.desc.isSome then (s.runCycles n c (cyc + 1 - x.tm.waited)).sendCounts n c else s
  let s := s.setReg (Reg.MIL_EXC n c) (pack [(Fld.MIL_EXC_CODE, code), (Fld.MIL_EXC_PC, x.pc), (Fld.MIL_EXC_COLL, coll),
    (Fld.MIL_EXC_ROUND, (x.desc.map (fun d => d.round.toNat)).getD 0)])
  let s := s.setReg (Reg.MIL_EXCX n c) (pack [(Fld.MIL_EXCX_MAJOR, major), (Fld.MIL_EXCX_CBIT, (x.desc.map (fun d => d.cbit)).getD 0),
    (Fld.MIL_EXCX_CHUNK, (x.desc.map (fun d => d.chunk.toNat)).getD 0)])
  let s := s.bump (Reg.DSP_EXCCNT n code) 1
  let s := if code = exResidue then (s.bump (Reg.MIL_RESERR n c) 1).score (1024 + key) 65536 else s
  let s := if code = exAborted then s
    else
      let l := s.window (s.millFaults n c) (secTicks 86400)
      (s.onWatch (fun w => { w with millFaults := SMap.put [] w.millFaults key l })).score (1024 + key) 65536
  let cls := if code = exHang then 8 else 11
  let off := disable || decide (max 1 (s.fld (Reg.DSP_CTL n) Fld.DSP_CTL_FAULTMAX)
    ≤ ((s.millFaults n c).filter (fun t => !s.since t (secTicks 86400))).length)
  let s := (s.raise (Reg.DSP_EVT n) 3 cls (srcDispatch n)).dspMail n c false
  let s := s.faultRecord
    { cls := cls, unitType := utCore, unit := key, cause := code, action := (if off then 5 else 1),
      detail := s.reg (Reg.MIL_EXC n c),
      slot := (x.desc.map (fun d => s.slotByte (cxJob (s.cx d.coll.toNat)))).getD 0xFF }
  let s := s.dropCurrent n c { discarded := true, cause := rdFaulted, cset := 2 }
  let s := (s.coreRounds n c).foldl (fun s k => s.roundFaultUnmet k (if code = exAborted then rfAborted else rfProgram)) s
  let s := (s.core n c).dq.foldl (fun s d => s.rdDrop n d.h rdFaulted) s
  let s := s.onGrn (fun g => { g with engines := g.engines.map (fun p =>
    (p.1, { p.2 with ftxWait := p.2.ftxWait.filter (fun w => w.1 != key) })) })
  let y := (s.core n c).stopped coReset
  let s := s.setCore n c { y with fresh := true }
  if off then s.coreDisabled n c else s.unitReset n

/-- The cycle of a core's invocation that now runs, seen from outside it. -/
def State.coreCycle (s : State) (x : Core) : Nat := max x.tm.issue ((s.tick - x.startAt) * cyclesPerTick)

/-- A write of DSP_CORECMD reaches a core. -/
def State.coreCmd (s : State) (n : Nat) : Bool := s.awake && s.clusterState n == 0

/-- DSP_CORECMD RESET: a unit reset with code ABORTED (R233); with an exception of the core in the same event tick, one
reset (R476). -/
def execCoreReset (n : Fin 16) (c : Fin 96) (s : State) : Out :=
  let x := s.core n.val c.val
  if s.coreCmd n.val ∧ x.st ≠ coDisabled ∧ !s.isCut (cutCore n.val c.val) then
    .next (s.exception n.val c.val exAborted 0 (s.coreCycle x) false)
  else .next s

/-- DSP_CORECMD DISABLE (R232); after an exception in the same event tick the core goes to DISABLED with that code
(R234). -/
def execCoreDisable (n : Fin 16) (c : Fin 96) (s : State) : Out :=
  let x := s.core n.val c.val
  if s.coreCmd n.val ∧ x.st ≠ coDisabled then
    if s.isCut (cutCore n.val c.val) then .next (s.coreDisabled n.val c.val)
    else .next (s.exception n.val c.val exAborted 0 (s.coreCycle x) true)
  else .next s

/-- DSP_CORECMD ENABLE: the self-check of a DISABLED core starts (R225). -/
def execCoreEnable (n : Fin 16) (c : Fin 96) (s : State) : Out :=
  let x := s.core n.val c.val
  if s.coreCmd n.val ∧ x.st = coDisabled then
    .next (s.setCore n.val c.val { x.zero with wakeAt := some s.tick })
  else .next s

/-- DSP_CORECMD INJECT (R281). -/
def execCoreInject (n : Fin 16) (c : Fin 96) (s : State) : Out :=
  let x := s.core n.val c.val
  if s.coreCmd n.val ∧ x.st ≠ coDisabled then .next (s.setCore n.val c.val { x with inject := true }) else .next s

/-- A core's self-check ends (R225, R231). (DESIGN CHOICE, log entry 122) -/
def execSelfCheckDone (n : Fin 16) (c : Fin 96) (pass : Bool) (s : State) : Out :=
  let x := s.core n.val c.val
  if !s.coreCmd n.val then .next s
  else if x.st = coReset ∨ (x.st = coDisabled ∧ x.wakeAt.isSome) then
    if pass then
      .next (s.setCore n.val c.val { x with
        st := coIdle
        wakeAt := none
        fresh := true
        idleAt := s.tick })
    else if x.st = coReset then .next (s.coreDisabled n.val c.val)
    else .next (s.setCore n.val c.val { x with wakeAt := none })
  else .next s

/-- A core woken by a descriptor reaches IDLE, its registers zero (R214, R225). (DEDUCED, log entry 98) -/
def execCoreWake (n : Fin 16) (c : Fin 96) (s : State) : Out :=
  let x := s.core n.val c.val
  if s.coreCmd n.val ∧ x.st = coGated ∧ x.wakeAt.isSome then
    .next (s.setCore n.val c.val { x.zero with
      st := coIdle
      wakeAt := none
      fresh := true
      idleAt := s.tick })
  else .next s

/-- A contribution asks for a descriptor of the core in this event tick. -/
def State.descriptorNow (s : State) (n c : Nat) : Bool :=
  s.alsoNow (fun i => match i with
    | .descriptorEnqueue r => (match s.stagedAt r with
      | some h => h.f.kind == kContrib && h.f.chunk.toNat % 16 == n && s.boundCore n h.f.coll h.f.chunk.toNat == some c
      | none => false)
    | _ => false)

/-- The slot that a write-back of the core's window would find in a bad word of SPILL (R245). -/
def State.backFails (s : State) (n c : Nat) (ue : Bool) : Option Slot :=
  let x := s.core n c
  match x.winKey with
  | some k => if ue && !x.dirty.isEmpty && (s.slot k).state == 1 && (s.slot k).spill then some (s.slot k) else none
  | none => none

/-- A write-back meets an uncorrectable Loft error: the slot's round faults SPILLUE (R245). (DEDUCED, log entry 95) -/
def State.backFault (s : State) (y : Slot) : State :=
  let (w, s) := s.free
  s.loftUe w.toNat (.spill y.cell)

/-- An IDLE core with no descriptor gates: IDLEGATE has passed, or it holds no binding (R225), and no contribution asks
for a descriptor of it in this event tick (R234); its dirty cells are written back first (R244), with a Loft error if
`ue` (R245). (DEDUCED, log entry 98; DESIGN CHOICE, log entry 133) -/
def execIdlegateExpiry (n : Fin 16) (w : WindowCore) (s : State) : Out :=
  let c := w.core
  let x := s.core n.val c.val
  let g := s.fld (Reg.DSP_CTL n.val) Fld.DSP_CTL_IDLEGATE
  if s.coreCmd n.val ∧ x.st = coIdle ∧ x.dq = [] ∧ !s.descriptorNow n.val c.val
      ∧ ((s.coreBinds n.val c.val).isEmpty ∨ (g ≠ 0 ∧ s.since x.idleAt (usTicks g))) then
    let s := match s.backFails n.val c.val w.ue with
      | some y => s.backFault y
      | none => (s.writeBack n.val c.val).2
    let y := s.core n.val c.val
    .next (s.setCore n.val c.val { y with st := coGated })
  else .next s

/-! ### Invocations (R214, R218, R243, R244) -/

/-- The registers that an invocation loads. -/
def Core.loadRegs (x : Core) (d : Desc) (cx : Cx) : Core :=
  let r := SMap.put 0 (SMap.put 0 x.sreg 1 d.word0) 2 d.word1
  { x with
    sreg := SMap.put 0 (SMap.put 0 r 3 (BitVec.ofNat 64 (cxElems cx))) 4 (BitVec.ofNat 64 (cxScale cx))
    p := SMap.put 0 x.p 0 (if d.first then BitVec.allOnes 256 else 0) }

/-- A descriptor's slot becomes the one the window holds; answers the cycles of the write-back. -/
def State.loadWindow (s : State) (n c : Nat) (d : Desc) : Nat × State :=
  if (s.core n c).winKey = some d.key then (0, s)
  else
    let (cost, s) := s.writeBack n c
    let x := s.core n c
    (cost, s.setCore n c { x with
      winKey := some d.key
      winFirst := d.first
      winBytes := []
      present := []
      dirty := [] })

/-- Begin the invocation of a descriptor; `ue` if a write-back of the window meets a Loft error. -/
def State.beginInvocation (s : State) (n c : Nat) (d : Desc) (ue : Bool) : State :=
  let cx := s.cx d.coll.toNat
  let bad := if (s.core n c).winKey = some d.key then none else s.backFails n c ue
  let (cost, s) := s.loadWindow n c d
  let x := (s.core n c).loadRegs d cx
  let late := if x.fresh ∨ x.lastProg ≠ some (cxProg cx) then 2 else 0
  let m := { d.h.m with dmstart := some s.nowHalf }
  let h := { d.h with m := m }
  let s := s.setCore n c { x with
    st := coRun
    dq := x.dq.tail
    desc := some { d with h := h }
    flags := 0
    flagAt := []
    gen := genSeed (cxSeed cx) d.round d.chunk
    blocks := 0
    tallied := false
    complete := false
    emitted := false
    ftxGrn := false
    waitEv := none
    loops := []
    arith := []
    pc := cxProg cx
    progBase := cxProg cx
    lastProg := some (cxProg cx)
    fresh := false
    startAt := s.tick
    tm := { issue := cost + late } }
  match bad with
  | some y => (s.backFault y).loftEnd n c cost
  | none => if (s.program n (cxProg cx)).isNone then s.exception n c exPstore 0 (cost + late) false else s

/-- A waiting descriptor starts an invocation. (DESIGN CHOICE, log entry 8) -/
def execInvocationStart (n : Fin 16) (w : WindowCore) (s : State) : Out :=
  let c := w.core
  let x := s.core n.val c.val
  if s.coreCmd n.val ∧ (x.st = coIdle ∨ (x.st = coRun ∧ x.desc = none)) then
    match x.dq with
    | [] => .next s
    | d :: _ => .next (s.beginInvocation n.val c.val d w.ue)
  else .next s

/-- The watchdog of an invocation, in cycles (R230). -/
def watchdogCycles : Nat := 2000000

/-- An invocation has not reached HALT within 1 ms (R230). -/
def execMillHang (n : Fin 16) (c : Fin 96) (s : State) : Out :=
  let x := s.core n.val c.val
  if s.coreCmd n.val ∧ x.desc.isSome ∧ s.since x.startAt (msTicks 1) then
    .next (s.exception n.val c.val exHang ((s.storeWord n.val x.pc).toNat / 2 ^ 56) watchdogCycles false)
  else .next s

/-! ### Cluster power (R226) -/

/-- A cluster may go dark. (DEDUCED, log entry 98) -/
def State.mayDarken (s : State) (n : Nat) : Bool :=
  (clusterPorts n).all (fun p => s.portState p == pDark
      && (List.range 8).all (fun v => (s.staged p v).isEmpty && s.charge p v == 0))
    && (s.bindings n).isEmpty
    && !s.red.rounds.any (fun r => r.1 / 256 == n && r.2.state != 0)
    && !s.tbl.entries.any (fun e => e.1 / 65536 == 2 && tallyCluster (e.1 % 65536) == n && cxValid e.2.data)
    && !s.red.slots.any (fun p => p.2.state != 0 && p.2.owner / 96 == n)

/-- A cluster that meets every condition goes dark. (DEDUCED, log entries 21 and 98) -/
def execClusterDark (n : Fin 16) (s : State) : Out :=
  if s.awake ∧ s.clusterState n.val = 0 ∧ s.mayDarken n.val then .next (s.setCluster n.val 1) else .next s

/-- The ports of a cluster that runs again leave DARK where they are enabled. -/
def State.portsBack (s : State) (n : Nat) : State :=
  let s := ((List.range 32).map (fun p => 32 * n + p)).foldl (fun s p => s.leaveDark p) s
  [2 * n, 2 * n + 1].foldl (fun s x => s.tryBringUp x) s

/-- A dark cluster has woken. -/
def execClusterAwake (n : Fin 16) (s : State) : Out :=
  if s.awake ∧ s.clusterState n.val = 3 then .next ((s.setCluster n.val 0).portsBack n.val) else .next s

/-! ### What the registers show -/

/-- MIL_STAT. -/
def State.milStat (s : State) (n c : Nat) : Word :=
  let x := s.core n c
  pack [(Fld.MIL_STAT_STATE, x.st), (Fld.MIL_STAT_NBIND, (s.coreBinds n c).length), (Fld.MIL_STAT_DQDEPTH, x.dq.length),
    (Fld.MIL_STAT_PC, x.pc)]

/-- DSP_STAT. (DEDUCED, log entry 123) -/
def State.dspStat (s : State) (n : Nat) : Word :=
  let k := s.clusterState n
  let boot := s.mode == stWatch || (match s.watch.run with
    | some _ => decide (s.fld Reg.WCH_BOOT Fld.WCH_BOOT_STEP < 4)
    | none => false)
  let cl := if boot then 0 else if k = 0 then 2 else if k = 1 then 0 else 1
  pack [(Fld.DSP_STAT_CLUSTER, cl), (Fld.DSP_STAT_BINDINGS, (s.bindings n).length),
    (Fld.DSP_STAT_AWAKE, ((List.range 96).filter (fun c => (s.core n c).st != coGated)).length)]

/-- DSP_BIND and DSP_BINDL. -/
def State.dspBindWord (s : State) (n b : Nat) : Word :=
  match SMap.get none s.mill.binds (1024 * n + b) with
  | some x => pack [(Fld.DSP_BIND_VALID, 1), (Fld.DSP_BIND_CORE, x.core), (Fld.DSP_BIND_COLL, x.coll.toNat),
      (Fld.DSP_BIND_FIRST, x.first)]
  | none => 0

def State.dspBindLast (s : State) (n b : Nat) : Word :=
  match SMap.get none s.mill.binds (1024 * n + b) with
  | some x => BitVec.ofNat 64 x.last
  | none => 0

/-- DSP_PSDIR. -/
def State.dspDir (s : State) (n d : Nat) : Word :=
  match SMap.get none s.mill.pdir (256 * n + d) with
  | some g => pack [(Fld.DSP_PSDIR_VALID, 1), (Fld.DSP_PSDIR_OWNER, g.owner), (Fld.DSP_PSDIR_BOUND, s.progUses n g.base),
      (Fld.DSP_PSDIR_LEN, g.len), (Fld.DSP_PSDIR_BASE, g.base)]
  | none => 0

/-- What DSP_PSDATA shows of a store index (R220). -/
def State.psWord (s : State) (n i : Nat) : Word :=
  match s.programAt n i with
  | some g => if g.owner ≠ 0 ∧ s.confidential (some (g.owner - 1)) then 0 else s.storeWord n i
  | none => s.storeWord n i

/-- A read of DSP_PSDATA (R219): DSP_PSADDR rises by 1. (DESIGN CHOICE, log entry 3) -/
def execPsdataRead (src : Source) (n : Fin 16) (s : State) : Out :=
  if s.mayRead src then
    let a := s.fld (Reg.DSP_PSADDR n.val) ⟨0, 15⟩
    if s.tenantSource src then .next (s.answer 0 1)
    else
    let s := s.answer (s.psWord n.val a) 0
    .next (s.setReg (Reg.DSP_PSADDR n.val) (BitVec.ofNat 64 ((a + 1) % 32768)))
  else .next s

end Sys2Proof.Machine
end

