-- ==== Sys2Proof/Machine/MillAlu.lean ====
section
/-! DEFINITION. What the arithmetic, block and sparse instructions compute from register groups
(R237 to R240, R251 to R254, R266 to R278), with the counts of R279. A group is the number whose
lowest 2,048 bits are its first register. -/

namespace Sys2Proof.Machine

/-- Element `i` is written: bit i mod n of the predicate, where n is the destination's count per
register (R239). -/
def kept (pe : Option (BitVec 256)) (fmt i : Nat) : Bool :=
  match pe with
  | none => true
  | some m => m.getLsbD (i % (2048 / elemWidth fmt))

/-- A group of `regs` registers of elements of width `w` with some elements replaced. -/
def putElems (w regs old : Nat) (new : List (Option Nat)) : Nat :=
  packElems w ((List.range (regs * 2048 / w)).map (fun i =>
    match new.getD i none with
    | some b => b
    | none => old / 2 ^ (w * i) % 2 ^ w))

/-- The elements that are kept, and the sum of their counts. -/
def keepElems (pe : Option (BitVec 256)) (fmt : Nat) (l : List (Nat × Arith)) : List (Option Nat) × Arith :=
  (l.mapIdx (fun i x => if kept pe fmt i then some x.1 else none),
   ((l.mapIdx (fun i x => if kept pe fmt i then x.2 else {})).foldl (fun a b => a.add b) {}))

/-- The values of source elements. -/
def plainValues (c n g : Nat) : List Num := (sourceValues c n g).map (fun p => p.1)

/-- An element's counts beside those of a source's decode, which adds to INF and OVERFLOW where a finite source has no
finite value; one element adds at most 1 to each (R267, R279). (DEDUCED, log entry 91) -/
def Arith.decoded (a d : Arith) : Arith :=
  { a with
    inf := max a.inf d.overflow
    invalid := max a.invalid d.invalid
    overflow := max a.overflow d.overflow }

/-- A binary32 result as bits. -/
def bits32 (r : Num × Arith) : Nat × Arith := (toF32 r.1, r.2)

/-- Signed elements. -/
def intElems (w n g : Nat) : List Int := (elemsOf w n g).map (toSigned w)

/-- VADD, VMAX and VMIN on binary32 values. -/
def f32Op (op : AluOp) (a b : Num) : Num × Arith :=
  if op = .vmax then f32Max a b
  else if op = .vmin then f32Min a b
  else f32Add a b

/-- VADD, VMAX and VMIN on integers. -/
def i32Op (op : AluOp) (a b : Int) : Nat × Arith :=
  if op = .vmax then (ofSigned 32 (max a b), {})
  else if op = .vmin then (ofSigned 32 (min a b), {})
  else
    let (v, c) := i32Add a b
    (ofSigned 32 v, c)

/-- VSCL on one element: the product in binary32, then the conversion to FA; both steps count.
(DEDUCED, log entry 91) -/
def sclOp (fa : Nat) (sat : Bool) (a s : Num) : Nat × Arith :=
  let (y, c) := f32Mul a s
  if fa = fFp32 then (toF32 y, c)
  else
    let (b, c') := convertElem fa sat none y
    (b, c.add c')

/-- The operands of an instruction of layout A: its modifiers, the destination group as it stands,
sources A and B, and the scalar of VSCL. -/
structure AluIn where
  op : AluOp
  fa : Nat
  fb : Nat
  c : Bool
  sat : Bool
  pe : Option (BitVec 256)
  ne : Nat
  gd : Nat
  ga : Nat
  gb : Nat
  sv : Num
  deriving DecidableEq, Repr

/-- Every element's result, before the predicate. (DEDUCED, log entry 91) -/
def AluIn.results (i : AluIn) (draws : List Nat) : List (Nat × Arith) :=
  match i.op with
  | .vadd | .vmax | .vmin =>
    if i.fa = fInt32 then
      List.zipWith (i32Op i.op) (intElems 32 i.ne i.ga) (if i.fb = fInt8s then intElems 8 i.ne i.gb else intElems 32 i.ne i.gb)
    else List.zipWith (fun a b =>
      let (y, c) := bits32 (f32Op i.op a b.1)
      (y, c.decoded b.2)) (plainValues fFp32 i.ne i.ga) (sourceValues i.fb i.ne i.gb)
  | .vfma =>
    List.zipWith (fun d p =>
      let (y, c) := bits32 (f32Fma d p.1.1 p.2.1)
      (y, (c.decoded p.1.2).decoded p.2.2)) (plainValues fFp32 i.ne i.gd)
      ((sourceValues i.fb i.ne i.ga).zip (sourceValues i.fb i.ne i.gb))
  | .vscl => (plainValues i.fa i.ne i.ga).map (fun a => sclOp i.fa i.sat a i.sv)
  | .vcast => (sourceValues i.fb i.ne i.ga).map (fun p =>
      let (b, c) := convertElem i.fa i.sat none p.1
      (b, c.add p.2))
  | .vsrnd => (sourceValues i.fb i.ne i.ga).mapIdx (fun k p =>
      let (b, c) := convertElem i.fa i.sat (some (draws.getD k 0)) p.1
      (b, c.add p.2))

/-- VCAST or VSRND to INT8S: the scale of all NE elements, and the image (R269). -/
def AluIn.int8s (i : AluIn) (draws : List Nat) : Nat × Arith :=
  let xs := sourceValues i.fb i.ne i.ga
  let sc := int8sScaleOf (xs.map (fun p => p.1))
  let els := xs.mapIdx (fun k p =>
    let (b, c) := int8sElem sc (if i.op = .vsrnd then some (draws.getD k 0) else none) p.1
    (b, c.add p.2))
  let (new, cnt) := keepElems i.pe fInt8s els
  let body := packElems 8 (new.mapIdx (fun k b => b.getD (i.gd / 2 ^ (8 * k) % 256)))
  (body + int8sScaleBits sc * 2 ^ (8 * i.ne), cnt)

/-- VADD with C = 1 on pair groups (R252, R271). -/
def AluIn.pairs (i : AluIn) : Nat × Arith :=
  let r := ceilDiv i.ne 64
  let rs := List.zipWith (fun se x =>
      let (t, e, c) := pairAdd se.1 se.2 x.1
      (t, e, c.decoded x.2))
    ((plainValues fFp32 i.ne i.ga).zip (plainValues fFp32 i.ne (i.ga / 2 ^ (2048 * r)))) (sourceValues i.fb i.ne i.gb)
  let (sums, cnt) := keepElems i.pe fFp32 (rs.map (fun p => (toF32 p.1, p.2.2)))
  let (terms, _) := keepElems i.pe fFp32 (rs.map (fun p => (toF32 p.2.1, {})))
  (putElems 32 r i.gd sums + putElems 32 r (i.gd / 2 ^ (2048 * r)) terms * 2 ^ (2048 * r), cnt)

/-- The destination group of an instruction of layout A, its counts and the generator after it. -/
def AluIn.run (i : AluIn) (gen : BitVec 32) : Nat × Arith × BitVec 32 :=
  let (draws, gen) := if i.op = .vsrnd then genDraws i.ne gen else ([], gen)
  if i.c then
    let (g, a) := i.pairs
    (g, a, gen)
  else if i.fa = fInt8s then
    let (g, a) := i.int8s draws
    (g, a, gen)
  else
    let (new, cnt) := keepElems i.pe i.fa (i.results draws)
    (putElems (elemWidth i.fa) (groupRegs i.fa i.ne) i.gd new, cnt, gen)

/-- VMXD (R253, R267). -/
def mxdRun (fa fb ne gd ga : Nat) : Nat × Arith :=
  let els := (mxDecode fb ne ga).map (fun p =>
    let (b, c) := convertElem fa false none p.1
    (b, c.add { overflow := p.2.overflow }))
  let (new, cnt) := keepElems none fa els
  (putElems (elemWidth fa) (groupRegs fa ne) gd new, cnt)

/-- VMXE (R253, R268). -/
def mxeRun (fa ne : Nat) (stochastic : Bool) (ga : Nat) (gen : BitVec 32) : Nat × Arith × BitVec 32 :=
  let (draws, gen) := if stochastic then genDraws ne gen else ([], gen)
  let (g, a) := mxEncode fa (plainValues fFp32 ne ga) (if stochastic then some draws else none)
  (g, a, gen)

/-! ### Payloads (R249, R250, R264) -/

/-- A 256-byte block of a payload as a register: an image byte by byte, or elements of `w` bits most
significant byte first. -/
def blockReg (payload : List Byte) (image : Bool) (w k : Nat) : Nat :=
  let b := sliceBytes payload (256 * k) 256
  if image || w ≤ 8 then packBytes b
  else packElems w ((List.range (2048 / w)).map (fun i => natAt b (w / 8 * i) (w / 8)))

/-- The payload of `n` elements of a format in a register group. -/
def emitBytes (fmt n g : Nat) : List Byte :=
  if isMx fmt || fmt == fInt8s then imageBytes (payloadLen fmt n) g
  else (elemsOf (elemWidth fmt) n g).flatMap (fun b => beBytes (elemWidth fmt / 8) b)

/-- The values that the Granary engine receives: fp32, or pairs summed exactly and rounded once (R295). -/
def streamValues (fmt n g : Nat) : List (BitVec 32) :=
  if fmt = fFp32c then
    List.zipWith (fun a b => BitVec.ofNat 32 (toF32 ((f32 a).add (f32 b)))) (elemsOf 32 n g)
      (elemsOf 32 n (g / 2 ^ (2048 * ceilDiv n 64)))
  else (elemsOf 32 n g).map (BitVec.ofNat 32)

end Sys2Proof.Machine
end

