-- ==== Sys2Proof/Machine/MillRun.lean ====
section
/-! DEFINITION. The Mill instructions as they run (R235 to R259): when each issues and retires, the
exceptions it raises in the order of R258, and its effect. -/

namespace Sys2Proof.Machine

/-! ### Registers -/

/-- A scalar register; s0 reads 0 (R213). -/
def Core.s (x : Core) (b : BitVec 8) : Word := if b.toNat % 64 = 0 then 0 else SMap.get 0 x.sreg (b.toNat % 64)

/-- Write the scalar register that a byte names; s0 and no register take nothing. -/
def Core.setS (x : Core) (b : BitVec 8) (w : Word) : Core :=
  if isS b ∧ b.toNat % 64 ≠ 0 then { x with sreg := SMap.put 0 x.sreg (b.toNat % 64) w } else x

def Core.pred (x : Core) (b : Nat) : BitVec 256 := SMap.get 0 x.p (b % 64)
def Core.setPred (x : Core) (b : Nat) (w : BitVec 256) : Core := { x with p := SMap.put 0 x.p (b % 64) w }

/-- A group of `n` vector registers as one number, the first lowest. -/
def Core.group (x : Core) (b : BitVec 8) (n : Nat) : Nat :=
  (List.range n).foldr (fun i a => a * 2 ^ 2048 + (SMap.get 0 x.v (b.toNat % 64 + i)).toNat) 0

/-- Write a group. -/
def Core.setGroup (x : Core) (b : BitVec 8) (n g : Nat) : Core :=
  { x with v := (List.range n).foldl (fun m i =>
      SMap.put 0 m (b.toNat % 64 + i) (BitVec.ofNat 2048 (g / 2 ^ (2048 * i)))) x.v }

/-- Add an instruction's arithmetic counts (R279, R280). -/
def Core.addArith (x : Core) (a : Arith) : Core :=
  { x with arith := (List.range 7).foldl (fun m i => SMap.put 0 m i (SMap.get 0 m i + a.list.getD i 0)) x.arith }

/-- A free vector register. (DESIGN CHOICE, log entry 2) -/
def State.freeVec (s : State) : BitVec 2048 × State := (Config.freeVector s.freeCtr, { s with freeCtr := s.freeCtr + 1 })

/-- Give a core a group of free contents. (DESIGN CHOICE, log entry 2; DEDUCED, log entry 95) -/
def State.freeGroup (s : State) (n c : Nat) (b : BitVec 8) (k : Nat) : State :=
  (List.range k).foldl (fun s i =>
    let (w, s) := s.freeVec
    s.setCore n c ((s.core n c).setGroup (BitVec.ofNat 8 (b.toNat + i)) 1 w.toNat)) s

/-- Give the instruction's counts free values. (DEDUCED, log entry 95) -/
def State.freeCounts (s : State) (n c : Nat) : State :=
  (List.range 7).foldl (fun s i =>
    let (w, s) := s.free
    let x := s.core n c
    s.setCore n c { x with arith := SMap.put 0 x.arith i (SMap.get 0 x.arith i + w.toNat) }) s

/-! ### An instruction about to act -/

/-- An instruction with its core, operand environment and times (R241): its issue cycle, its start,
the latest done of its producers plus 1, and the retirement of the instruction before it. -/
structure Prep where
  n : Nat
  c : Nat
  x : Core
  d : Desc
  cx : Cx
  i : MInstr
  env : MEnv
  e : MillErr
  t : Nat
  start : Nat
  prod : Nat
  last : Nat
  deriving DecidableEq, Repr

/-- Key of a register in the timing record. -/
def regKey (r : MReg) : Nat := 64 * r.1 + r.2

/-- The core's next instruction. (DEDUCED, log entry 92; DESIGN CHOICE, log entry 128) -/
def State.prep (s : State) (n c : Nat) (d : Desc) (i : MInstr) (e : MillErr) : Prep :=
  let x := s.core n c
  let cx := s.cx d.coll.toNat
  let ne := match i.neField with
    | some 0 => (x.s 67).toNat
    | some k => k
    | none => 0
  let env : MEnv := { ne := ne, plen := d.h.f.plen.toNat, k := if cxOp cx = opTopk then cxK cx else 0 }
  let reads := (i.reads env).map regKey
  let frx := match i with
    | .tally _ _ => true
    | _ => false
  let first := max ((reads.map (fun k => SMap.get 0 x.tm.first k)).foldl max 0) (if frx then x.tm.frxFirst else 0)
  let prod := max ((reads.map (fun k => SMap.get 0 x.tm.done k)).foldl max 0) (if frx then x.tm.frxDone else 0)
  { n := n
    c := c
    x := x
    d := d
    cx := cx
    i := i
    env := env
    e := e
    t := x.tm.issue
    start := max (max x.tm.issue (SMap.get 0 x.tm.units i.unit)) first
    prod := prod
    last := x.tm.retired - 1 }

/-- done(I) of R241. (DEDUCED, log entry 92) -/
def Prep.done (p : Prep) : Nat :=
  max (p.start + p.i.latency + p.i.occupancy p.env - 1) (if p.prod = 0 then 0 else p.prod - 1 + p.i.latency)

/-- The cycle in which the instruction retires, and takes every exception but PSTORE and ILLEGAL.
(DEDUCED, log entry 92) -/
def Prep.at (p : Prep) : Nat := max p.done p.last

/-- The cycle of PSTORE and ILLEGAL (R258). (DEDUCED, log entry 92) -/
def Prep.early (p : Prep) : Nat := max p.t p.last

/-- The major opcode. -/
def MInstr.major (i : MInstr) : Nat := (encodeMill i).toNat / 2 ^ 56

/-- An exception of this instruction. (DEDUCED, log entry 94) -/
def Prep.exc (p : Prep) (s : State) (code cyc : Nat) : State := s.exception p.n p.c code p.i.major cyc false

/-! ### Going on to the next instruction -/

/-- Half issue rate (R390, R491). (DEDUCED, log entry 92) -/
def State.throttled (s : State) (n : Nat) : Bool :=
  bitOf (s.fld Reg.WCH_THSTAT Fld.WCH_THSTAT_THROTTLE) n || s.watch.pcap

/-- The index after `pc`, back to the first of a body that `pc` ends while passes are left (R247).
(DEDUCED, log entry 94) -/
def loopBack (pc : Nat) : List LoopLevel → Nat × List LoopLevel
  | [] => (pc + 1, [])
  | l :: ls =>
    if l.last = pc then
      if 1 < l.left then (l.first, { l with left := l.left - 1 } :: ls) else loopBack pc ls
    else (pc + 1, l :: ls)

/-- How an instruction ends: its first result and its done cycle, its retirement, the cycle from
which its results are usable at retirement (R242), and where the core goes on. -/
structure Ends where
  first : Nat
  done : Nat
  unit : Nat
  ret : Nat
  late : Bool
  next : Nat
  pc : Nat
  loops : List LoopLevel
  deriving DecidableEq, Repr

/-- The usual end. -/
def Prep.ends (p : Prep) : Ends :=
  let (pc, loops) := loopBack p.x.pc p.x.loops
  { first := p.start + p.i.latency, done := p.done, unit := p.done, ret := p.at, late := false, next := p.t + 1,
    pc := pc, loops := loops }

/-- A later time of some registers: every earlier writer of a register is a producer (R241). -/
def latest (m : SMap Nat) (keys : List Nat) (t : Nat) : SMap Nat :=
  keys.foldl (fun m k => SMap.put 0 m k (max (SMap.get 0 m k) t)) m

/-- The instruction has retired: its times are kept and the core goes on. (DESIGN CHOICE, log entry 128) -/
def Prep.finish (p : Prep) (s : State) (e : Ends) : State :=
  let x := s.core p.n p.c
  let keys := ((p.i.writes p.env).map regKey).filter (fun k => k != 64)
  let first := if e.late then e.ret + 1 else e.first
  let isFrx := match p.i with
    | .frx _ _ _ _ _ => true
    | _ => false
  let tm := x.tm
  let tm := { tm with
    issue := max e.next (p.t + (if s.throttled p.n then 2 else 1))
    units := SMap.put 0 tm.units p.i.unit (e.unit + 1)
    first := latest tm.first keys first
    done := latest tm.done keys (e.done + 1)
    retired := e.ret + 1
    frxFirst := if isFrx then max e.first tm.frxFirst else tm.frxFirst
    frxDone := if isFrx then max (e.done + 1) tm.frxDone else tm.frxDone }
  s.setCore p.n p.c { x with
    pc := e.pc
    loops := e.loops
    tm := tm }

/-- The usual end, with results usable after retirement. -/
def Prep.finishLate (p : Prep) (s : State) : State :=
  let e := p.ends
  p.finish s { e with late := true, done := e.ret }

/-! ### Checks before the effect (R258) -/

/-- The program whose run the core is in, if its pc lies in it. -/
def State.inRun (s : State) (n : Nat) (x : Core) (pc : Nat) : Bool :=
  match s.program n x.progBase with
  | some g => decide (g.base ≤ pc ∧ pc < g.base + g.len)
  | none => false

/-- The condition of BR and HALT (R246). -/
def Core.cond (x : Core) (cond : BitVec 4) (a : BitVec 8) (bit : BitVec 6) : Bool :=
  if cond = 0 then true
  else if cond = 1 then x.pred a.toNat == BitVec.allOnes 256
  else if cond = 2 then x.pred a.toNat != 0
  else if cond = 3 then x.pred a.toNat == 0
  else if cond = 4 then (x.s a).getLsbD bit.toNat
  else !(x.s a).getLsbD bit.toNat

/-- The instruction at a store index; an index past the store reads 0x0, as one never written does (R236). (DEDUCED,
log entry 30) -/
def State.fetch (s : State) (n pc : Nat) : Word := if pc < 32768 then s.storeWord n pc else 0

/-- PSTORE of the word of a BR or LOOP, whether or not the rest of it is well encoded: PSTORE comes first (R246, R247,
R258). (DEDUCED, log entry 94) -/
def State.pstoreWord (s : State) (n : Nat) (x : Core) (w : Word) : Bool :=
  let a := w.extractLsb' 40 8
  let cond := w.extractLsb' 28 4
  if w.toNat / 2 ^ 56 = 0x01 then
    (cond == 0 || (decide (1 ≤ cond ∧ cond ≤ 3) && isP a) || (decide (4 ≤ cond ∧ cond ≤ 5) && isS a))
      && x.cond cond a (w.extractLsb' 16 6) && !s.inRun n x (w.toNat % 2 ^ 15)
  else if w.toNat / 2 ^ 56 = 0x02 then w.toNat % 4096 != 0 && !s.inRun n x (x.pc + w.toNat % 4096)
  else false

/-- Two groups share a register. -/
def groupsMeet (a m b n : Nat) : Bool := decide (a < b + n ∧ b < a + m)

/-- ILLEGAL beyond the encoding: a count outside 1 to 8,192, a group past v63, a fifth loop level, a
VTKM destination that overlaps vA (R237, R239, R247, R254). -/
def Prep.illegal (p : Prep) : Bool :=
  (p.i.neField.isSome && !decide (1 ≤ p.env.ne ∧ p.env.ne ≤ 8192))
    || ((p.i.reads p.env) ++ (p.i.writes p.env)).any (fun r => r.1 == 0 && decide (63 < r.2))
    || (match p.i with
      | .loop _ _ _ => decide (4 ≤ p.x.loops.length)
      | .vtkm d a _ => groupsMeet (d.toNat % 64) (pairRegs p.env.k) (a.toNat % 64) (pairRegs p.env.k)
      | _ => false)

/-- More pairs are valid in the registers of a list than K (R254). -/
def Prep.listLong (p : Prep) (a : BitVec 8) : Bool :=
  let g := p.x.group a (pairRegs p.env.k)
  decide (p.env.k < ((List.range (32 * pairRegs p.env.k)).filter (fun i => bitOf (g / 2 ^ (64 * i)) 7)).length)

/-- A format that the context does not name (R240), or a list of more than K pairs (R254). -/
def Prep.format (p : Prep) : Bool :=
  let bad := fun (f : Nat) => f != fFp32 && f != cxEfmt p.cx && f != cxAfmt p.cx && f != cxOfmt p.cx
  match p.i with
  | .alu _ _ _ _ fa fb _ _ _ _ _ => bad fa.toNat || bad fb.toNat
  | .vmxd _ _ fa fb _ _ => bad fa.toNat || bad fb.toNat
  | .vmxe _ _ fa fb _ _ => bad fa.toNat || bad fb.toNat
  | .vtkm _ a b => p.listLong a || p.listLong b
  | _ => false

/-- A residue error falls on this instruction (R227). -/
def Prep.residue (p : Prep) : Bool := p.e == .residue || p.e == .residueLoft

/-- RESIDUE. A SPILL fill that meets a Loft error with it ends nothing; the error is counted (R259). (DEDUCED, log
entry 95) -/
def Prep.residueExc (p : Prep) (s : State) : State :=
  let y := s.slot p.d.key
  let s := p.exc s exResidue p.at
  if p.e = .residueLoft ∧ y.spill then s.backFault y else s

/-- The instruction issues on a unit that carries the injected residue error (R281). -/
def MInstr.checked (i : MInstr) : Bool := i.unit == 4 || i.unit == 5

/-- An armed injection falls on the next instruction of the VEC or TAL unit, whatever else that instruction meets, and is
used up (R281). (DEDUCED, log entry 93) -/
def State.takeInject (s : State) (n c : Nat) (i : MInstr) (e : MillErr) : MillErr × State :=
  let x := s.core n c
  if x.inject ∧ i.checked then (if e = .none then .residue else e, s.setCore n c { x with inject := false }) else (e, s)

/-- The next instruction of a core, if the major opcode is one of `mine`: the checks that every
instruction shares, then `run`. A reserved opcode is taken by BR. No instruction but a HALT retires in the watchdog's cycle
or after it (R230, R259). (DEDUCED, log entries 21, 30 and 94; DESIGN CHOICE, log entry 128) -/
def State.millRow (s : State) (n : Fin 16) (c : Fin 96) (e : MillErr) (mine : Nat) (run : Prep → State → State) : State :=
  let x := s.core n.val c.val
  match x.desc with
  | none => s
  | some d =>
    if s.coreCmd n.val ∧ x.st = coRun ∧ !x.ftxGrn then
      let w := s.fetch n.val x.pc
      let m := w.toNat / 2 ^ 56
      let early := max x.tm.issue (x.tm.retired - 1)
      if (if reservedMajor w then 0x01 else m) ≠ mine then s
      else if watchdogCycles < early ∨ (early = watchdogCycles ∧ m ≠ 0x05) then
        s.exception n.val c.val exHang m watchdogCycles false
      else if e = .storeEcc then s.exception n.val c.val exPstore 0 early false
      else if s.pstoreWord n.val x w then s.exception n.val c.val exPstore m early false
      else match decodeMill w with
        | none => s.exception n.val c.val exIllegal m early false
        | some i =>
          let (e, s) := s.takeInject n.val c.val i e
          let p := s.prep n.val c.val d i e
          let ecc := e == .regEcc && !((i.reads p.env) ++ (i.writes p.env)).isEmpty
          if p.illegal then p.exc s exIllegal p.early
          else if watchdogCycles ≤ p.at ∧ (m ≠ 0x05 ∨ ecc) then p.exc s exHang watchdogCycles
          else if ecc then p.exc s exRegecc p.at
          else if p.format then p.exc s exFormat p.at
          else run p s
    else s

/-! ### Control (R246 to R248) -/

def runBr (p : Prep) (s : State) : State :=
  match p.i with
  | .br a cond bit target =>
    let e := p.ends
    if p.x.cond cond a bit then
      p.finish s { e with
        next := p.start + 2
        pc := target.toNat
        loops := p.x.loops.dropWhile (fun l => !decide (l.first ≤ target.toNat ∧ target.toNat ≤ l.last)) }
    else p.finish s { e with next := p.start + 1 }
  | _ => s

/-- BR. (DEDUCED, log entry 30) -/
def execBr (n : Fin 16) (c : Fin 96) (e : MillErr) (s : State) : Out := .next (s.millRow n c e 0x01 runBr)

/-- DEDUCED, log entry 94. -/
def runLoop (p : Prep) (s : State) : State :=
  match p.i with
  | .loop a count body =>
    let k := if count = 0 then (p.x.s a).toNat % 4096 else count.toNat
    let e := p.ends
    if k = 0 ∨ body = 0 then
      let (pc, loops) := loopBack (p.x.pc + body.toNat) p.x.loops
      p.finish s { e with
        pc := pc
        loops := loops }
    else
      p.finish s { e with
        pc := p.x.pc + 1
        loops := { first := p.x.pc + 1, last := p.x.pc + body.toNat, left := k } :: p.x.loops }
  | _ => s

/-- LOOP. -/
def execLoop (n : Fin 16) (c : Fin 96) (e : MillErr) (s : State) : Out := .next (s.millRow n c e 0x02 runLoop)

/-- A cycle of the core's invocation, counted from the module's start. -/
def Core.abs (x : Core) (t : Nat) : Nat := cyclesPerTick * x.startAt + t

/-- The event flags that have been set by a cycle of the invocation. -/
def Core.flagsBy (x : Core) (t : Nat) : BitVec 8 :=
  (List.range 8).foldl (fun (b : BitVec 8) i =>
    if x.flags.getLsbD i ∧ SMap.get 0 x.flagAt i ≤ x.abs t then b ||| BitVec.ofNat 8 (2 ^ i) else b) 0

/-- The first cycle of the invocation in which a flag of the mask that is set stood. -/
def Core.flagCycle (x : Core) (mask : BitVec 8) : Nat :=
  ((List.range 8).filter (fun i => (x.flags &&& mask).getLsbD i)).foldl
    (fun m i => min m (SMap.get 0 x.flagAt i - x.abs 0)) watchdogCycles

/-- The event of a WAIT has come. -/
def State.waitMet (s : State) (n c : Nat) (ev : BitVec 4) (mask : BitVec 8) : Bool :=
  if ev = 0 then (s.core n c).flags &&& mask != 0
  else if ev = 1 then true
  else (s.source (qMill n c)).isEmpty

/-- WAIT retires in cycle `cyc` or with the instruction before it; FLAG writes and clears the flags.
(DEDUCED, log entry 92) -/
def Prep.waitEnd (p : Prep) (s : State) (d : BitVec 8) (ev : BitVec 4) (mask : BitVec 8) (cyc : Nat) : State :=
  let ret := max cyc p.last
  let x := s.core p.n p.c
  let got := x.flagsBy cyc &&& mask
  let x := if ev = 0 then { (x.setS d (got.setWidth 64)) with flags := x.flags &&& ~~~got } else x
  let tm := { x.tm with waited := x.tm.waited + (cyc - (p.start + 1)) }
  let s := s.setCore p.n p.c { x with
    st := coRun
    waitEv := none
    tm := tm }
  let e := p.ends
  p.finish s { e with
    done := ret
    unit := ret
    ret := ret
    late := true
    next := max (p.t + 1) ret }

/-- The cycle in which a WAIT whose event has come ends: FLAG with the flag, EMITQ no earlier than `now`. (DEDUCED, log
entry 92) -/
def Prep.waitCycle (p : Prep) (s : State) (ev : BitVec 4) (mask : BitVec 8) (now : Nat) : Nat :=
  if ev = 0 then max (p.start + 1) ((s.core p.n p.c).flagCycle mask)
  else if ev = 1 then max p.start p.last + 1
  else max (p.start + 1) now

/-- WAIT ends in a cycle, unless the watchdog's comes first (R259). -/
def Prep.waitDone (p : Prep) (s : State) (d : BitVec 8) (ev : BitVec 4) (mask : BitVec 8) (cyc : Nat) : State :=
  if watchdogCycles ≤ cyc then p.exc s exHang watchdogCycles else p.waitEnd s d ev mask cyc

/-- DEDUCED, log entry 92. -/
def runWait (p : Prep) (s : State) : State :=
  match p.i with
  | .wait d ev mask =>
    if s.waitMet p.n p.c ev mask then p.waitDone s d ev mask (p.waitCycle s ev mask 0)
    else
      s.setCore p.n p.c { p.x with
        st := coWait
        waitEv := some (ev.toNat, mask, none) }
  | _ => s

/-- WAIT. -/
def execWait (n : Fin 16) (c : Fin 96) (e : MillErr) (s : State) : Out := .next (s.millRow n c e 0x03 runWait)

/-- The event of a core in WAIT has come: WAIT retires, or HANG wins in the watchdog's cycle (R259). -/
def execWaitSatisfied (n : Fin 16) (c : Fin 96) (s : State) : Out :=
  let x := s.core n.val c.val
  match x.desc, decodeMill (s.fetch n.val x.pc) with
  | some d, some i =>
    (match i with
    | .wait r ev mask =>
      if s.coreCmd n.val ∧ x.st = coWait ∧ s.waitMet n.val c.val ev mask then
        let p := s.prep n.val c.val d i .none
        .next (p.waitDone s r ev mask (p.waitCycle s ev mask (s.coreCycle x)))
      else .next s
    | _ => .next s)
  | _, _ => .next s

def runSig (p : Prep) (s : State) : State :=
  match p.i with
  | .sig a core mask =>
    let k := if core = 0x7F then (p.x.s a).toNat % 128 else core.toNat
    let f : Flight := { n := p.n, core := k, mask := mask, slot := s.collSlot p.d.coll, due := p.x.abs (p.at + 4) }
    p.finish (s.onMill (fun m => { m with flights := m.flights ++ [f] })) p.ends
  | _ => s

/-- SIG. -/
def execSig (n : Fin 16) (c : Fin 96) (e : MillErr) (s : State) : Out := .next (s.millRow n c e 0x04 runSig)

/-- The first of the flags under way in cluster `n`. -/
def State.nextFlight (s : State) (n : Nat) : Option Flight :=
  (s.mill.flights.filter (fun f => f.n == n)).foldl (fun (b : Option Flight) f => match b with
    | some g => if f.due < g.due then some f else some g
    | none => some f) none

/-- Flags reach a core in their cycle. -/
def Core.setFlags (x : Core) (mask : BitVec 8) (due : Nat) : Core :=
  { x with
    flags := x.flags ||| mask
    flagAt := (List.range 8).foldl (fun m i =>
      if mask.getLsbD i then SMap.put 0 m i (if x.flags.getLsbD i then min (SMap.get 0 m i) due else due) else m) x.flagAt }

/-- The first flags under way in cluster `n` arrive, or are discarded; those due by the start of the target's invocation
are zeroed there. (DEDUCED, log entry 94) -/
def execSigArrive (n : Fin 16) (s : State) : Out :=
  match s.nextFlight n.val with
  | none => .next s
  | some f =>
    if !s.awake then .next s else
    let s := s.onMill (fun m => { m with flights := m.flights.erase f })
    let x := s.core n.val f.core
    if f.core < 96 ∧ s.coreCmd n.val ∧ (x.st = coIdle ∨ x.st = coRun ∨ x.st = coWait)
        ∧ (s.coreBinds n.val f.core).any (fun b => s.collSlot b.coll == f.slot) ∧ !(x.desc.isSome ∧ f.due ≤ x.abs 0) then
      .next (s.setCore n.val f.core (x.setFlags f.mask f.due))
    else .next s

/-- The invocation ends: its counts, its frame and its core (R218). -/
def State.endInvocation (s : State) (n c ret : Nat) : State :=
  let x := s.core n c
  let s := (s.bump (Reg.MIL_INV n c) 1).runCycles n c (ret + 1 - x.tm.waited)
  let s := (s.sendCounts n c).dropCurrent n c { consumed := true }
  let s := match x.desc with
    | some d => if x.tallied then s else s.unpend n c d
    | none => s
  s.setCore n c ((s.core n c).ended s.tick)

def runHalt (p : Prep) (s : State) : State :=
  match p.i with
  | .halt a cond bit =>
    let ret := max p.start (if p.x.tm.retired = 0 then 0 else p.last + 1)
    if p.x.cond cond a bit then
      if watchdogCycles < ret then p.exc s exHang watchdogCycles else s.endInvocation p.n p.c ret
    else
      let e := p.ends
      p.finish s { e with
        done := ret
        ret := ret
        next := p.start + 1 }
  | _ => s

/-- HALT. -/
def execHalt (n : Fin 16) (c : Fin 96) (e : MillErr) (s : State) : Out := .next (s.millRow n c e 0x05 runHalt)

/-! ### The window as an access finds it (R242, R244) -/

/-- The window at the start of an access: an FTX that has retired before has dropped it. -/
def Core.atStart (x : Core) (t : Nat) : Core :=
  match x.dropAt with
  | some r => if r < t then { x.noWindow with dropAt := none } else x
  | none => x

/-- The slot at the start of an access: as it stood before the first TALLY or FTX that retires later. -/
def Core.slotAt (x : Core) (t : Nat) (now : Slot) : Slot :=
  ((x.shadow.find? (fun e => decide (t ≤ e.1))).map (fun e => e.2)).getD now

/-! ### FRX (R249) -/

/-- The payload is placed as an image. -/
def cxImage (d : Cx) : Bool := cxOp d == opTopk || isMx (cxEfmt d) || cxEfmt d == fInt8s

/-- Bytes written into whole cells of the window: the cells are present and dirty (R244). -/
def Core.store (x : Core) (len cell : Nat) (bytes : List Byte) : Core :=
  let mark := fun (m : SMap Bool) => (List.range (len / 128)).foldl (fun m k => SMap.put false m (cell + k) true) m
  { x with
    winBytes := (List.range len).foldl (fun m b => SMap.put 0 m (128 * cell + b) (bytes.getD b 0)) x.winBytes
    present := mark x.present
    dirty := mark x.dirty }

def runFrx (p : Prep) (s : State) : State :=
  match p.i with
  | .frx d w nr off cell =>
    let pl := p.d.h.f.payload
    let o := off.toNat
    let nb := frxBlocks nr.toNat o p.env.plen
    let taken := (List.range nb).foldl (fun (b : BitVec 16) k => b ||| BitVec.ofNat 16 (2 ^ (o + k))) p.x.blocks
    if w = 1 then
      if nb ≠ 0 ∧ (cell = 0 ∨ slotCells p.cx < cell.toNat + 2 * nb) then p.exc s exWindow p.at
      else
        let x := p.x.atStart p.start
        p.finish (s.setCore p.n p.c { x.store (256 * nb) cell.toNat (sliceBytes pl (256 * o) (256 * nb)) with
          blocks := taken }) p.ends
    else
      let regs := frxRegs nr.toNat o p.env
      let x := (List.range regs).foldl (fun (x : Core) k =>
        x.setGroup (BitVec.ofNat 8 (d.toNat + k)) 1 (blockReg pl (cxImage p.cx) (elemWidth (cxEfmt p.cx)) (o + k))) p.x
      p.finish (s.setCore p.n p.c { x with blocks := taken }) p.ends
  | _ => s

/-- FRX. -/
def execFrx (n : Fin 16) (c : Fin 96) (e : MillErr) (s : State) : Out := .next (s.millRow n c e 0x10 runFrx)

/-! ### Arithmetic, block and sparse (R251 to R254) -/

/-- An arithmetic result: the group, its counts and the generator after it. -/
def Prep.vecEnd (p : Prep) (s : State) (d : BitVec 8) (regs : Nat) (r : Nat × Arith × BitVec 32) : State :=
  let x := (p.x.setGroup d regs r.1).addArith r.2.1
  p.finish (s.setCore p.n p.c { x with gen := r.2.2 }) p.ends

/-- The result of overlapping groups of different widths: undefined (R251). (DEDUCED, log entry 95) -/
def Prep.vecFree (p : Prep) (s : State) (d : BitVec 8) (regs : Nat) (gen : BitVec 32) : State :=
  let s := (s.freeGroup p.n p.c d regs).freeCounts p.n p.c
  let x := s.core p.n p.c
  p.finish (s.setCore p.n p.c { x with gen := gen }) p.ends

/-- Formats of one element width. -/
def sameWidth (a b : Nat) : Bool := elemWidth a == elemWidth b

/-- The destination overlaps a source of a different width. (DEDUCED, log entry 95) -/
def Prep.overlaps (p : Prep) : Bool :=
  let ne := p.env.ne
  let meet := fun (d : BitVec 8) (m : Nat) (a : BitVec 8) (f : Nat) =>
    groupsMeet (d.toNat % 64) m (a.toNat % 64) (groupRegs f ne)
  match p.i with
  | .alu op d a b fa fb c _ _ _ _ =>
    !sameWidth fa.toNat fb.toNat && (match op with
      | .vadd | .vmax | .vmin => meet d (aluGroup fa.toNat (c == 1) ne) b fb.toNat
      | .vfma => meet d (groupRegs fa.toNat ne) a fb.toNat || meet d (groupRegs fa.toNat ne) b fb.toNat
      | .vcast | .vsrnd => meet d (groupRegs fa.toNat ne) a fb.toNat
      | .vscl => false)
  | .vmxd d a fa fb _ _ => meet d (groupRegs fa.toNat ne) a fb.toNat
  | .vmxe d a fa fb _ _ => meet d (groupRegs fa.toNat ne) a fb.toNat
  | _ => false

def runAlu (p : Prep) (s : State) : State :=
  if p.residue then p.residueExc s
  else match p.i with
  | .alu op d a b fa fb c sat pe pred _ =>
    let ne := p.env.ne
    let fan := fa.toNat
    let cb := c == 1
    let regs := aluGroup fan cb ne
    let ga := match op with
      | .vadd | .vmax | .vmin => p.x.group a (aluGroup fan cb ne)
      | .vscl => p.x.group a (groupRegs fan ne)
      | _ => p.x.group a (groupRegs fb.toNat ne)
    let input : AluIn :=
      { op := op, fa := fan, fb := fb.toNat, c := cb, sat := sat == 1
        pe := if pe = 1 then some (p.x.pred pred.toNat) else none
        ne := ne
        gd := p.x.group d regs
        ga := ga
        gb := if isV b then p.x.group b (groupRegs fb.toNat ne) else 0
        sv := f32 ((p.x.s b).toNat % 2 ^ 32) }
    if p.overlaps then p.vecFree s d regs (input.run p.x.gen).2.2
    else p.vecEnd s d regs (input.run p.x.gen)
  | _ => s

/-- VADD. -/
def execVadd (n : Fin 16) (c : Fin 96) (e : MillErr) (s : State) : Out := .next (s.millRow n c e 0x20 runAlu)
/-- VFMA. -/
def execVfma (n : Fin 16) (c : Fin 96) (e : MillErr) (s : State) : Out := .next (s.millRow n c e 0x21 runAlu)
/-- VMAX. -/
def execVmax (n : Fin 16) (c : Fin 96) (e : MillErr) (s : State) : Out := .next (s.millRow n c e 0x22 runAlu)
/-- VMIN. -/
def execVmin (n : Fin 16) (c : Fin 96) (e : MillErr) (s : State) : Out := .next (s.millRow n c e 0x23 runAlu)
/-- VSCL. -/
def execVscl (n : Fin 16) (c : Fin 96) (e : MillErr) (s : State) : Out := .next (s.millRow n c e 0x24 runAlu)
/-- VCAST. -/
def execVcast (n : Fin 16) (c : Fin 96) (e : MillErr) (s : State) : Out := .next (s.millRow n c e 0x25 runAlu)
/-- VSRND. -/
def execVsrnd (n : Fin 16) (c : Fin 96) (e : MillErr) (s : State) : Out := .next (s.millRow n c e 0x26 runAlu)

def runMxd (p : Prep) (s : State) : State :=
  if p.residue then p.residueExc s
  else match p.i with
  | .vmxd d a fa fb _ _ =>
    let ne := p.env.ne
    let regs := groupRegs fa.toNat ne
    if p.overlaps then p.vecFree s d regs p.x.gen
    else
      let (g, k) := mxdRun fa.toNat fb.toNat ne (p.x.group d regs) (p.x.group a (groupRegs fb.toNat ne))
      p.vecEnd s d regs (g, k, p.x.gen)
  | _ => s

/-- VMXD. -/
def execVmxd (n : Fin 16) (c : Fin 96) (e : MillErr) (s : State) : Out := .next (s.millRow n c e 0x30 runMxd)

/-- DEDUCED, log entry 91. -/
def runMxe (p : Prep) (s : State) : State :=
  if p.residue then p.residueExc s
  else match p.i with
  | .vmxe d a fa fb rnd _ =>
    let ne := p.env.ne
    let regs := groupRegs fa.toNat ne
    let r := mxeRun fa.toNat ne (rnd == 1) (p.x.group a (groupRegs fb.toNat ne)) p.x.gen
    if p.overlaps then p.vecFree s d regs r.2.2 else p.vecEnd s d regs r
  | _ => s

/-- VMXE. -/
def execVmxe (n : Fin 16) (c : Fin 96) (e : MillErr) (s : State) : Out := .next (s.millRow n c e 0x31 runMxe)

/-- DEDUCED, log entry 91. -/
def runVtkm (p : Prep) (s : State) : State :=
  if p.residue then p.residueExc s
  else match p.i with
  | .vtkm d a b =>
    let k := p.env.k
    let regs := pairRegs k
    let (g, ar) := topMerge (cxElems p.cx) k (p.x.group a regs) (p.x.group b regs)
    p.vecEnd s d regs (g, ar, p.x.gen)
  | _ => s

/-- VTKM. -/
def execVtkm (n : Fin 16) (c : Fin 96) (e : MillErr) (s : State) : Out := .next (s.millRow n c e 0x38 runVtkm)

/-! ### TALLY (R200, R218, R255) -/

/-- Contributor bits of a bitmap that are set. -/
def bitCount (b : BitVec 520) : Nat := ((List.range 520).filter (fun i => b.getLsbD i)).length

/-- Count a contribution: its bit, its contributor's frame count, CL_RD_CTXCNT[0]; answers whether
the bitmap now holds N(c) bits. A contribution of a round that has faulted counts nothing. -/
def State.tallyCount (s : State) (d : Desc) : Bool × State :=
  let cx := s.cx d.coll.toNat
  match s.findRound d.coll d.round with
  | none => (false, s)
  | some rk =>
    let y := s.slot d.key
    if y.state = 0 ∨ (s.round rk).state = rsFaulted then (false, s)
    else
      let bit := BitVec.ofNat 520 (2 ^ d.cbit)
      let map := y.bitmap ||| bit
      let full := bitCount map == s.ncontrib cx d.chunk.toNat
      let s := s.setSlot d.key { y with
        bitmap := map
        queued := y.queued &&& ~~~bit
        state := if full then 2 else y.state }
      let r := s.round rk
      let s := s.setRound rk { r with counts := SMap.put 0 r.counts d.cbit (SMap.get 0 r.counts d.cbit + 1) }
      let s := s.count { ev := 0x0A, cluster := some (d.chunk.toNat % 16), port := some d.port, slot := s.slotOf d.h.f.job.toNat }
      (full, (s.ctxCount d.coll.toNat 0 1).settleColl d.coll)

/-- Every payload block has been taken. -/
def Prep.allTaken (p : Prep) : Bool := (List.range (ceilDiv p.env.plen 256)).all (fun k => p.x.blocks.getLsbD k)

def runTally (p : Prep) (s : State) : State :=
  match p.i with
  | .tally pd a =>
    if p.x.tallied ∨ !p.allTaken then p.exc s exTally p.at
    else if p.residue then p.residueExc s
    else
      let before := s.slot p.d.key
      let (full, s) := s.tallyCount p.d
      let m := { p.d.h.m with dmfin := some s.nowHalf }
      let h := { p.d.h with m := m }
      let later := full && s.ownHome (home p.cx p.d.chunk.toNat) && (cxDest p.cx == 1 || cxDest p.cx == 2)
      let s := s.returnCells h.m.pin h
      let s := if later then s else s.depart h { consumed := true }
      let fl := pack [(⟨4, 1⟩, b2n p.d.first), (⟨2, 2⟩, cxDest p.cx),
        (⟨1, 1⟩, b2n (s.ownHome (home p.cx p.d.chunk.toNat))), (⟨0, 1⟩, b2n full)]
      let x := ((s.core p.n p.c).setPred pd.toNat (if full then BitVec.allOnes 256 else 0)).setS a fl
      p.finishLate (s.setCore p.n p.c { x with
        shadow := x.shadow ++ [(p.at, before)]
        tallied := true
        complete := full
        owes := later
        desc := some { p.d with h := h } })
  | _ => s

/-- TALLY. -/
def execTally (n : Fin 16) (c : Fin 96) (e : MillErr) (s : State) : Out := .next (s.millRow n c e 0x40 runTally)

/-! ### LDB and STB (R244, R245, R256) -/

/-- Cell 0 as LDB reads it, of the slot as it stands at the LDB's start. -/
def State.cellZero (s : State) (d : Desc) (y : Slot) : List Byte :=
  (List.range 65).map (fun i => BitVec.ofNat 8 (y.bitmap.toNat / 2 ^ (8 * i)))
    ++ beBytes 2 (bitCount y.bitmap) ++ beBytes 2 (s.ncontrib (s.cx d.coll.toNat) d.chunk.toNat)
    ++ [BitVec.ofNat 8 (if y.state = 2 then 2 else 1)] ++ List.replicate 58 0

/-- The core holds the slot's cell. -/
def Core.hasCell (x : Core) (cell : Nat) : Bool := cell == 0 || x.winFirst || SMap.get false x.present cell

/-- Fill absent cells from the slot. -/
def Core.fill (x : Core) (y : Slot) (cells : List Nat) : Core :=
  { x with
    winBytes := copyCells y.bytes x.winBytes cells
    present := cells.foldl (fun m c => SMap.put false m c true) x.present }

/-- The cells that an LDB or STB names, from its first. (DEDUCED, log entry 92) -/
def Prep.cells (p : Prep) (b : BitVec 8) (cell : BitVec 10) : Nat :=
  cell.toNat + (if b = noReg then 0 else (p.x.s b).toNat % 1024)

/-- One half of a register: the bytes of a cell, free where nothing has written it. (DEDUCED, log entry 95) -/
def State.cellBits (s : State) (p : Prep) (x : Core) (y : Slot) (cell : Nat) : Nat × State :=
  if cell = 0 then (packBytes (s.cellZero p.d y), s)
  else if SMap.get false x.dirty cell || SMap.get false y.written cell then
    (packBytes ((List.range 128).map (fun b => SMap.get 0 x.winBytes (128 * cell + b))), s)
  else
    let (w, s) := s.freeVec
    (w.toNat % 2 ^ 1024, s)

def runLdb (p : Prep) (s : State) : State :=
  match p.i with
  | .ldb d b nr cell =>
    let k := nr.toNat + 1
    let lo := p.cells b cell
    if slotCells p.cx < lo + 2 * k then p.exc s exWindow p.at
    else
      let y := p.x.slotAt p.start (s.slot p.d.key)
      let x := p.x.atStart p.start
      let absent := (List.range (2 * k)).map (fun i => lo + i) |>.filter (fun j => !x.hasCell j)
      let filled := ((List.range k).filter (fun i => !x.hasCell (lo + 2 * i) || !x.hasCell (lo + 2 * i + 1))).length
      let hits := ceilDiv (k - filled) 2
      let first := if filled ≠ 0 ∧ y.spill then p.start + 400 else p.start + 2
      let done := if filled = 0 then p.done
        else if y.spill then max p.done (first + 4 * (filled - 1) + hits)
        else max p.done (first + filled + hits - 1)
      let ret := max done p.last
      if p.e = .loftUe ∧ filled ≠ 0 ∧ y.spill ∧ first < watchdogCycles then
        let (w, s) := s.free
        (s.loftUe w.toNat (.spill (cellAt y.runs (absent.headD lo)))).loftEnd p.n p.c (max first p.last)
      else if watchdogCycles ≤ ret then p.exc s exHang watchdogCycles
      else
        let x := x.fill y absent
        let s := s.setCore p.n p.c x
        let s := (List.range k).foldl (fun (s : State) i =>
          let (u, s) := s.cellBits p x y (lo + 2 * i)
          let (v, s) := s.cellBits p x y (lo + 2 * i + 1)
          s.setCore p.n p.c ((s.core p.n p.c).setGroup (BitVec.ofNat 8 (d.toNat + i)) 1 (u + v * 2 ^ 1024))) s
        let e := p.ends
        p.finish s { e with
          first := first
          done := done
          unit := done
          ret := ret }
  | _ => s

/-- LDB. -/
def execLdb (n : Fin 16) (c : Fin 96) (e : MillErr) (s : State) : Out := .next (s.millRow n c e 0x48 runLdb)

def runStb (p : Prep) (s : State) : State :=
  match p.i with
  | .stb a b nr cell =>
    let k := nr.toNat + 1
    let lo := p.cells b cell
    if lo = 0 ∨ slotCells p.cx < lo + 2 * k then p.exc s exWindow p.at
    else
      p.finish (s.setCore p.n p.c ((p.x.atStart p.start).store (256 * k) lo (imageBytes (256 * k) (p.x.group a k)))) p.ends
  | _ => s

/-- STB. -/
def execStb (n : Fin 16) (c : Fin 96) (e : MillErr) (s : State) : Out := .next (s.millRow n c e 0x49 runStb)

/-! ### FTX (R203 to R206, R250, R295) -/

/-- The row of an emission: 0 RESULT, 1 stream into the engine, 2 site partial. -/
def State.ftxRow (s : State) (cx : Cx) (chunk : Nat) : Nat :=
  if !s.ownHome (home cx chunk) then 2 else if cxDest cx = 0 then 0 else 1

/-- The format of an emission. -/
def ftxFormat (cx : Cx) (row : Nat) : Nat :=
  if row = 0 then cxOfmt cx
  else if row = 2 then cxEfmt cx
  else if cxAfmt cx = fFp32c then fFp32c
  else fFp32

/-- EMIT (R218, R250). -/
def Prep.emitBad (p : Prep) (row tgt : Nat) : Bool :=
  (if p.env.k = 0 then p.env.ne != cxElems p.cx else decide (p.env.k < p.env.ne))
    || tgt != b2n (row == 1) || !p.x.complete || p.x.emitted

/-- Emissions of a core that wait at its source. -/
def State.emissionsWaiting (s : State) (q : Nat) : Nat := ((s.source q).map (fun x => x.note)).dedup.length

/-- Emit a RESULT (R204, R205). (DEDUCED, log entry 96) -/
def State.emitResult (s : State) (q rk chunk : Nat) (payload : List Byte) : State :=
  let r := s.round rk
  let d := s.cx r.coll.toNat
  let h := BitVec.ofNat 12 (home d chunk)
  s.emitDown q d (downFrame kResult (cxJob d) r.coll.toNat chunk h (s.epochnum r.round) payload) (.result rk chunk)

/-- Build and emit the site partial of a chunk (R206). (DEDUCED, log entry 96) -/
def State.emitPartial (s : State) (q rk chunk : Nat) (payload : List Byte) : State :=
  let r := s.round rk
  let d := s.cx r.coll.toNat
  let h := home d chunk
  let n := SMap.get 0 r.partials h + 1
  let last := n == homedAt d h
  let pl := pad4 payload
  let f : Frame :=
    { kind := kContrib
      vc := 3
      flags := flDstmod ||| flSrcmod ||| (if last then flFence else 0)
      plen := BitVec.ofNat 13 pl.length
      job := BitVec.ofNat 12 (cxJob d)
      dst := BitVec.ofNat 20 h
      src := s.modnum.setWidth 20
      coll := r.coll
      round := r.round
      chunk := BitVec.ofNat 24 chunk
      count := if last then BitVec.ofNat 32 n else 0
      payload := pl }
  let s := s.setRound rk { r with partials := SMap.put 0 r.partials h n }
  let k := slotKey r.coll.toNat r.round.toNat chunk
  let y := s.slot k
  let s := s.setSlot k { y with partialF := some f }
  s.originate q f [.route] (.sitePartial rk chunk)

/-- The emission of a note has left every source: the chunk is DONE, or HELD (R201). (DEDUCED, log entry 67) -/
def State.settleEmission (s : State) (note : Note) : State :=
  if s.noteAtSource note then s
  else match note with
    | .result rk chunk =>
      let r := s.round rk
      ((s.chunkDone rk chunk).ctxCount r.coll.toNat 3 1).settleColl r.coll
    | .sitePartial rk chunk =>
      let r := s.round rk
      let k := slotKey r.coll.toNat r.round.toNat chunk
      let y := s.slot k
      let plen := (y.partialF.map (fun f => f.plen.toNat)).getD 0
      let s := s.setSlot k { y with
        state := 3
        runs := takeCells (1 + ceilDiv plen 128) y.runs
        bytes := []
        written := [] }
      (s.ctxCount r.coll.toNat 2 1).settleColl r.coll
    | _ => s

/-- An FTX acts: until it retires the window keeps the slot, and the slot counts as it stands (R242, R244). -/
def Prep.ftxBegin (p : Prep) (s : State) : State :=
  let x := s.core p.n p.c
  s.setCore p.n p.c { x with
    dropAt := some watchdogCycles
    shadow := x.shadow ++ [(watchdogCycles, s.slot p.d.key)] }

/-- The FTX retires in cycle `ret`. (DEDUCED, log entry 96) -/
def Prep.ftxEnd (p : Prep) (s : State) (ret : Nat) : State :=
  let x := s.core p.n p.c
  let e := p.ends
  let m := { p.d.h.m with dgrn := some s.nowHalf }
  let s := if x.owes then s.depart { p.d.h with m := m } { consumed := true } else s
  p.finish (s.setCore p.n p.c { x with
    dropAt := some ret
    shadow := x.shadow.map (fun y => if y.1 = watchdogCycles then (ret, y.2) else y)
    emitted := true
    owes := false
    ftxGrn := false
    waitEv := none }) { e with
      done := ret
      ret := ret }

/-- The cycle in which an FTX that has waited retires. (DEDUCED, log entry 96) -/
def Prep.ftxCycle (p : Prep) (s : State) : Nat := if p.x.waitEv.isSome then max p.at (s.coreCycle p.x) else p.at

/-- The core is disabled in this event tick. -/
def State.disableNow (s : State) (n c : Nat) : Bool :=
  s.alsoNow (fun i => match i with
    | .coreDisable m d => m.val == n && d.val == c
    | _ => false)

/-- An FTX does not retire in the tick of a disable of its core (R234, R259). (DEDUCED, log entry 96; DESIGN CHOICE, log
entry 133) -/
def runFtx (p : Prep) (s : State) : State :=
  match p.i with
  | .ftx a fmt tgt _ =>
    let chunk := p.d.chunk.toNat
    let row := s.ftxRow p.cx chunk
    let q := qMill p.n p.c
    let want := ftxFormat p.cx row
    if fmt.toNat ≠ want then p.exc s exFormat p.at
    else if p.emitBad row tgt.toNat then p.exc s exEmit p.at
    else if 2 ≤ s.emissionsWaiting q then s.setCore p.n p.c { p.x with waitEv := some (2, 0, none) }
    else if watchdogCycles ≤ p.ftxCycle s then p.exc s exHang watchdogCycles
    else if s.disableNow p.n p.c then s
    else match s.findRound p.d.coll p.d.round with
      | none => p.ftxEnd s (p.ftxCycle s)
      | some rk =>
        if (s.round rk).state = rsFaulted then p.ftxEnd s (p.ftxCycle s)
        else
          let g := p.x.group a (if p.env.k = 0 then groupRegs want p.env.ne else pairRegs p.env.ne)
          let s := p.ftxBegin s
          if row = 1 then
            let gc : GChunk := { bix := 0, chunk := chunk, h := 0, rrec := rk, coll := p.d.coll, round := p.d.round,
                                 grads := streamValues want p.env.ne g }
            let s := s.onGrn (fun x =>
              let en := SMap.get {} x.engines (chunk % 16)
              { x with engines := SMap.put {} x.engines (chunk % 16) { en with
                ftxWait := en.ftxWait ++ [(qMill p.n p.c, gc)] } })
            let x := s.core p.n p.c
            s.setCore p.n p.c { x with
              ftxGrn := true
              waitEv := some (2, 0, none) }
          else
            let payload := if p.env.k = 0 then emitBytes want p.env.ne g else imageBytes (8 * p.env.ne) g
            let s := if row = 0 then s.emitResult q rk chunk payload else s.emitPartial q rk chunk payload
            let s := s.settleEmission (if row = 0 then .result rk chunk else .sitePartial rk chunk)
            p.ftxEnd s (p.ftxCycle s)
  | _ => s

/-- FTX. -/
def execFtx (n : Fin 16) (c : Fin 96) (e : MillErr) (s : State) : Out := .next (s.millRow n c e 0x11 runFtx)

/-- The Granary engine has taken the chunk that an FTX holds: the FTX retires (R295). (DEDUCED, log entry 96) -/
def State.ftxRetire (s : State) (n c : Nat) : State :=
  let x := s.core n c
  match x.desc, decodeMill (s.fetch n x.pc) with
  | some d, some i => if x.ftxGrn then
      let p := s.prep n c d i .none
      p.ftxEnd s (p.ftxCycle s)
    else s
  | _, _ => s

/-! ### Sheaf instructions (R257) -/

/-- The epoch-switch sheaf of a round: its ID, while it exists. -/
def State.epochSheafOf (s : State) (coll round : BitVec 16) : Option Nat :=
  match s.findRound coll round with
  | some rk =>
    let x := s.sheaf (epochSheaf rk)
    if x.state ≠ shFree ∧ x.coll = coll ∧ x.round = round then some (epochSheaf rk) else none
  | none => none

/-- A program may name this sheaf: an epoch-switch sheaf of its own job slot. (DEDUCED, log entry 94) -/
def State.sheafVisible (s : State) (coll : BitVec 16) (id : Nat) : Bool :=
  let x := s.sheaf id
  decide (0xF000 ≤ id) && x.state != shFree && s.collSlot x.coll == s.collSlot coll

def runShb (p : Prep) (s : State) : State :=
  match p.i with
  | .shb d =>
    let w := match s.epochSheafOf p.d.coll p.d.round with
      | some id => BitVec.ofNat 64 (id + 0x10000)
      | none => 0
    p.finishLate (s.setCore p.n p.c (p.x.setS d w))
  | _ => s

/-- SHB. -/
def execShb (n : Fin 16) (c : Fin 96) (e : MillErr) (s : State) : Out := .next (s.millRow n c e 0x50 runShb)

/-- DEDUCED, log entry 94. -/
def runShc (p : Prep) (s : State) : State :=
  match p.i with
  | .shc d a =>
    let id := (p.x.s a).toNat % 65536
    if s.sheafVisible p.d.coll id then p.finishLate (s.setCore p.n p.c (p.x.setS d ((s.sheaf id).state.setWidth 64)))
    else p.exc s exSheaf p.at
  | _ => s

/-- SHC. -/
def execShc (n : Fin 16) (c : Fin 96) (e : MillErr) (s : State) : Out := .next (s.millRow n c e 0x51 runShc)

end Sys2Proof.Machine
end

