-- ==== Sys2Proof/Machine/Receive.lean ====
section
/-! DEFINITION. FRAME_RECEIVE: acceptance at the hop (R58 to R63, R94), the checks at ingress
(R50), what the module takes as its own (R37, R163), the tally cluster's checks of a contribution
and registration of a round (R194 to R197, R202, R332). -/

namespace Sys2Proof.Machine

/-! ### The checks that need no state (R50, VERSION to FIELD) -/

/-- The kinds of a list. -/
def kindIn (f : Frame) (l : List (BitVec 6)) : Bool := l.contains f.kind

/-- A field that has no meaning for the kind is zero (R28, R29). -/
def unusedZero (f : Frame) : Bool :=
  (f.coll == 0 || kindIn f [kContrib, kResult, kCommit, kState, kStateAck])
    && (f.round == 0 || kindIn f [kContrib, kResult, kCommit, kState])
    && (f.chunk == 0 || kindIn f [kContrib, kResult, kState])
    && (f.addr == 0 || kindIn f [kRdReq, kWrReq, kAtReq, kReply, kState])
    && (f.len == 0 || kindIn f [kRdReq, kWrReq, kAtReq, kReply, kState])
    && (f.tag == 0 || kindIn f [kData, kAck, kRdReq, kWrReq, kAtReq, kReply, kState, kStateAck])
    && (f.opnd == 0 || kindIn f [kWrReq, kAtReq, kState])
    && (f.subk == 0 || kindIn f [kAtReq, kState, kStateAck, kTime, kMgmt, kScrub, kTest])
    && (f.sheaf == 0 || f.kind = kMgmt)
    && (f.err == 0 || f.kind = kReply)
    && f.rsvA == 0 && f.rsvB == 0

/-- The flags keep R28, R30, R32 and R43, and COUNT and EPOCHNUM are zero without theirs. -/
def flagsGood (f : Frame) : Bool :=
  let must := kindIn f [kResult, kCommit, kState, kStateAck]
  (!frameFence f || kindIn f [kContrib, kData, kWrReq, kReply, kState])
    && (frameFence f || f.count == 0)
    && (!frameEpoch f || must || f.kind = kRdReq) && (!must || frameEpoch f)
    && (frameEpoch f || f.epochnum == 0)
    && (!framePoison f || f.kind = kReply)
    && f.flags.extractLsb' 0 2 == 0
    && (!frameDstmod f || f.dst.extractLsb' 12 8 == 0)
    && (!frameSrcmod f || f.src.extractLsb' 12 8 == 0)

/-- Kinds that belong to the fabric carry job 0 and no other kind does (R38). -/
def jobGood (f : Frame) : Bool := (f.job == 0) == kindIn f [kTime, kMgmt, kScrub, kTest]

/-- The first check of VERSION to FIELD that fails. -/
def staticCheck (f : Frame) : Option Nat :=
  if f.ver ≠ 1 then some dcVersion
  else match kindVc f.kind with
    | none => some dcKind
    | some v =>
      if f.vc ≠ v then some dcKindVc
      else if f.plen.toNat % 4 ≠ 0 ∨ 4096 < f.plen.toNat ∨ f.plen.toNat ≠ f.payload.length then some dcLength
      else if unusedZero f && flagsGood f && jobGood f then none
      else some dcField

/-- The job number is neither 0 nor bound (R39). -/
def State.jobBad (s : State) (f : Frame) : Bool := f.job != 0 && s.jobState f.job.toNat != 1

/-! ### Registration of a round (R196, R197, R332) -/

/-- A round could not be registered. -/
def State.refuseRound (s : State) (n : Nat) (h : Held) (cause : Nat) : State :=
  let s := (s.rdDrop n h cause).raise (Reg.CL_RD_EVT n) 1 11 (srcReduction n)
  s.faultRated (0x300 + n)
    { unitType := utCluster, unit := n, register := 1, cause := cause, action := 7,
      detail := s.reg (Reg.CL_RD_DROP n cause), slot := s.slotByte h.f.job.toNat }

/-- The hyperparameters that a registration in event tick `t` captures: a SETHP of the same tick comes after it (R308). -/
def Binding.hpAt (b : Binding) (t : Nat) : Hyper :=
  match b.hpWas with
  | some w => if w.1 = t + 1 then w.2 else b.hp
  | none => b.hp

/-- Each PRIMARY binding of the collective keeps, for the round, the hyperparameters now set; its clip factor is yet to be
read. -/
def State.captureHyper (s : State) (coll : BitVec 16) (key : Nat) : State :=
  s.onGrn (fun g => { g with bindings := g.bindings.map (fun p =>
    if p.2.valid && !p.2.replica && p.2.coll == coll then
      (p.1, { p.2 with
        hpRound := SMap.put none p.2.hpRound key (some (p.2.hpAt s.tick))
        clips := SMap.put none p.2.clips key none })
    else p) })

/-- Register round `x` of a collective under record `key`. -/
def State.registerRound (s : State) (key : Nat) (coll x : BitVec 16) : State :=
  let d := s.cx coll.toNat
  let resv := s.resvCells d
  let s := s.setRound key { state := rsOpen, coll := coll, round := x, regAt := s.tick, resv := resv }
  let s := s.setReg Reg.LFT_RESV (s.reg Reg.LFT_RESV + BitVec.ofNat 64 resv)
  let s := s.captureHyper coll key
  if (cxDest d = 1 ∨ cxDest d = 2) ∧ s.homed d ≠ 0 then
    s.setSheaf (epochSheaf key) { state := shOpen, origin := 3, openedAt := s.tick, coll := coll, round := x }
  else s

/-! ### The tally cluster's checks (R194, R195, R202) -/

/-- A FENCE at the tally cluster: none when the frame goes on, else the state after its discard. -/
def State.tallyFence (s : State) (port key : Nat) (h : Held) : Option State × State :=
  let f := h.f
  let n := tallyCluster f.coll.toNat
  let d := s.cx f.coll.toNat
  let r := s.round key
  match s.contribBit d port with
  | none => (none, s)
  | some b =>
    let c := f.count.toNat
    let got := SMap.get 0 r.fences b
    if got = 0 ∧ c = s.owed d b then
      (none, (s.setRound key { r with fences := SMap.put 0 r.fences b (c + 1) }).settleColl f.coll)
    else if got = c + 1 then (some (s.rdDrop n h rdDup), s)
    else (some ((s.roundFault key rfCount b).rdDrop n h rdFaulted), s)

/-- The record of the frame's round, registering it if need be; or the state after the discard. In DRAINING no
frame can register a round, so it is discarded as R197 has it (R387; DEDUCED, log entry 63). -/
def State.tallyRecord (s : State) (h : Held) : Except State (Nat × State) :=
  let f := h.f
  let n := tallyCluster f.coll.toNat
  let l := s.lastClosed f.coll
  match s.findRound f.coll f.round with
  | some key =>
    if (s.round key).state = rsFaulted then .error (s.rdDrop n h rdFaulted) else .ok (key, s)
  | none =>
    if f.round = l + 1 ∨ f.round = l + 2 then
      if s.mode = stDraining then .error (s.refuseRound n h rdNoRecord)
      else match s.freeRecord n with
      | none => .error (s.refuseRound n h rdNoRecord)
      | some key =>
        if s.spillCells < (s.reg Reg.LFT_RESV).toNat + s.resvCells (s.cx f.coll.toNat) then
          .error (s.refuseRound n h rdNoRoom)
        else .ok (key, s.registerRound key f.coll f.round)
    else if (l - f.round).toNat ≤ 32767 then .error (s.rdDrop n h rdDup)
    else .error (s.rdDrop n h rdWindow)

/-! ### Where an accepted frame goes -/

/-- Keep a frame in staging or overflow holding; its waits count from now (R166). -/
def State.stage (s : State) (port : Nat) (h : Held) : State :=
  let m := { h.m with since := s.tick }
  s.setStaged port h.f.vc.toNat (s.staged port h.f.vc.toNat ++ [{ h with m := m }])

/-- A consumer takes a frame at once: its cells return and its journey record is written. -/
def State.takeNow (s : State) (port : Nat) (h : Held) : State :=
  let m := { h.m with denq := some s.nowHalf }
  (s.returnCells port h).depart { h with m := m } { consumed := true }

/-- A contribution addressed to the module (R194). (DEDUCED, log entry 89) -/
def State.takeContrib (s : State) (port : Nat) (h : Held) : State :=
  match s.contribCheck port h.f with
  | some c => s.rdDrop (clusterOf port) h c
  | none =>
    match s.tallyRecord h with
    | .error s => s
    | .ok (key, s) =>
      if frameFence h.f then
        match s.tallyFence port key h with
        | (some s, _) => s
        | (none, s) => s.stage port h
      else s.stage port h

/-- Own frames that wait for a step of their own. -/
def waitsForRow (f : Frame) : Bool :=
  isRequest f || kindIn f [kResult, kCommit, kState, kStateAck, kTime, kScrub]
    || (f.kind = kMgmt && [0x21, 0x22, 0x23].contains f.subk.toNat)
    || (f.kind = kTest && f.subk = 2)

/-- The VC0 or VC7 receive queue of a cluster is full (R163). (DESIGN CHOICE, log entry 14) -/
def State.ownQueueFull (s : State) (n : Nat) (f : Frame) : Bool :=
  let v := f.vc.toNat
  (v == 0 || v == 7) &&
    decide (Config.ownQueueDepth ≤ ((clusterPorts n).map (fun p => ((s.staged p v).filter (fun h => s.ownFrame h.f)).length)).sum)

/-- A frame that the module takes as its own (R37, R163). (DESIGN CHOICE, log entry 14) -/
def State.takeOwn (s : State) (port : Nat) (h : Held) : State :=
  let n := clusterOf port
  if h.f.kind = kContrib then s.takeContrib port h
  else if waitsForRow h.f then
    if s.ownQueueFull n h.f then (s.returnCells port h).bump (Reg.CL_RT_OWNDROP n) 1
    else s.stage port h
  else s.takeNow port h

/-- The first module that receives a request answers one whose ADDR and DST disagree (R49).
(DEDUCED, log entry 88) -/
def State.addrMismatch (port : Nat) (f : Frame) : Bool :=
  isRequest f && !isSpan port && !frameSpanned f
    && (addrTop f.addr != 0 || !frameDstmod f || f.dst != (addrHome f.addr).setWidth 20)

/-- The first check of R50 from VERSION on that a frame fails. -/
def State.ingressCheck (s : State) (port : Nat) (h : Held) : Option Nat :=
  match staticCheck h.f with
  | some c => some c
  | none =>
    if h.m.badJob then some dcJob
    else if !s.ownFrame h.f && (s.target h.f).isNone then some dcNoRoute
    else if s.routeBroken port h.f then some dcSpan
    else none

/-- A frame released to forwarding at the hop: the checks of R50 from VERSION on, then its own
consumer, an answer, or staging. On a span port it leaves at once when its queue has room (R97).
(DEDUCED, log entry 84) -/
def State.release (s : State) (port : Fin 544) (h : Held) : State :=
  let p := port.val
  match s.ingressCheck p h with
  | some c => s.discardStaged p h c
  | none =>
    let own := s.ownFrame h.f
    if State.addrMismatch p h.f then
      (s.originate qBosun (s.replyOne h.f errAddrMismatch []) [.route] .none).takeNow p h
    else if own then s.takeOwn p h
    else
      let s := s.stage p h
      let r : StageRef := ⟨port, ⟨h.f.vc.toNat, by omega⟩, (s.staged p h.f.vc.toNat).length - 1⟩
      if isSpan p then s.tryLeave r else s

/-! ### Acceptance at the hop (R59 to R63) -/

/-- The frame is accepted: its events are counted and the capture rules see it. (DEDUCED, log entry 85) -/
def State.hopAccept (s : State) (port : Nat) (h : Held) : Held × State :=
  let s := (s.frameEvent 0x01 1 port h.f).frameEvent 0x02 (frameWire h.f) port h.f
  let s := s.setLink port { s.link port with lastRx := s.tick + 1 }
  let k := pv port h.f.vc.toNat
  let s := s.onTele (fun t => { t with bwRx := SMap.put 0 t.bwRx k (SMap.get 0 t.bwRx k + frameWire h.f) })
  let (rule, s) := s.captRule port h.f
  let m := { h.m with rule := rule }
  ({ h with m := m }, s)

/-- Acknowledge what a VC has accepted in order. -/
def State.ackVc (s : State) (port v : Nat) : State :=
  s.sendLcb port lcbAckType v 0 ((s.vc port v).rxNext - 1) 0

/-- Release the held frames that are now in order. (DEDUCED, log entry 85) -/
def State.releaseHeld (s : State) (port : Fin 544) (v : Nat) : Nat → State
  | 0 => s
  | k + 1 =>
    let l := s.vc port v
    match l.rxHold.find? (fun p => p.1 = l.rxNext) with
    | none => s
    | some (q, h) =>
      let s := s.setVc port v { l with
        rxNext := q + 1
        rxHold := l.rxHold.filter (fun p => p.1 != q) }
      (s.release port h).releaseHeld port v k

/-- Bytes of frame length that a receive hold keeps: a VC's on a site port, all of a span port's.
(DEDUCED, log entry 85) -/
def State.holdUse (s : State) (port v : Nat) : Nat :=
  let one := fun v => ((s.vc port v).rxHold.map (fun p => 64 + p.2.f.plen.toNat)).sum
  if isSpan port then ((List.range 8).map one).sum else one v

/-- The size of a receive hold (R61, R94). -/
def holdSize (port : Nat) : Nat := if isSpan port then 8388608 else 65536

/-- A frame ahead of the one expected is held and the missing one asked for; with the hold full it
is discarded and the first such one is asked for again with all that follow (R61, R94). (DEDUCED, log entry 85) -/
def State.hopAhead (s : State) (port v : Nat) (h : Held) : State :=
  let l := s.vc port v
  let s := s.sendLcb port lcbNakSelType v 0 l.rxNext 0
  if l.overflowed || decide (holdSize port < s.holdUse port v + 64 + h.f.plen.toNat) then
    if l.overflowed then s
    else
      let s := s.setVc port v { s.vc port v with overflowed := true }
      (s.bump (holdovfReg port v) 1).sendLcb port lcbNakGobackType v 0 h.f.hopseq 0
  else
    let (h, s) := s.hopAccept port h
    s.setVc port v { s.vc port v with rxHold := l.rxHold ++ [(h.f.hopseq, h)] }

/-- A frame whose CRC is good, by its HOPSEQ (R59, R61, R63). (DEDUCED, log entry 85) -/
def State.hopTake (s : State) (port : Fin 544) (h : Held) : State :=
  let v := h.f.vc.toNat
  let l := s.vc port v
  let q := h.f.hopseq
  if q = l.rxNext then
    let (h, s) := s.hopAccept port h
    let s := s.setVc port v { s.vc port v with
      rxNext := q + 1
      overflowed := false }
    ((s.release port h).releaseHeld port v l.rxHold.length).ackVc port v
  else if seqLe l.rxNext q ∧ !l.rxHold.any (fun p => p.1 = q) then s.hopAhead port v h
  else s.ackVc port v

/-- What was sent on a port in LOOP comes back as frame `f` (R107): as it went out, or with its bits changed. -/
def frameFrom (port : Nat) (good : Bool) (f : Frame) (trailer : BitVec 32) : Emission → Bool
  | .frame p x t _ => !good || (p == port && x == f && t == trailer)
  | _ => false

/-- A frame received whole on a port (R50), whose first bit came `ago` half nanoseconds ago (R354). Frames of a job are
carried only in SERVICE and DRAINING (R23): in another state one that passes the checks is not accepted. A span port sets
SPANNED (R159). (DESIGN CHOICE, log entry 127; DEDUCED, log entries 86 and 130) -/
def execFrameReceive (port : Fin 544) (f : Frame) (trailer : BitVec 32) (ago : BitVec 16) (s : State) : Out :=
  let p := port.val
  let good := frameCrc f == trailer.toNat
  if !s.awake then .next s
  else
    match s.arrives p (frameFrom p good f trailer) with
    | none => .next s
    | some s =>
      if s.portState p != pUp then .next s
      else
        let g := if isSpan p then { f with flags := f.flags ||| flSpanned } else f
        let m : Meta := { pin := p, tin := s.nowHalf - ago.toNat, since := s.tick, era := (s.link p).era, badJob := s.jobBad f,
                          asRx := if g = f then none else some f }
        if !good then .next (s.discard p { f := g, m := m } dcCrc)
        else if f.job != 0 && !s.carries && (s.ingressCheck p { f := g, m := m }).isNone then .next s
        else
          let (tagged, s) := s.tagFrame (clusterOf p) g
          let m := { m with tagged := tagged }
          .next (s.hopTake port { f := g, m := m })

end Sys2Proof.Machine
end

