-- ==== Sys2Proof/Machine/Granary.lean ====
section
/-! DEFINITION. The Granary (R283 to R308): addresses and blocks with their versions and tags,
bindings and their planes, the chunks that enter an engine, the two passes of a step, the sending of
state copies (R300, R337), the engines' command lists, resets and patrol. -/

namespace Sys2Proof.Machine

/-! ### Addresses and blocks (R283 to R287) -/

/-- The Granary address of a channel offset. -/
def chanAddr (j off : Nat) : Nat := (16 * (off / 2 ^ 27) + j) * 2 ^ 27 + off % 2 ^ 27

/-- The channel of a Granary address, and the offset in it. -/
def addrChan (a : Nat) : Nat := a / 2 ^ 27 % 16
def addrOff (a : Nat) : Nat := a / 2 ^ 31 * 2 ^ 27 + a % 2 ^ 27

/-- The block of a Granary address. -/
def blockOf (a : Nat) : Nat := a / 256

/-- Regions that are backed (R49). -/
def backedRegions : Nat := 15872

/-- DEDUCED, log entry 20. -/
def State.gByte (s : State) (a : Nat) : Byte := SMap.get 0 s.grn.mem a
def State.gBytes (s : State) (a n : Nat) : List Byte := (List.range n).map (fun i => s.gByte (a + i))

/-- Write bytes at a Granary address; their blocks get fresh tags under a version. (DEDUCED, log entry 20) -/
def State.gWrite (s : State) (a : Nat) (l : List Byte) (version : BitVec 32) : State :=
  let blocks := if l.isEmpty then [] else (List.range (blockOf (a + l.length - 1) + 1 - blockOf a)).map (fun k => blockOf a + k)
  s.onGrn (fun g => { g with
    mem := (l.mapIdx (fun i b => (a + i, b))).foldl (fun m p => SMap.put 0 m p.1 p.2) g.mem
    ver := blocks.foldl (fun m b => SMap.put 0 m b version.toNat) g.ver
    bad := blocks.foldl (fun m b => SMap.put 0 m b 0) g.bad })

/-- Bytes from a channel offset, and their write: a range may cross into the next region. -/
def State.gChan (s : State) (j off n : Nat) : List Byte := (List.range n).map (fun i => s.gByte (chanAddr j (off + i)))
def State.gChanWrite (s : State) (j off : Nat) (l : List Byte) (version : BitVec 32) : State :=
  let k := 2 ^ 27 - off % 2 ^ 27
  (s.gWrite (chanAddr j off) (l.take k) version).gWrite (chanAddr j (off + k)) (l.drop k) version

/-- Count Granary events of a job's slot in the region of an address (R366). (DEDUCED, log entry 45) -/
def State.grnEvent (s : State) (ev n job a : Nat) : State :=
  if n = 0 then s else s.count { ev := ev, n := n, slot := s.slotOf job, region := some (a / 2 ^ 27) }
/-- DEDUCED, log entry 45. -/
def evRead : Nat := 0x0E
/-- DEDUCED, log entry 45. -/
def evWrite : Nat := 0x0F

/-- The version of a block. (DEDUCED, log entry 20) -/
def State.blockVer (s : State) (b : Nat) : BitVec 32 := BitVec.ofNat 32 (SMap.get 0 s.grn.ver b)

/-! ### Bindings (R289, R290) -/

def State.engine (s : State) (j : Nat) : Engine := SMap.get {} s.grn.engines j
def State.setEngine (s : State) (j : Nat) (e : Engine) : State :=
  s.onGrn (fun g => { g with engines := SMap.put {} g.engines j e })

def State.binding (s : State) (j b : Nat) : Binding := SMap.get {} s.grn.bindings (64 * j + b)
def State.setBinding (s : State) (j b : Nat) (x : Binding) : State :=
  s.onGrn (fun g => { g with bindings := SMap.put {} g.bindings (64 * j + b) x })

/-- The valid bindings of channel `j`, by index. -/
def State.channelBindings (s : State) (j : Nat) : List (Nat × Binding) :=
  s.grn.bindings.filterMap (fun p => if p.1 / 64 = j ∧ p.2.valid then some (p.1 % 64, p.2) else none)

/-- The valid PRIMARY bindings of a collective, by 64j + b. -/
def State.primaries (s : State) (coll : BitVec 16) : List (Nat × Binding) :=
  s.grn.bindings.filter (fun p => p.2.valid && !p.2.replica && p.2.coll == coll)

/-- Bytes of a served weight. -/
def Binding.served (b : Binding) : Nat := if b.sfmt = 0 then 2 else 1

/-- The number format of served weights. -/
def Binding.format (b : Binding) : Nat := if b.sfmt = 0 then fBf16 else if b.sfmt = 1 then fE4m3 else fE5m2

def Binding.adamw (b : Binding) : Bool := b.opt == 1

/-- Channel offsets of the planes: P0, P1, MASTER, M1, M2 and the end. -/
structure Planes where
  p0 : Nat
  p1 : Nat
  master : Nat
  m1 : Nat
  m2 : Nat
  stop : Nat
  deriving DecidableEq, Repr

def Binding.planes (b : Binding) : Planes :=
  let n := b.nchunk * b.elems
  let zs := ceilDiv (n * b.served) 65536 * 65536
  let zf := ceilDiv (4 * n) 65536 * 65536
  let base := b.basereg / 16 * 2 ^ 27
  let m1 := base + 2 * zs + zf
  { p0 := base, p1 := base + zs, master := base + 2 * zs, m1 := m1, m2 := m1 + zf,
    stop := m1 + (if b.adamw then 2 * zf else zf) }

/-- P[CUR] and P[1 − CUR]. -/
def Binding.current (b : Binding) : Nat := if b.cur then b.planes.p1 else b.planes.p0
def Binding.next (b : Binding) : Nat := if b.cur then b.planes.p0 else b.planes.p1

/-- The binding whose planes hold a channel offset. -/
def State.shardAt (s : State) (j off : Nat) : Option (Nat × Binding) :=
  (s.channelBindings j).find? (fun p => decide (p.2.planes.p0 ≤ off ∧ off < p.2.planes.stop))

/-- A block's tag verifies under a version it may have (R287). (DEDUCED, log entries 20 and 100) -/
def State.blockOk (s : State) (b : Nat) : Bool :=
  SMap.get 0 s.grn.bad b == 0 && (match s.shardAt (addrChan (256 * b)) (addrOff (256 * b)) with
    | some p => s.blockVer b == p.2.step - 1 || s.blockVer b == p.2.step || s.blockVer b == p.2.step + 1
    | none => s.blockVer b == 0)

/-- The blocks of a range of channel offsets. -/
def chanBlocks (j off len : Nat) : List Nat :=
  if len = 0 then []
  else (List.range ((off + len - 1) / 256 + 1 - off / 256)).map (fun k => blockOf (chanAddr j (256 * (off / 256 + k))))

/-- A channel fails: a module fault (R288). (DEDUCED, log entry 102) -/
def State.channelFail (s : State) (j : Nat) : State :=
  let e := s.engine j
  let s := s.setEngine j { e with failed := true }
  s.moduleFault { cls := 5, unitType := utGranary, unit := j, register := 1, cause := 2, detail := s.reg (Reg.GRN_EVT j) }

/-- A block fails (R287): counted, logged and reported; `src` says who read it. More than 16
uncorrectable errors within 1 s fail the channel (R288). (DEDUCED, log entry 102) -/
def State.tagFail (s : State) (b src : Nat) : State :=
  let j := addrChan (256 * b)
  let ecc := SMap.get 0 s.grn.bad b == 2
  let s := (s.bump (if ecc then Reg.GRN_ECCU j else Reg.GRN_TAGF j) 1).score (544 + j) 1048576
  let s := s.setReg (Reg.GRN_TAGLOG j) (pack [(Fld.GRN_TAGLOG_SOURCE, src), (Fld.GRN_TAGLOG_ECC, b2n ecc),
    (Fld.GRN_TAGLOG_BLOCK, addrOff (256 * b) / 256)])
  let s := (s.raise (Reg.GRN_EVT j) (if ecc then 4 else 3) 5 (srcGranary j)).faultRecord
    { cls := 5, unitType := utGranary, unit := j, register := 0, cause := src, action := 7, detail := s.reg (Reg.GRN_TAGLOG j) }
  if ecc then
    let e := s.engine j
    let l := s.window e.ues (secTicks 1)
    let s := s.setEngine j { e with ues := l }
    if 16 < l.length then s.channelFail j else s
  else s

/-- Check the blocks of a range; each failing block is reported. (DEDUCED, log entry 100) -/
def State.verify (s : State) (j off len src : Nat) : Bool × State :=
  let bad := (chanBlocks j off len).filter (fun b => !s.blockOk b)
  (bad.isEmpty, bad.foldl (fun s b => s.tagFail b src) s)

/-- Check the blocks of several ranges. -/
def State.verifyAll (s : State) (j src : Nat) (l : List (Nat × Nat)) : Bool × State :=
  l.foldl (fun a r =>
    let (ok, s) := a.2.verify j r.1 r.2 src
    (a.1 && ok, s)) (true, s)

/-- `n` elements of `w` bytes from a channel offset, most significant byte first. -/
def State.gElems (s : State) (j off w n : Nat) : List Nat :=
  (List.range n).map (fun i => beNat (s.gBytes (chanAddr j (off + w * i)) w))

/-- The versions of the blocks that hold those elements. -/
def State.gVers (s : State) (j off w n : Nat) : List (BitVec 32) :=
  (List.range n).map (fun i => s.blockVer (blockOf (chanAddr j (off + w * i))))

/-- Write the elements that are given. -/
def State.gStore (s : State) (j off w : Nat) (l : List (Option Nat)) (version : BitVec 32) : State :=
  (l.mapIdx (fun i v => (i, v))).foldl (fun (s : State) p => match p.2 with
    | some v => s.gWrite (chanAddr j (off + w * p.1)) (beBytes w v) version
    | none => s) s

/-! ### Local indices (R289) -/

/-- The chunks below `c` homed at `h` with c mod 16 = j. -/
def coveredBelow (d : Cx) (h j c : Nat) : Nat := ((List.range c).filter (fun x => x % 16 == j && home d x == h)).length

/-- The chunk of local index `i`. -/
def coveredAt (d : Cx) (h j i : Nat) : Option Nat :=
  ((List.range (cxChunks d)).filter (fun x => x % 16 == j && home d x == h))[i]?

/-- The PRIMARY binding of engine `j` that covers a chunk, with the chunk's local index. -/
def State.coverOf (s : State) (j : Nat) (coll : BitVec 16) (c : Nat) : Option (Nat × Binding × Nat) :=
  let d := s.cx coll.toNat
  ((s.channelBindings j).find? (fun p => !p.2.replica && p.2.coll == coll && s.coverHome p.2 == home d c)).bind
    (fun p =>
      let h := coveredBelow d (home d c) j c
      if h < p.2.nchunk then some (p.1, p.2, h) else none)

/-! ### State copies sent (R300, R337, R339) -/

/-- A part of a copy: SUBK, CHUNK, ADDR and the bytes of one frame. -/
structure CopyPart where
  subk : Nat
  chunk : Nat
  addr : Word
  bytes : List Byte
  deriving DecidableEq, Repr

/-- What the frames of a copy share. -/
structure CopyHead where
  dest : BitVec 12
  job : Nat
  coll : BitVec 16
  round : BitVec 16
  epochnum : BitVec 32
  version : BitVec 32
  deriving DecidableEq, Repr

/-- State copies that wait for an acknowledgement (R165). (DEDUCED, log entry 37) -/
def State.unacked (s : State) : Nat := s.ma.copies.length
def State.copyRoom (s : State) : Bool := decide (s.unacked < 256)

/-- The frames of a copy. -/
def State.copyFrames (s : State) (h : CopyHead) (tag : BitVec 32) (parts : List CopyPart) : List Frame :=
  let total := (parts.map (fun p => p.bytes.length)).sum
  let last := parts.length - 1
  parts.mapIdx (fun i p =>
    let off := ((parts.take i).map (fun q => q.bytes.length)).sum
    let pl := pad4 p.bytes
    { kind := kState
      vc := 6
      flags := flEpoch ||| flDstmod ||| flSrcmod ||| (if i = last then flFence else 0)
      plen := BitVec.ofNat 13 pl.length
      job := BitVec.ofNat 12 h.job
      dst := h.dest.setWidth 20
      src := s.modnum.setWidth 20
      coll := h.coll
      round := h.round
      subk := BitVec.ofNat 8 p.subk
      chunk := BitVec.ofNat 24 p.chunk
      count := if i = last then BitVec.ofNat 32 parts.length else 0
      epochnum := h.epochnum
      addr := p.addr
      len := BitVec.ofNat 32 total
      tag := tag
      opnd := (h.version ++ BitVec.ofNat 32 off : BitVec (32 + 32))
      payload := pl })

/-- Cut bytes into frame payloads. -/
def cut4096 (l : List Byte) : List (List Byte) := (pieces l.length).map (fun p => sliceBytes l p.1 p.2)

/-- Send a new copy from source `q`; it is kept until it is acknowledged. TAG bits [31:28] name the
engine, which no other field of a STATE frame does (R337). (DESIGN CHOICE, log entry 31) -/
def State.sendCopy (s : State) (q : Nat) (kind : CopyKind) (h : CopyHead) (parts : List CopyPart) : State :=
  let id := s.ma.copyNext
  let tag := BitVec.ofNat 32 (q % 16 * 2 ^ 28 + id % 2 ^ 28)
  let fs := s.copyFrames h tag parts
  let c : Copy := { dest := h.dest.toNat, tag := tag, kind := kind, frames := fs, sentAt := s.tick }
  let s := s.onMa (fun a => { a with
    copies := SMap.put none a.copies id (some c)
    copyNext := id + 1 })
  fs.foldl (fun s f => s.originate q f [.route] (.copy id)) s

/-- The engine that sends a copy. -/
def CopyKind.engine : CopyKind → Option Nat
  | .step j _ _ _ _ => some j
  | .resilver j _ _ => some j
  | .blocks j => some j
  | .notice _ _ => none

/-- The chunk's values as they lie in memory: MASTER, M1, M2 when ADAMW, the served plane at `plane`. -/
def State.chunkImage (s : State) (j : Nat) (b : Binding) (h plane : Nat) : List Byte :=
  let p := b.planes
  let at4 := fun (o : Nat) => s.gChan j (o + 4 * (h * b.elems)) (4 * b.elems)
  at4 p.master ++ at4 p.m1 ++ (if b.adamw then at4 p.m2 else [])
    ++ s.gChan j (plane + b.served * (h * b.elems)) (b.served * b.elems)

/-- Check every block that the image takes. -/
def State.chunkVerify (s : State) (j : Nat) (b : Binding) (h plane src : Nat) : Bool × State :=
  let p := b.planes
  let k := 4 * (h * b.elems)
  let l := [(p.master + k, 4 * b.elems), (p.m1 + k, 4 * b.elems)] ++ (if b.adamw then [(p.m2 + k, 4 * b.elems)] else [])
    ++ [(plane + b.served * (h * b.elems), b.served * b.elems)]
  s.verifyAll j src l

/-! ### Engine faults -/

/-- The round of a chunk is the one it was emitted for, and has not faulted. -/
def State.chunkLive (s : State) (g : GChunk) : Bool :=
  let r := s.round g.rrec
  r.state != 0 && r.state != rsFaulted && r.coll == g.coll && r.round == g.round

/-- Fault a chunk's round. -/
def State.chunkFault (s : State) (g : GChunk) (cause : Nat) : State :=
  if s.chunkLive g then s.roundFaultUnmet g.rrec cause else s

/-- A binding is marked DAMAGED and the chunk's round faults (R287). -/
def State.damage (s : State) (j : Nat) (g : GChunk) : State :=
  let b := s.binding j g.bix
  (s.setBinding j g.bix { b with damaged := true }).chunkFault g rfEngine

/-- A place of a binding's allotment frees. -/
def State.freePlace (s : State) (j bix : Nat) : State :=
  let b := s.binding j bix
  s.setBinding j bix { b with fullAt := none }

/-- The engine's first chunk leaves it. -/
def State.chunkLeaves (s : State) (j : Nat) : State :=
  let e := s.engine j
  match e.chunks with
  | [] => s
  | g :: rest =>
    (s.setEngine j { e with
      chunks := rest
      progressAt := s.tick
      idleAt := s.tick }).freePlace j g.bix

/-- Every chunk of an engine is dropped and its round faults. -/
def State.dropChunks (s : State) (j cause : Nat) : State :=
  let e := s.engine j
  let s := s.setEngine j { e with
    chunks := []
    idleAt := s.tick }
  let s := e.chunks.foldl (fun s g => s.freePlace j g.bix) s
  e.chunks.foldl (fun s g => s.chunkFault g cause) s

/-! ### Chunks entering (R295 to R297) -/

/-- The clip factor of a round (R297), read with its first chunk: whether there is one, and the state after it or the
fault. -/
def State.clipRead (s : State) (j : Nat) (g : GChunk) (b : Binding) (hp : Hyper) : Bool × State :=
  let take := fun (s : State) (c : BitVec 32) =>
    s.setBinding j g.bix { s.binding j g.bix with clips := SMap.put none (s.binding j g.bix).clips g.rrec (some c) }
  if (SMap.get none b.clips g.rrec).isSome then (true, s)
  else if hp.clip = 0 then (true, take s 0x3F800000)
  else
    let a := hp.clip.toNat
    let blocks := [blockOf a, blockOf (a + 63)].dedup
    match blocks.find? (fun k => !s.blockOk k) with
    | some k => (false, (s.tagFail k 1).damage j g)
    | none =>
      let s := s.grnEvent evRead 64 (cxJob (s.cx g.coll.toNat)) a
      let c := beNat (s.gBytes (a + 4) 4)
      let v := f32 c
      let ok := beNat (s.gBytes a 2) == g.round.toNat && v.isFin && (Num.fin false 0 0).lt v && !(f32 0x3F800000).lt v
      if ok then (true, take s (BitVec.ofNat 32 c))
      else (false, (s.raise (Reg.GRN_EVT j) 6 11 (srcGranary j)).chunkFault g rfEngine)

/-- The hyperparameters of a round (R298, R304). -/
def Binding.hyper (b : Binding) (rrec : Nat) : Hyper := (SMap.get none b.hpRound rrec).getD b.hp

/-- Chunks of a binding in the engine or its allotment. -/
def Engine.places (e : Engine) (bix : Nat) : Nat := (e.chunks.filter (fun g => g.bix == bix)).length

/-- The chunk that an FTX of core `key` holds is taken. (DEDUCED, log entry 96) -/
def State.takeFtx (s : State) (j key : Nat) : State :=
  let e := s.engine j
  (s.setEngine j { e with ftxWait := e.ftxWait.filter (fun w => w.1 != key) }).ftxRetire (key / 96) (key % 96)

/-- No usable binding (R296): the chunk is discarded without a step. (DEDUCED, log entry 99) -/
def State.noBinding (s : State) (j : Nat) (g : GChunk) : State :=
  let s := s.raise (Reg.GRN_EVT j) 9 11 (srcGranary j)
  let s := s.faultRecord { unitType := utGranary, unit := j, register := 1, cause := 9, action := 7, detail := s.reg (Reg.GRN_EVT j),
                           slot := s.slotByte (cxJob (s.cx g.coll.toNat)) }
  s.chunkFault g rfEngine

/-- Enter a chunk, if it can enter now. (DEDUCED, log entry 99) -/
def State.enterChunk (s : State) (j key : Nat) (g : GChunk) : Option State :=
  let e := s.engine j
  if !s.chunkLive g then some (s.takeFtx j key)
  else if s.hold (engGrn j) = 2 then some ((s.takeFtx j key).chunkFault g rfAborted)
  else if e.st = 4 then some ((s.takeFtx j key).noBinding j g)
  else if e.st ≠ 1 then none
  else match s.coverOf j g.coll g.chunk with
    | none => some ((s.takeFtx j key).noBinding j g)
    | some (bix, b, h) =>
      if b.damaged then some ((s.takeFtx j key).noBinding j g)
      else if 2 ≤ e.places bix then none
      else
        let g := { g with
          bix := bix
          h := h }
        let s := s.takeFtx j key
        let (ok, s) := s.clipRead j g b (b.hyper g.rrec)
        if !ok then some s
        else
          let e := s.engine j
          let s := s.setEngine j { e with
            chunks := e.chunks ++ [g]
            progressAt := if e.chunks.isEmpty then s.tick else e.progressAt }
          let b := s.binding j bix
          some (s.setBinding j bix { b with fullAt := if e.places bix = 1 then some s.tick else b.fullAt })

/-- The first chunk among those that FTX instructions hold that can enter. -/
def State.enterFirst (s : State) (j : Nat) : List (Nat × GChunk) → State
  | [] => s
  | (key, g) :: rest => match s.enterChunk j key g with
    | some s => s
    | none => s.enterFirst j rest

/-- A completed chunk enters its engine, or is discarded. (DEDUCED, log entry 99) -/
def execChunkEnterEngine (j : Fin 16) (s : State) : Out :=
  if s.awake then .next (s.enterFirst j.val (s.engine j.val).ftxWait) else .next s

/-- A command of this event tick ends a pass of the engine. -/
def State.passNow (s : State) (j phase : Nat) : Bool :=
  s.alsoNow (fun i => match i with
    | .pass1Done k => phase == 0 && k.val == j
    | .pass2Done k => phase != 0 && k.val == j
    | _ => false)

/-- The engine's first chunk leaves in this event tick, and a place of its allotment frees. -/
def State.placeFrees (s : State) (j bix : Nat) : Bool :=
  match (s.engine j).chunks with
  | g :: _ => g.bix == bix && g.phase != 0 && s.passNow j g.phase
  | [] => false

/-- An allotment has stayed full for 500 µs (R295): it empties, unless a place frees in this event tick (R308).
(DESIGN CHOICE, log entry 133) -/
def execAllotmentStall (j : Fin 16) (b : Fin 64) (s : State) : Out :=
  let x := s.binding j.val b.val
  let e := s.engine j.val
  match x.fullAt with
  | some t =>
    if s.awake ∧ 2 ≤ e.places b.val ∧ s.since t (usTicks 500) ∧ !s.placeFrees j.val b.val then
      let gone := e.chunks.filter (fun g => g.bix == b.val)
      let s := s.setEngine j.val { e with
        chunks := e.chunks.filter (fun g => g.bix != b.val)
        idleAt := s.tick }
      let s := (s.freePlace j.val b.val).raise (Reg.GRN_EVT j.val) 5 11 (srcGranary j.val)
      .next (gone.foldl (fun s g => s.chunkFault g rfEngine) s)
    else .next s
  | none => .next s

/-! ### The step (R298, R299) -/

/-- A binary32 operation's result. -/
def fAdd (a b : Num) : Num := (f32Add a b).1
def fSub (a b : Num) : Num := (f32Add a b.neg).1
def fMul (a b : Num) : Num := (f32Mul a b).1
def fDiv (a b : Num) : Num := round32 (a.div b)
def fSqrt (a : Num) : Num := round32 a.sqrt

/-- A binary64 value: the nearest to a number. (DEDUCED, log entry 99) -/
def round64 (x : Num) : Num :=
  let l : Layout := ⟨11, 52, 1023, 0, 0x7FF8000000000000⟩
  l.decode (l.encode false none x).1

/-- 1 − β^t in binary64, rounded to binary32. (DEDUCED, log entry 99) -/
def biasFactor (beta : BitVec 32) (t : Nat) : Num :=
  let p := match f32 beta.toNat with
    | .fin s m e => round64 (.fin (s && t % 2 == 1) (m ^ t) (e * t))
    | x => x
  round32 (round64 ((Num.ofInt 1).add p.neg))

/-- The clip factor of a round. -/
def Binding.clip (b : Binding) (rrec : Nat) : Num := f32 ((SMap.get none b.clips rrec).getD 0x3F800000).toNat

/-- Pass 1 on one parameter: the new moments, with the clip factor `c`. -/
def passOne (c : Num) (hp : Hyper) (grad m1 m2 : Num) : Num × Num :=
  let b1 := f32 hp.beta1.toNat
  let b2 := f32 hp.beta2.toNat
  let one := Num.ofInt 1
  let g := fMul c grad
  (fAdd (fMul b1 m1) (fMul (fSub one b1) g), fAdd (fMul b2 m2) (fMul (fMul (fSub one b2) g) g))

/-- Pass 2 on one parameter: the new master. -/
def passTwo (b : Binding) (hp : Hyper) (c1 c2 w m1 m2 : Num) : Num :=
  let u := if b.adamw then fDiv (fDiv m1 c1) (fAdd (fSqrt (fDiv m2 c2)) (f32 hp.eps.toNat)) else m1
  fSub w (fMul (f32 hp.lr.toNat) (fAdd u (fMul (f32 hp.wd.toNat) w)))

/-- `l[i]` as an option list: the values where `p` holds. -/
def chosen (p : List Bool) (l : List Nat) : List (Option Nat) := List.zipWith (fun a v => if a then some v else none) p l

/-- A copy that was read before a chunk's blocks were written does not load it (R344). -/
def State.dirtyCopies (s : State) (j bix : Nat) (hit : Nat → Bool) : State :=
  s.onMa (fun a => { a with copies := a.copies.map (fun p => (p.1, p.2.map (fun c =>
    if (match c.kind with
      | .step k x y _ _ => k == j && x == bix && hit y
      | .resilver k x y => k == j && x == bix && hit y
      | _ => false) then { c with clean := false } else c))) })

/-- A step pass wrote a chunk: its LOADED bit clears (R344), the copies already read do not load it,
and the binding is PENDING (R290). -/
def State.passWrote (s : State) (j bix h : Nat) : State :=
  let b := s.binding j bix
  (s.dirtyCopies j bix (fun y => y == h)).setBinding j bix { b with
    pend := true
    loaded := SMap.put false b.loaded h false }

/-- Bytes `i` from channel offset `o` lie in the first `k` blocks of their range: all of them when the pass is not cut. -/
def inBlocks (k : Option Nat) (o i : Nat) : Bool :=
  match k with
  | some k => decide ((o + i) / 256 < o / 256 + k)
  | none => true

/-- Pass 1 on a chunk whose blocks verify, or on its first `k` blocks of each plane. -/
def State.firstWrites (s : State) (j : Nat) (g : GChunk) (k : Option Nat) : State :=
  let b := s.binding j g.bix
  let n := b.elems
  let o := 4 * (g.h * n)
  let p := b.planes
  let v1 := s.gVers j (p.m1 + o) 4 n
  let v2 := if b.adamw then s.gVers j (p.m2 + o) 4 n else v1
  let act := (List.zipWith (fun x y => x == b.step && y == b.step) v1 v2).mapIdx (fun i a => a && inBlocks k (p.m1 + o) (4 * i))
  let m1 := s.gElems j (p.m1 + o) 4 n
  let m2 := if b.adamw then s.gElems j (p.m2 + o) 4 n else m1
  let new := List.zipWith (fun gr m => passOne (b.clip g.rrec) (b.hyper g.rrec) (f32 gr) (f32 m.1) (f32 m.2))
    (g.grads.map (fun x => x.toNat)) (m1.zip m2)
  let s := s.gStore j (p.m1 + o) 4 (chosen act (new.map (fun x => toF32 x.1))) (b.step + 1)
  let s := if b.adamw then s.gStore j (p.m2 + o) 4 (chosen act (new.map (fun x => toF32 x.2))) (b.step + 1) else s
  let s := if act.any id then s.passWrote j g.bix g.h else s
  let job := cxJob (s.cx g.coll.toNat)
  let w := 4 * (act.filter id).length
  let s := (s.grnEvent evRead (4 * n) job (chanAddr j (p.m1 + o))).grnEvent evWrite w job (chanAddr j (p.m1 + o))
  let s := if b.adamw then (s.grnEvent evRead (4 * n) job (chanAddr j (p.m2 + o))).grnEvent evWrite w job (chanAddr j (p.m2 + o)) else s
  let e := s.engine j
  let g := { g with
    phase := 1
    skip := (act.mapIdx (fun i a => (i, !a))).foldl (fun m q => SMap.put false m q.1 q.2) [] }
  if k.isSome then s
  else s.setEngine j { e with
    chunks := g :: e.chunks.tail
    progressAt := s.tick }

/-- The ranges that pass 1 reads. -/
def Binding.firstRanges (b : Binding) (h : Nat) : List (Nat × Nat) :=
  let o := 4 * (h * b.elems)
  (b.planes.m1 + o, 4 * b.elems) :: (if b.adamw then [(b.planes.m2 + o, 4 * b.elems)] else [])

/-- Pass 1 of the engine's first chunk. -/
def State.passFirst (s : State) (j : Nat) (g : GChunk) : State :=
  let (ok, s) := s.verifyAll j 1 ((s.binding j g.bix).firstRanges g.h)
  if ok then s.firstWrites j g none else (s.chunkLeaves j).damage j g

/-- Values that are NaN or infinite. (DEDUCED, log entry 99) -/
def badGrads (l : List (BitVec 32)) : Nat := (l.filter (fun x => !(f32 x.toNat).isFin)).length

/-- An engine works: its clock runs and no forced disable holds it. -/
def State.engineRuns (s : State) (j : Nat) : Bool := s.awake && (s.engine j).st == 1 && s.hold (engGrn j) != 2

/-- Pass 1 of the engine's first chunk has written the moments; NaN or infinite gradients count, and
abort the step under NANABORT (R299). A chunk of a DAMAGED binding is handled as R296 says (R287). (DEDUCED, log entry 99) -/
def execPass1Done (j : Fin 16) (s : State) : Out :=
  match (s.engine j.val).chunks with
  | [] => .next s
  | g :: _ =>
    if !s.engineRuns j.val || g.phase != 0 then .next s
    else if !s.chunkLive g then .next (s.chunkLeaves j.val)
    else if (s.binding j.val g.bix).damaged then .next ((s.chunkLeaves j.val).noBinding j.val g)
    else
      let bad := badGrads g.grads
      let s := s.bump (Reg.GRN_NAN j.val) bad
      if bad ≠ 0 ∧ (s.binding j.val g.bix).nanabort then
        let s := (s.chunkLeaves j.val).abortSheaf (epochSheaf g.rrec) saEngine 0
        .next ((s.raise (Reg.GRN_EVT j.val) 8 11 (srcGranary j.val)).chunkFault g rfEngine)
      else .next (s.passFirst j.val g)

/-- The chunk's step is done with: at the home its RESULT is emitted, or it is DONE (R204). -/
def State.stepResult (s : State) (j rk chunk : Nat) (served : List Byte) : State :=
  let r := s.round rk
  if cxDest (s.cx r.coll.toNat) = 1 then
    (s.emitResult (qGranary j) rk chunk served).settleEmission (.result rk chunk)
  else (s.chunkDone rk chunk).settleColl r.coll

/-- Send the copy of a chunk whose passes are done, when there is room (R300): the chunk then counts
in STEPPED. Copies to a LOADING peer are not waited for (R333). (DEDUCED, log entry 37) -/
def State.stepCopy (s : State) (j : Nat) (g : GChunk) : State :=
  let b := s.binding j g.bix
  if !s.chunkLive g then s.chunkLeaves j
  else if b.peerState ≠ 0 ∧ !s.copyRoom then
    let e := s.engine j
    s.setEngine j { e with
      chunks := { g with phase := 2 } :: e.chunks.tail
      progressAt := s.tick }
  else
    let (ok, s) := s.chunkVerify j b g.h b.next 4
    let s := s.chunkLeaves j
    if !ok then
      let b := s.binding j g.bix
      s.setBinding j g.bix { b with damaged := true }
    else
      let img := s.chunkImage j b g.h b.next
      let d := s.cx g.coll.toNat
      let served := img.drop (img.length - b.served * b.elems)
      let s := s.setBinding j g.bix { (s.binding j g.bix) with stepped := SMap.put false b.stepped g.h true }
      let s := if b.peerState = 0 then s
        else s.sendCopy (qGranary j) (.step j g.bix g.h g.chunk g.rrec)
          { dest := b.peer, job := cxJob d, coll := g.coll, round := g.round, epochnum := s.epochnum g.round, version := b.step + 1 }
          ((cut4096 img).map (fun l => { subk := 1, chunk := g.h, addr := 0, bytes := l }))
      if b.peerState = 2 then s else s.stepResult j g.rrec g.chunk served

/-- A request still in progress chose the plane that pass 2 is to write (R293). (DEDUCED, log entry 100) -/
def State.planeBusy (s : State) (j bix : Nat) (b : Binding) : Bool :=
  s.ma.reads.any (fun r => r.ver == some (64 * j + bix, b2n (!b.cur)))

/-- The ranges that pass 2 reads. -/
def Binding.secondRanges (b : Binding) (h : Nat) : List (Nat × Nat) :=
  (b.planes.master + 4 * (h * b.elems), 4 * b.elems) :: b.firstRanges h

/-- Pass 2 on a chunk whose blocks verify: MASTER, then the served plane, or their first `k` blocks (R298).
(DEDUCED, log entry 100) -/
def State.secondWrites (s : State) (j : Nat) (g : GChunk) (k : Option Nat) : State :=
  let b := s.binding j g.bix
  let hp := b.hyper g.rrec
  let n := b.elems
  let o := 4 * (g.h * n)
  let p := b.planes
  let so := b.next + b.served * (g.h * n)
  let km := (chanBlocks j (p.master + o) (4 * n)).length
  let vm := s.gVers j (p.master + o) 4 n
  let act := vm.mapIdx (fun i v => v == b.step && inBlocks k (p.master + o) (4 * i))
  let w := (s.gElems j (p.master + o) 4 n).map f32
  let m1 := (s.gElems j (p.m1 + o) 4 n).map f32
  let m2 := if b.adamw then (s.gElems j (p.m2 + o) 4 n).map f32 else m1
  let t := (b.step + 1).toNat
  let c1 := biasFactor hp.beta1 t
  let c2 := biasFactor hp.beta2 t
  let new := List.zipWith (fun (a : Bool × Num) (m : Num × Num) => if a.1 then passTwo b hp c1 c2 a.2 m.1 m.2 else a.2)
    (act.zip w) (m1.zip m2)
  let seed := cxSeed (s.cx g.coll.toNat) ^^^ 0xA5A5A5A5
  let draws := if b.srnd then (genDraws n (genSeed seed g.round (BitVec.ofNat 24 g.chunk))).1 else []
  let low := (List.zipWith (fun (v m : BitVec 32) => m == b.step || decide (v.toNat < (b.step + 1).toNat))
    (s.gVers j so b.served n) vm).mapIdx (fun i a => a && inBlocks (k.map (fun k => k - km)) so (b.served * i))
  let srv := new.mapIdx (fun i x => (convertElem b.format true (if b.srnd then some (draws.getD i 0) else none) x).1)
  let s := s.gStore j (p.master + o) 4 (chosen act (new.map toF32)) (b.step + 1)
  let s := s.gStore j so b.served (chosen low srv) (b.step + 1)
  let s := if act.any id || low.any id then s.passWrote j g.bix g.h else s
  let s := s.bump (Reg.GRN_UPD j) (act.filter id).length
  let job := cxJob (s.cx g.coll.toNat)
  let s := (s.grnEvent evRead (4 * n) job (chanAddr j (p.master + o))).grnEvent evRead (4 * n) job (chanAddr j (p.m1 + o))
  let s := if b.adamw then s.grnEvent evRead (4 * n) job (chanAddr j (p.m2 + o)) else s
  let s := s.grnEvent evWrite (4 * (act.filter id).length) job (chanAddr j (p.master + o))
  let s := s.grnEvent evWrite (b.served * (low.filter id).length) job (chanAddr j so)
  let s := s.grnEvent 0x10 (act.filter id).length job (chanAddr j (p.master + o))
  if k.isSome then s
  else s.bump (Reg.GRN_SKIP j) ((act.mapIdx (fun i a => !a || SMap.get false g.skip i)).filter id).length

/-- Pass 2 of the engine's first chunk. -/
def State.passSecond (s : State) (j : Nat) (g : GChunk) : State :=
  let (ok, s) := s.verifyAll j 2 ((s.binding j g.bix).secondRanges g.h)
  if ok then (s.secondWrites j g none).stepCopy j g else (s.chunkLeaves j).damage j g

/-- A pass in progress on the engine's first chunk stops at a 256-byte block boundary: how many blocks it has written is a
free value, M1 and M2 going together (R306). (DEDUCED, log entry 100) -/
def State.stopPass (s : State) (j : Nat) : State :=
  match (s.engine j).chunks with
  | [] => s
  | g :: _ =>
    let b := s.binding j g.bix
    if !s.engineRuns j || !s.chunkLive g || b.damaged || (g.phase == 0 && badGrads g.grads != 0 && b.nanabort)
        || (g.phase == 1 && s.planeBusy j g.bix b) || decide (2 ≤ g.phase) then s
    else
      let (w, s) := s.free
      let (ok, s) := s.verifyAll j (g.phase + 1) (if g.phase = 0 then b.firstRanges g.h else b.secondRanges g.h)
      if !ok then s.damage j g
      else if g.phase = 0 then s.firstWrites j g (some (w.toNat % 129))
      else s.secondWrites j g (some (w.toNat % 257))

/-- Pass 2 of the engine's first chunk is done, and its copy sent when there is room. -/
def execPass2Done (j : Fin 16) (s : State) : Out :=
  match (s.engine j.val).chunks with
  | [] => .next s
  | g :: _ =>
    let b := s.binding j.val g.bix
    if !s.engineRuns j.val then .next s
    else if g.phase = 1 ∧ s.chunkLive g ∧ b.damaged then .next ((s.chunkLeaves j.val).noBinding j.val g)
    else if g.phase = 1 ∧ !s.planeBusy j.val g.bix b then .next (s.passSecond j.val g)
    else if g.phase = 2 then .next (s.stepCopy j.val g)
    else .next s

/-! ### Command lists (R304, R305) -/

def gsOk : Nat := 0
def gsBadentry : Nat := 1
def gsRange : Nat := 2
def gsNocontext : Nat := 3
def gsInuse : Nat := 4
def gsNotbound : Nat := 5
def gsOverlap : Nat := 6
def gsActive : Nat := 7
def gsBulk : Nat := 8
def gsAborted : Nat := 9

def geBix (e : Entry) : Nat := entryNat e 1 1
def geFlags (e : Entry) : Nat := entryNat e 2 1

/-- The hyperparameters of an entry. -/
def geHyper (e : Entry) : Hyper :=
  { lr := BitVec.ofNat 32 (entryNat e 32 4), beta1 := BitVec.ofNat 32 (entryNat e 36 4), beta2 := BitVec.ofNat 32 (entryNat e 40 4),
    eps := BitVec.ofNat 32 (entryNat e 44 4), wd := BitVec.ofNat 32 (entryNat e 48 4), clip := BitVec.ofNat 64 (entryNat e 52 8) }

/-- The binding that a BIND makes. -/
def geBinding (e : Entry) : Binding :=
  let f := geFlags e
  { valid := true
    replica := bitsOf f 7 6 == 1
    opt := BitVec.ofNat 2 (bitsOf f 5 4)
    sfmt := BitVec.ofNat 2 (bitsOf f 3 2)
    srnd := bitOf f 1
    nanabort := bitOf f 0
    coll := BitVec.ofNat 16 (entryNat e 4 2)
    basereg := entryNat e 8 2
    peerreg := entryNat e 10 2
    peer := BitVec.ofNat 12 (entryNat e 12 2)
    elems := entryNat e 14 2
    nchunk := entryNat e 16 4
    step := BitVec.ofNat 32 (entryNat e 20 4)
    epoch := BitVec.ofNat 32 (entryNat e 24 4)
    cur := entryNat e 28 1 == 1
    hp := geHyper e
    peerState := if bitsOf f 7 6 = 1 then 0 else 2 }

/-- MOMENTUM needs BETA2 and EPS zero. -/
def hyperOk (opt : BitVec 2) (e : Entry) : Bool := opt != 2 || (entryNat e 40 4 == 0 && entryNat e 44 4 == 0)

/-- BADENTRY: an UNBIND or a SETHP is held only to the bytes that the layout gives as zero. -/
def State.grnBad (s : State) (j : Nat) (e : Entry) : Bool :=
  let f := geFlags e
  let b := s.binding j (geBix e)
  let zero := fun (i k : Nat) => entryNat e i k == 0
  if entryOp e = 1 then
    !(decide (bitsOf f 7 6 ≤ 1) && (bitsOf f 5 4 == 1 || bitsOf f 5 4 == 2) && bitsOf f 3 2 != 3 && zero 3 1
      && decide (entryNat e 8 2 < 2 ^ 14 ∧ entryNat e 10 2 < 2 ^ 14 ∧ entryNat e 12 2 < 2 ^ 12 ∧ entryNat e 16 4 < 2 ^ 24
        ∧ entryNat e 28 1 ≤ 1)
      && zero 29 3 && zero 60 4 && hyperOk (BitVec.ofNat 2 (bitsOf f 5 4)) e)
  else if entryOp e = 2 then !(zero 3 1 && zero 29 3 && zero 60 4)
  else if entryOp e = 3 then
    !(zero 3 1 && zero 29 3 && zero 60 4 && (decide (63 < geBix e) || !b.valid || hyperOk b.opt e))
  else if entryOp e = 4 then !(zero 1 5 && entryNat e 8 8 % 256 == 0 && zero 32 32)
  else if entryOp e = 5 then !(zero 2 4 && zero 16 48)
  else true

/-- The planes of two bindings, or a LOAD range and a binding's planes, share bytes. -/
def rangesShare (a b c d : Nat) : Bool := decide (a < d ∧ c < b)

/-- The status of a BIND. (DEDUCED, log entry 101) -/
def State.bindGrnStatus (s : State) (j : Nat) (e : Entry) : Nat :=
  let b := geBinding e
  let p := b.planes
  let d := s.cx b.coll.toNat
  if s.grnBad j e then gsBadentry
  else if 63 < geBix e ∨ b.basereg % 16 ≠ j ∨ backedRegions ≤ b.basereg ∨ b.peerreg % 16 ≠ j ∨ backedRegions ≤ b.peerreg
      ∨ b.elems = 0 ∨ 8192 < b.elems ∨ b.nchunk = 0 ∨ 992 * 2 ^ 27 < p.stop then gsRange
  else if !b.replica && (!cxValid d || !(cxDest d == 1 || cxDest d == 2) || cxElems d != b.elems
      || b.basereg != cxGregion d + j || b.nchunk != coveredBelow d s.modnum.toNat j (cxChunks d)) then gsNocontext
  else if (s.binding j (geBix e)).valid then gsInuse
  else if (s.channelBindings j).any (fun x => rangesShare p.p0 p.stop x.2.planes.p0 x.2.planes.stop) then gsOverlap
  else gsOk

/-- The status of an UNBIND. -/
def State.unbindGrnStatus (s : State) (j : Nat) (e : Entry) : Nat :=
  let b := s.binding j (geBix e)
  if s.grnBad j e then gsBadentry
  else if 63 < geBix e then gsRange
  else if !b.valid then gsNotbound
  else if s.roundActive b.coll then gsActive
  else gsOk

/-- The status of a SETHP. (DEDUCED, log entry 101) -/
def State.sethpStatus (s : State) (j : Nat) (e : Entry) : Nat :=
  if s.grnBad j e then gsBadentry
  else if 63 < geBix e then gsRange
  else if !(s.binding j (geBix e)).valid then gsNotbound
  else gsOk

/-- The status of a LOAD, with the bytes of its handle. A range that lies wholly in one binding's
planes is judged by that binding's round. (DEDUCED, log entry 101) -/
def State.loadGrnStatus (s : State) (j : Nat) (e : Entry) (data : Option (List Byte)) : Nat :=
  let a := entryNat e 8 8
  let len := entryNat e 16 4
  let o := addrOff a
  let meet := (s.channelBindings j).filter (fun x => rangesShare o (o + len) x.2.planes.p0 x.2.planes.stop)
  if s.grnBad j e then gsBadentry
  else if a / 2 ^ 27 % 16 ≠ j ∨ backedRegions ≤ a / 2 ^ 27 ∨ len < 256 ∨ 2 ^ 24 < len ∨ len % 256 ≠ 0 ∨ 2 ^ 27 < a % 2 ^ 27 + len then gsRange
  else if meet.any (fun x => !decide (x.2.planes.p0 ≤ o ∧ o + len ≤ x.2.planes.stop)) then gsOverlap
  else if meet.any (fun x => s.roundActive x.2.coll) then gsActive
  else match data with
    | some l => if l.length = len then gsOk else gsBulk
    | none => gsBulk

/-- The status of a RESILVER. (DEDUCED, log entry 101) -/
def State.resilverStatus (s : State) (j : Nat) (e : Entry) : Nat :=
  let b := s.binding j (geBix e)
  let n := entryNat e 12 4
  if s.grnBad j e then gsBadentry
  else if 63 < geBix e ∨ n = 0 ∨ 2048 < n ∨ (b.valid ∧ b.nchunk < entryNat e 8 4 + n) then gsRange
  else if !b.valid ∨ b.replica then gsNotbound
  else gsOk

/-- Write an entry's completion record and count its status. -/
def State.grnDone (s : State) (j : Fin 16) (e : Entry) (status : Nat) : State :=
  let op := entryOp e
  let s := (s.bump (Reg.GRN_CNT j.val status) 1).ringWrite (.grn j)
    (pack [(Fld.GRN_CRING_TAG, entryNat e 6 2), (Fld.GRN_CRING_OP, op), (Fld.GRN_CRING_STATUS, status),
      (Fld.GRN_CRING_BIX, if op = 4 then 0 else geBix e)]) (status != gsOk)
  let x := s.engine j.val
  s.setEngine j.val { x with
    progressAt := s.tick
    idleAt := s.tick }

/-- Take the next entry of an engine if its OP is one of `mine`. (DEDUCED, log entries 21 and 101) -/
def State.grnTake (s : State) (j : Fin 16) (mine : Nat → Bool) (run : Entry → State → State) : State :=
  match s.nextEntry (engGrn j.val) with
  | none => s
  | some (q, e) =>
    if s.awake && (s.engine j.val).st == 1 && (s.engine j.val).resilver.isNone && mine (entryOp e) then
      run e (s.popQueue (engGrn j.val) q)
    else s

/-- A parameter of binding `b`, or a served weight, holds VERSION STEP + 1: the binding is PENDING (R290). -/
def State.holdsNext (s : State) (j b : Nat) : Bool :=
  let x := s.binding j b
  let p := x.planes
  let n := x.nchunk * x.elems
  let lies := fun (o a len : Nat) => decide (a < o + 256 ∧ o < a + len)
  s.grn.ver.any (fun q =>
    let o := addrOff (256 * q.1)
    addrChan (256 * q.1) == j && q.2 == (x.step + 1).toNat
      && (lies o p.p0 (n * x.served) || lies o p.p1 (n * x.served) || lies o p.master (4 * n) || lies o p.m1 (4 * n)
        || (x.adamw && lies o p.m2 (4 * n))))

/-- PENDING follows what the planes hold. -/
def State.setPending (s : State) (j b : Nat) : State := s.setBinding j b { s.binding j b with pend := s.holdsNext j b }

/-- A BIND is taken; an entry with an unlisted OP ends here too. (DESIGN CHOICE, log entry 28) -/
def execGrnBind (j : Fin 16) (s : State) : Out :=
  .next (s.grnTake j (fun op => !(decide (2 ≤ op ∧ op ≤ 5))) (fun e s =>
    let st := s.bindGrnStatus j.val e
    (if st = gsOk then (s.setBinding j.val (geBix e) (geBinding e)).setPending j.val (geBix e) else s).grnDone j e st))

/-- A binding is removed; a STATE frame for it in this event tick comes after (R308). -/
def State.unbindGrn (s : State) (j b : Nat) : State :=
  let x := s.engine j
  (s.setEngine j { x with wasBound := some (s.tick + 1, s.binding j b) }).setBinding j b {}

/-- An UNBIND is taken. -/
def execGrnUnbind (j : Fin 16) (s : State) : Out :=
  .next (s.grnTake j (fun op => op == 2) (fun e s =>
    let st := s.unbindGrnStatus j.val e
    (if st = gsOk then s.unbindGrn j.val (geBix e) else s).grnDone j e st))

/-- A SETHP is taken. -/
def execSethp (j : Fin 16) (s : State) : Out :=
  .next (s.grnTake j (fun op => op == 3) (fun e s =>
    let st := s.sethpStatus j.val e
    let b := s.binding j.val (geBix e)
    (if st = gsOk then s.setBinding j.val (geBix e) { b with
      hp := geHyper e
      hpWas := some (s.tick + 1, b.hpAt s.tick) } else s).grnDone j e st))

/-- A range of channel offsets touches a local chunk of a binding. -/
def Binding.touches (b : Binding) (o len h : Nat) : Bool :=
  let p := b.planes
  let k := fun (base w : Nat) => rangesShare o (o + len) (base + w * (h * b.elems)) (base + w * ((h + 1) * b.elems))
  k p.p0 b.served || k p.p1 b.served || k p.master 4 || k p.m1 4 || (b.adamw && k p.m2 4)

/-- A LOAD writes its bytes: the copies of the chunks that it touches no longer stand for them, and PENDING follows the
versions written (R290, R344). -/
def State.loadRange (s : State) (j a : Nat) (l : List Byte) (version : BitVec 32) : State :=
  let o := addrOff a
  let s := (s.gWrite a l version).grnEvent evWrite l.length 0 a
  ((s.channelBindings j).filter (fun x => rangesShare o (o + l.length) x.2.planes.p0 x.2.planes.stop)).foldl (fun s x =>
    (s.dirtyCopies j x.1 (x.2.touches o l.length)).setPending j x.1) s

/-- A LOAD is taken. -/
def execLoad (j : Fin 16) (s : State) : Out :=
  .next (s.grnTake j (fun op => op == 4) (fun e s =>
    let data := s.bulkData (entryNat e 24 8)
    let st := s.loadGrnStatus j.val e data
    let l := data.getD []
    (if st = gsOk then s.loadRange j.val (entryNat e 8 8) l (BitVec.ofNat 32 (entryNat e 20 4)) else s).grnDone j e st))

/-- A chunk has a block at STEP + 1. -/
def State.chunkAhead (s : State) (j : Nat) (b : Binding) (h : Nat) : Bool :=
  let p := b.planes
  let o := 4 * (h * b.elems)
  let blocks := chanBlocks j (p.master + o) (4 * b.elems) ++ chanBlocks j (p.m1 + o) (4 * b.elems)
    ++ (if b.adamw then chanBlocks j (p.m2 + o) (4 * b.elems) else [])
    ++ chanBlocks j (b.next + b.served * (h * b.elems)) (b.served * b.elems)
  blocks.any (fun k => s.blockVer k == b.step + 1)

/-- Send the chunks of a RESILVER from the `i`-th on while there is room (R344); the count dealt
with, and whether a block failed. (DEDUCED, log entry 101) -/
def State.resilverRun (s : State) (j : Nat) (e : Entry) : Nat → Nat → Nat × Bool × State
  | 0, i => (i, true, s)
  | k + 1, i =>
    let bix := geBix e
    let b := s.binding j bix
    let h := entryNat e 8 4 + i
    if s.chunkAhead j b h then s.resilverRun j e k (i + 1)
    else if !s.copyRoom then (i, true, s)
    else
      let (ok, s) := s.chunkVerify j b h b.current 5
      if !ok then (i, false, s.setBinding j bix { b with damaged := true })
      else
        let d := s.cx b.coll.toNat
        let s := s.grnEvent evRead (s.chunkImage j b h b.current).length (cxJob d) (chanAddr j b.planes.p0)
        let s := s.sendCopy (qGranary j) (.resilver j bix h)
          { dest := b.peer, job := cxJob d, coll := b.coll, round := b.epoch.extractLsb' 16 16, epochnum := b.epoch, version := b.step }
          ((cut4096 (s.chunkImage j b h b.current)).map (fun l => { subk := 2, chunk := h, addr := 0, bytes := l }))
        s.resilverRun j e k (i + 1)

/-- Go on with a RESILVER. -/
def State.resilverGo (s : State) (j : Fin 16) (e : Entry) (i : Nat) : State :=
  let n := entryNat e 12 4
  let (i, ok, s) := s.resilverRun j.val e (n - i) i
  let x := s.engine j.val
  if ok && decide (i < n) then
    s.setEngine j.val { x with
      resilver := some (e, i)
      progressAt := s.tick }
  else (s.setEngine j.val { x with resilver := none }).grnDone j e gsOk

/-- A RESILVER is taken, or goes on as there is room. -/
def execResilver (j : Fin 16) (s : State) : Out :=
  match (s.engine j.val).resilver with
  | some (e, i) => if s.engineRuns j.val then .next (s.resilverGo j e i) else .next s
  | none => .next (s.grnTake j (fun op => op == 5) (fun e s =>
      let st := s.resilverStatus j.val e
      if st = gsOk ∧ (s.binding j.val (geBix e)).peerState ≠ 0 then s.resilverGo j e 0 else s.grnDone j e st))

/-! ### Drain, force and reset (R306, R307, R460, R464) -/

/-- GRN_CMD.DRAIN. -/
def execGrnDrain (j : Fin 16) (s : State) : Out := if s.awake then .next (s.drainEngine (engGrn j.val)) else .next s

/-- The RESILVER in progress ends ABORTED. -/
def State.endResilver (s : State) (j : Fin 16) : State :=
  let x := s.engine j.val
  match x.resilver with
  | some (e, _) => (s.setEngine j.val { x with resilver := none }).grnDone j e gsAborted
  | none => s

/-- A forced disable of an engine. -/
def State.forceGranary (s : State) (j : Fin 16) (cause : Nat) : State :=
  let l := s.waitingEntries (engGrn j.val)
  let s := l.foldl (fun s e => s.grnDone j e gsAborted) (s.clearQueues (engGrn j.val))
  let s := (((s.endResilver j).stopPass j.val).setHold (engGrn j.val) 2).forcedDisable (engGrn j.val) cause
  s.dropChunks j.val rfAborted

/-- GRN_CMD.FORCE. -/
def execGrnForce (j : Fin 16) (s : State) : Out := if s.awake then .next (s.forceGranary j 0) else .next s

/-- GRN_CMD.RESUME. -/
def execGrnResume (j : Fin 16) (s : State) : Out := if s.awake then .next (s.setHold (engGrn j.val) 0) else .next s

/-- A unit reset of an engine; the third within 1 h disables it. (DEDUCED, log entry 102) -/
def State.engineReset (s : State) (j : Fin 16) : State :=
  let s := ((s.endResilver j).dropChunks j.val rfEngine).cut (cutChannel j.val)
  let x := s.engine j.val
  let l := s.window x.resets (secTicks 3600)
  let off := decide (3 ≤ l.length)
  let s := s.setEngine j.val { x with
    st := if off then 4 else 3
    resets := l }
  if off then
    s.faultRecord { unitType := utGranary, unit := j.val, register := 1, cause := 7, action := 5, detail := s.reg (Reg.GRN_EVT j.val) }
  else s

/-- An engine has made no progress on its first chunk or its entry for 10 ms; a wait for room under R165 does not count
(R305), and a pass that ends in this event tick does (R308). (DESIGN CHOICE, log entry 133) -/
def State.granaryHung (s : State) (j : Nat) : Bool :=
  let x := s.engine j
  s.awake && x.st == 1 && s.since x.progressAt (msTicks 10) && (match x.chunks with
    | g :: _ => (g.phase != 2 || s.copyRoom) && !s.passNow j g.phase
    | [] => x.resilver.isSome && s.copyRoom)

/-- The watchdog of the engine resets it in this event tick. -/
def State.hangNow (s : State) (j : Nat) : Bool :=
  s.granaryHung j && s.alsoNow (fun i => match i with
    | .granaryHang k => k.val == j
    | _ => false)

/-- GRN_CMD.RESET; with the watchdog in the same event tick there is one reset, the watchdog's (R476). A pass in progress
stops at a block boundary. (DEDUCED, log entry 100; DESIGN CHOICE, log entry 133) -/
def execGrnReset (j : Fin 16) (s : State) : Out :=
  if s.awake ∧ (s.engine j.val).st ≠ 4 ∧ !s.isCut (cutChannel j.val) ∧ !s.hangNow j.val then
    .next ((s.stopPass j.val).engineReset j)
  else .next s

/-- An engine has made no progress for 10 ms. -/
def execGranaryHang (j : Fin 16) (s : State) : Out :=
  if s.granaryHung j.val then
    let s := s.raise (Reg.GRN_EVT j.val) 7 8 (srcGranary j.val)
    let s := s.faultRecord { cls := 8, unitType := utGranary, unit := j.val, register := 1, cause := 7, action := 1,
                             detail := s.reg (Reg.GRN_EVT j.val) }
    .next (s.engineReset j)
  else .next s

/-! ### Clock (R389) -/

/-- Requests in staging for a region of channel `j`. -/
def State.requestWaits (s : State) (j : Nat) : Bool :=
  s.sw.staging.any (fun p => p.2.any (fun h => isRequest h.f && s.ownFrame h.f && addrRegion h.f.addr % 16 == j))

/-- A chunk, an entry or a request waits for the engine. (DEDUCED, log entry 98) -/
def State.engineWork (s : State) (j : Nat) : Bool :=
  let x := s.engine j
  !x.ftxWait.isEmpty || !x.chunks.isEmpty || x.resilver.isSome || (s.nextEntry (engGrn j)).isSome || s.requestWaits j
    || s.ma.reads.any (fun r => r.j == j) || s.ma.atoms.any (fun a => a.j == j)

/-- An engine idle for IDLEGATE µs stops its clock. (DEDUCED, log entry 98) -/
def execGrnEngineGate (j : Fin 16) (s : State) : Out :=
  let x := s.engine j.val
  let g := s.reg (Reg.GRN_ECTL j.val)
  if s.awake ∧ x.st = 1 ∧ !s.engineWork j.val ∧ s.since x.idleAt (usTicks (g.toNat % 65536)) then
    .next (s.setEngine j.val { x with st := 0 })
  else .next s

/-- A gated engine with work waiting has its clock running. (DEDUCED, log entry 98) -/
def execGrnEngineWake (j : Fin 16) (s : State) : Out :=
  let x := s.engine j.val
  if s.awake ∧ x.st = 0 ∧ !x.selfRefresh ∧ s.engineWork j.val then
    .next (s.setEngine j.val { x with
      st := 1
      idleAt := s.tick
      progressAt := s.tick })
  else .next s

/-! ### Patrol (R288) -/

/-- A finding of the patrol scrub of channel `j`. -/
def State.grnFinding (s : State) (j : Nat) (f : GrnFinding) : State :=
  let key := fun (b : Nat) => blockOf (chanAddr j (256 * b))
  let mark := fun (s : State) (b v : Nat) => s.onGrn (fun g => { g with bad := SMap.put 0 g.bad (key b) v })
  match f with
  | .corrected _ => (s.bump (Reg.GRN_ECCC j) 1).score (544 + j) 16
  | .eccUe b => (mark s b 2).tagFail (key b) 3
  | .tagBad b => (mark s b 1).tagFail (key b) 3
  | .unseen b ecc => mark s b (if ecc then 2 else 1)
  | .trainFail => s.channelFail j

/-- A finding that is an event of class 5 (R382). -/
def GrnFinding.grave : GrnFinding → Bool
  | .corrected _ => false
  | .eccUe _ => true
  | .tagBad _ => true
  | .unseen _ _ => false
  | .trainFail => true

/-- A finding that needs no scrub to be read. -/
def GrnFinding.silent : GrnFinding → Bool
  | .unseen _ _ => true
  | _ => false

/-- The patrol scrub reads blocks of a channel while PATROL is set; a block that goes bad unseen does so at any time, and a
finding at no block of the channel is none. (DESIGN CHOICE, log entries 9, 122 and 127; DEDUCED, log entry 102) -/
def execGrnPatrol (j : Fin 16) (findings : List GrnFinding) (s : State) : Out :=
  let on := s.reg (Reg.GRN_ECTL j.val) &&& 0x10000 ≠ 0
  let l := findings.filter (fun f => f.wf && (GrnFinding.silent f || on))
  if s.pathCut then .next ((l.filter GrnFinding.grave).foldl (fun (s : State) _ => s.logEvent 5 (srcGranary j.val) true) s)
  else if s.awake then .next (l.foldl (fun s f => s.grnFinding j.val f) s)
  else .next s

/-! ### What the registers show -/

/-- GRN_STAT: channels trained, and READY. (DEDUCED, log entry 123) -/
def State.grnStat (s : State) : Word :=
  let boot := s.awake && (match s.watch.run with
    | some _ => decide (5 < s.fld Reg.WCH_BOOT Fld.WCH_BOOT_STEP)
    | none => true)
  let ch := ((List.range 16).filter (fun j => boot && !(s.engine j).failed)).map (fun j => 2 ^ j)
  BitVec.ofNat 64 (ch.sum + (if ch.length = 16 then 65536 else 0))

/-- GRN_ESTAT. (DEDUCED, log entry 123) -/
def State.grnEstat (s : State) (j : Nat) : Word :=
  let x := s.engine j
  let run := x.st == 1 && (!x.chunks.isEmpty || x.resilver.isSome)
  pack [(Fld.GRN_ESTAT_STATE, if run then 2 else x.st),
    (Fld.GRN_ESTAT_UNACKED, (s.ma.copies.filter (fun p => p.2.any (fun c => c.kind.engine == some j))).length),
    (Fld.GRN_ESTAT_BINDINGS, (s.channelBindings j).length)]

/-- GRN_BSTAT. -/
def State.grnBstat (s : State) (j b : Nat) : Word :=
  let x := s.binding j b
  if !x.valid then 0
  else pack [(Fld.GRN_BSTAT_VALID, 1), (Fld.GRN_BSTAT_ROLE, b2n x.replica), (Fld.GRN_BSTAT_OPT, x.opt.toNat),
    (Fld.GRN_BSTAT_SFMT, x.sfmt.toNat), (Fld.GRN_BSTAT_CUR, b2n x.cur), (Fld.GRN_BSTAT_PENDING, b2n x.pend),
    (Fld.GRN_BSTAT_DAMAGED, b2n x.damaged), (Fld.GRN_BSTAT_COLL, x.coll.toNat), (Fld.GRN_BSTAT_STEPPED, x.stepped.length)]

/-- GRN_BSTEP. -/
def State.grnBstep (s : State) (j b : Nat) : Word :=
  let x := s.binding j b
  if x.valid then pack [(Fld.GRN_BSTEP_STEP, x.step.toNat), (Fld.GRN_BSTEP_EPOCH, x.epoch.toNat)] else 0

/-- GRN_BPEER (R344). -/
def State.grnBpeer (s : State) (j b : Nat) : Word :=
  let x := s.binding j b
  if !x.valid then 0
  else pack [(Fld.GRN_BPEER_UNNOTICED, b2n x.unnoticed), (Fld.GRN_BPEER_PEERSTATE, x.peerState.toNat),
    (Fld.GRN_BPEER_ACTV, b2n x.acting.isSome), (Fld.GRN_BPEER_PEER, x.peer.toNat),
    (Fld.GRN_BPEER_ACTING, (x.acting.getD 0).toNat),
    (Fld.GRN_BPEER_LOADED, if x.replica then 0 else if x.peerState = 2 then x.nchunk else if x.peerState = 1 then x.loaded.length else 0)]

end Sys2Proof.Machine
end

