-- ==== Sys2Proof/Machine/Members.lean ====
section
/-! DEFINITION. What a sheaf's commit checks (R183, R330, R343, R345) and what its PROMOTE and PARTNER members do
(R340, R343); the commits that fall in the event tick of another command (R325, R350). -/

namespace Sys2Proof.Machine

/-! ### Checks and members -/

/-- TBL_SH_CMD.STATUS. -/
def ssOk : Nat := 0
def ssRange : Nat := 1
def ssState : Nat := 2
def ssFull : Nat := 3
def ssField : Nat := 4
def ssAborted : Nat := 5

/-- The status of a staged entry against the state `s'` that the whole sheaf would leave. (DEDUCED, log entry 32) -/
def State.entryVerdict (s s' : State) (x : Staged) : Nat :=
  let f := formStatus x.t x.idx x.data
  if f ≠ tsOk then f
  else if x.t = 1 ∧ !jobChange (s.entry 1 x.idx).data x.data then tsField
  else if x.cas.any (fun g => g != (s.entry x.t x.idx).gen) then tsCasfail
  else s.stateStatus s' x.t x.idx x.data

/-- The status of the first staged entry that fails. -/
def State.stagedVerdict (s s' : State) : List Staged → Nat
  | [] => tsOk
  | x :: l => orElseStatus (s.entryVerdict s' x) (s.stagedVerdict s' l)

/-- LIVE passes for a new partner (R345): each PRIMARY binding is loaded there and stands at a step boundary, the partner has
acknowledged its current STEP, and no round of a bound collective is registered; a registration of the same event tick comes
first (R350). (DEDUCED, log entry 42) -/
def State.partnerLoaded (s : State) (n : BitVec 12) : Bool :=
  s.grn.bindings.all (fun p => !p.2.valid || p.2.replica ||
    (p.2.peer == n && (p.2.peerState == 2 || (p.2.peerState == 1 && p.2.loaded.length == p.2.nchunk))
      && p.2.loadedStep == some p.2.step && !p.2.pend))
    && s.grn.bindings.all (fun p => !p.2.valid || !s.roundBusy p.2.coll)

/-- The abort cause of a member, 0 when it passes. (DEDUCED, log entry 32) -/
def State.memberVerdict (s : State) : Member → Nat
  | .promote h =>
    if s.isOwn h || !s.grn.bindings.any (fun p => p.2.valid && p.2.replica && p.2.peer == h) then saNoReplica else 0
  | .partner n live =>
    if Config.siteOf n = s.watch.record.site ∧ Config.planeOf n = s.watch.record.plane then saOwnPlane
    else if s.isOwn n then saNoReplica
    else if live && !s.partnerLoaded n then saNotLoaded
    else 0

/-- A replica of `h` becomes primary for it (R340). -/
def promoteBinding (h : BitVec 12) (b : Binding) : Binding :=
  if b.valid && b.replica && b.peer == h then { b with
    replica := false
    acting := some h
    peer := 0
    peerState := 0
    loaded := []
    loadedStep := none }
  else b

/-- A PRIMARY binding gets a new partner (R343). (DEDUCED, log entry 42) -/
def partnerBinding (n : BitVec 12) (live : Bool) (b : Binding) : Binding :=
  if b.valid && !b.replica then { b with
    peer := n
    peerState := if live then 2 else 1
    loaded := if live then b.loaded else []
    loadedStep := if live then b.loadedStep else none }
  else b

/-- The module that a member promotes a replica of. -/
def Member.promoted : Member → Option (BitVec 12)
  | .promote h => some h
  | .partner _ _ => none

/-- A member takes effect. (DEDUCED, log entry 42) -/
def State.applyMember (s : State) : Member → State
  | .promote h => s.onGrn (fun g => { g with bindings := g.bindings.map (fun p => (p.1, promoteBinding h p.2)) })
  | .partner n live =>
    let s := s.onGrn (fun g => { g with bindings := g.bindings.map (fun p => (p.1, partnerBinding n live p.2)) })
    if live then (s.setFld Reg.GRN_MA_CTL Fld.GRN_MA_CTL_PEER n.toNat).setFld Reg.GRN_MA_CTL Fld.GRN_MA_CTL_PEERV 1 else s

/-- The cause of the member at one place, judged with every other member applied (R330). (DEDUCED, log entry 32) -/
def State.memberCause (s : State) (l : List Member) (i : Nat) : Nat :=
  match l[i]? with
  | none => 0
  | some m => ((dropAt l i).foldl (fun s x => s.applyMember x) s).memberVerdict m

/-- The cause of the first member that fails, 0 when all pass. -/
def State.membersVerdict (s : State) (l : List Member) : Nat :=
  (((List.range l.length).map (s.memberCause l)).find? (fun c => c != 0)).getD 0

/-- The cause that refuses the commit of a sheaf, 0 when every check passes, and the status of the table entry that failed:
table entries come first, then the members (R183, R330). -/
def State.sheafVerdict (s : State) (x : Sheaf) : Nat × Nat :=
  let s' := x.staged.foldl (fun (s : State) y => s.setEntry y.t y.idx { gen := 0, data := y.data }) s
  let bad := s.stagedVerdict s' x.staged
  (if bad ≠ tsOk then saEntry else s.membersVerdict x.members, bad)

/-! ### Commits of the same event tick (R325, R350) -/

/-- A software sheaf's ID. -/
def softId (id : Nat) : Bool := id != 0 && decide (id < 0xF000)

/-- The sheaf that a waiting COMMIT of TBL_SH_CMD names, if its source may write it now. -/
def State.commitWaits (s : State) : Instr → Option Nat
  | .shCommit src w => if s.mayWrite src && !s.opBusy (banked src Reg.TBL_SH_CMD) then some (Fld.TBL_SH_CMD_SHEAF.get w) else none
  | _ => none

/-- The sheaves that commit in this event tick by a COMMIT that still waits. (DESIGN CHOICE, log entry 133) -/
def State.committing (s : State) : List Sheaf :=
  ((s.pending.filterMap s.commitWaits).dedup.map (fun id => (id, s.sheaf id))).filterMap (fun p =>
    if softId p.1 && p.2.state == shOpen && (s.sheafVerdict p.2).1 == 0 then some p.2 else none)

/-- A Region Ownership entry as the requests of this event tick see it: a commit comes before them (R325). -/
def State.regionEntry (s : State) (region : Nat) : BitVec 512 :=
  match (s.committing.flatMap (fun x => x.staged)).reverse.find? (fun y => y.t == 3 && y.idx == region) with
  | some y => y.data
  | none => (s.entry 3 region).data

/-- A PROMOTE of a module commits in this event tick (R350). -/
def State.promoting (s : State) (src : BitVec 20) : Bool :=
  s.committing.any (fun x => x.members.any (fun m => m.promoted.any (fun h => h.setWidth 20 == src)))

end Sys2Proof.Machine
end

