-- ==== Sys2Proof/Machine/Access.lean ====
section
/-! DEFINITION. Memory-semantic access (R49, R309 to R325): the checks at the home, reads and their
groups, writes and their trackers, atomics with the journal and their groups, and channels that do
not serve. -/

namespace Sys2Proof.Machine

/-! ### Access state -/

/-- The Granary address of a request's region and an offset in it. -/
def reqAddr (a : Word) : Nat := addrRegion a * 2 ^ 27 + addrOffset a

/-- The channel of a request. -/
def reqChan (f : Frame) : Nat := addrRegion f.addr % 16

/-- Fields of GRN_MA_CTL. -/
def State.maPeer (s : State) : Option (BitVec 12) :=
  if s.flag Reg.GRN_MA_CTL Fld.GRN_MA_CTL_PEERV then some (BitVec.ofNat 12 (s.fld Reg.GRN_MA_CTL Fld.GRN_MA_CTL_PEER)) else none
def State.atWindow (s : State) : Nat := min 200 (s.fld Reg.GRN_MA_CTL Fld.GRN_MA_CTL_ATWIN)
def State.readWindow (s : State) : Nat := min 200 (s.fld Reg.GRN_MA_CTL Fld.GRN_MA_CTL_RDWIN)
def State.wrWait (s : State) : Nat := max 1 (s.fld Reg.GRN_MA_CTL Fld.GRN_MA_CTL_WRWAIT)
def State.deadWait (s : State) : Nat := min 4000 (max 1 (s.fld Reg.GRN_MA_CTL Fld.GRN_MA_CTL_DEADWAIT))

/-- Count in GRN_MA_CNT. (DEDUCED, log entry 45) -/
def State.maCount (s : State) (i n : Nat) : State := s.bump (Reg.GRN_MA_CNT i) n

/-- A channel serves (R321). -/
def State.serving (s : State) (j : Nat) : Bool :=
  let e := s.engine j
  e.st != 3 && e.st != 4 && !e.failed && !e.selfRefresh

/-- The requester of a frame. -/
def requesterOf (f : Frame) : Requester :=
  { src := f.src, tag := f.tag, job := f.job, addr := f.addr, len := f.len.toNat, subk := f.subk, opnd := f.opnd,
    swap := BitVec.ofNat 64 (natAt f.payload 0 8) }

/-- A REPLY of one frame to a requester. -/
def State.replyTo (s : State) (m : Requester) (err : BitVec 8) (payload : List Byte) : Frame :=
  s.replyFrame m.job m.src m.tag (BitVec.ofNat 32 m.len) m.addr err flFence 1 payload

/-- An error reply other than HOME_DEAD. (DEDUCED, log entry 88) -/
def State.errorReply (s : State) (j : Nat) (m : Requester) (err : BitVec 8) : State :=
  (s.originate (qGranary j) (s.replyTo m err []) [.route] .none).maCount 5 1

/-! ### Checks (R49, R309, R312, R313) -/

/-- Bytes of an AT_REQ's word. (DEDUCED, log entry 88) -/
def atLen (subk : Byte) : Nat := if subk = 1 ∨ subk = 3 then 4 else 8

/-- The rules of R34 for an AT_REQ. (DEDUCED, log entry 88) -/
def atForm (f : Frame) : Bool :=
  decide (1 ≤ f.subk.toNat ∧ f.subk.toNat ≤ 5) && f.len.toNat == atLen f.subk
    && f.plen.toNat == (if f.subk = 4 then 8 else 0)
    && (atLen f.subk == 8 || f.opnd.toNat < 2 ^ 32)
    && addrOffset f.addr % atLen f.subk == 0

/-- The framing of a WR_REQ frame (R309). -/
def wrForm (f : Frame) : Bool :=
  let o := f.opnd.toNat % 2 ^ 32
  f.opnd.toNat < 2 ^ 32 && o % 4096 == 0 && decide (o < f.len.toNat) && f.plen.toNat == min 4096 (f.len.toNat - o)
    && (!frameFence f || f.count.toNat == ceilDiv f.len.toNat 4096)

/-- Length and place of a RD_REQ or WR_REQ (R49). -/
def spanForm (f : Frame) : Bool :=
  let n := f.len.toNat
  n % 64 == 0 && decide (64 ≤ n ∧ n ≤ 2 ^ 24) && addrOffset f.addr % 64 == 0 && decide (addrOffset f.addr + n ≤ 2 ^ 27)

/-- The checks of R49 that the home makes, and R309. -/
def homeForm (f : Frame) : Option (BitVec 8) :=
  let ok := if f.kind = kAtReq then atForm f else spanForm f && (f.kind != kWrReq || wrForm f)
  if !ok then some errBadRequest
  else if backedRegions ≤ addrRegion f.addr then some errNotBacked
  else none

/-- SRC lies in the owner set of an entry (R313). -/
def ownerHas (d : BitVec 512) (src : BitVec 20) : Bool :=
  let dln := src.toNat / 128
  let m := tblBits d 0 62 61
  if m = 0 then tblBits d 0 19 0 == src.toNat
  else if m = 1 then decide (tblBits d 1 28 16 ≤ dln ∧ dln < tblBits d 1 28 16 + tblBits d 1 13 0)
  else m == 2

/-- The PRIMARY binding whose P0 or P1 holds a range, with the offset in the plane (R292).
(DEDUCED, log entry 100) -/
def State.servedRange (s : State) (j off len : Nat) : Option (Nat × Binding × Nat) :=
  (s.channelBindings j).findSome? (fun p =>
    let q := p.2.planes
    let z := q.p1 - q.p0
    if p.2.replica then none
    else if q.p0 ≤ off ∧ off + len ≤ q.p0 + z then some (p.1, p.2, off - q.p0)
    else if q.p1 ≤ off ∧ off + len ≤ q.p1 + z then some (p.1, p.2, off - q.p1)
    else none)

/-- The first check of R49 and R312 that a request fails, down to STALE_EPOCH. A commit of its Region Ownership entry in the
same event tick comes first (R325). -/
def State.requestError (s : State) (f : Frame) : Option (BitVec 8) :=
  match homeForm f with
  | some e => some e
  | none =>
    let d := s.regionEntry (addrRegion f.addr)
    let j := reqChan f
    let off := addrOff (reqAddr f.addr)
    let len := f.len.toNat
    if tblBits d 0 63 63 = 0 ∨ tblBits d 0 43 32 ≠ f.job.toNat then some errOwnership
    else if f.kind ≠ kRdReq ∧ !ownerHas d f.src then some errOwnership
    else if f.kind ≠ kRdReq ∧ (s.channelBindings j).any (fun p => rangesShare off (off + len) p.2.planes.p0 p.2.planes.stop) then
      some errOwnership
    else if f.kind = kRdReq ∧ frameEpoch f then
      (match s.servedRange j off len with
      | some (_, b, _) => if b.epoch = f.epochnum then none else some errStaleEpoch
      | none => some errStaleEpoch)
    else none

/-! ### Reads (R311, R318) -/

/-- Bytes that a read group keeps in the reply buffer: the whole copy while it may serve another member (R311, R318). -/
def ReadGroup.held (g : ReadGroup) : Nat :=
  if g.opened ∨ 1 < g.members.length then g.len else g.len - min g.len (4096 * g.replied)

/-- Free bytes of a channel's reply buffer. -/
def State.replyRoom (s : State) (j : Nat) : Nat :=
  67108864 - ((s.ma.reads.filter (fun g => g.j == j)).map (fun g => g.held)).sum

def State.setReads (s : State) (f : List ReadGroup → List ReadGroup) : State := s.onMa (fun a => { a with reads := f a.reads })

/-- Change one read group. -/
def State.mapRead (s : State) (gid : Nat) (f : ReadGroup → ReadGroup) : State :=
  s.setReads (fun l => l.map (fun g => if g.gid = gid then f g else g))

def State.readGroup (s : State) (gid : Nat) : Option ReadGroup := s.ma.reads.find? (fun g => g.gid == gid)

/-- A read group that takes no more members and has no frame left to send is freed. -/
def State.settleRead (s : State) (gid : Nat) : State :=
  match s.readGroup gid with
  | some g =>
    if !g.opened && g.data.isSome && !s.noteAtSource (.reply g.j gid) then s.setReads (fun l => l.filter (fun x => x.gid != gid)) else s
  | none => s

/-- Close read groups early (R320). -/
def State.closeReads (s : State) (p : ReadGroup → Bool) : State :=
  let ids := (s.ma.reads.filter (fun g => g.opened && p g)).map (fun g => g.gid)
  ids.foldl (fun s gid => (s.mapRead gid (fun g => { g with opened := false })).settleRead gid) s

/-- Read groups whose range overlaps bytes of a channel. -/
def readOverlaps (j a len : Nat) (g : ReadGroup) : Bool :=
  g.j == j && (rangesShare a (a + len) (reqAddr g.addr) (reqAddr g.addr + g.len) || rangesShare a (a + len) g.phys (g.phys + g.len))

/-- Send one member its reply frames. -/
def State.sendRead (s : State) (g : ReadGroup) (data : List Byte) (m : Requester) : State :=
  (s.readReplies m.job m.src m.tag (BitVec.ofNat 32 g.len) g.addr errOk 0 (fun o n => sliceBytes data o n)).foldl
    (fun s f => s.originate (qGranary g.j) f [.route] (.reply g.j g.gid)) s

/-- Open groups of a channel: read groups that take members and atomic groups that wait (R318, GRN_MA_STAT.GROUPS). -/
def State.openGroups (s : State) (j : Nat) : Nat :=
  (s.ma.reads.filter (fun g => g.j == j && g.opened)).length + (s.ma.atoms.filter (fun g => g.j == j && !g.applied)).length

/-- A write frame of this event tick, or a commit of the region's entry, closes the groups that a read would join: it comes
before the read (R320, R325). (DESIGN CHOICE, log entry 133) -/
def State.closedNow (s : State) (f : Frame) : Bool :=
  s.regionEntry (addrRegion f.addr) != (s.entry 3 (addrRegion f.addr)).data || s.alsoNow (fun i => match i with
    | .wrReqFrame r => (s.stagedAt r).any (fun h => h.f.kind == kWrReq && s.ownFrame h.f && s.requestError h.f == none &&
        rangesShare (reqAddr h.f.addr + h.f.opnd.toNat % 2 ^ 32) (reqAddr h.f.addr + h.f.opnd.toNat % 2 ^ 32 + h.f.payload.length)
          (reqAddr f.addr) (reqAddr f.addr + f.len.toNat))
    | _ => false)

/-- The open group of identical reads. -/
def State.identical (s : State) (f : Frame) : Option ReadGroup :=
  let e := if frameEpoch f then some f.epochnum else none
  if s.closedNow f then none
  else s.ma.reads.find? (fun g => g.opened && !s.since g.closeAt 0 && g.job == f.job && g.addr == f.addr
    && g.len == f.len.toNat && g.epoch == e)

/-- The group that a read joins: at most 256 members. -/
def State.joinable (s : State) (f : Frame) : Option ReadGroup :=
  (s.identical f).filter (fun g => decide (g.members.length < 256))

/-- A read opens a group, or is served alone. -/
def State.openRead (s : State) (f : Frame) : State :=
  let j := reqChan f
  let a := reqAddr f.addr
  let place := match frameEpoch f, s.servedRange j (addrOff a) f.len.toNat with
    | true, some (b, x, o) => (chanAddr j (x.current + o), some (64 * j + b, b2n x.cur))
    | _, _ => (a, none)
  let gid := s.ma.gidNext
  let w := s.readWindow
  let g : ReadGroup :=
    { gid := gid, j := j, job := f.job, addr := f.addr, len := f.len.toNat
      epoch := if frameEpoch f then some f.epochnum else none
      phys := place.1
      ver := place.2
      closeAt := s.tick + usTicks w
      opened := w != 0 && decide (s.openGroups j < 1024) && (s.identical f).isNone
      members := [requesterOf f] }
  (s.onMa (fun x => { x with
    reads := x.reads ++ [g]
    gidNext := gid + 1 })).maCount 0 1

/-- The home takes a request (R366). -/
def State.maRequest (s : State) (f : Frame) : State := s.grnEvent 0x11 1 f.job.toNat (reqAddr f.addr)

/-- Take a request of staging as the home, if its channel serves and it passes R49 and R312.
(DEDUCED, log entries 21 and 63) -/
def State.takeRequest (s : State) (r : StageRef) (kind : BitVec 6) (run : Held → State → State) : State :=
  match s.stagedAt r with
  | none => s
  | some h =>
    if s.awake ∧ h.f.kind = kind ∧ s.ownFrame h.f then
      let j := reqChan h.f
      match s.requestError h.f with
      | some e => (s.consume r h).errorReply j (requesterOf h.f) e
      | none => if s.serving j ∧ (s.engine j).st ≠ 0 then run h s else s
    else s

/-- A read request is taken when its length fits the reply buffer. -/
def State.takeRead (s : State) (r : StageRef) : State :=
  if s.mode = stDraining then s
  else s.takeRequest r kRdReq (fun h s =>
    match s.joinable h.f with
    | some g =>
      let s := ((s.consume r h).mapRead g.gid (fun g => { g with members := g.members ++ [requesterOf h.f] })).maCount 1 1
      let s := s.maRequest h.f
      (match g.data with
      | some l => s.sendRead g l (requesterOf h.f)
      | none => s)
    | none =>
      if s.replyRoom (reqChan h.f) < h.f.len.toNat then s else ((s.consume r h).maRequest h.f).openRead h.f)

/-- The Granary read of a group is done: replies, or one INTEGRITY reply to each member. (DEDUCED, log entry 103) -/
def execReadDataReady (j : Fin 16) (gid : Nat) (s : State) : Out :=
  match s.readGroup gid with
  | none => .next s
  | some g =>
    if s.awake ∧ g.j = j.val ∧ g.data = none ∧ s.serving j.val then
      let (ok, s) := s.verify j.val (addrOff g.phys) g.len 0
      if ok then
        let l := s.gChan j.val (addrOff g.phys) g.len
        let s := s.grnEvent evRead g.len g.job.toNat g.phys
        let s := s.mapRead gid (fun g => { g with data := some l })
        .next ((g.members.foldl (fun s m => s.sendRead g l m) s).settleRead gid)
      else
        let s := s.setReads (fun l => l.filter (fun x => x.gid != gid))
        .next (g.members.foldl (fun s m => s.errorReply j.val m errIntegrity) s)
    else .next s

/-- A read group's window ends: it takes no more members. -/
def execReadWindowExpiry (j : Fin 16) (gid : Nat) (s : State) : Out :=
  match s.readGroup gid with
  | none => .next s
  | some g =>
    if s.awake ∧ g.j = j.val ∧ g.opened ∧ s.since g.closeAt 0 then
      .next ((s.mapRead gid (fun g => { g with opened := false })).settleRead gid)
    else .next s

/-- A reply piece has left the reply buffer. -/
def State.settleReply (s : State) (gid : Nat) : State :=
  (s.mapRead gid (fun g => { g with replied := g.replied + 1 })).settleRead gid

/-! ### Atomics (R316, R317, R319) -/

def State.setAtoms (s : State) (f : List AtomGroup → List AtomGroup) : State := s.onMa (fun a => { a with atoms := f a.atoms })
def State.mapAtom (s : State) (gid : Nat) (f : AtomGroup → AtomGroup) : State :=
  s.setAtoms (fun l => l.map (fun g => if g.gid = gid then f g else g))
def State.atomGroup (s : State) (gid : Nat) : Option AtomGroup := s.ma.atoms.find? (fun g => g.gid == gid)

/-- The word after an operation, as its bits (R316). -/
def atomOp (m : Requester) (w : Nat) : Nat :=
  let o := m.opnd.toNat
  if m.subk = 1 then (w + o) % 2 ^ 32
  else if m.subk = 2 then (w + o) % 2 ^ 64
  else if m.subk = 3 then toF32 (fAdd (f32 w) (f32 o))
  else if m.subk = 4 then (if w = o then m.swap.toNat else w)
  else if toSigned 64 w < toSigned 64 o then o else w

/-- Evaluate the members in order: the values each reads, and the word after the last. -/
def atomRun : List Requester → Nat → List Word × Nat
  | [], w => ([], w)
  | m :: ms, w =>
    let (vs, w') := atomRun ms (atomOp m w)
    (BitVec.ofNat 64 w :: vs, w')

/-- The journal of a channel, newest first (R317). -/
def State.journal (s : State) (j : Nat) : List JEntry := SMap.get [] s.ma.journal j
def State.setJournal (s : State) (j : Nat) (l : List JEntry) : State :=
  s.onMa (fun a => { a with journal := SMap.put [] a.journal j (l.take 1048576) })

def journalMatch (m : Requester) (e : JEntry) : Bool := e.src == m.src && e.tag == m.tag && e.addr == m.addr && e.subk == m.subk

/-- A journal record as JOURNAL frames carry it (R337). -/
def journalBytes (e : JEntry) : List Byte :=
  beBytes 4 e.src.toNat ++ beBytes 4 e.tag.toNat ++ beBytes 8 e.addr.toNat ++ [e.subk] ++ List.replicate 7 0 ++ beBytes 8 e.value.toNat

/-- The block that a word lies in, as a BLOCKS part at the partner: HOME is the sender. -/
def State.blockPart (s : State) (b : Nat) : CopyPart :=
  { subk := 3, chunk := 0, addr := BitVec.ofNat 64 (s.modnum.toNat * 2 ^ 41 + 256 * b), bytes := s.gBytes (256 * b) 256 }

/-- The head of a memory-semantic copy. -/
def State.blockHead (s : State) (dest job : BitVec 12) : CopyHead :=
  { dest := dest, job := job.toNat, coll := 0, round := 0, epochnum := s.watch.incarn.setWidth 32, version := 0 }

/-- Replies of an atomic group whose work has committed. -/
def State.commitAtoms (s : State) (g : AtomGroup) : State :=
  let s := s.setJournal g.j ((s.journal g.j).map (fun e => if g.members.any (fun m => journalMatch m e) then { e with committed := true } else e))
  let s := s.setAtoms (fun l => l.filter (fun x => x.gid != g.gid))
  (g.members.zip g.values).foldl (fun s p =>
    s.originate (qGranary g.j) (s.replyTo p.1 errOk (beBytes p.1.len p.2.toNat)) [.route] .none) s

/-- Copy an applied group to the partner when there is room, or commit it at once (R314). -/
def State.copyAtoms (s : State) (gid : Nat) : State :=
  match s.atomGroup gid with
  | none => s
  | some g =>
    if !g.applied ∨ g.copy.isSome then s
    else match s.maPeer with
      | none => (s.commitAtoms g).maCount 8 1
      | some peer =>
        if !s.copyRoom then s
        else
          let recs := (g.members.zip g.values).map (fun p =>
            journalBytes { src := p.1.src, tag := p.1.tag, addr := p.1.addr, subk := p.1.subk, value := p.2, committed := true, job := p.1.job })
          let js := (cut4096 recs.flatten).map (fun l => ({ subk := 5, chunk := 0, addr := 0, bytes := l } : CopyPart))
          let id := s.ma.copyNext
          let s := s.sendCopy (qGranary g.j) (.blocks g.j) (s.blockHead peer g.job) (s.blockPart (blockOf (reqAddr g.addr)) :: js)
          s.mapAtom gid (fun g => { g with copy := some id })

/-- Apply an atomic group as one read and write of its block (R319). -/
def State.applyAtoms (s : State) (gid : Nat) : State :=
  match s.atomGroup gid with
  | none => s
  | some g =>
    if g.applied then s
    else
      let a := reqAddr g.addr
      let n := atLen g.subk
      let b := blockOf a
      if !s.blockOk b then
        let s := (s.tagFail b 0).setAtoms (fun l => l.filter (fun x => x.gid != gid))
        g.members.foldl (fun s m => s.errorReply g.j m errIntegrity) s
      else
        let s := s.closeReads (readOverlaps g.j a n)
        let (vs, w) := atomRun g.members (beNat (s.gBytes a n))
        let s := s.gWrite a (beBytes n w) 0
        let s := (s.grnEvent evRead 256 g.job.toNat a).grnEvent evWrite 256 g.job.toNat a
        let es := (g.members.zip vs).map (fun p =>
          ({ src := p.1.src, tag := p.1.tag, addr := p.1.addr, subk := p.1.subk, value := p.2, committed := false, job := p.1.job } : JEntry))
        let s := s.setJournal g.j (es.reverse ++ s.journal g.j)
        let s := (s.maCount 3 g.members.length).maCount 4 1
        (s.mapAtom gid (fun g => { g with
          applied := true
          values := vs })).copyAtoms gid

/-- Atomic groups that wait and match a test are applied at once (R320). -/
def State.closeAtoms (s : State) (p : AtomGroup → Bool) : State :=
  ((s.ma.atoms.filter (fun g => !g.applied && p g)).map (fun g => g.gid)).foldl (fun s gid => s.applyAtoms gid) s

def atomOverlaps (a len : Nat) (g : AtomGroup) : Bool := rangesShare a (a + len) (reqAddr g.addr) (reqAddr g.addr + atLen g.subk)

/-- Add an atomic group. -/
def State.addAtoms (s : State) (f : Frame) (w : Nat) : Nat × State :=
  let gid := s.ma.gidNext
  let g : AtomGroup :=
    { gid := gid, j := reqChan f, job := f.job, addr := f.addr, subk := f.subk, closeAt := s.tick + usTicks w, members := [requesterOf f] }
  (gid, s.onMa (fun a => { a with
    atoms := a.atoms ++ [g]
    gidNext := gid + 1 }))

/-- An atomic that the journal does not hold joins a group, opens one, or is applied alone.
(DEDUCED, log entry 103) -/
def State.newAtomic (s : State) (f : Frame) : State :=
  let a := reqAddr f.addr
  let n := atLen f.subk
  match s.ma.atoms.find? (fun g => !g.applied && !s.since g.closeAt 0 && g.job == f.job && g.addr == f.addr && g.subk == f.subk) with
  | some g => s.mapAtom g.gid (fun g => { g with members := g.members ++ [requesterOf f] })
  | none =>
    let s := s.closeAtoms (atomOverlaps a n)
    let w := s.atWindow
    let few := decide (s.openGroups (reqChan f) < 1024)
    let (gid, s) := s.addAtoms f w
    if w = 0 ∨ !few then s.applyAtoms gid else s

/-- An atomic that the journal holds is not applied again (R317); it closes groups of another SUBK on its word (R320).
(DEDUCED, log entry 103) -/
def State.oldAtomic (s : State) (f : Frame) (e : JEntry) : State :=
  let m := requesterOf f
  let j := reqChan f
  let s := s.closeAtoms (fun g => g.subk != f.subk && atomOverlaps (reqAddr f.addr) (atLen f.subk) g)
  if e.committed then
    (s.originate (qGranary j) (s.replyTo m errOk (beBytes m.len e.value.toNat)) [.route] .none).maCount 11 1
  else match s.ma.atoms.find? (fun g => g.applied && g.members.any (fun x => journalMatch x e)) with
    | some g => s.mapAtom g.gid (fun g => { g with
        members := g.members ++ [m]
        values := g.values ++ [e.value] })
    | none =>
      let (gid, s) := s.addAtoms f 0
      (s.mapAtom gid (fun g => { g with
        applied := true
        values := [e.value] })).copyAtoms gid

/-- An atomic request is checked against the journal and joins or opens a group. -/
def execAtReqTaken (r : StageRef) (s : State) : Out :=
  if s.mode = stDraining then .next s
  else .next (s.takeRequest r kAtReq (fun h s =>
    let s := (s.consume r h).maRequest h.f
    match (s.journal (reqChan h.f)).find? (journalMatch (requesterOf h.f)) with
    | some e => s.oldAtomic h.f e
    | none => s.newAtomic h.f))

/-- An atomic group's window ends. -/
def execAtomicWindowExpiry (j : Fin 16) (gid : Nat) (s : State) : Out :=
  match s.atomGroup gid with
  | none => .next s
  | some g =>
    if s.awake ∧ g.j = j.val ∧ !g.applied ∧ s.since g.closeAt 0 ∧ s.serving j.val then .next (s.applyAtoms gid) else .next s

/-! ### Writes (R314, R315) -/

/-- DEDUCED, log entry 103. -/
def sameWrite (j : Nat) (src : BitVec 20) (tag : BitVec 32) (t : Tracker) : Bool := t.j == j && t.src == src && t.tag == tag

def State.tracker (s : State) (j : Nat) (src : BitVec 20) (tag : BitVec 32) : Option Tracker := s.ma.trackers.find? (sameWrite j src tag)

/-- Replace a tracker, or add it. -/
def State.setTracker (s : State) (t : Tracker) : State :=
  s.onMa (fun a => { a with trackers := a.trackers.filter (fun x => !sameWrite t.j t.src t.tag x) ++ [t] })

def State.dropTracker (s : State) (t : Tracker) : State :=
  s.onMa (fun a => { a with trackers := a.trackers.filter (fun x => !sameWrite t.j t.src t.tag x) })

/-- Open trackers of a channel. -/
def State.openTrackers (s : State) (j : Nat) : Nat := (s.ma.trackers.filter (fun t => t.j == j && !t.ended)).length

def Tracker.requester (t : Tracker) : Requester := { src := t.src, tag := t.tag, job := t.job, addr := t.addr, len := t.len }

/-- A write commits: its OK reply is sent. -/
def State.commitWrite (s : State) (t : Tracker) : State :=
  let s := (s.setTracker { t with
    ended := true
    copy := none }).maCount 2 1
  s.originate (qGranary t.j) (s.replyTo t.requester errOk []) [.route] .none

/-- A complete write is copied to the partner when there is room, or commits at once (R314).
(DEDUCED, log entry 103) -/
def State.copyWrite (s : State) (t : Tracker) : State :=
  if t.ended ∨ t.copy.isSome ∨ t.count ≠ some t.got then s
  else match s.maPeer with
    | none => (s.commitWrite t).maCount 8 1
    | some peer =>
      if !s.copyRoom then s
      else
        let id := s.ma.copyNext
        let s := s.grnEvent evRead (256 * t.blocks.length) t.job.toNat (reqAddr t.addr)
        let s := s.sendCopy (qGranary t.j) (.blocks t.j) (s.blockHead peer t.job) (t.blocks.map (fun b => s.blockPart b))
        s.setTracker { t with copy := some id }

/-- A write ends with an error. (DEDUCED, log entry 103) -/
def State.endWrite (s : State) (t : Tracker) (err : BitVec 8) : State :=
  (s.setTracker { t with ended := true }).errorReply t.j t.requester err

/-- The blocks that a frame's data touches, and those it covers only in part. -/
def touched (a n : Nat) : List Nat := (List.range ((a + n - 1) / 256 + 1 - a / 256)).map (fun k => a / 256 + k)
def covered (a n b : Nat) : Bool := decide (a ≤ 256 * b ∧ 256 * b + 256 ≤ a + n)

/-- The 4,096-byte piece that a frame holds. -/
def pieceOf (f : Frame) : Nat := f.opnd.toNat % 2 ^ 32 / 4096

/-- The first block that a frame covers only in part and that does not verify. -/
def State.pieceBad (s : State) (f : Frame) : Option Nat :=
  let a := reqAddr f.addr + f.opnd.toNat % 2 ^ 32
  (touched a f.payload.length).find? (fun b => !covered a f.payload.length b && !s.blockOk b)

/-- Take one piece of a write into its tracker and write it. -/
def State.writePiece (s : State) (f : Frame) (t : Tracker) : State :=
  let a := reqAddr f.addr + f.opnd.toNat % 2 ^ 32
  let n := f.payload.length
  let t := { t with
    pieces := t.pieces ++ [pieceOf f]
    got := t.got + 1
    count := if frameFence f then some f.count.toNat else t.count }
  if t.count.any (fun c => decide (c < t.got)) then s.endWrite t errBadRequest
  else
    let write :=
      let s := (s.closeAtoms (atomOverlaps a n)).closeReads (readOverlaps t.j a n)
      let s := (s.gWrite a f.payload 0).grnEvent evWrite n f.job.toNat a
      let t := { t with blocks := (t.blocks ++ touched a n).dedup }
      (s.setTracker t).copyWrite t
    (s.pieceBad f).elim write (fun b => (s.tagFail b 0).endWrite t errIntegrity)

/-- The tracker of a write that begins with a frame. -/
def State.freshTracker (s : State) (f : Frame) : Tracker :=
  { j := reqChan f, src := f.src, tag := f.tag, job := f.job, addr := f.addr, len := f.len.toNat,
    pieces := [], got := 0, count := none, openAt := s.tick, blocks := [] }

/-- The first frame of a write fails a check: it is answered, and the write's further frames are discarded (R312). -/
def State.refuseWrite (s : State) (f : Frame) (err : BitVec 8) : State :=
  s.endWrite { s.freshTracker f with pieces := [pieceOf f] } err

/-- The first frame of a write that has passed R312 down to DEADWAIT: its blocks are verified before a tracker is sought
(R312, R315). -/
def State.startWrite (s : State) (f : Frame) : State :=
  (s.pieceBad f).elim
    (if 16384 ≤ s.openTrackers (reqChan f) then (s.maCount 7 1).raise Reg.GRN_MA_EVT 1 11 srcAccess
    else (s.maRequest f).writePiece f (s.freshTracker f))
    (fun b => (s.tagFail b 0).refuseWrite f errIntegrity)

/-- A further frame of a write that has ended is discarded; a piece that comes again begins the write anew.
(DEDUCED, log entry 103) -/
def State.endedFrame (s : State) (f : Frame) (t : Tracker) (start : State → State) : State :=
  if t.pieces.contains (pieceOf f) then start (s.dropTracker t)
  else
    let t := { t with pieces := t.pieces ++ [pieceOf f] }
    s.setTracker t

/-- A frame of a write that has passed R312. (DEDUCED, log entry 103) -/
def State.writeFrame (s : State) (f : Frame) : State :=
  match s.tracker (reqChan f) f.src f.tag with
  | none => s.startWrite f
  | some t =>
    if t.ended then s.endedFrame f t (fun s => s.startWrite f)
    else if frameFence f ∧ t.count.any (fun c => c != f.count.toNat) then s.endWrite t errBadRequest
    else if t.pieces.contains (pieceOf f) then s.maCount 10 1
    else s.writePiece f t

/-- A frame of a write fails a check: its write ends with the error. -/
def State.failWrite (s : State) (f : Frame) (err : BitVec 8) : State :=
  match s.tracker (reqChan f) f.src f.tag with
  | none => s.refuseWrite f err
  | some t => if t.ended then s.endedFrame f t (fun s => s.refuseWrite f err) else s.endWrite t err

/-- The check that a write frame fails: every frame of a write carries its ADDR and LEN (R309), beside the checks of every
request. -/
def State.writeError (s : State) (f : Frame) : Option (BitVec 8) :=
  if (s.tracker (reqChan f) f.src f.tag).any (fun t => !t.ended && (t.addr != f.addr || t.len != f.len.toNat)) then some errBadRequest
  else s.requestError f

/-- A write frame is checked, tracked and written at the home; one that fails a check ends its write. -/
def execWrReqFrame (r : StageRef) (s : State) : Out :=
  match s.stagedAt r with
  | none => .next s
  | some h =>
    if s.awake ∧ h.f.kind = kWrReq ∧ s.ownFrame h.f then
      let j := reqChan h.f
      if s.mode = stDraining ∧ (s.tracker j h.f.src h.f.tag).isNone then .next s
      else match s.writeError h.f with
      | some e => .next ((s.consume r h).failWrite h.f e)
      | none => if s.serving j ∧ (s.engine j).st ≠ 0 then .next ((s.consume r h).writeFrame h.f) else .next s
    else .next s

/-- A write is not complete within WRWAIT of its tracker's opening: it is abandoned without reply.
(DEDUCED, log entries 6 and 103) -/
def execWrwaitExpiry (j : Fin 16) (src : BitVec 20) (tag : BitVec 32) (s : State) : Out :=
  match s.tracker j.val src tag with
  | none => .next s
  | some t =>
    if s.awake ∧ s.since t.openAt (msTicks s.wrWait) then
      if t.ended then .next (s.dropTracker t)
      else
        let s := s.onMa (fun a => { a with copies := a.copies.filter (fun p => some p.1 != t.copy) })
        .next (((s.dropTracker t).maCount 6 1).raise Reg.GRN_MA_EVT 2 11 srcAccess)
    else .next s

/-- Work that waited for room under R165 goes on. -/
def State.pumpCopies (s : State) : State :=
  let s := s.ma.trackers.foldl (fun s t => s.copyWrite t) s
  (s.ma.atoms.map (fun g => g.gid)).foldl (fun s gid => s.copyAtoms gid) s

/-! ### Channels that do not serve (R321) -/

/-- The home answers a request HOME_DEAD: 1 in GRN_MA_CNT[9], DEAD set (R321). -/
def State.homeDeadAnswer (s : State) (f : Frame) : State :=
  let s := (s.homeDeadReplies f).foldl (fun s x => s.originate (qGranary (reqChan f)) x [.route] .none) s
  (s.maCount 9 1).raise Reg.GRN_MA_EVT 0 11 srcAccess

/-- A request is answered HOME_DEAD; a write ends with it, and a frame of one that has ended is discarded (R312).
(DEDUCED, log entry 103) -/
def State.answerDead (s : State) (f : Frame) : State :=
  if f.kind ≠ kWrReq then s.homeDeadAnswer f
  else
    let first := fun (s : State) => (s.setTracker { s.freshTracker f with
      pieces := [pieceOf f]
      ended := true }).homeDeadAnswer f
    match s.tracker (reqChan f) f.src f.tag with
    | none => first s
    | some t => if t.ended then s.endedFrame f t first else (s.setTracker { t with ended := true }).homeDeadAnswer f

/-- A request has waited DEADWAIT for a channel that does not serve: HOME_DEAD; not where the channel serves again in the
same event tick (R325). (DESIGN CHOICE, log entry 133) -/
def execDeadwaitExpiry (r : StageRef) (s : State) : Out :=
  match s.stagedAt r with
  | none => .next s
  | some h =>
    let j := reqChan h.f
    let back := s.alsoNow (fun i => match i with
      | .channelServesAgain k => k.val == j && (s.engine j).st == 3
      | _ => false)
    if s.awake ∧ isRequest h.f ∧ s.ownFrame h.f ∧ s.requestError h.f = none ∧ !s.serving j ∧ !back
        ∧ s.since h.m.since (usTicks s.deadWait) then
      .next ((s.consume r h).answerDead h.f)
    else .next s

/-- A channel serves again: its engine has come back from a unit reset. (DEDUCED, log entry 102) -/
def execChannelServesAgain (j : Fin 16) (s : State) : Out :=
  let e := s.engine j.val
  if s.awake ∧ e.st = 3 then
    .next (s.setEngine j.val { e with
      st := 1
      idleAt := s.tick
      progressAt := s.tick })
  else .next s

/-- GRN_MA_STAT. -/
def State.maStat (s : State) : Word :=
  pack [(Fld.GRN_MA_STAT_WROPEN, (s.ma.trackers.filter (fun t => !t.ended)).length),
    (Fld.GRN_MA_STAT_GROUPS, (s.ma.reads.filter (fun g => g.opened)).length + (s.ma.atoms.filter (fun g => !g.applied)).length)]

end Sys2Proof.Machine
end

