-- ==== Sys2Proof/Machine/Bic.lean ====
section
/-! DEFINITION. The Bosun interrupt controller: lines (R393), sensing (R394), delivery (R395), claims and
completions (R396, R397), GDIS (R398) and the selected sources (R399). What is pending, deliverable and
presented is computed from the lines, the edges and the stacks. -/

namespace Sys2Proof.Machine

/-! ### Lines (R393) -/

/-- The event registers behind a source's line. (DEDUCED, log entry 52) -/
def lineRegs (i : Nat) : List Nat :=
  let n := i / 16
  if i < 256 then
    if i % 16 = 0 then
      (List.range 32).map (fun p => Reg.CL_SP_EVT (32 * n + p)) ++ (List.range 4).map (fun g => Reg.CL_OE_EVT (4 * n + g))
        ++ (List.range 2).map (fun x => Reg.CL_SX_EVT (2 * n + x))
    else if i % 16 = 1 then
      (List.range 32).map (fun p => Reg.CL_EG_EVT (32 * n + p)) ++ (List.range 2).map (fun x => Reg.CL_EG_EVT (512 + 2 * n + x))
    else if i % 16 = 2 then [Reg.CL_RD_EVT n]
    else if i % 16 = 3 then [Reg.DSP_EVT n]
    else []
  else if i < 272 then [Reg.GRN_EVT (i - 256)]
  else if i = 272 then [Reg.GRN_MA_EVT]
  else if i = 273 then [Reg.LFT_EVT]
  else if i = 274 then [Reg.LFT_CN_EVT]
  else if i = 275 then [Reg.SVB_EVT]
  else if i = 276 then [Reg.TBL_EVT, Reg.TBL_SH_EVT]
  else if i = 277 then [Reg.TIM_EVT]
  else if i = 278 then [Reg.TEL_EVT]
  else if i = 279 then [Reg.LFT_DMP_EVT]
  else if i = 281 then [Reg.WCH_EVT, Reg.WCH_PWREVT]
  else if i = 282 then [Reg.UZP_EVT 0, Reg.UZP_EVT 1]
  else if i = 283 then [Reg.SEC_EVT]
  else if i = 576 then [Reg.BIC_EVT]
  else []

/-- Sources that are not reserved. -/
def sourceExists (i : Nat) : Bool :=
  (decide (i < 256) && decide (i % 16 < 4)) || decide (256 ≤ i ∧ i ≤ 283) || decide (512 ≤ i ∧ i ≤ 576)

/-- The level of a source's line; a doorbell's is high only for its pulse. (DEDUCED, log entry 52) -/
def State.line (s : State) (i : Nat) : Bool :=
  if i = 280 then bitsOf (s.reg Reg.SEC_EVT).toNat 7 5 != 0
  else (lineRegs i).any (fun r => s.reg r != 0)

/-- The class of an event bit (R382). (DEDUCED, log entry 52) -/
def eventClass (r bit : Nat) : Nat :=
  if r = Reg.WCH_EVT then (if bit = 4 then 1 else if bit = 3 then 2 else 11)
  else if r = Reg.WCH_PWREVT then 11
  else if r = Reg.LFT_EVT then (if bit = 0 then 11 else 5)
  else if r = Reg.TEL_EVT then (if bit = 4 then 9 else 11)
  else if r = Reg.TBL_SH_EVT then (if bit = 1 then 7 else 11)
  else if (List.range 16).any (fun j => r == Reg.GRN_EVT j) then
    (if bit = 3 ∨ bit = 4 then 5 else if bit = 7 then 8 else 11)
  else if (List.range 16).any (fun n => r == Reg.CL_RD_EVT n) then (if bit = 0 then 8 else 11)
  else if r = Reg.UZP_EVT 0 ∨ r = Reg.UZP_EVT 1 then (if bit = 0 then 6 else 11)
  else if (List.range 512).any (fun p => r == Reg.CL_SP_EVT p) ∨ (List.range 32).any (fun x => r == Reg.CL_SX_EVT x) then
    (if bit = 0 then 6 else 11)
  else 11

/-- The first class among the events that hold a source's line. (DEDUCED, log entry 52) -/
def State.lineClass (s : State) (i : Nat) : Nat :=
  if 512 ≤ i ∧ i < 576 then 10
  else (lineRegs i).foldl (fun m r =>
    (List.range 64).foldl (fun m b => if (s.reg r).getLsbD b then min m (eventClass r b) else m) m) 11

/-! ### Pending, deliverable, presented -/

/-- A source is pending (R394). -/
def State.isPending (s : State) (i : Nat) : Bool :=
  sourceExists i && (if s.sense i = 0 then s.line i else if s.sense i = 1 then !s.line i else SMap.get false s.bic.edges i)

def State.isActive (s : State) (i : Nat) : Bool := SMap.get false s.bic.active i

/-- The stack of a core, top first, as source and PRIO (R396). -/
def State.stack (s : State) (c : Nat) : List (Nat × Nat) := SMap.get [] s.bic.nest c

/-- A core's current priority (R395). -/
def State.curPri (s : State) (c : Nat) : Nat :=
  match s.stack c with
  | x :: _ => x.2
  | [] => 0

/-- A core waits in WFI with an empty stack. (DESIGN CHOICE, log entry 13) -/
def State.coreIdle (s : State) (c : Nat) : Bool := (s.stack c).isEmpty && Config.coreInWfi c s.tick

def State.prio (s : State) (i : Nat) : Nat := s.fld (Reg.BIC_SRC i) Fld.BIC_SRC_PRIO

/-- MODINT has passed since the source's last claim. (DEDUCED, log entry 53) -/
def State.modintPassed (s : State) (i : Nat) : Bool :=
  let t := SMap.get 0 s.bic.claimed i
  t == 0 || s.since (t - 1) (usTicks (s.fld (Reg.BIC_SRC i) Fld.BIC_SRC_MODINT))

/-- A source is deliverable to core `c` (R395). (DEDUCED, log entry 53) -/
def State.deliverable (s : State) (c i : Nat) : Bool :=
  s.flag (Reg.BIC_SRC i) Fld.BIC_SRC_ENABLE && s.fld (Reg.BIC_SRC i) Fld.BIC_SRC_TARGET == c
    && s.isPending i && !s.isActive i && decide (s.curPri c < s.prio i) && (s.modintPassed i || s.coreIdle c)

/-- `i` comes before `j`: higher PRIO, then the order of R382. -/
def State.before (s : State) (i j : Nat) : Bool :=
  decide (s.prio j < s.prio i) || (s.prio i == s.prio j &&
    (decide (s.lineClass i < s.lineClass j) || (s.lineClass i == s.lineClass j && decide (i < j))))

/-- GDIS is set in this event tick: that applies before a claim (R407). -/
def State.gdisNow (s : State) : Bool :=
  s.alsoNow (fun c => match c with
    | .bicGdis on => on
    | .registerWrite _ off val => off.toNat == Reg.BIC_CTL && val.getLsbD 0
    | _ => false)

/-- The source presented to core `c` (R395, R398). (DEDUCED, log entry 53) -/
def State.presented (s : State) (c : Nat) : Option Nat :=
  if (s.reg Reg.BIC_CTL).getLsbD 0 ∨ s.gdisNow then none
  else ((List.range 577).filter (s.deliverable c)).foldl (fun a i =>
    match a with
    | none => some i
    | some j => if s.before i j then some i else a) none

/-! ### The steps -/

/-- An edge of a source's line (R394, R397); a level needs no step, for it is pending while it lasts. A
doorbell's edges are those of its sends. -/
def execBicPending (i : Fin 1024) (e : Option Edge) (s : State) : Out :=
  match e with
  | none => .next s
  | some e =>
    let rising := decide (e = .rising)
    if s.awake ∧ sourceExists i ∧ ¬(512 ≤ i.val ∧ i.val < 576) ∧ s.line i = rising then .next (s.lineEdge i rising) else .next s

/-- MODINT has passed since a claim: the source is deliverable again by R395, which the presentation computes
from the tick of the claim. (DEDUCED, log entry 53) -/
def execModintExpiry (_i : Fin 1024) (s : State) : Out := .next s

/-- What a read of BIC_CLAIM returns. -/
def State.claimWord (s : State) (c : Nat) : Word :=
  match s.presented c with
  | some i => pack [(⟨63, 1⟩, 1), (⟨0, 10⟩, i)]
  | none => 0

/-- A read of BIC_CLAIM claims the source presented (R396). -/
def State.claim (s : State) (c : Nat) : State :=
  match s.presented c with
  | none => s
  | some i =>
    let p := s.prio i
    s.onBic (fun b => { b with
      active := SMap.put false b.active i true
      edges := SMap.put false b.edges i false
      claimed := SMap.put 0 b.claimed i (s.tick + 1)
      nest := SMap.put [] b.nest c ((i, p) :: SMap.get [] b.nest c) })

def execBicClaim (c : Fin 4) (s : State) : Out :=
  if s.awake then .next ((s.claim c).answer (s.claimWord c) 0) else .next s

/-- A write of BIC_DONE (R396). -/
def State.complete (s : State) (c i : Nat) : State :=
  match s.stack c with
  | x :: l =>
    if x.1 = i then s.onBic (fun b => { b with
      nest := SMap.put [] b.nest c l
      active := SMap.put false b.active i false })
    else (s.bump Reg.BIC_OOOCNT 1).raise Reg.BIC_EVT c 11 srcBic
  | [] => (s.bump Reg.BIC_OOOCNT 1).raise Reg.BIC_EVT c 11 srcBic

def execBicDone (c : Fin 4) (i : BitVec 10) (s : State) : Out :=
  if s.awake then .next (s.complete c i.toNat) else .next s

/-- A write of BIC_PEND[w]: edge sources named by 1 bits are pending no longer (R394). -/
def State.clearPending (s : State) (w : Nat) (val : Word) : State :=
  s.onBic (fun b => { b with edges := (List.range 64).foldl (fun m i =>
    if val.getLsbD i && decide (2 ≤ s.sense (64 * w + i)) then SMap.put false m (64 * w + i) false else m) b.edges })

def execBicPendWrite (w : Fin 16) (val : Word) (s : State) : Out :=
  if s.awake then .next (s.clearPending w val) else .next s

/-- A write of BIC_CTL.GDIS (R398). -/
def execBicGdis (on : Bool) (s : State) : Out :=
  if s.awake then .next (s.setFld Reg.BIC_CTL ⟨0, 1⟩ (b2n on)) else .next s

/-- Bits set in a word. -/
def popCount (w : Word) : Nat := ((List.range 64).filter (fun i => w.getLsbD i)).length

/-- A write of BIC_WMASK: refused where it would select a 65th source (R399). -/
def State.wmaskWrite (s : State) (w : Nat) (val : Word) : State :=
  let n := ((List.range 16).map (fun k => popCount (if k = w then val else s.reg (Reg.BIC_WMASK k)))).sum
  if 64 < n then s.raise Reg.BIC_EVT 4 11 srcBic else s.setReg (Reg.BIC_WMASK w) val

def execBicWmaskWrite (w : Fin 16) (val : Word) (s : State) : Out :=
  if s.awake then .next (s.wmaskWrite w val) else .next s

/-! ### What the registers show -/

def State.pendWord (_ : State) (p : Nat → Bool) (w : Nat) : Word :=
  BitVec.ofNat 64 (((List.range 64).map (fun i => if p (64 * w + i) then 2 ^ i else 0)).sum)

/-- BIC_SRC. -/
def State.srcWord (s : State) (i : Nat) : Word :=
  Fld.BIC_SRC_ACTIVE.put (b2n (s.isActive i)) (Fld.BIC_SRC_PENDING.put (b2n (s.isPending i)) (s.reg (Reg.BIC_SRC i)))

/-- BIC_CORE. -/
def State.coreWord (s : State) (c : Nat) : Word :=
  let top := match s.stack c with
    | x :: _ => x.1
    | [] => 0
  pack [(Fld.BIC_CORE_IDLE, b2n (s.coreIdle c)), (Fld.BIC_CORE_DEPTH, (s.stack c).length), (Fld.BIC_CORE_CURPRI, s.curPri c),
    (Fld.BIC_CORE_TOP, top)]

/-- BIC_STACK: entry `k` from the bottom. -/
def State.stackWord (s : State) (c k : Nat) : Word :=
  match (s.stack c).reverse[k]? with
  | some x => pack [(⟨63, 1⟩, 1), (⟨56, 4⟩, x.2), (⟨0, 10⟩, x.1)]
  | none => 0

end Sys2Proof.Machine
end

