-- ==== Sys2Proof/Machine/Sheaves.lean ====
section
/-! DEFINITION. Sheaves (R326 to R331), the epoch switch (R332 to R335), state copies acknowledged,
received and sent again (R337 to R339), promotion and new partners (R340 to R345), and broadcasts
carried through the fabric (R347, R348). -/

namespace Sys2Proof.Machine

/-! ### COMMITs issued for an epoch (R333, R335) -/

/-- Issue the COMMIT again for the bindings with UNNOTICED set that the test names. (DEDUCED, log entry 40) -/
def State.reissueCommits (s : State) (p : Binding → Bool) : State :=
  let due := ((s.grn.bindings.filter (fun x => x.2.valid && x.2.unnoticed && p x.2)).map
    (fun x => (x.2.coll, s.coverHome x.2, x.2.epoch))).dedup
  due.foldl (fun s x =>
    let c := x.1.toNat
    let d := s.cx c
    let s := s.emitDown (qGranary (tallyCluster c)) d (commitFrame d c x.2.1 x.2.2) (.commit c x.2.1)
    let s := (s.bump (Reg.TBL_SH_CNT 4) 1).raise Reg.TBL_SH_EVT 2 11 srcTable
    s.settleCommit c x.2.1) s

/-! ### Commit (R183, R330, R340, R343) -/

/-- Groups of a region are closed, its atomic groups applied (R320). -/
def State.closeRegion (s : State) (region : Nat) : State :=
  (s.closeAtoms (fun g => addrRegion g.addr == region)).closeReads (fun g => addrRegion g.addr == region)

/-- Commit an OPEN sheaf: every member takes effect, or none. (DEDUCED, log entry 32) -/
def State.commitSheaf (s : State) (id : Nat) : Nat × State :=
  let x := s.sheaf id
  let (cause, bad) := s.sheafVerdict x
  if cause ≠ 0 then (ssAborted, s.abortSheaf id cause bad)
  else
    let moved := x.staged.filter (fun y => y.t == 3 && (s.entry 3 y.idx).data != y.data)
    let s := moved.foldl (fun s y => s.closeRegion y.idx) s
    let s := s.setSheaf id { x with
      state := shCommitted
      cause := 0
      estat := 0 }
    let s := (s.bump (Reg.TBL_SH_CNT 0) 1).raise Reg.TBL_SH_EVT 0 11 srcTable
    let s := s.applyEntries (x.staged.map (fun y => (y.t, y.idx, y.data)))
    let s := x.members.foldl (fun s m => s.applyMember m) s
    let acts := x.members.filterMap Member.promoted
    (ssOk, if acts.isEmpty then s else s.reissueCommits (fun b => b.acting.any (fun h => acts.contains h)))

/-! ### TBL_SH_CMD (R328) -/

/-- ORIGIN of a sheaf that a source opens. -/
def originOf : Source → BitVec 2
  | .uzA _ => 0
  | .uzB _ => 1
  | .bosun _ => 2

def State.openSheaf (s : State) (id : Nat) (origin : BitVec 2) (life : Nat) : State :=
  s.setSheaf id { state := shOpen, origin := origin, life := BitVec.ofNat 16 life, openedAt := s.tick }

/-- What refuses a BEGIN. -/
def State.beginStatus (s : State) (id : Nat) : Nat :=
  if !softId id then ssRange
  else if (s.sheaf id).state = shOpen then ssState
  else if 1024 ≤ (s.tbl.sheaves.filter (fun p => decide (p.1 < 0xF000) && p.2.state == shOpen)).length then ssFull
  else ssOk

/-- The member that a STAGE names. -/
def cmdMember (w : Word) : Option Member :=
  let m := Fld.TBL_SH_CMD_MEMBER.get w
  let mode := Fld.TBL_SH_CMD_MODE.get w
  let n := BitVec.ofNat 12 (Fld.TBL_SH_CMD_MODULE.get w)
  if m = 1 then some (.promote n)
  else if m = 2 ∧ (mode = 1 ∨ mode = 2) then some (.partner n (mode == 2))
  else none

/-- Stage a member. (DEDUCED, log entry 33) -/
def State.stageMember (s : State) (id : Nat) (w : Word) : Nat × State :=
  let x := s.sheaf id
  if !softId id then (ssRange, s)
  else if x.state ≠ shOpen then (ssState, s)
  else if 16 ≤ x.members.length then (ssRange, s)
  else match cmdMember w with
    | none => (ssField, s)
    | some m =>
      let l := x.members ++ [m]
      (ssOk, s.setSheaf id { x with members := l })

/-- ABORT of an OPEN sheaf: an epoch-switch sheaf's round faults. (DEDUCED, log entry 34) -/
def State.abortCommand (s : State) (id : Nat) : State :=
  let s := s.abortSheaf id saCommand 0
  if 0xF000 ≤ id then s.roundFaultUnmet (id - 0xF000) rfAborted else s

/-- A write of TBL_SH_CMD: the operation runs, and its status shows in the source's own copy; while one is BUSY a write
collides (R177, R328). -/
def State.shCommand (s : State) (src : Source) (op : Nat) (w : Word) (run : State → Nat → Nat × State) : Out :=
  if !s.mayWrite src then .next s
  else if s.opBusy (banked src Reg.TBL_SH_CMD) then .next s.tblCollide
  else
    let s := s.startOp (banked src Reg.TBL_SH_CMD)
    let w := w &&& 0x0300FFFFFFFFFFFF
    let (st, s) := run s (Fld.TBL_SH_CMD_SHEAF.get w)
    .next (s.setReg (banked src Reg.TBL_SH_CMD) (Fld.TBL_SH_CMD_OP.put op (Fld.TBL_SH_CMD_STATUS.put st w)))

/-- BEGIN. -/
def execShBegin (src : Source) (cmd : Word) (s : State) : Out :=
  s.shCommand src 0 cmd (fun s id =>
    let st := s.beginStatus id
    (st, if st = ssOk then s.openSheaf id (originOf src) (Fld.TBL_SH_CMD_LIFE.get cmd) else s))

/-- A COMMIT or ABORT of the sheaf that an earlier source writes in the same event tick: it comes first, in the order of
R22, and leaves the sheaf not OPEN (R350). (DESIGN CHOICE, log entry 133) -/
def State.outranked (s : State) (src : Source) (id : Nat) : Bool :=
  let first := fun (q : Source) (w : Word) => decide (sourceIndex q < sourceIndex src) && Fld.TBL_SH_CMD_SHEAF.get w == id
    && s.mayWrite q && !s.opBusy (banked q Reg.TBL_SH_CMD)
  s.alsoNow (fun i => match i with
    | .shCommit q w => first q w && softId id
    | .shAbort q w => first q w
    | _ => false)

/-- COMMIT. -/
def execShCommit (src : Source) (cmd : Word) (s : State) : Out :=
  s.shCommand src 1 cmd (fun s id =>
    if !softId id then (ssRange, s)
    else if (s.sheaf id).state ≠ shOpen ∨ s.outranked src id then (ssState, s)
    else s.commitSheaf id)

/-- ABORT. -/
def execShAbort (src : Source) (cmd : Word) (s : State) : Out :=
  s.shCommand src 2 cmd (fun s id =>
    if id = 0 then (ssRange, s)
    else if (s.sheaf id).state ≠ shOpen ∨ s.outranked src id then (ssState, s)
    else (ssOk, s.abortCommand id))

/-- STAGE. -/
def execShStage (src : Source) (cmd : Word) (s : State) : Out :=
  s.shCommand src 3 cmd (fun s id => s.stageMember id cmd)

/-- LIFE has passed with the sheaf OPEN (R330); a COMMIT of the same event tick applies (R350).
(DEDUCED, log entries 6 and 34; DESIGN CHOICE, log entry 133) -/
def execSheafLifeExpiry (id : BitVec 16) (s : State) : Out :=
  let x := s.sheaf id.toNat
  if s.alsoNow (fun i => s.commitWaits i == some id.toNat) then .next s
  else if s.awake ∧ x.state = shOpen ∧ x.life ≠ 0 ∧ s.since x.openedAt (msTicks x.life.toNat) then
    .next (s.abortSheaf id.toNat saExpired 0)
  else .next s

/-- TBL_SH_STATE. -/
def State.shState (s : State) (id : Nat) : Word :=
  let x := s.sheaf id
  pack [(Fld.TBL_SH_STATE_STATE, x.state.toNat), (Fld.TBL_SH_STATE_CAUSE, x.cause.toNat), (Fld.TBL_SH_STATE_ESTAT, x.estat.toNat),
    (Fld.TBL_SH_STATE_STAGED, x.staged.length), (Fld.TBL_SH_STATE_ORIGIN, x.origin.toNat), (Fld.TBL_SH_STATE_LIFE, x.life.toNat)]

/-! ### The epoch switch (R294, R332, R333) -/

/-- A copy of a kind waits for its acknowledgement. (DEDUCED, log entry 37) -/
def State.copyWaits (s : State) (p : CopyKind → Bool) : Bool := s.ma.copies.any (fun x => x.2.any (fun c => p c.kind))

/-- A PRIMARY binding's part of the switch is ready. (DEDUCED, log entry 35) -/
def State.bindingReady (s : State) (key : Nat) (b : Binding) : Bool :=
  b.stepped.length == b.nchunk && (b.peerState != 2 || !s.copyWaits (fun k => match k with
    | .step j x _ _ _ => 64 * j + x == key
    | .resilver j x _ => 64 * j + x == key
    | _ => false))

/-- The read groups of the planes of bindings close (R320). -/
def State.closePlanes (s : State) (l : List (Nat × Binding)) : State :=
  s.closeReads (fun g => l.any (fun p => p.1 / 64 == g.j
    && rangesShare (addrOff g.phys) (addrOff g.phys + g.len) p.2.planes.p0 p.2.planes.stop))

/-- The bindings of a collective switch to the next epoch in one cycle; reads of their planes close.
(DEDUCED, log entry 35) -/
def State.switchBindings (s : State) (coll : BitVec 16) (epoch : BitVec 32) : State :=
  let keys := (s.primaries coll).map (fun p => p.1)
  let s := s.closePlanes (s.primaries coll)
  s.onGrn (fun g => { g with bindings := g.bindings.map (fun p =>
    if keys.contains p.1 then (p.1, { p.2 with
      cur := !p.2.cur
      step := p.2.step + 1
      epoch := epoch
      pend := false
      stepped := []
      unnoticed := true })
    else p) })

/-- Commit the epoch-switch sheaf of a round; its COMMIT is then due (R204). -/
def State.commitEpoch (s : State) (key : Nat) : State :=
  let r := s.round key
  let (st, s) := s.commitSheaf (epochSheaf key)
  if st ≠ ssOk then s.roundFaultUnmet key rfAborted
  else (s.switchBindings r.coll (s.epochnum r.round)).settleColl r.coll

/-- Send the NOTICE of a round to a peer, with the state of the first binding that names it.
(DESIGN CHOICE, log entry 36) -/
def State.sendNotice (s : State) (key : Nat) (peer : BitVec 12) : State :=
  let r := s.round key
  match (s.primaries r.coll).find? (fun p => p.2.peerState != 0 && p.2.peer == peer) with
  | none => s
  | some (_, b) =>
    let d := s.cx r.coll.toNat
    let bytes := beBytes 4 (b.step + 1).toNat ++ [if b.cur then 0 else 1, 0, 0, 0] ++ beBytes 4 (homedAt d (s.coverHome b))
    s.sendCopy (qGranary (tallyCluster r.coll.toNat)) (.notice key peer.toNat)
      { dest := peer, job := cxJob d, coll := r.coll, round := r.round, epochnum := s.epochnum r.round, version := 0 }
      [{ subk := 4, chunk := 0, addr := 0, bytes := bytes }]

/-- Take a round's epoch switch as far as it goes: the NOTICEs, then the commit. (DEDUCED, log entry 35) -/
def State.epochGo (s : State) (key : Nat) : State :=
  let r := s.round key
  let bs := s.primaries r.coll
  if r.state ≠ rsTallied ∨ (s.sheaf (epochSheaf key)).state ≠ shOpen ∨ !bs.all (fun p => s.bindingReady p.1 p.2) then s
  else
    let peers := ((bs.filter (fun p => p.2.peerState != 0)).map (fun p => p.2.peer)).dedup
    let need := peers.filter (fun p => !r.notices.contains p.toNat && !s.copyWaits (fun k => k == .notice key p.toNat))
    if !need.isEmpty && decide (256 < s.unacked + need.length) then s
    else
      let s := need.foldl (fun s p => s.sendNotice key p) s
      if bs.all (fun p => p.2.peerState != 2 || r.notices.contains p.2.peer.toNat) then s.commitEpoch key else s

/-- A tallied round with ready bindings. -/
def execEpochReady (n : Fin 16) (j : Byte) (s : State) : Out :=
  if s.awake then .next (s.epochGo (256 * n.val + j.toNat)) else .next s

/-- The epoch switches that may commit in this event tick, taken now. (DESIGN CHOICE, log entry 133) -/
def State.epochsNow (s : State) : State :=
  (s.pending.filterMap (fun i => match i with
    | .epochReady n j => some (256 * n.val + j.toNat)
    | _ => none)).foldl (fun s k => s.epochGo k) s

/-- A read request; an epoch switch of the same event tick commits before one that names an epoch (R308, R325). -/
def execRdReqTaken (r : StageRef) (s : State) : Out :=
  .next ((if s.awake ∧ (s.stagedAt r).any (fun h => frameEpoch h.f) then s.epochsNow else s).takeRead r)

/-! ### SHA (R257, R259) -/

/-- The epoch-switch sheaf of a round may commit in this event tick. -/
def State.epochNow (s : State) (id : Nat) : Bool :=
  s.alsoNow (fun i => match i with
    | .epochReady n j => 0xF000 + 256 * n.val + j.toNat == id
    | _ => false)

/-- SHA; a commit of the sheaf in the same event tick comes first (R259). (DEDUCED, log entry 94; DESIGN CHOICE, log
entry 133) -/
def runSha (p : Prep) (s : State) : State :=
  match p.i with
  | .sha d a =>
    let id := (p.x.s a).toNat % 65536
    if s.sheafVisible p.d.coll id then
      let s := if s.epochNow id then s.epochGo (id - 0xF000) else s
      let x := s.sheaf id
      let w : Word := if x.state = shOpen then 0 else if x.state = shAborted then 1 else 2
      let s := if x.state = shOpen then
          let s := s.abortSheaf id saProgram 0
          match s.findRound x.coll x.round with
          | some rk => s.roundFaultUnmet rk rfProgram
          | none => s
        else s
      p.finishLate (s.setCore p.n p.c ((s.core p.n p.c).setS d w))
    else p.exc s exSheaf p.at
  | _ => s

/-- SHA. -/
def execSha (n : Fin 16) (c : Fin 96) (e : MillErr) (s : State) : Out := .next (s.millRow n c e 0x52 runSha)

/-! ### Acknowledgements (R338, R339) -/

/-- The unacknowledged copy that a STATE_ACK answers. -/
def State.copyFor (s : State) (src : BitVec 20) (tag : BitVec 32) : Option (Nat × Copy) :=
  s.ma.copies.findSome? (fun p => p.2.bind (fun c => if c.dest = src.toNat ∧ c.tag = tag then some (p.1, c) else none))

/-- A copy's round is the one its record still holds. -/
def State.copyLive (s : State) (key : Nat) (c : Copy) : Bool :=
  let r := s.round key
  r.state != 0 && r.state != rsFaulted && c.frames.any (fun f => f.coll == r.coll && f.round == r.round)

/-- A chunk that lies at a LOADING peer as it stands is LOADED (R344). -/
def State.markLoaded (s : State) (j b h : Nat) (c : Copy) : State :=
  let x := s.binding j b
  if x.peerState = 1 ∧ x.peer.toNat = c.dest ∧ c.clean then s.setBinding j b { x with loaded := SMap.put false x.loaded h true } else s

/-- A copy is acknowledged OK. (DEDUCED, log entry 38) -/
def State.copyOk (s : State) (id : Nat) (c : Copy) : State :=
  match c.kind with
  | .step j b h k r =>
    let s := s.markLoaded j b h c
    let x := s.round r
    if s.copyLive r c && !SMap.get false x.done k && !s.noteAtSource (.result r k) then
      let y := s.binding j b
      let img := (c.frames.flatMap (fun f => f.payload)).take ((c.frames.headD {}).len.toNat)
      s.stepResult j r k (img.drop (img.length - y.served * y.elems))
    else s
  | .resilver j b h => s.markLoaded j b h c
  | .blocks _ =>
    let s := (s.ma.trackers.filter (fun t => t.copy == some id && !t.ended)).foldl (fun s t => s.commitWrite t) s
    (s.ma.atoms.filter (fun g => g.copy == some id)).foldl (fun s g => s.commitAtoms g) s
  | .notice r peer =>
    let f := c.frames.headD {}
    let step := BitVec.ofNat 32 (natAt f.payload 0 4)
    let s := s.onGrn (fun g => { g with bindings := g.bindings.map (fun p =>
      if p.2.valid && !p.2.replica && p.2.coll == f.coll && p.2.peer.toNat == peer then (p.1, { p.2 with loadedStep := some step }) else p) })
    if s.copyLive r c then
      let x := s.round r
      let l := x.notices ++ [peer]
      (s.setRound r { x with notices := l }).epochGo r
    else s

/-- A copy is REFUSED: the sender's round faults, or the write stays uncommitted. (DEDUCED, log entry 34) -/
def State.copyRefused (s : State) (c : Copy) : State :=
  match c.kind with
  | .step _ _ _ _ r => if s.copyLive r c then s.roundFaultUnmet r rfEngine else s
  | .notice r _ => if s.copyLive r c then s.roundFaultUnmet r rfEngine else s
  | .resilver _ _ _ => s
  | .blocks j => s.faultRecord { unitType := utGranary, unit := j, register := 1, action := 7, detail := BitVec.ofNat 64 c.dest }

/-- Take an own frame of a kind out of staging for its consumer. -/
def State.takeFrame (s : State) (r : StageRef) (p : Frame → Bool) (run : Frame → State → State) : Out :=
  match s.stagedAt r with
  | none => .next s
  | some h => if s.awake ∧ p h.f ∧ s.ownFrame h.f then .next (run h.f (s.consume r h)) else .next s

/-- A module-level reset is asked for in the same event tick: it comes before an acknowledgement or a NOTICE (R325, R350).
(DESIGN CHOICE, log entry 133) -/
def State.resetNow (s : State) : Bool :=
  let asks := fun (src : Source) (w : Word) (code : Nat) => s.mayWrite src && bitsOf w.toNat 31 16 == 0xA55A && w.toNat % 4 == code
  s.alsoNow (fun i => match i with
    | .resetreqDatapathWarm src w => asks src w 2
    | .resetreqCold src w => asks src w 3
    | _ => false)

/-- A STATE_ACK ends a copy. (DESIGN CHOICE, log entry 39) -/
def execStateAckReceive (r : StageRef) (s : State) : Out :=
  if s.resetNow then .next s
  else s.takeFrame r (fun f => f.kind = kStateAck) (fun f s =>
    match s.copyFor f.src f.tag with
    | none => s
    | some (id, c) =>
      if f.subk ≠ 1 ∧ f.subk ≠ 2 then s
      else
        let s := s.onMa (fun a => { a with copies := SMap.put none a.copies id none })
        (if f.subk = 1 then s.copyOk id c else s.copyRefused c).pumpCopies)

/-- The source that a copy's frames leave from. -/
def Copy.source (c : Copy) : Nat :=
  match c.kind.engine with
  | some j => qGranary j
  | none => qGranary (tallyCluster (c.frames.headD {}).coll.toNat)

/-- A copy unacknowledged for 4 ms since its last frame left is sent again whole. -/
def execCopyResend (id : Nat) (s : State) : Out :=
  match SMap.get none s.ma.copies id with
  | none => .next s
  | some c =>
    if s.awake ∧ s.since c.sentAt (msTicks 4) ∧ !s.noteAtSource (.copy id) then
      let s := s.onMa (fun a => { a with copies := SMap.put none a.copies id (some { c with sentAt := s.tick }) })
      .next (c.frames.foldl (fun s f => s.originate c.source f [.route] (.copy id)) s)
    else .next s

/-- A frame of a copy has been admitted: the 4 ms run from the last one. -/
def State.copyAdmitted (s : State) (id : Nat) : State :=
  match SMap.get none s.ma.copies id with
  | none => s
  | some c => s.onMa (fun a => { a with copies := SMap.put none a.copies id (some { c with sentAt := s.tick }) })

/-! ### Copies received (R334, R338) -/

/-- The STATE_ACK of a copy. (DESIGN CHOICE, log entry 39) -/
def State.stateAck (s : State) (f : Frame) (ok : Bool) : Frame :=
  { kind := kStateAck
    vc := 2
    flags := flEpoch ||| flDstmod ||| flSrcmod
    job := f.job
    dst := f.src
    src := s.modnum.setWidth 20
    coll := f.coll
    subk := if ok then 1 else 2
    epochnum := f.epochnum
    tag := f.tag }

/-- REPLICA bindings of a collective whose PEER is a module, by 64j + b. (DESIGN CHOICE, log entry 31) -/
def State.replicas (s : State) (coll : BitVec 16) (src : BitVec 20) : List (Nat × Binding) :=
  s.grn.bindings.filter (fun p => p.2.valid && p.2.replica && p.2.coll == coll && p.2.peer.setWidth 20 == src)

/-- The bytes of a complete copy, its frames in order of offset. (DEDUCED, log entry 38) -/
def copyBytes (fs : List Frame) : List Byte := (fs.flatMap (fun f => f.payload)).take (fs.headD {}).len.toNat

/-- Write a chunk of a shard; with several replicas of the collective, TAG names the engine.
(DESIGN CHOICE, log entry 31) -/
def State.writeChunk (s : State) (f : Frame) (l : List Byte) : Bool × State :=
  let c := s.replicas f.coll f.src
  let pick := match c with
    | [x] => some x
    | _ => c.find? (fun p => p.1 / 64 == f.tag.toNat / 2 ^ 28)
  match pick with
  | none => (false, s)
  | some (key, b) =>
    let j := key / 64
    let n := b.elems
    let h := f.chunk.toNat
    let p := b.planes
    let low := b.served * n
    let ver := f.opnd.extractLsb' 32 32
    let tops := if b.adamw then [p.master, p.m1, p.m2] else [p.master, p.m1]
    if b.nchunk ≤ h ∨ l.length ≠ 4 * n * tops.length + low then (false, s)
    else
      let s := (tops.mapIdx (fun i o => (i, o))).foldl (fun (s : State) q =>
        s.gChanWrite j (q.2 + 4 * (h * n)) (sliceBytes l (4 * n * q.1) (4 * n)) ver) s
      let plane := if f.subk = 1 then b.next else b.current
      let s := s.gChanWrite j (plane + b.served * (h * n)) (sliceBytes l (4 * n * tops.length) low) ver
      let s := s.setPending j (key % 64)
      (true, (s.bump (Reg.GRN_STATEW j) l.length).grnEvent evWrite l.length f.job.toNat (chanAddr j p.p0))

/-- The atomic journal records of a JOURNAL frame. (DESIGN CHOICE, log entry 39) -/
def journalOf (job : BitVec 12) (l : List Byte) : List JEntry :=
  (List.range (l.length / 32)).map (fun i =>
    let o := 32 * i
    { src := BitVec.ofNat 20 (natAt l o 4), tag := BitVec.ofNat 32 (natAt l (o + 4) 4), addr := BitVec.ofNat 64 (natAt l (o + 8) 8),
      subk := BitVec.ofNat 8 (natAt l (o + 16) 1), value := BitVec.ofNat 64 (natAt l (o + 24) 8), committed := true, job := job })

/-- A BLOCKS frame's region is reserved for its job. (DESIGN CHOICE, log entry 39) -/
def State.blocksAllowed (s : State) (f : Frame) : Bool :=
  let d := (s.entry 3 (addrRegion f.addr)).data
  f.subk != 3 || (tblBits d 0 63 63 == 1 && tblBits d 0 43 32 == f.job.toNat)

/-- Write the blocks and journal records of a memory-semantic copy. (DESIGN CHOICE, log entry 39) -/
def State.writeBlocks (s : State) (fs : List Frame) : Bool × State :=
  if !fs.all s.blocksAllowed then (false, s)
  else (true, fs.foldl (fun (s : State) (f : Frame) =>
    if f.subk = 3 then
      ((s.gWrite (reqAddr f.addr) f.payload (f.opnd.extractLsb' 32 32)).bump (Reg.GRN_STATEW (reqChan f)) f.payload.length).grnEvent
        evWrite f.payload.length f.job.toNat (reqAddr f.addr)
    else (journalOf f.job f.payload).foldl (fun (s : State) (e : JEntry) =>
      let j := addrRegion e.addr % 16
      s.setJournal j (e :: s.journal j)) s) s)

/-- A complete copy is written, and answered; a PROMOTE of its sender that commits in the same event tick comes first, and
the copy is refused (R350). -/
def State.writeCopy (s : State) (port : Nat) (fs : List Frame) : State :=
  let f := fs.headD {}
  let shard := f.subk = 1 ∨ f.subk = 2
  let (ok, s) := if shard then (if s.promoting f.src then (false, s) else s.writeChunk f (copyBytes fs)) else s.writeBlocks fs
  s.originate (qGranary (clusterOf port)) (s.stateAck f ok) [.route] .none

/-- Offset of a frame's payload in its copy. -/
def copyOffset (f : Frame) : Nat := f.opnd.toNat % 2 ^ 32

/-- Take one frame of a copy; the copy is written once COUNT frames have come (R40, R41, R158).
(DEDUCED, log entry 38) -/
def State.copyFrame (s : State) (port : Nat) (f : Frame) : State :=
  let src := f.src.toNat
  let mine := fun (u : Incoming) => u.src == src && u.tag == f.tag
  let u := (s.ma.incoming.find? mine).getD { src := src, tag := f.tag, frames := [] }
  let rest := s.ma.incoming.filter (fun x => !mine x)
  let fs := sortBy copyOffset (u.frames.filter (fun x => copyOffset x != copyOffset f) ++ [f])
  let clash := frameFence f && u.count.any (fun c => c != f.count.toNat)
  let count := if frameFence f then some f.count.toNat else u.count
  let keep := fun (l : List Incoming) (s : State) => s.onMa (fun a => { a with incoming := l })
  if clash || count.any (fun c => decide (c < fs.length)) then keep rest s
  else if count = some fs.length then (keep rest s).writeCopy port fs
  else keep (rest ++ [{ u with
    frames := fs
    count := count }]) s

/-- The REPLICA binding that a frame of a shard's copy is for leaves in this event tick: UNBIND comes first, and the frame is
discarded (R308). (DESIGN CHOICE, log entry 133) -/
def State.unboundNow (s : State) (f : Frame) : Bool :=
  let mine := fun (b : Binding) => b.valid && b.replica && b.coll == f.coll && b.peer.setWidth 20 == f.src
  (List.finRange 16).any (fun j =>
    ((s.replicas f.coll f.src).all (fun p => p.1 / 64 == j.val) || f.tag.toNat / 2 ^ 28 == j.val)
      && ((s.engine j.val).wasBound.any (fun w => w.1 == s.tick + 1 && mine w.2)
        || (s.alsoNow (fun i => i == .grnUnbind j) && (s.nextEntry (engGrn j.val)).any (fun e =>
          entryOp e.2 == 2 && s.unbindGrnStatus j.val e.2 == gsOk && mine (s.binding j.val (geBix e.2))))))

/-- A STATE frame other than a NOTICE. (DEDUCED, log entry 38) -/
def execStateReceive (r : StageRef) (s : State) : Out :=
  s.takeFrame r (fun f => f.kind = kState ∧ f.subk ≠ 4) (fun f s =>
    if (f.subk = 1 ∨ f.subk = 2) ∧ s.unboundNow f then s
    else if 1 ≤ f.subk.toNat ∧ f.subk.toNat ≤ 5 then s.copyFrame r.port.val f
    else s)

/-- A NOTICE applied to one REPLICA binding. (DESIGN CHOICE, log entry 36) -/
def noticeBinding (step : BitVec 32) (cur : Bool) (epoch : BitVec 32) (b : Binding) : Binding :=
  let b := if b.step.toNat < step.toNat then { b with
      step := step
      cur := cur
      epoch := epoch
      pend := false
      stepped := [] }
    else if b.step = step then { b with epoch := epoch }
    else b
  { b with unnoticed := true }

/-- A NOTICE. (DESIGN CHOICE, log entry 36) -/
def execNoticeReceive (r : StageRef) (s : State) : Out :=
  if s.resetNow then .next s
  else s.takeFrame r (fun f => f.kind = kState ∧ f.subk = 4) (fun f s =>
    if !frameFence f ∨ f.count ≠ 1 then s
    else
      let mine := s.replicas f.coll f.src
      let keys := mine.map (fun p => p.1)
      let step := BitVec.ofNat 32 (natAt f.payload 0 4)
      let cur := natAt f.payload 4 1 == 1
      let s := s.closePlanes (mine.filter (fun p => decide (p.2.step.toNat < step.toNat)))
      let s := s.onGrn (fun g => { g with bindings := g.bindings.map (fun p =>
        if keys.contains p.1 then (p.1, noticeBinding step cur f.epochnum p.2) else p) })
      s.originate (qGranary (clusterOf r.port.val)) (s.stateAck f (!keys.isEmpty)) [.route] .none)

/-! ### Broadcasts (R347, R348) -/

/-- The tree of a broadcast: module numbers and subtree sizes, in pre-order. (DEDUCED, log entry 41) -/
def bcTree (l : List Byte) : List (Nat × Nat) :=
  (List.range (natAt l 16 2)).map (fun i => (natAt l (32 + 4 * i) 2, natAt l (34 + 4 * i) 2))

/-- The sizes make one tree: `owed` holds, innermost first, the entries still owed to each subtree. -/
def bcSizes : List (Nat × Nat) → List Nat → Bool
  | [], owed => owed.all (fun n => n == 0)
  | (_, size) :: l, owed =>
    match owed.dropWhile (fun n => n == 0) with
    | [] => false
    | n :: rest => decide (1 ≤ size ∧ size ≤ n) && bcSizes l ((size - 1) :: (n - size) :: rest)

/-- NENT, PLEN and the subtree sizes agree. -/
def bcForm (l : List Byte) : Bool :=
  let n := natAt l 16 2
  let t := bcTree l
  decide (1 ≤ n ∧ n ≤ 1012) && l.length == 48 + 4 * n && (t.headD (0, 0)).2 == n && bcSizes t [n]

/-- The children of the entry at place `i`. -/
def bcChildren (t : List (Nat × Nat)) (stop : Nat) : Nat → Nat → List Nat
  | 0, _ => []
  | k + 1, i =>
    match t[i]? with
    | none => []
    | some (n, size) => if stop ≤ i then [] else n :: bcChildren t stop k (i + size)

/-- The accepted-SEQ high-water mark of the current key. (DEDUCED, log entry 41) -/
def State.bcHigh (s : State) : Nat := (s.reg Reg.SEC_BKSTAT).toNat % 2 ^ 32

/-- STAGE: the sheaf opens if it may, and the Job entry is staged, in place of an earlier one of its index (R182); the same
entry again changes nothing. (DEDUCED, log entry 41) -/
def State.bcStage (s : State) (id : Nat) (l : List Byte) : State :=
  let s := if s.beginStatus id = ssOk then s.openSheaf id 3 (natAt l 14 2) else s
  let job := natAt l 12 2
  let d : BitVec 512 := BitVec.ofNat 512 (natAt l 4 8 * 2 ^ 448)
  if (s.sheaf id).staged.any (fun x => x.t == 1 && x.idx == job && x.data == d) || formStatus 1 job d != tsOk then s
  else (s.stageEntry id { t := 1, idx := job, data := d }).2

/-- The payload bytes before the MAC. -/
def bcCovered (l : List Byte) : Nat := 32 + 4 * natAt l 16 2

/-- The IV of a broadcast: SHEAF, SUBK, zero, SEQ, zero (R347). -/
def bcIv (subk : Byte) (sheaf : BitVec 16) (l : List Byte) : BitVec 96 :=
  sheaf ++ subk ++ (0 : BitVec 8) ++ BitVec.ofNat 32 (natAt l 0 4) ++ (0 : BitVec 32)

/-- The tag of a broadcast verifies under the broadcast key (R347). (DESIGN CHOICE, log entry 11) -/
def State.bcTag (s : State) (subk : Byte) (sheaf : BitVec 16) (l : List Byte) : Bool :=
  let n := bcCovered l
  s.sec.bkeySet && Config.aesGmac s.sec.bkey (bcIv subk sheaf l) (l.take n) == BitVec.ofNat 128 (natAt l n 16)

/-- Act on a broadcast message and relay it; or discard it. (DEDUCED, log entry 41) -/
def State.broadcast (s : State) (subk : Byte) (sheaf : BitVec 16) (l : List Byte) : Bool × State :=
  let t := bcTree l
  let seq := natAt l 0 4
  let mine := (t.mapIdx (fun i e => (i, e))).filter (fun e => e.2.1 < 4096 && s.isOwn (BitVec.ofNat 12 e.2.1))
  match s.bcTag subk sheaf l && decide (s.bcHigh < seq) && bcForm l, mine with
  | true, [(i, (_, size))] =>
    let s := (s.setReg Reg.SEC_BKSTAT ((s.reg Reg.SEC_BKSTAT &&& 0xFFFFFFFF00000000) ||| BitVec.ofNat 64 seq)).bump (Reg.TBL_SH_CNT 2) 1
    let id := sheaf.toNat
    let s := if subk = 0x21 then s.bcStage id l
      else if (s.sheaf id).state ≠ shOpen then s
      else if subk = 0x22 then (if softId id then (s.commitSheaf id).2 else s)
      else s.abortCommand id
    (true, (bcChildren t (i + size) t.length (i + 1)).foldl (fun s n =>
      s.originate qBosun
        { kind := kMgmt, vc := 0, flags := flDstmod ||| flSrcmod, plen := BitVec.ofNat 13 l.length, dst := BitVec.ofNat 20 n,
          src := s.modnum.setWidth 20, subk := subk, sheaf := sheaf, payload := l } [.route] .none) s)
  | _, _ => (false, (s.bump (Reg.TBL_SH_CNT 3) 1).raise Reg.TBL_SH_EVT 3 11 srcTable)

/-- A load of the broadcast key falls in the same event tick: it comes before a broadcast (20_security.md, coinciding
events). (DESIGN CHOICE, log entry 133) -/
def State.keyLoads (s : State) : Bool :=
  s.alsoNow (fun i => match i with
    | .bkeyLoad src => s.mayWrite src && (sourceSession src).isSome
    | _ => false)

/-- A broadcast message of one SUBK reaches the module: JOB 0, with SRCMOD; another MGMT frame of that SUBK is no broadcast,
and ends here. In DRAINING a STAGE is not admitted (R387). (DEDUCED, log entry 41) -/
def State.bcReceive (s : State) (r : StageRef) (subk : Byte) : Out :=
  if s.keyLoads then .next s
  else s.takeFrame r (fun f => f.kind = kMgmt ∧ f.subk = subk) (fun f s =>
    if !frameSrcmod f ∨ f.job ≠ 0 ∨ (subk = 0x21 ∧ s.mode = stDraining) then s else (s.broadcast subk f.sheaf f.payload).2)

/-- STAGE. -/
def execBroadcastStage (port : Fin 544) (idx : Nat) (s : State) : Out := s.bcReceive ⟨port, 0, idx⟩ 0x21

/-- COMMIT. -/
def execBroadcastCommit (port : Fin 544) (idx : Nat) (s : State) : Out := s.bcReceive ⟨port, 0, idx⟩ 0x22

/-- ABORT. -/
def execBroadcastAbort (port : Fin 544) (idx : Nat) (s : State) : Out := s.bcReceive ⟨port, 0, idx⟩ 0x23

/-! ### Admission at the internal sources (R132, R154) -/

/-- Admit a copy of a source's frame; with its last copy, what the frame stands for goes on.
(DEDUCED, log entries 21 and 67) -/
def State.admitNoted (s : State) (q : FrameSource) (idx : Nat) : State :=
  match s.admitSource (sourceKey q) idx with
  | (none, s) => s
  | (some x, s) => match x.note with
    | .none => s
    | .result r c => s.settleEmission (.result r c)
    | .sitePartial r c => s.settleEmission (.sitePartial r c)
    | .commit c h => s.settleCommit c h
    | .reply _ g => s.settleReply g
    | .copy id => s.copyAdmitted id

/-- INTERNAL_SOURCE_ADMIT. -/
def execInternalSourceAdmit (q : FrameSource) (idx : Nat) (s : State) : Out :=
  if s.awake then .next (s.admitNoted q idx) else .next s

/-- A member of its group becomes eligible for a frame that waits: it is chosen again. (DEDUCED, log entry 82) -/
def execMemberEligible (w : WaitRef) (s : State) : Out :=
  if !s.awake then .next s
  else match w with
  | .staged r => .next (s.tryLeave r)
  | .handedBack n idx => .next (s.rechooseAt n.val idx).2
  | .atSource q idx => .next (s.admitNoted q idx)

end Sys2Proof.Machine
end

