-- ==== Sys2Proof/Machine/Time.lean ====
section
/-! DEFINITION. Fabric time (R351 to R364): the PTP messages sent and received, peer delay, the
servo, and steps of time. Offsets are counted in 2^−16 ns. -/

namespace Sys2Proof.Machine

/-! ### Intervals and state -/

/-- L of an interval of 2^−L s, from a signed field of −10 to 0. (DEDUCED, log entry 43) -/
def logInterval (v : Nat) : Nat := min 10 (-(toSigned 8 v)).toNat

/-- SYNCINT and PDINT in event ticks. (DEDUCED, log entry 43) -/
def State.syncLog (s : State) : Nat := logInterval (s.fld Reg.TIM_INT Fld.TIM_INT_SYNCLOG)
def State.syncTicks (s : State) : Nat := ceilDiv (secTicks 1) (2 ^ s.syncLog)
def State.pdTicks (s : State) : Nat := ceilDiv (secTicks 1) (2 ^ logInterval (s.fld Reg.TIM_INT Fld.TIM_INT_PDLOG))

/-- TIM_STAT and TIM_NOW. -/
def State.timStat (s : State) : Word := Fld.TIM_STAT_GM.put (b2n s.grandmaster) (s.reg Reg.TIM_STAT)
def State.timNow (s : State) : Word := BitVec.ofNat 64 s.nowHalf

/-- Fabric time steps (R361): boundaries follow the new time, and bypass entries whose instant it
passes are refused. -/
def State.timeStep (s : State) (fine : Int) : State :=
  let s := s.onClock (fun c => { c with fine := fine })
  let s := s.onClock (fun c => { c with
    base := s.nowNs
    bounds := [] })
  s.bypassPassed.raiseTime 2

/-! ### Messages (R351 to R353) -/

/-- A message of this module: type, length, the fields that the rules set, the rest open.
(PRESUMED, log entry 18) -/
def ptpMessage (type len : Nat) (l : List (Nat × List Byte)) : List Byte :=
  let p := (List.range len).map (fun i => Config.ptpByte type i)
  let p := putBytes p 0 [BitVec.ofNat 8 (16 * ((Config.ptpByte type 0).toNat / 16) + type), (Config.ptpByte type 1)]
  let p := putBytes p 6 [(Config.ptpByte type 6) &&& 0xFD]
  pad4 (l.foldl (fun p x => putBytes p x.1 x.2) p)

/-- A TIME frame of this module. (PRESUMED, log entry 18) -/
def State.timeFrame (s : State) (subk : Byte) (payload : List Byte) : Frame :=
  { kind := kTime, vc := 0, flags := flSrcmod, plen := BitVec.ofNat 13 payload.length, src := s.modnum.setWidth 20, subk := subk,
    payload := payload }

def State.timeCount (s : State) (i : Nat) : State := s.bump (Reg.TIM_CNT i) 1

/-- Send one Sync to a module. -/
def State.sendSync (s : State) (m : Nat) : State :=
  let q := s.clock.txSeq + 1
  let s := s.onClock (fun c => { c with txSeq := q })
  let p := ptpMessage 0 44 [(4, [BitVec.ofNat 8 (s.fld Reg.TIM_CTL Fld.TIM_CTL_DOMAIN)]), (8, beBytes 8 0), (30, beBytes 2 q.toNat)]
  let f := { s.timeFrame 0 p with
    flags := flSrcmod ||| flDstmod
    dst := BitVec.ofNat 20 m }
  (s.originate qBosun f [.route] .none).timeCount 6

/-- Every SYNCINT a fan-out source sends a Sync to each valid TIM_FAN entry (R353). -/
def execSyncSend (s : State) : Out :=
  if s.awake ∧ s.flag Reg.TIM_CTL Fld.TIM_CTL_FANEN ∧ s.timeLocked ∧ s.since s.clock.syncAt s.syncTicks then
    let s := s.onClock (fun c => { c with syncAt := s.tick })
    .next ((List.range 256).foldl (fun s i =>
      let w := s.reg (Reg.TIM_FAN i)
      if w.getLsbD 63 then s.sendSync (w.toNat % 4096) else s) s)
  else .next s

/-! ### Peer delay (R355) -/

def State.peerDelay (s : State) (p : Nat) : PeerDelay := SMap.get {} s.port.peerDelay p
def State.setPeerDelay (s : State) (p : Nat) (q : PeerDelay) : State :=
  s.onPort (fun x => { x with peerDelay := SMap.put {} x.peerDelay p q })

/-- Every PDINT a Pdelay_Req leaves each UP port. -/
def execPdelayReqSend (port : Fin 544) (s : State) : Out :=
  let q := s.peerDelay port
  if s.awake ∧ s.portState port = pUp ∧ s.since q.askedAt s.pdTicks then
    let n := q.seq + 1
    let s := s.setPeerDelay port { q with
      seq := n
      askedAt := s.tick }
    let p := ptpMessage ptpReq 54 [(8, beBytes 8 0), (30, beBytes 2 n.toNat)]
    .next (s.originate qBosun (s.timeFrame 1 p) [.port port] .none)
  else .next s

/-- Take an own TIME frame out of staging, with what is known of its arrival. -/
def State.takeTime (s : State) (r : StageRef) (p : Frame → Bool) (run : Held → State → State) : State :=
  match s.stagedAt r with
  | none => s
  | some h => if s.awake ∧ h.f.kind = kTime ∧ p h.f ∧ s.ownFrame h.f then run h (s.consume r h) else s

/-- PRESUMED, log entry 18. -/
def ptpTwoStep (p : List Byte) : Bool := (natAt p 6 1).testBit 1

/-- A Pdelay_Req is answered on its port; correctionField holds t2 until the answer leaves.
(DEDUCED, log entry 43) -/
def execPdelayReqReceive (r : StageRef) (s : State) : Out :=
  .next (s.takeTime r (fun f => f.subk = 1 && ptpType f.payload = ptpReq) (fun h s =>
    let p := h.f.payload
    if p.length < 54 then s.timeCount 1
    else
      let a := ptpMessage ptpResp 54 [(8, beBytes 8 h.m.tin), (30, sliceBytes p 30 2), (34, beBytes 10 0), (44, sliceBytes p 20 10)]
      (s.originate qBosun (s.timeFrame 1 a) [.port r.port.val] .none).timeCount 5))

/-- A measurement of a port's delay, in 2^−17 ns, is accepted into the mean or discarded.
(DESIGN CHOICE, log entry 17; DEDUCED, log entry 43) -/
def State.measure (s : State) (port : Nat) (x : Int) : State :=
  let q := s.peerDelay port
  let m := divOpen x 8192
  let pd : Int := toSigned 32 (s.reg (Reg.TIM_PD port)).toNat
  if q.seen = 16 ∧ 50 * 131072 < (x - 8192 * pd).natAbs then (s.timeCount 4).raiseTime 3
  else
    let l := (m :: q.meas).take 16
    let mean := divOpen l.sum l.length
    let s := s.setPeerDelay port { q with
      meas := l
      seen := min 16 (q.seen + 1)
      sent := none }
    (s.setReg (Reg.TIM_PD port) (BitVec.ofNat 64 (ofSigned 32 mean))).timeCount 3

/-- A Pdelay_Resp gives a measurement: ((t4 − t1) − turnaround) ÷ 2. (DEDUCED, log entry 44) -/
def execPdelayRespReceive (r : StageRef) (s : State) : Out :=
  .next (s.takeTime r (fun f => f.subk = 1 && ptpType f.payload != ptpReq) (fun h s =>
    let p := h.f.payload
    let port := r.port.val
    if ptpType p ≠ ptpResp ∨ ptpTwoStep p ∨ p.length < 54 then s.timeCount 1
    else match (s.peerDelay port).sent with
      | none => s.timeCount 4
      | some (q, t1) =>
        if q.toNat ≠ natAt p 30 2 then s.timeCount 4
        else s.measure port (32768 * ((h.m.tin : Int) - (t1 : Int)) - (BitVec.ofNat 64 (natAt p 8 8)).toInt)))

/-! ### The servo (R359, R360) -/

/-- θ of a Sync. -/
def State.theta (s : State) (port tin : Nat) (p : List Byte) : Int :=
  let origin := natAt p 34 6 * 1000000000 + natAt p 40 4
  32768 * (tin : Int) - (65536 * (origin : Int) + (BitVec.ofNat 64 (natAt p 8 8)).toInt + 4096 * s.inboundDelay port)

/-- TIM_OFFSET takes θ in 1/16 ns; one that does not fit is open. (DEDUCED, log entry 44) -/
def State.showOffset (s : State) (th : Int) : State :=
  let v := divOpen th 4096
  if -2147483648 ≤ v ∧ v < 2147483648 then s.setReg Reg.TIM_OFFSET (BitVec.ofNat 64 (ofSigned 32 v))
  else
    let (w, s) := s.free
    s.setReg Reg.TIM_OFFSET ((w.setWidth 32).setWidth 64)

/-- The frequency adjust after an offset, in 2^−32 units, within ±200 ppm.
(DESIGN CHOICE, log entry 17; DEDUCED, log entry 44) -/
def State.nextFreq (s : State) (th : Int) : Int :=
  let f := toSigned 32 (s.reg Reg.TIM_FREQ).toNat
  let d := divOpen (th * 2 ^ (16 + s.syncLog)) (1000000000 * 2 ^ s.fld Reg.TIM_SERVO Fld.TIM_SERVO_KISH)
  max (-858993) (min 858993 (f - d))

/-- Slew by `x` 2^−36 ns over `n` ticks. (DEDUCED, log entry 44) -/
def State.slew (s : State) (x : Int) (n : Nat) : State :=
  let per : Int := (ceilDiv x.natAbs n : Nat)
  s.onClock (fun c => { c with
    slewLeft := x
    slewPer := if x < 0 then -per else per })

/-- One accepted Sync with offset `th`. (DEDUCED, log entry 44) -/
def State.servoRun (s : State) (th : Int) : State :=
  let s := s.showOffset th
  if s.servo = tsLocked ∧ 65536 * s.fld Reg.TIM_SERVO Fld.TIM_SERVO_GATE < th.natAbs then
    let s := (s.timeCount 2).raiseTime 4
    let n := s.clock.gated + 1
    let s := s.onClock (fun c => { c with gated := n })
    if 16 ≤ n then s.setServo tsHoldover else s
  else if s.servo ≠ tsLocked ∧ 1000 * 65536 < th.natAbs then
    (s.timeStep (s.clock.fine - th * 2 ^ 20)).setServo tsLocking |>.setFld Reg.TIM_STAT Fld.TIM_STAT_RUN 0
  else
    let s := s.onClock (fun c => { c with gated := 0 })
    let s := s.setReg Reg.TIM_FREQ (BitVec.ofNat 64 (ofSigned 32 (s.nextFreq th)))
    let s := s.slew (-(divOpen (th * 2 ^ 20) (2 ^ s.fld Reg.TIM_SERVO Fld.TIM_SERVO_KPSH))) s.syncTicks
    let run := if th.natAbs ≤ 4096 * s.fld Reg.TIM_SERVO Fld.TIM_SERVO_LOCKTHR then min 16 (s.fld Reg.TIM_STAT Fld.TIM_STAT_RUN + 1) else 0
    let s := s.setFld Reg.TIM_STAT Fld.TIM_STAT_RUN run
    if run = 16 then s.setServo tsLocked else s

/-- A sequenceId is newer than the last one accepted. -/
def seqNewer (last : Option (BitVec 16)) (q : BitVec 16) : Bool :=
  match last with
  | none => true
  | some l => q != l && decide ((q - l).toNat < 32768)

/-- A routed TIME message is taken: a Sync of the source runs the servo. (DEDUCED, log entry 43) -/
def State.takeSync (s : State) (r : StageRef) : State :=
  s.takeTime r (fun f => f.subk != 1) (fun h s =>
    let p := h.f.payload
    let port := r.port.val
    let q := BitVec.ofNat 16 (natAt p 30 2)
    if h.f.subk = 0 ∧ ptpType p = 0 ∧ !ptpTwoStep p ∧ 44 ≤ p.length ∧ frameSrcmod h.f
        ∧ h.f.src.toNat = s.fld Reg.TIM_CTL Fld.TIM_CTL_SRCMOD ∧ natAt p 4 1 = s.fld Reg.TIM_CTL Fld.TIM_CTL_DOMAIN
        ∧ seqNewer s.clock.lastSeq q ∧ (s.peerDelay port).seen = 16 then
      let s := s.onClock (fun c => { c with
        lastSeq := some q
        lastSync := s.tick })
      (s.timeCount 0).servoRun (s.theta port h.m.tin p)
    else s.timeCount 1)

/-- A routed TIME message is taken. -/
def execSyncReceive (r : StageRef) (s : State) : Out := .next (s.takeSync r)

/-! ### What falls due in one tick (R364) -/

/-- HOLDTO has passed without a Sync (R360). -/
def State.holdtoDue (s : State) : Bool :=
  s.servo == tsLocked && s.since s.clock.lastSync (msTicks (s.fld Reg.TIM_INT Fld.TIM_INT_HOLDTO))

/-- Where the oldest routed TIME frame for this module waits. -/
def State.waitingSync (s : State) : Option StageRef :=
  s.sw.staging.findSome? (fun x => if x.1 % 8 = 0 then
      (x.2.findIdx? (fun h => h.f.kind = kTime && h.f.subk != 1 && s.ownFrame h.f)).map (fun i => ⟨Fin.ofNat 544 (x.1 / 8), 0, i⟩)
    else none)

/-- The Syncs that have arrived are judged, at most `n`. -/
def State.judgeSyncs (s : State) : Nat → State
  | 0 => s
  | n + 1 =>
    match s.waitingSync with
    | none => s
    | some r => (s.takeSync r).judgeSyncs n

/-- HOLDTO runs out: a Sync that has arrived is judged first, and HOLDOVER follows if it is not accepted (R364). -/
def State.holdtoRun (s : State) : State :=
  if s.holdtoDue then
    let s := s.judgeSyncs (s.sw.staging.map (fun p => p.2.length)).sum
    if s.holdtoDue then s.setServo tsHoldover else s
  else s

/-- A LOCKED module has accepted no Sync for HOLDTO (R360). -/
def execHoldtoExpiry (s : State) : Out := if s.awake then .next s.holdtoRun else .next s

/-- The entries of the earliest instant run, if it has come (R111, R112); a change out of LOCKED in the same tick applies
first (R364). (DEDUCED, log entry 79) -/
def execBypassInstant (s : State) : Out :=
  match earliest s.eng.bypass with
  | none => .next s
  | some t =>
    if s.awake ∧ t ≤ s.nowNs then
      let s := s.holdtoRun
      let run := s.eng.bypass.filter (fun e => bypInstant e == t)
      let s := s.onEng (fun x => { x with bypass := x.bypass.filter (fun e => bypInstant e != t) })
      .next (run.foldl (fun s e => s.bypassRun e) s)
    else .next s

/-- A write of TIM_SET (R361): only the grandmaster takes it. (DEDUCED, log entry 44) -/
def execTimSet (val : Word) (s : State) : Out :=
  if s.awake ∧ s.grandmaster then .next (s.timeStep ((val.toNat : Int) * 2 ^ 35)) else .next s

end Sys2Proof.Machine
end

