-- ==== Sys2Proof/Machine/Telemetry.lean ====
section
/-! DEFINITION. Telemetry: presets and snapshots of the counter sets (R365 to R370), tenant values (R370),
power windows (R371), frame tags and the sample ring (R372 to R374), bandwidth windows (R375), and the
reports of subscriptions (R376, R377). -/

namespace Sys2Proof.Machine

/-! ### Register writes by access code -/

/-- A register's value after a write, by its access codes (R7, R8).
(DESIGN CHOICE, log entry 22; DEDUCED, log entry 24) -/
def RegRow.written (r : RegRow) (old val : Word) : Word :=
  ((old &&& ~~~ r.rw &&& ~~~ (r.w1c &&& val)) ||| (val &&& r.rw)) ||| (val &&& r.w1s)

/-- Write a register by its access codes. -/
def State.writeReg (s : State) (key : Nat) (val : Word) : State :=
  match regRow (offsetOf key) with
  | some r => s.setReg key (r.written (s.reg key) val)
  | none => s

/-! ### Counter sets -/

/-- The set counts the event (R366). -/
def setCounts (set ev : Nat) : Bool := decide (ev ≤ 0x12) && (set == 0 || !decide (0x0E ≤ ev ∧ ev ≤ 0x11))

/-- The tenant value starts again with the window in progress (R370). (DEDUCED, log entry 46) -/
def State.tenantZero (s : State) (set i : Nat) : State :=
  s.onTele (fun t => { t with tenant := SMap.put {} t.tenant (64 * set + i) {} })

/-- A write of TEL_CSEL: an EVENT that the set cannot count is stored as 0. -/
def State.cselWrite (s : State) (set i : Nat) (val : Word) : State :=
  let val := if setCounts set (Fld.TEL_CSEL_EVENT.get val) then val else Fld.TEL_CSEL_EVENT.put 0 val
  (s.writeReg (Reg.TEL_CSEL set i) val).tenantZero set i

/-- A write of TEL_CNT. -/
def State.cntWrite (s : State) (set i : Nat) (val : Word) : State :=
  (s.writeReg (Reg.TEL_CNT set i) val).tenantZero set i

/-- A write of TEL_CNT, or with `sel` of TEL_CSEL. -/
def execTelCntWrite (set : Fin 17) (i : Fin 64) (sel : Bool) (val : Word) (s : State) : Out :=
  if s.awake then .next (if sel then s.cselWrite set i val else s.cntWrite set i val) else .next s

/-- SNAP is set: the copy is due at the next 10 µs boundary (R369). -/
def State.askSnap (s : State) : State :=
  let now := s.nowNs / 10000 * 10000
  let s := if (s.reg Reg.TEL_CTL).getLsbD 1 then s else s.onClock (fun c => { c with bounds := SMap.put 0 c.bounds bkSnap now })
  s.setBits Reg.TEL_CTL 2

def execTelSnap (s : State) : Out := if s.awake then .next s.askSnap else .next s

/-- The boundary comes: all 1,088 counters are copied (R369). (DEDUCED, log entry 46) -/
def execSnapCopy (s : State) : Out :=
  if s.awake ∧ (s.reg Reg.TEL_CTL).getLsbD 1 ∧ s.boundDue bkSnap 10000 then
    let s := s.takeBound bkSnap 10000
    let s := (List.range 17).foldl (fun (s : State) k =>
      (List.range 64).foldl (fun (s : State) i => s.setReg (Reg.TEL_SCNT k i) (s.reg (Reg.TEL_CNT k i))) s) s
    .next ((s.setReg Reg.TEL_CTL (s.reg Reg.TEL_CTL &&& ~~~ 2)).raise Reg.TEL_EVT 0 11 srcTele)
  else .next s

/-- A write of TEL_CTL.FREEZE (R369). -/
def State.freeze (s : State) (on : Bool) : State := s.setFld Reg.TEL_CTL ⟨0, 1⟩ (b2n on)

def execTelFreeze (on : Bool) (s : State) : Out := if s.awake then .next (s.freeze on) else .next s

/-! ### What a tenant sees -/

/-- The coarsened count C(D) of a window (R370). (DEDUCED, log entry 46) -/
def coarse (d : Nat) : Nat := if d = 0 then 0 else 2 ^ d.log2

/-- A 10 ms boundary: every tenant value takes the window just ended (R370). (DEDUCED, log entry 46) -/
def execTenantWindow (s : State) : Out :=
  if s.awake ∧ s.boundDue bkTenant 10000000 then
    .next ((s.takeBound bkTenant 10000000).onTele (fun t => { t with
      tenant := t.tenant.foldl (fun m x => SMap.put {} m x.1 { sum := x.2.sum + coarse x.2.window, window := 0 }) [] }))
  else .next s

/-- The tenant value of a counter. -/
def State.tenantValue (s : State) (set i : Nat) : Word :=
  BitVec.ofNat 64 ((SMap.get {} s.tele.tenant (64 * set + i)).sum % 2 ^ 48)

/-- What a tenant of job slot `slot` reads from a counter: only one that names its slot shows (R370). -/
def State.tenantReads (s : State) (slot : Option Nat) (set i : Nat) : Word :=
  let c := s.reg (Reg.TEL_CSEL set i)
  if Fld.TEL_CSEL_TENANT.get c = 1 ∧ slot = some (Fld.TEL_CSEL_SLOT.get c) then s.tenantValue set i else 0

/-- A 100 ms boundary: TEL_PWRT takes the window's mean in 25 W steps (R371). (DEDUCED, log entry 46) -/
def execPowerWindow (meanMilliwatt : Nat) (s : State) : Out :=
  if s.awake ∧ s.boundDue bkPower 100000000 then
    .next ((s.takeBound bkPower 100000000).setReg Reg.TEL_PWRT (BitVec.ofNat 64 (meanMilliwatt / 25000 % 65536)))
  else .next s

/-! ### Tagged frames -/

/-- A write of TEL_TAG_CTL: ENABLE rising loads the registers of the clusters, and record numbers start
again (R372, R373). (DEDUCED, log entry 118) -/
def State.tagWrite (s : State) (val : Word) : State :=
  let on := Fld.TEL_TAG_CTL_ENABLE.get val = 1 && !s.flag Reg.TEL_TAG_CTL Fld.TEL_TAG_CTL_ENABLE
  let s := s.writeReg Reg.TEL_TAG_CTL val
  if on then s.onTele (fun t => { t with
    tagSeq := 0
    lfsr := (List.range 16).foldl (fun m n =>
      SMap.put 0 m n (lfsrSeed (BitVec.ofNat 32 (Fld.TEL_TAG_CTL_SEED.get val + n)))) [] })
  else s

def execTagEnable (val : Word) (s : State) : Out := if s.awake then .next (s.tagWrite val) else .next s

/-- A write of TEL_SR_RPTR (R374). -/
def execSrRptrWrite (val : BitVec 32) (s : State) : Out :=
  if s.awake then .next (s.setReg Reg.TEL_SR_RPTR (val.setWidth 64)) else .next s

/-! ### Bandwidth windows (R375) -/

/-- The window in µs; a value outside 1 to 1,000,000 is taken as the nearer bound. (DEDUCED, log entry 47) -/
def State.bwMicros (s : State) : Nat := min 1000000 (max 1 (s.fld Reg.TEL_BWWIN ⟨0, 20⟩))

/-- Put the rates of a window's bytes in the registers that `reg` gives by cluster and queue. -/
def State.bwRates (s : State) (reg : Nat → Nat → Nat) (us : Nat) (bytes : SMap Nat) : State :=
  let s := (List.range 16).foldl (fun (s : State) n => s.resetRegs (reg n 0) (reg n 272) (fun _ => false)) s
  bytes.foldl (fun (s : State) x =>
    s.setReg (reg (clusterOf (x.1 / 8)) (qIndex (x.1 / 8) (x.1 % 8))) (BitVec.ofNat 64 (min (8 * x.2 / us) 0xFFFFFFFF))) s

/-- A boundary of the window's length, when one is due: a window that began at one gives its rates. (DEDUCED, log entry 47) -/
def State.bwBoundary (s : State) : State :=
  let us := s.bwMicros
  if s.boundDue bkBandwidth (1000 * us) then
    let s := s.takeBound bkBandwidth (1000 * us)
    let s := if s.tele.bwFull then
      (((s.bwRates Reg.TEL_BWTX us s.tele.bwTx).bwRates Reg.TEL_BWRX us s.tele.bwRx)).setBits Reg.TEL_EVT 8
    else s
    s.onTele (fun t => { t with
      bwTx := []
      bwRx := []
      bwFull := true })
  else s

def execBwWindow (s : State) : Out := if s.awake then .next s.bwBoundary else .next s

/-- A write of TEL_BWWIN: a window whose boundary has come closes first (R378), the partial window is discarded, and the next
begins at the next boundary of the new length. (DEDUCED, log entry 47) -/
def State.bwwin (s : State) (val : BitVec 20) : State :=
  let s := s.bwBoundary
  let s := (s.setReg Reg.TEL_BWWIN (val.setWidth 64)).setReg Reg.TEL_EVT (s.reg Reg.TEL_EVT &&& ~~~ 8)
  let d := 1000 * s.bwMicros
  let now := s.nowNs / d * d
  (s.onClock (fun c => { c with bounds := SMap.put 0 c.bounds bkBandwidth now })).onTele (fun t => { t with bwFull := false })

def execBwwinWrite (val : BitVec 20) (s : State) : Out := if s.awake then .next (s.bwwin val) else .next s

/-! ### Subscriptions (R376, R377) -/

/-- The boundary key of a session's subscription. -/
def bkSub (k i : Nat) (id : BitVec 16) : Nat := 1048576 + 65536 * (8 * k + i) + id.toNat

/-- The registers of a router report, cluster `n` (R375): the queue figures, then the counters. -/
def routerRegs (n : Nat) : List Nat :=
  (List.range 272).map (Reg.CL_QSAMP n) ++ (List.range 272).map (Reg.CL_QMAX n) ++ (List.range 272).map (Reg.CL_QSTALL n)
    ++ (List.range 16).map (Reg.CL_FCHK_CNT n)
    ++ (List.range 32).flatMap (fun p => (List.range 8).map (Reg.CL_SP_RTX (32 * n + p)))
    ++ (List.range 2).flatMap (fun x => (List.range 8).map (Reg.CL_SX_RTX (2 * n + x)))
    ++ (clusterPorts n).flatMap (fun p => (List.range 8).map (Reg.CL_EG_OVERRUN p))
    ++ [Reg.CL_RT_NOELIG n, Reg.CL_RT_REPICK n]

/-- The measured input power: the world's value at each look (TEL_PWR, R371). (DESIGN CHOICE, log entry 23) -/
def State.inputPower (s : State) : Word × State :=
  let (v, s) := s.free
  (v &&& 0xFFFFFFFF, s)

/-- The words of a periodic report, in the order of the registers' offsets. (DEDUCED, log entry 48) -/
def State.subWords (s : State) (x : Session) (u : Sub) : List Word × State :=
  let regs := fun (l : List Nat) => l.map s.reg
  if u.source = 1 then
    (if x.tenant then (List.range 64).map (s.tenantReads (s.slotOf x.job.toNat) u.index)
      else (List.range 64).map (fun i => s.reg (Reg.TEL_CNT u.index i)), s)
  else if u.source = 2 then
    (regs ((List.range 272).map (Reg.TEL_BWTX u.index) ++ (List.range 272).map (Reg.TEL_BWRX u.index)), s)
  else if u.source = 3 then
    (regs ((List.range 272).map (Reg.CL_QSAMP u.index) ++ (List.range 272).map (Reg.CL_QMAX u.index)), s)
  else if u.source = 6 then
    if x.tenant then ([s.reg Reg.TEL_PWRT], s)
    else
      let (w, s) := s.inputPower
      ([w, s.reg Reg.TEL_PWRT], s)
  else (regs (routerRegs u.index), s)

/-- A TEL_REPORT packet: ID, report sequence and instant in ARG. -/
def reportPacket (u : Sub) (instant : Nat) (l : List Byte) : Packet :=
  { kind := 0x91
    plen := BitVec.ofNat 32 l.length
    arg := packetArg (beBytes 2 u.id.toNat ++ [0, 0] ++ beBytes 8 u.seq ++ beBytes 8 instant)
    payload := l }

/-- The subscription of a session under an ID. -/
def Session.sub (x : Session) (id : BitVec 16) : Option Sub := x.subs.find? (fun u => u.id == id)

def Session.setSub (x : Session) (u : Sub) : Session :=
  { x with subs := x.subs.map (fun y => if y.id == u.id then u else y) }

/-- A periodic report at its instant. Instants that have gone by with no report are reports that could not be
placed: they are counted and their numbers skipped (R377). (DEDUCED, log entry 48) -/
def State.subReport (s : State) (k i : Nat) (u : Sub) : State :=
  let d := 1000 * u.period
  let key := bkSub k i u.id
  if s.boundDue key d then
    let first := s.nextBound key d
    let last := s.nowNs / d * d
    let lost := (last - first) / d
    let s := if lost = 0 then s else s.bump Reg.TEL_SUBDROP lost
    let s := s.onClock (fun c => { c with bounds := SMap.put 0 c.bounds key last })
    let u := { u with seq := u.seq + lost }
    let (w, s) := s.subWords (s.session k i) u
    let s := s.setSession k i ((s.session k i).setSub { u with seq := u.seq + 1 })
    s.sendPacket k i (reportPacket u (2 * last) (w.flatMap (fun v => beBytes 8 v.toNat)))
  else s

def execSubReport (src : Source) (id : BitVec 16) (s : State) : Out :=
  match sourceSession src with
  | none => .next s
  | some (k, i) =>
    match (s.session k i).sub id with
    | some u => if s.awake ∧ u.source ≠ 4 ∧ u.source ≠ 5 then .next (s.subReport k i u) else .next s
    | none => .next s

/-- The oldest unread records of the sample ring, as many as a packet holds. -/
def State.takeSamples (s : State) : List Byte × State :=
  let i := s.fld Reg.TEL_SR_RPTR ⟨0, 32⟩
  let n := min s.srUnread 1024
  let l := (List.range n).flatMap (fun r =>
    (List.range 8).flatMap (fun j => beBytes 8 (s.reg (Reg.TEL_SR ((i + r) % 16384) j)).toNat))
  (l, s.setReg Reg.TEL_SR_RPTR (BitVec.ofNat 64 ((i + n) % 2 ^ 32)))

/-- The oldest unread records of the Crow's nest that are still in the ring, as many as a packet holds; one
with an uncorrectable word is passed over (R104). -/
def State.takeCaptures (s : State) : List Byte × State :=
  let size := s.captSize
  let wp := s.fld Reg.LFT_CN_WPTR ⟨0, 32⟩
  let unread := min s.captUnread size
  let i := (wp + 2 ^ 32 - unread) % 2 ^ 32
  let n := min unread 409
  let l := (List.range n).flatMap (fun r =>
    let at_ := (i + r) % size
    if SMap.get false s.tele.captBad at_ then [] else beBytes 160 (SMap.get 0 s.tele.capt at_).toNat)
  (l, s.setReg Reg.LFT_CN_RPTR (BitVec.ofNat 64 ((i + n) % 2 ^ 32)))

/-- A ring subscription places new records in a report (R376). -/
def execRingReport (src : Source) (id : BitVec 16) (s : State) : Out :=
  match sourceSession src with
  | none => .next s
  | some (k, i) =>
    match (s.session k i).sub id with
    | none => .next s
    | some u =>
      let unread := if u.source = 4 then s.srUnread else if u.source = 5 then min s.captUnread s.captSize else 0
      if s.awake ∧ unread ≠ 0 then
        let (l, s) := if u.source = 4 then s.takeSamples else s.takeCaptures
        let s := s.setSession k i ((s.session k i).setSub { u with seq := u.seq + 1 })
        .next (s.sendPacket k i (reportPacket u s.nowHalf l))
      else .next s

end Sys2Proof.Machine
end

