-- ==== Sys2Proof/Machine/Security.lean ====
section
/-! DEFINITION. The broadcast key (R436), the fence of a departing job (R439 to R441), the scrub engine
(R443 to R446) and confidential mode (R448). -/

namespace Sys2Proof.Machine

/-- A security event. -/
def State.raiseSec (s : State) (bit : Nat) : State := s.raise Reg.SEC_EVT bit 11 srcSecurity

/-- The source is a session; only an OPERATOR session's writes reach the module. -/
def isSession (src : Source) : Bool := (sourceSession src).isSome

/-! ### The broadcast key (R436) -/

/-- A write of SEC_BKCMD.LOAD: the key written becomes current. -/
def State.loadKey (s : State) : State :=
  let key : BitVec 256 := s.reg (Reg.SEC_BKEY 0) ++ s.reg (Reg.SEC_BKEY 1) ++ s.reg (Reg.SEC_BKEY 2) ++ s.reg (Reg.SEC_BKEY 3)
  let n := bitsOf (s.reg Reg.SEC_BKSTAT).toNat 63 48
  let s := s.onSec (fun x => { x with
    bkey := key
    bkeySet := true })
  (s.setReg Reg.SEC_BKSTAT (pack [(⟨48, 16⟩, n + 1)])).raiseSec 1

/-- From Bosun firmware a write of SEC_BKCMD has no effect. -/
def execBkeyLoad (src : Source) (s : State) : Out :=
  if s.mayWrite src ∧ isSession src then .next s.loadKey else .next s

/-! ### The fence -/

/-- DEDUCED, log entry 49. -/
def State.fencing (s : State) (k : Nat) : Bool := s.flag (Reg.SEC_SLOT k) Fld.SEC_SLOT_FENCING
def State.slotJob (s : State) (k : Nat) : Nat := s.fld (Reg.SEC_SLOT k) Fld.SEC_SLOT_JOB

/-- Tr of a slot, in ticks, and RESMAX (R439). -/
def State.trOf (s : State) (k : Nat) : Nat := SMap.get 0 s.sec.tr k - 1
/-- DEDUCED, log entry 49. -/
def State.resmax (s : State) : Nat := msTicks (min 100 (max 1 (s.fld Reg.SEC_CTL ⟨0, 16⟩)))

/-- Every untransmitted frame of the job in an egress queue or handed back is discarded with cause JOB. -/
def State.discardQueued (s : State) (slot job : Nat) : State :=
  let gone := fun (h : Held) => h.f.job.toNat == job
  let s := s.sw.queues.foldl (fun (s : State) kv =>
    let s := s.setEqueue (kv.1 / 8) (kv.1 % 8) (kv.2.filter (fun h => !gone h))
    (kv.2.filter gone).foldl (fun (s : State) h => (s.discard (kv.1 / 8) h dcJob).fenceDrop slot 1) s) s
  s.sw.handed.foldl (fun (s : State) kv =>
    let s := s.setHanded kv.1 (kv.2.filter (fun b => !gone b.h))
    (kv.2.filter (fun b => gone b.h)).foldl (fun (s : State) b => (s.discard b.port b.h dcJob).fenceDrop slot 1) s) s

/-- Tr + RESMAX has come: what the job still has to transmit is discarded (R439). (DEDUCED, log entry 49) -/
def execResmaxExpiry (slot : Fin 64) (s : State) : Out :=
  if s.awake ∧ s.fencing slot ∧ s.since (s.trOf slot) s.resmax then
    let job := s.slotJob slot
    .next ((s.discardJob slot (fun _ h => h.f.job.toNat == job)).discardQueued slot job)
  else .next s

/-- A SCRUB marker (R441). (DESIGN CHOICE, log entry 50) -/
def State.marker (s : State) (subk : Byte) (slot : Nat) : Frame :=
  { kind := kScrub, vc := 7, flags := flSrcmod, plen := 4, src := s.modnum.setWidth 20, subk := subk,
    payload := beBytes 2 (s.slotJob slot) ++ [BitVec.ofNat 8 slot, 0] }

/-- Each UP port sends a marker. (DESIGN CHOICE, log entry 50) -/
def State.sendMarkers (s : State) (subk : Byte) (slot : Nat) : State :=
  (List.range 544).foldl (fun (s : State) p =>
    if s.portState p = pUp then s.originate qBosun (s.marker subk slot) [.port p] .none else s) s

/-- A frame of the job waits or is unacknowledged anywhere. -/
def State.jobFrames (s : State) (job : Nat) : Bool :=
  let mine := fun (h : Held) => h.f.job.toNat == job
  s.sw.staging.any (fun kv => kv.2.any mine) || s.sw.queues.any (fun kv => kv.2.any mine)
    || s.sw.handed.any (fun kv => kv.2.any (fun b => mine b.h))
    || s.port.vcs.any (fun kv => kv.2.unacked.any (fun c => mine c.h))

/-- The largest CL_SX_RTT of the UP span ports, in ns. -/
def State.rttMax (s : State) : Nat :=
  (List.range 32).foldl (fun m x => if s.portState (512 + x) = pUp then max m (s.reg (Reg.CL_SX_RTT x)).toNat else m) 0

/-- No copy of the job remains: the fence ends (R440), late when a port held its copies past FE.
(DEDUCED, log entry 49) -/
def execFenceEnd (slot : Fin 64) (s : State) : Out :=
  if s.awake ∧ s.fencing slot ∧ s.jobFrames (s.slotJob slot) = false then
    let late := decide (s.trOf slot + 2 * s.resmax + nsTicks s.rttMax < s.tick)
    let s := s.setFld (Reg.SEC_SLOT slot) Fld.SEC_SLOT_FENCING 0
    let s := if late then s.raiseSec 3 else s
    .next ((s.raiseSec 2).sendMarkers 1 slot)
  else .next s

/-- A SCRUB marker is consumed and counted (R441). (DESIGN CHOICE, log entry 50) -/
def execScrubMarkerReceive (r : StageRef) (s : State) : Out :=
  s.takeFrame r (fun f => f.kind = kScrub) (fun _ s => s.bump Reg.SEC_MKCNT 1)

/-- A LOOPREQ is discarded (R482). -/
def execLoopreqReceive (r : StageRef) (s : State) : Out :=
  s.takeFrame r (fun f => f.kind = kTest && f.subk = 2) (fun _ s => s)

/-! ### The scrub engine -/

/-- Fields of a scrub entry. -/
def seSlot (e : Entry) : Nat := entryNat e 1 1 % 64
def seTag (e : Entry) : Nat := entryNat e 6 2
def seFirst (e : Entry) : Nat := entryNat e 8 2
def seCount (e : Entry) : Nat := entryNat e 10 2

/-- Completion status (R444). -/
def scOk : Nat := 0
def scBadentry : Nat := 1
def scRange : Nat := 2
def scNotrevoked : Nat := 3
def scFencing : Nat := 4
def scInuse : Nat := 5
def scNotscrubbed : Nat := 6
def scAborted : Nat := 7

/-- Each scrub entry writes one record. (DESIGN CHOICE, log entry 51) -/
def State.scrubDone (s : State) (e : Entry) (status zeroed : Nat) : State :=
  (s.bump (Reg.SEC_SCR_CNT status) 1).ringWrite .scr
    (pack [(Fld.SEC_SCR_CRING_TAG, seTag e), (Fld.SEC_SCR_CRING_OP, entryOp e), (Fld.SEC_SCR_CRING_STATUS, status),
      (Fld.SEC_SCR_CRING_SLOT, seSlot e), (Fld.SEC_SCR_CRING_ZEROED, zeroed)]) (status != scOk)

/-- The entry's form. -/
def seGood (e : Entry) : Bool :=
  [1, 2, 3].contains (entryOp e) && entryNat e 1 1 < 64 && entryNat e 2 4 == 0 && entryNat e 12 52 == 0
    && (entryOp e == 2 && seFirst e < 16384 || seFirst e == 0 && seCount e == 0)

/-- Every program whose OWNER is 1 + the slot, as cluster and BASE. -/
def State.slotPrograms (s : State) (slot : Nat) : List (Nat × Nat) :=
  (List.range 16).flatMap (fun n => ((s.programs n).filter (fun p => p.2.owner == slot + 1)).map (fun p => (n, p.2.base)))

/-- A region touches a valid binding's planes, or is owned by a BOUND job. -/
def State.regionInUse (s : State) (r : Nat) : Bool :=
  let lo := r / 16 * 134217728
  let d := (s.entry 3 r).data
  (s.channelBindings (r % 16)).any (fun b => decide (b.2.planes.p0 < lo + 134217728 ∧ lo < b.2.planes.stop))
    || (tblBits d 0 63 63 == 1 && s.jobState (tblBits d 0 43 32) == 1)

/-- The status of an entry. -/
def State.scrubStatus (s : State) (e : Entry) : Nat :=
  let op := entryOp e
  let k := seSlot e
  let regions := (List.range (seCount e)).map (fun i => seFirst e + i)
  if !seGood e then scBadentry
  else if op = 2 ∧ (seCount e = 0 ∨ 1024 < seCount e ∨ 15872 < seFirst e + seCount e) then scRange
  else if s.slotState k ≠ 2 then scNotrevoked
  else if s.fencing k then scFencing
  else if op = 1 ∧ (s.slotPrograms k).any (fun p => s.progUses p.1 p.2 != 0) then scInuse
  else if op = 2 ∧ regions.any s.regionInUse then scInuse
  else if op = 3 ∧ (SMap.get 0 s.sec.tr k = 0 ∨ SMap.get 0 s.sec.slotDone k ≠ SMap.get 0 s.sec.tr k) then scNotscrubbed
  else scOk

/-- Take the next entry of the scrub engine if its OP is one of `mine`, and begin its work. -/
def State.scrubTake (s : State) (mine : Nat → Bool) (run : Entry → State → State) : State :=
  match s.nextEntry engScrub with
  | none => s
  | some (q, e) =>
    if s.awake && s.sec.scrub.isNone && mine (entryOp e) then
      let s := s.popQueue engScrub q
      let st := s.scrubStatus e
      if st ≠ scOk then s.scrubDone e st 0 else run e s
    else s

/-- SLOT and REGIONS are in progress from here (R443). (DESIGN CHOICE, log entry 51) -/
def State.startScrub (e : Entry) (s : State) : State := s.onSec (fun x => { x with scrub := some { e := e } })

/-- SLOT: the journal entries of the job and the programs of the slot go (R443). Which cells the slot wrote last
is the hardware's; how many MiB they come to is a free value. (DESIGN CHOICE, log entry 51) -/
def State.runSlot (s : State) (e : Entry) : Nat × State :=
  let k := seSlot e
  let job := s.slotJob k
  let s := s.onMa (fun a => { a with
    journal := (a.journal.map (fun x => (x.1, x.2.filter (fun y => y.job.toNat != job)))).filter (fun x => !x.2.isEmpty) })
  let s := (s.slotPrograms k).foldl (fun (s : State) p => s.freeProgram p.1 p.2) s
  let s := s.onSec (fun x => { x with slotDone := SMap.put 0 x.slotDone k (SMap.get 0 x.tr k) })
  let (v, s) := s.free
  (v.toNat % 2 ^ 32, s)

/-- The bytes of one piece of REGIONS: what a quarter of the channels' bandwidth zeroes in a tick. -/
def scrubPiece : Nat := 16384

/-- Piece `k` of REGIONS: its blocks hold zero data with a valid tag at VERSION 0. -/
def State.zeroPiece (s : State) (e : Entry) (k : Nat) : State :=
  let lo := seFirst e * 134217728 + k * scrubPiece
  let out := fun (a : Nat) => !decide (lo ≤ a ∧ a < lo + scrubPiece)
  let s := s.onGrn (fun g => { g with
    mem := g.mem.filter (fun c => out c.1)
    ver := keepKeys (fun b => out (256 * b)) g.ver
    bad := keepKeys (fun b => out (256 * b)) g.bad })
  s.grnEvent evWrite scrubPiece (s.slotJob (seSlot e)) lo

/-- The entry in progress goes on for one tick, SLOT whole and REGIONS by a piece, and writes its record at its end.
(DESIGN CHOICE, log entry 51) -/
def State.scrubGo (s : State) : State :=
  match s.sec.scrub with
  | none => s
  | some r =>
    let idle := s.onSec (fun x => { x with scrub := none })
    if entryOp r.e = 1 then
      let (mib, s) := idle.runSlot r.e
      s.scrubDone r.e scOk mib
    else if 8192 * seCount r.e ≤ r.k + 1 then (idle.zeroPiece r.e r.k).scrubDone r.e scOk (128 * seCount r.e)
    else (s.zeroPiece r.e r.k).onSec (fun x => { x with scrub := some { r with k := r.k + 1 } })

/-- DONE: the slot is SCRUBBED (R445). -/
def State.runDone (e : Entry) (s : State) : State :=
  let k := seSlot e
  (((s.setFld (Reg.SEC_SLOT k) Fld.SEC_SLOT_STATE 3).raiseSec 4).sendMarkers 2 k).scrubDone e scOk 0

/-- A SLOT entry is taken; an entry with an unlisted OP ends here too. (DESIGN CHOICE, log entry 28) -/
def execScrubSlot (s : State) : Out := .next (s.scrubTake (fun op => op != 2 && op != 3) State.startScrub)

/-- A REGIONS entry is taken. -/
def execScrubRegions (s : State) : Out := .next (s.scrubTake (fun op => op == 2) State.startScrub)

/-- A DONE entry is taken. -/
def execScrubDone (s : State) : Out := .next (s.scrubTake (fun op => op == 3) State.runDone)

/-- SEC_SCR_CMD.DRAIN (R446). -/
def execScrDrain (s : State) : Out := if s.awake then .next (s.drainEngine engScrub) else .next s

/-- The entry in progress ends ABORTED before its next block or cell; what it has zeroed stays zeroed (R446). -/
def State.abortScrub (s : State) : State :=
  match s.sec.scrub with
  | none => s
  | some r => (s.onSec (fun x => { x with scrub := none })).scrubDone r.e scAborted (r.k * scrubPiece / 1048576)

/-- Every waiting entry is refused ABORTED, and the entry in progress ends (R446, R464). -/
def State.forceScrub (s : State) (cause : Nat) : State :=
  let s := s.abortScrub
  let l := s.waitingEntries engScrub
  let s := l.foldl (fun (s : State) e => s.scrubDone e scAborted 0) (s.clearQueues engScrub)
  (s.setHold engScrub 2).forcedDisable engScrub cause

/-- SEC_SCR_CMD.FORCE. -/
def execScrForce (s : State) : Out := if s.awake then .next (s.forceScrub 0) else .next s

/-- SEC_SCR_CMD.RESUME. -/
def execScrResume (s : State) : Out := if s.awake then .next (s.setHold engScrub 0) else .next s

/-! ### Confidential mode (R448) -/

/-- A change that a waiting WRITE of TBL_CMD makes at once, if its source may write it now and nothing refuses it. -/
def State.writeNow (s : State) : Instr → Option (Nat × Nat × BitVec 512)
  | .tblWrite src t w =>
    let i := Fld.TBL_CMD_INDEX.get w
    let d := tblNarrow t (s.tblData src t)
    if s.mayWrite src && !s.tblBusy src t && Fld.TBL_CMD_STAGE.get w == 0 && formStatus t i d == tsOk
        && (t.val != 1 || jobChange (s.entry 1 i).data d) && s.directStatus t i toWrite 0 d == tsOk then some (t, i, d)
    else none
  | _ => none

/-- The changes of the tables that waiting commands of this event tick make. (DESIGN CHOICE, log entry 133) -/
def State.changesNow (s : State) : List (Nat × Nat × BitVec 512) :=
  s.committing.flatMap (fun x => x.staged.map (fun y => (y.t, y.idx, y.data))) ++ s.pending.filterMap s.writeNow

/-- A bind of slot `k` waits in this event tick (R450). -/
def State.bindNow (s : State) (k : Nat) : Bool :=
  s.changesNow.any (fun c => c.1 == 1 && tblBits (s.entry 1 c.2.1).data 0 63 62 == 0 && tblBits c.2.2 0 63 62 == 1
    && tblBits c.2.2 0 5 0 == k)

/-- A write of SEC_SLOT.CONF; a bind of the slot in the same tick comes first (R450). (DEDUCED, log entry 121) -/
def State.confWrite (s : State) (src : Source) (slot : Nat) (on : Bool) : State :=
  if isSession src ∧ s.slotState slot = 0 ∧ s.bindNow slot = false ∧ s.watch.record.options.getLsbD 0 then
    s.setFld (Reg.SEC_SLOT slot) Fld.SEC_SLOT_CONF (b2n on)
  else s.raiseSec 8

def execConfWrite (src : Source) (slot : Fin 64) (on : Bool) (s : State) : Out :=
  if s.mayWrite src then .next (s.confWrite src slot on) else .next s

end Sys2Proof.Machine
end

