-- ==== Sys2Proof/Machine/View.lean ====
section
/-! DEFINITION. What each register shows when it is read (R7, R10): a register whose value the state holds
elsewhere is computed, a sensor shows the world's value, a copy of one source shows that source's. -/

namespace Sys2Proof.Machine

/-- The indices of an offset in a row's array. -/
def RegRow.place (r : RegRow) (off : Nat) : List Nat := go r.dims (off - r.base)
where
  /-- One index a dimension. -/
  go : List (Nat × Nat) → Nat → List Nat
    | [], _ => []
    | (_, st) :: ds, d => (d / st) :: go ds (d % st)

/-- The registers of which each source has its own copy (R400, R503). -/
def isBanked (base : Nat) : Bool :=
  [Reg.TBL_CMD 0, Reg.TBL_DATA 0 0, Reg.TBL_SH_CMD, Reg.MBX_STAGE 0, Reg.MBX_SENDSTAT].contains base

/-- The key of a register for a source. -/
def viewKey (src : Source) (r : RegRow) (off : Nat) : Nat := if isBanked r.base then banked src off else off

/-- A sensor or a monitor shows the world's value in these bits: die and coolant temperatures, input power, voltage
and current, and flow. (DESIGN CHOICE, log entry 23) -/
def sensorBits (base : Nat) : Word :=
  if base = Reg.CL_TS 0 0 then 0xFFFF
  else if base = Reg.CL_TS_SLOPE 0 then 0x3FFFFF
  else if base = Reg.WCH_THSTAT then 0xFFFF
  else if base = Reg.WCH_PIN then 0xFFFFFFFF00000000
  else if base = Reg.WCH_COOL then 0xFFFFFFFF0000FFFF
  else if base = Reg.TEL_PWR then 0xFFFFFFFF
  else 0

/-- The counters of a lane's codeword pairs, by their base in cluster 0. -/
def isFecCounter (base : Nat) : Bool :=
  [Reg.CL_SP_FECC 0 0, Reg.CL_SP_FECU 0 0, Reg.CL_SX_FECC 0 0, Reg.CL_SX_FECU 0 0].contains base

/-- Such a counter shows what it holds and what its lane has counted since it was read (R7, R9).
(DESIGN CHOICE, log entry 15) -/
def State.fecWord (s : State) (off : Nat) : Word :=
  let last := SMap.get 0 s.port.fecAt off
  let more := if s.tick ≤ last then 0 else Config.fecCounted off last s.tick
  BitVec.ofNat 64 (min ((s.reg off).toNat + more) 0xFFFFFFFFFFFF)

/-! ### Clusters -/

/-- CL_RD_STAT. -/
def State.rdStat (s : State) (n : Nat) : Word :=
  let held := ((s.red.slots.filter (fun p => p.2.state != 0 && !p.2.spill && p.2.owner / 96 == n)).map (fun p => p.2.cells)).sum
  pack [(Fld.CL_RD_STAT_INCARN, s.watch.incarn.toNat), (Fld.CL_RD_STAT_ACCUSE, held),
    (Fld.CL_RD_STAT_RECORDS, (s.red.rounds.filter (fun p => p.1 / 256 == n && p.2.state != 0)).length)]

/-- CL_RD_ROUND. -/
def State.roundWord (s : State) (n j : Nat) : Word :=
  let r := s.round (256 * n + j)
  if r.state = 0 then 0
  else pack [(Fld.CL_RD_ROUND_STATE, r.state.toNat), (Fld.CL_RD_ROUND_FCAUSE, if r.state = rsFaulted then r.fcause.toNat else 0),
    (Fld.CL_RD_ROUND_COLL, r.coll.toNat), (Fld.CL_RD_ROUND_ROUND, r.round.toNat), (Fld.CL_RD_ROUND_MISSING, (s.unmet r).length)]

/-- Where the counters of the collective in CL_RD_CTXSEL are kept; none where its tally cluster is another. -/
def State.ctxKey (s : State) (n i : Nat) : Option Nat :=
  let coll := s.fld (Reg.CL_RD_CTXSEL n) ⟨0, 16⟩
  if tallyCluster coll = n then some (8 * (65536 * n + coll) + i) else none

def State.ctxWord (s : State) (m : SMap Nat) (n i : Nat) : Word :=
  match s.ctxKey n i with
  | some k => BitVec.ofNat 64 (SMap.get 0 m k)
  | none => 0

/-- MIL_DQHEAD0 and MIL_DQHEAD1 of a core; a confidential slot's descriptor hides what it names (R449).
(DEDUCED, log entry 121) -/
def State.dqHead (s : State) (n c : Nat) (second : Bool) : Word :=
  match (s.core n c).dq with
  | [] => 0
  | d :: _ =>
    let hide := s.confidential (s.slotOf (cxJob (s.cx d.coll.toNat)))
    if second then (if hide then 0 else d.word1)
    else if hide then Fld.MIL_DQHEAD0_COLL.put 0 (Fld.MIL_DQHEAD0_ROUND.put 0 d.word0) else d.word0

/-- The registers of a cluster that are computed: the row's base in cluster 0, then the indices. -/
def State.viewCluster (s : State) (b : Nat) (n i j : Nat) : Option Word :=
  let ofNat := fun (x : Nat) => some (BitVec.ofNat 64 x)
  let sp := 512 + 2 * n + i
  let port := if i < 32 then 32 * n + i else 512 + 2 * n + (i - 32)
  if b = Reg.CL_SX_WINUSE 0 then ofNat (((List.range 8).map (fun v => s.windowCells sp v)).sum % 2 ^ 22)
  else if b = Reg.CL_SX_HOLDUSE 0 then ofNat ((List.range 8).map (fun v => heldCells (s.staged sp v))).sum
  else if b = Reg.CL_BUF_STAT 0 then some (pack [(⟨32, 19⟩, s.sharedFree n), (⟨0, 19⟩, s.poolCells n)])
  else if b = Reg.CL_QOCC 0 0 then ofNat (min 65535 (s.charge (queuePort n i) (i % 8)))
  else if b = Reg.CL_RD_STAT 0 then some (s.rdStat n)
  else if b = Reg.CL_RD_ROUND 0 0 then some (s.roundWord n i)
  else if b = Reg.CL_RD_CTXCNT 0 0 then some (s.ctxWord s.red.ctxCnt n i)
  else if b = Reg.CL_AR_CNT 0 0 then some (s.ctxWord s.red.arCnt n i)
  else if b = Reg.CL_EG_STAT 0 then some (s.egStat port)
  else if b = Reg.CL_EG_CREDIT 0 0 then ofNat (s.vc port j).credit
  else if b = Reg.DSP_STAT 0 then some (s.dspStat n)
  else if b = Reg.DSP_BIND 0 0 then some (s.dspBindWord n i)
  else if b = Reg.DSP_BINDL 0 0 then some (s.dspBindLast n i)
  else if b = Reg.DSP_PSDIR 0 0 then some (s.dspDir n i)
  else if b = Reg.DSP_PSDATA 0 then some (s.psWord n (s.fld (Reg.DSP_PSADDR n) ⟨0, 15⟩))
  else if b = Reg.MIL_STAT 0 0 then some (s.milStat n i)
  else if b = Reg.MIL_FAULTS 0 0 then
    ofNat (min 255 ((s.millFaults n i).filter (fun t => decide (s.tick < t + secTicks 86400))).length)
  else if b = Reg.MIL_DQHEAD0 0 0 then some (s.dqHead n i false)
  else if b = Reg.MIL_DQHEAD1 0 0 then some (s.dqHead n i true)
  else if b = Reg.DSP_QCTL 0 0 then some (Fld.put ⟨16, 16⟩ (s.queue (engDsp n) i).length (s.reg (Reg.DSP_QCTL n i)))
  else none

/-! ### The rest -/

/-- The link of Uzoley port `k` can bring a packet: the module is out of WATCH, the port is enabled, and no test has
taken its line side. -/
def State.uzoleyUsable (s : State) (k : Fin 2) : Bool :=
  s.awake && (s.reg (Reg.UZP_CTL k)).getLsbD 0
    && !s.test.runs.any (fun r => r.u == .uzoley k && leavesUp r.u (tqDepth r.req))

/-- UZP_STAT: a usable link that has brought no packet since it was DARK looks for its partner (R64, R409).
(DEDUCED, log entry 108) -/
def State.uzpStat (s : State) (k : Nat) : Word :=
  let w := Fld.put ⟨8, 4⟩ ((List.range 8).filter (fun i => (s.session k i).opened)).length (s.reg (Reg.UZP_STAT k))
  if Fld.get ⟨0, 4⟩ w = pDark ∧ s.uzoleyUsable (Fin.ofNat 2 k) then Fld.put ⟨0, 4⟩ pDetect w else w

/-- UZP_SESS. -/
def State.uzpSess (s : State) (k i : Nat) : Word :=
  let x := s.session k i
  if x.opened then pack [(Fld.UZP_SESS_OPEN, 1), (Fld.UZP_SESS_ROLE, b2n x.tenant), (Fld.UZP_SESS_JOB, x.job.toNat),
    (Fld.UZP_SESS_SEQIN, x.seqIn.toNat)] else 0

/-- LFT_DMP_STAT. -/
def State.dumpStat (s : State) : Word :=
  let d := s.test.dump
  pack [(Fld.LFT_DMP_STAT_RUNNING, b2n d.running.isSome), (Fld.LFT_DMP_STAT_STAGED, b2n d.staged), (Fld.LFT_DMP_STAT_DUMPID, d.id),
    (Fld.LFT_DMP_STAT_MIB, d.size / 1048576)]

/-- LFT_STAT: boot step 5 trains the stacks but those that failed; the Loft is READY with all 8 (R99, R105, R423). -/
def State.loftStat (s : State) : Word :=
  if s.fld Reg.WCH_BOOT Fld.WCH_BOOT_STEP < 5 then 0
  else pack [(⟨8, 1⟩, b2n (s.port.loftFailed == 0)), (⟨0, 8⟩, (~~~ s.port.loftFailed).toNat)]

/-- SVB_PORT. -/
def State.svbPort (s : State) (p : Nat) : Word :=
  Fld.SVB_PORT_REFS.put (min 65535 (s.portRefs p)) (Fld.SVB_PORT_PENDINGP.put
    (min 255 (s.eng.bypass.filter (bypNames p)).length) (s.reg (Reg.SVB_PORT p)))

/-- Signatures left in the HSS key: two levels of 2^20 each (R429, R431). -/
def State.sigLeft (s : State) : Nat := 2 ^ 40 - s.sec.hssNext

/-- The registers outside the clusters that are computed. (DEDUCED, log entry 123) -/
def State.viewRest (s : State) (src : Source) (b : Nat) (i j : Nat) : Option Word :=
  let ofNat := fun (x : Nat) => some (BitVec.ofNat 64 x)
  let count := fun (k eng q : Nat) => some (Fld.put ⟨16, 16⟩ (s.queue eng q).length (s.reg k))
  if b = Reg.WCH_ID then some (pack [(⟨32, 12⟩, s.modnum.toNat), (⟨24, 8⟩, s.watch.record.site.toNat), (⟨16, 8⟩, s.watch.record.plane.toNat)])
  else if b = Reg.WCH_TICK then ofNat s.tick
  else if b = Reg.WCH_TSTSTAT then some (pack [(⟨63, 1⟩, b2n (!s.test.runs.isEmpty)), (⟨0, 16⟩, s.test.runs.length)])
  else if b = Reg.BIC_CLAIM 0 then some (s.claimWord i)
  else if b = Reg.BIC_CORE 0 then some (s.coreWord i)
  else if b = Reg.BIC_STACK 0 0 then some (s.stackWord i j)
  else if b = Reg.BIC_PEND 0 then some (s.pendWord s.isPending i)
  else if b = Reg.BIC_ACT 0 then some (s.pendWord s.isActive i)
  else if b = Reg.BIC_SRC 0 then some (s.srcWord i)
  else if b = Reg.UZP_STAT 0 then some (s.uzpStat i)
  else if b = Reg.UZP_SESS 0 0 then some (s.uzpSess i j)
  else if b = Reg.GRN_STAT then some s.grnStat
  else if b = Reg.GRN_ESTAT 0 then some (s.grnEstat i)
  else if b = Reg.GRN_QCTL 0 0 then count (Reg.GRN_QCTL i j) (engGrn i) j
  else if b = Reg.GRN_BSTAT 0 0 then some (s.grnBstat i j)
  else if b = Reg.GRN_BSTEP 0 0 then some (s.grnBstep i j)
  else if b = Reg.GRN_BPEER 0 0 then some (s.grnBpeer i j)
  else if b = Reg.GRN_MA_STAT then some s.maStat
  else if b = Reg.LFT_STAT then some s.loftStat
  else if b = Reg.LFT_USE 0 then ofNat (s.loftUse i)
  else if b = Reg.LFT_CN_STAT then ofNat s.captSize
  else if b = Reg.LFT_DMP_STAT then some s.dumpStat
  else if b = Reg.LFT_DMP_QCTL 0 then count (Reg.LFT_DMP_QCTL i) engDump i
  else if b = Reg.SVB_STAT then some (pack [(⟨16, 1⟩, b2n s.timeLocked), (⟨0, 9⟩, s.eng.bypass.length)])
  else if b = Reg.SVB_QCTL 0 then count (Reg.SVB_QCTL i) engBypass i
  else if b = Reg.SVB_PORT 0 then some (s.svbPort i)
  else if b = Reg.TBL_QSTAT 0 then count (Reg.TBL_QSTAT i) engTable i
  else if b = Reg.TBL_CMD 0 then
    some (Fld.TBL_CMD_BUSY.put (b2n (s.tblBusy src i)) (s.reg (banked src (Reg.TBL_CMD i))))
  else if b = Reg.TBL_SH_CMD then
    some (Fld.TBL_SH_CMD_BUSY.put (b2n (s.opBusy (banked src Reg.TBL_SH_CMD))) (s.reg (banked src Reg.TBL_SH_CMD)))
  else if b = Reg.TBL_STAGED then ofNat s.stagedTotal
  else if b = Reg.TBL_SH_STATE 0 then some (s.shState i)
  else if b = Reg.TIM_NOW then some s.timNow
  else if b = Reg.TIM_STAT then some s.timStat
  else if b = Reg.TEL_SUB 0 then
    (match sourceSession src with
    | some (k, x) => some (match (s.session k x).subs[i]? with
      | some u => u.raw
      | none => 0)
    | none => some 0)
  else if b = Reg.SEC_STAT then some (pack [(⟨48, 8⟩, s.sec.quoteQ.length), (⟨0, 48⟩, s.sigLeft)])
  else if b = Reg.SEC_SCR_QCTL 0 then count (Reg.SEC_SCR_QCTL i) engScrub i
  else none

/-- The value of the register of row `r` at an offset, as `src` reads it. (DESIGN CHOICE, log entries 22 and 23) -/
def State.view (s : State) (src : Source) (r : RegRow) (off : Nat) : Word × State :=
  let ix := r.place off
  let at_ := fun (i : Nat) => ix.getD i 0
  let mask := sensorBits r.base
  let stored := (s.reg (viewKey src r off)) &&& ~~~ r.wo
  if mask ≠ 0 then
    let (v, s) := s.free
    ((stored &&& ~~~ mask) ||| (v &&& mask), s)
  else if isFecCounter r.base then (s.fecWord off, s)
  else if clusterBase 0 ≤ r.base ∧ r.base < clusterBase 16 then
    ((s.viewCluster r.base (at_ 0) (at_ 1) (at_ 2)).getD stored, s)
  else ((s.viewRest src r.base (at_ 0) (at_ 1)).getD stored, s)

end Sys2Proof.Machine
end

