-- ==== Sys2Proof/Machine/Dump.lean ====
section
/-! DEFINITION. The crash dump (R469 to R472) and the hang of a scrub or dump entry (R455, R457). -/

namespace Sys2Proof.Machine

/-! ### What a dump reads -/

/-- One read of a dump: UNITTYPE and UNIT, offset of the first byte, the bytes, and whether they belong to a slot in
confidential mode (R449). -/
structure DumpUnit where
  ut : Nat
  unit : Nat
  off : Nat
  data : List Byte
  hide : Bool := false
  deriving DecidableEq, Repr

/-- The unit that a register belongs to, by its offset (R15, R452). (DESIGN CHOICE, log entry 54) -/
def regUnit (off : Nat) : Nat × Nat :=
  let n := (off - 0x4000000) / 0x100000
  let o := (off - 0x4000000) % 0x100000
  if off < 0x2000000 then (utModule, 0)
  else if off < 0x4000000 then (utUzoley, (off - 0x2000000) / 0x100000)
  else if off < 0x5000000 then
    if o < 0x20000 then (utSite, 32 * n + o / 0x1000)
    else if 0x40000 ≤ o ∧ o < 0x42000 then (utSpan, 2 * n + (o - 0x40000) / 0x1000)
    else if 0xE8000 ≤ o ∧ o < 0xF0000 then (utCore, 96 * n + (o - 0xE8000) / 0x100)
    else (utCluster, n)
  else if 0x6010000 ≤ off ∧ off < 0x6110000 then (utGranary, (off - 0x6010000) / 0x10000)
  else if 0x7100000 ≤ off ∧ off < 0x7200000 then (utDump, 0)
  else if 0x8000000 ≤ off ∧ off < 0x9000000 then (utSvetna, 0)
  else if 0x9000000 ≤ off ∧ off < 0xA000000 then (utTables, 0)
  else if 0xA000000 ≤ off ∧ off < 0xB000000 then (utTime, 0)
  else if 0xC000000 ≤ off then (utSecurity, 0)
  else (utModule, 0)

/-- Every offset of a row's array. -/
def RegRow.offsets (r : RegRow) : List Nat :=
  r.dims.foldl (fun l d => l.flatMap (fun b => (List.range d.1).map (fun i => b + d.2 * i))) [r.base]

/-- A register that can be read: not one whose every bit is write-only. -/
def RegRow.readable (r : RegRow) : Bool := r.wo == 0 || r.rw != 0

/-- Every readable register of the rows, in ascending offset, with its row. (DESIGN CHOICE, log entry 54) -/
def readableRegs (rows : List RegRow) : List (Nat × RegRow) :=
  ((rows.filter RegRow.readable).flatMap (fun r => r.offsets.map (fun o => (o, r)))).mergeSort (fun a b => decide (a.1 ≤ b.1))

/-- Registers of one unit that adjoin are read together. (DESIGN CHOICE, log entry 54) -/
def joinUnit (x : DumpUnit) : List DumpUnit → List DumpUnit
  | [] => [x]
  | y :: l =>
    if x.ut = y.ut ∧ x.unit = y.unit ∧ x.off + x.data.length = y.off then { x with data := x.data ++ y.data } :: l
    else x :: y :: l

/-- REGS: every readable register; those of the Bosun cores, which firmware's state holds, are free.
(DEDUCED, log entry 48; DESIGN CHOICE, log entries 54 and 55) -/
def State.dumpRegs (s : State) : List DumpUnit × State :=
  let (l, s) := (readableRegs allRegRows).foldl (fun (a : List DumpUnit × State) x =>
    let (w, s) := a.2.view (.bosun 0) x.2 x.1
    let u := regUnit x.1
    ({ ut := u.1, unit := u.2, off := x.1, data := beBytes 8 w.toNat } :: a.1, s)) ([], s)
  let l := l.reverse.foldr joinUnit []
  (List.range 4).foldl (fun (a : List DumpUnit × State) b =>
    let (d, s) := (List.range 65).foldl (fun (x : List Byte × State) _ =>
      let (w, s) := x.2.free
      (x.1 ++ beBytes 8 w.toNat, s)) ([], a.2)
    (a.1 ++ [{ ut := utBosun, unit := b, off := 0, data := d }], s)) (l, s)

/-- LOGS: event log, fault ring, BIC stacks, completion rings. (DESIGN CHOICE, log entry 54) -/
def State.dumpLogs (s : State) : List DumpUnit :=
  let regs := fun (ut unit base n : Nat) =>
    ({ ut := ut, unit := unit, off := base
       data := (List.range n).flatMap (fun i => beBytes 8 (s.reg (base + 8 * i)).toNat) } : DumpUnit)
  [regs utModule 0 (Reg.WCH_EVLOG 0) 4096, regs utModule 0 (Reg.WCH_FR 0 0) 4096, regs utModule 0 (Reg.WCH_TSTRES 0) 256]
    ++ (List.range 4).map (fun c => { ut := utModule, unit := 0, off := Reg.BIC_STACK c 0
                                      data := (List.range 16).flatMap (fun k => beBytes 8 (s.stackWord c k).toNat) })
    ++ (List.range 16).map (fun n => regs utCluster n (Reg.DSP_CRING n 0) 256)
    ++ (List.range 16).map (fun j => regs utGranary j (Reg.GRN_CRING j 0) 256)
    ++ [regs utDump 0 (Reg.LFT_DMP_CRING 0) 256, regs utSvetna 0 (Reg.SVB_CRING 0) 256, regs utTables 0 (Reg.TBL_CRING 0) 256,
      regs utSecurity 0 (Reg.SEC_SCR_CRING 0) 256]

/-- A collective's job slot is in confidential mode. (DEDUCED, log entry 121) -/
def State.collHidden (s : State) (coll : BitVec 16) : Bool := s.confidential (s.slotOf (cxJob (s.cx coll.toNat)))

/-- MILL: registers, descriptor queue and window store of a core. (DESIGN CHOICE, log entry 54) -/
def State.dumpCore (s : State) (n c : Nat) : DumpUnit :=
  let x := s.core n c
  { ut := utCore, unit := 96 * n + c, off := 0
    data := (List.range 64).flatMap (fun i => beBytes 256 (SMap.get 0 x.v i).toNat)
      ++ (List.range 32).flatMap (fun i => beBytes 8 (SMap.get 0 x.sreg i).toNat)
      ++ (List.range 8).flatMap (fun i => beBytes 32 (SMap.get 0 x.p i).toNat)
      ++ x.dq.flatMap (fun d => beBytes 8 d.word0.toNat ++ beBytes 8 d.word1.toNat)
      ++ (List.range (x.winBytes.foldl (fun m p => max m (p.1 + 1)) 0)).map (fun i => SMap.get 0 x.winBytes i)
    hide := (s.coreBinds n c).any (fun b => s.collHidden b.coll) || x.dq.any (fun d => s.collHidden d.coll) }

/-- BANKS: the accumulator slots of a cluster at their places, and its frames at places that are free.
(DESIGN CHOICE, log entry 55) -/
def State.dumpBanks (s : State) (n : Nat) : List DumpUnit × State :=
  let slots := (s.red.slots.filter (fun p => p.2.state != 0 && !p.2.spill && p.2.owner / 96 == n)).flatMap (fun p =>
    (p.2.runs.mapIdx (fun k r => (runsCells (p.2.runs.take k), r))).map (fun x =>
      ({ ut := utCluster, unit := n, off := 128 * x.2.1
         data := (List.range (128 * x.2.2)).map (fun i => SMap.get 0 p.2.bytes (128 * x.1 + i))
         hide := s.collHidden (BitVec.ofNat 16 (p.1 / 2 ^ 40)) } : DumpUnit)))
  let frames := (clusterPorts n).flatMap (fun p =>
    (List.range 8).flatMap (fun v => (if isSpan p then [] else s.staged p v) ++ s.equeue p v))
  frames.foldl (fun (a : List DumpUnit × State) h =>
    let (w, s) := a.2.free
    (a.1 ++ [{ ut := utCluster, unit := n, off := w.toNat, data := frameBytes h.f
               hide := s.confidential (s.slotOf h.f.job.toNat) }], s)) (slots, s)

/-- ENGINES: the record area of a channel: its bindings, then its atomic journal, oldest first.
(DESIGN CHOICE, log entry 54) -/
def State.dumpEngine (s : State) (j : Nat) : DumpUnit :=
  { ut := utGranary, unit := j, off := 0
    data := (List.range 64).flatMap (fun b => beBytes 8 (s.grnBstat j b).toNat ++ beBytes 8 (s.grnBstep j b).toNat
        ++ beBytes 8 (s.grnBpeer j b).toNat)
      ++ (s.journal j).reverse.flatMap journalBytes }

/-- Everything the scopes of a DUMP entry read, in order. (DESIGN CHOICE, log entry 54) -/
def State.dumpUnits (s : State) (e : Entry) : List DumpUnit × State :=
  let scope := entryNat e 1 1
  let clusters := (List.range 16).filter (fun n => bitOf (entryNat e 4 2) n)
  let (l, s) := if bitOf scope 0 then s.dumpRegs else ([], s)
  let l := l ++ (if bitOf scope 1 then s.dumpLogs else [])
  let l := l ++ (if bitOf scope 2 then clusters.flatMap (fun n => (List.range 96).map (s.dumpCore n)) else [])
  let (l, s) := if bitOf scope 3 then clusters.foldl (fun (a : List DumpUnit × State) n =>
    let (x, s) := a.2.dumpBanks n
    (a.1 ++ x, s)) (l, s) else (l, s)
  (l ++ (if bitOf scope 4 then (List.range 16).map s.dumpEngine else []), s)

/-! ### Records (R469, R470) -/

/-- Record STATUS. -/
def drOk : Nat := 0
def drUnresponsive : Nat := 1
def drWithheld : Nat := 2
def drTruncated : Nat := 4

def State.dumpRec (s : State) (u : DumpUnit) (status off : Nat) (data : List Byte) : DumpRec :=
  { id := s.test.dump.id, seq := 0, unitType := BitVec.ofNat 8 u.ut, status := BitVec.ofNat 8 status, unit := BitVec.ofNat 16 u.unit
    off := BitVec.ofNat 64 off, data := data, tick := s.tick }

/-- The records of one read: withheld, cut short where the unit stopped answering, or whole. A unit that did not
answer is not read again in the dump. -/
def State.unitRecs (s : State) (u : DumpUnit) : List DumpRec :=
  match s.test.dump.hung.find? (fun h => h.1 == u.ut && h.2.1 == u.unit) with
  | some h =>
    if u.off + u.data.length ≤ h.2.2 then (if u.hide then [s.dumpRec u drWithheld u.off []] else [s.dumpRec u drOk u.off u.data])
    else if h.2.2 < u.off then []
    else (if h.2.2 = u.off then [] else if u.hide then [s.dumpRec u drWithheld u.off []]
        else [s.dumpRec u drOk u.off (u.data.take (h.2.2 - u.off))])
      ++ [s.dumpRec u drUnresponsive h.2.2 []]
  | none => if u.hide then [s.dumpRec u drWithheld u.off []] else [s.dumpRec u drOk u.off u.data]

/-- Number the records of a dump. -/
def numberRecs (l : List DumpRec) : List DumpRec := l.mapIdx (fun i r => { r with seq := i })

/-- A record as it is sent. -/
def recBytes (r : DumpRec) : List Byte :=
  beBytes 4 r.id ++ beBytes 4 r.seq ++ [r.unitType, r.status] ++ beBytes 2 r.unit.toNat ++ beBytes 8 r.off.toNat
    ++ beBytes 4 r.data.length ++ beBytes 8 r.tick ++ r.data

/-- Cut a byte string into payloads of a packet. (DESIGN CHOICE, log entry 54) -/
def cutPayloads (l : List Byte) : List (List Byte) :=
  (List.range (ceilDiv l.length 65536)).map (fun i => (l.drop (65536 * i)).take 65536)

/-- The DUMP_DATA packets of some records. (DESIGN CHOICE, log entry 54) -/
def dumpPackets (l : List DumpRec) : List Packet :=
  (cutPayloads (l.flatMap recBytes)).map (fun b => { kind := 0x94, plen := BitVec.ofNat 32 b.length, payload := b })

/-- The open OPERATOR sessions that an entry names. -/
def State.dumpSessions (s : State) (e : Entry) : List (Nat × Nat) :=
  [(0, entryNat e 2 1), (1, entryNat e 3 1)].filterMap (fun x =>
    if 1 ≤ x.2 ∧ x.2 ≤ 8 ∧ (s.session x.1 (x.2 - 1)).operator then some (x.1, x.2 - 1) else none)

/-- Send packets to each session an entry names. -/
def State.dumpSendTo (s : State) (e : Entry) (l : List Packet) : State :=
  (s.dumpSessions e).foldl (fun (s : State) ki => l.foldl (fun (s : State) p => s.sendPacket ki.1 ki.2 p) s) s

/-! ### Entries (R471) -/

/-- Completion status. -/
def duOk : Nat := 0
def duBadentry : Nat := 1
def duNoroom : Nat := 2
def duNodump : Nat := 3
def duNosession : Nat := 4
def duAborted : Nat := 5
def duTimeout : Nat := 6

/-- MiB that the scopes of an entry come to at most. -/
def dumpMax (scope : Nat) : Nat :=
  64 * b2n (bitOf scope 0) + 4 * b2n (bitOf scope 1) + 128 * b2n (bitOf scope 2) + 800 * b2n (bitOf scope 3) + 2052 * b2n (bitOf scope 4)

def dumpGood (e : Entry) : Bool :=
  [1, 2, 3].contains (entryOp e) && entryNat e 1 1 < 32 && entryNat e 10 54 == 0

def State.dumpStatus (s : State) (e : Entry) : Nat :=
  let op := entryOp e
  if !dumpGood e then duBadentry
  else if op = 1 ∧ 256 * s.fld Reg.LFT_PART Fld.LFT_PART_DUMP < dumpMax (entryNat e 1 1) + 2048 then duNoroom
  else if op ≠ 1 ∧ (!s.test.dump.staged ∨ entryNat e 8 2 ≠ s.test.dump.id) then duNodump
  else if op = 2 ∧ (s.dumpSessions e).isEmpty then duNosession
  else duOk

/-- Each dump entry writes one record. -/
def State.dumpDone (s : State) (e : Entry) (status id unresp : Nat) : State :=
  (s.bump (Reg.LFT_DMP_CNT status) 1).ringWrite .dmp
    (pack [(Fld.LFT_DMP_CRING_TAG, entryNat e 6 2), (Fld.LFT_DMP_CRING_OP, entryOp e), (Fld.LFT_DMP_CRING_STATUS, status),
      (Fld.LFT_DMP_CRING_DUMPID, id), (Fld.LFT_DMP_CRING_UNRESP, unresp)]) (status != duOk)

def State.raiseDump (s : State) (bit : Nat) : State := s.raise Reg.LFT_DMP_EVT bit 11 srcDump

/-- DUMPID that an entry's record shows: the dump taken, or the one it names. -/
def State.dumpIdOf (s : State) (e : Entry) : Nat := if entryOp e = 1 then s.test.dump.id else entryNat e 8 2

/-- The engine is free to take its next entry. -/
def State.dumpIdle (s : State) : Bool := s.test.dump.running.isNone && s.test.dump.sending.isNone

/-- The next entry of the dump engine is taken if its OP is one of `mine`; a refused one ends here.
(DESIGN CHOICE, log entry 28) -/
def State.dumpTake (s : State) (mine : Nat → Bool) (run : Entry → State → State) : State :=
  match s.nextEntry engDump with
  | none => s
  | some (q, e) =>
    if s.awake && s.dumpIdle && mine (entryOp e) then
      let s := s.popQueue engDump q
      let st := s.dumpStatus e
      if st ≠ duOk then s.dumpDone e st (s.dumpIdOf e) 0 else run e s
    else s

/-- A DUMP begins (R469): any staged dump is freed and the next DUMPID taken. -/
def State.beginDump (s : State) (e : Entry) : State :=
  s.onTest (fun t => { t with dump := { t.dump with
    running := some (e, s.tick)
    id := (t.dump.id + 1) % 65536
    staged := false
    recs := []
    unresp := 0
    hung := [] } })

/-- A DUMP ends with its records staged and sent; the reset that a pre-reset dump held up starts. -/
def State.endDump (s : State) (e : Entry) (l : List DumpRec) (status : Nat) : State :=
  let d := s.test.dump
  let recs := numberRecs l
  let s := s.onTest (fun t => { t with dump := { t.dump with
    running := none
    staged := true
    recs := recs
    predump := none } })
  let s := (s.dumpDone e status d.id d.unresp).dumpSendTo e (dumpPackets recs)
  match d.predump, s.watch.after with
  | some _, some r => s.startRun r
  | _, _ => s

/-- The records of the units read, and of those that did not answer. -/
def State.allRecs (s : State) (e : Entry) : List DumpRec × State :=
  let (l, s) := s.dumpUnits e
  (l.flatMap s.unitRecs, s)

/-- A DUMP entry: the first call takes it, the next, while it runs, completes it. -/
def execDump (s : State) : Out :=
  match s.test.dump.running with
  | some (e, _) =>
    if s.awake then
      let (l, s) := s.allRecs e
      .next (s.endDump e l duOk)
    else .next s
  | none => .next (s.dumpTake (fun op => op != 2 && op != 3) (fun e s => s.beginDump e))

/-- A unit does not answer within 50 µs (R469). -/
def execDumpAccessTimeout (unitType : Byte) (unit : BitVec 16) (off : Word) (s : State) : Out :=
  match s.test.dump.running with
  | none => .next s
  | some _ =>
    if !s.awake || s.test.dump.hung.any (fun h => h.1 == unitType.toNat && h.2.1 == unit.toNat) then .next s
    else
      let s := s.onTest (fun t => { t with dump := { t.dump with
        unresp := min 65535 (t.dump.unresp + 1)
        hung := t.dump.hung ++ [(unitType.toNat, unit.toNat, off.toNat)] } })
      .next ((s.bump Reg.LFT_DMP_UNRESP 1).raiseDump 3)

/-- A number below `n`, free. (DESIGN CHOICE, log entry 55) -/
def State.freeBelow (s : State) (n : Nat) : Nat × State :=
  let (v, s) := s.free
  (v.toNat % n, s)

/-- A DUMP reaches 2 s: how many records it has is free; one TRUNCATED record covers the rest (R469).
(DESIGN CHOICE, log entry 55) -/
def execDumpTruncate (s : State) : Out :=
  match s.test.dump.running with
  | none => .next s
  | some (e, t) =>
    if s.awake && s.since t (secTicks 2) then
      let (l, s) := s.allRecs e
      let (k, s) := s.freeBelow (l.length + 1)
      let rest := match l.drop k with
        | r :: _ => [{ r with status := BitVec.ofNat 8 drTruncated, data := [] }]
        | [] => []
      .next ((s.raiseDump 4).endDump e (l.take k ++ rest) duOk)
    else .next s

/-- A SEND entry: the first call takes it, the next, while it runs, has placed every record. -/
def execDumpSend (s : State) : Out :=
  match s.test.dump.sending with
  | some (e, _) =>
    if s.awake then
      let s := s.onTest (fun t => { t with dump := { t.dump with sending := none } })
      .next ((s.dumpSendTo e (dumpPackets s.test.dump.recs)).dumpDone e duOk (s.dumpIdOf e) 0)
    else .next s
  | none => .next (s.dumpTake (fun op => op == 2) (fun e s =>
      s.onTest (fun t => { t with dump := { t.dump with sending := some (e, s.tick) } })))

/-- A SEND reaches 500 ms: how many packets it has placed is free (R471). (DESIGN CHOICE, log entry 55) -/
def execDumpSendTimeout (s : State) : Out :=
  match s.test.dump.sending with
  | none => .next s
  | some (e, t) =>
    if s.awake && s.since t (msTicks 500) then
      let l := dumpPackets s.test.dump.recs
      let (k, s) := s.freeBelow (max 1 l.length)
      let s := s.onTest (fun t => { t with dump := { t.dump with sending := none } })
      .next ((s.dumpSendTo e (l.take k)).dumpDone e duTimeout (s.dumpIdOf e) 0)
    else .next s

/-- A FREE entry. -/
def execDumpFree (s : State) : Out :=
  .next (s.dumpTake (fun op => op == 3) (fun e s =>
    let s := s.onTest (fun t => { t with dump := { t.dump with
      staged := false
      recs := [] } })
    s.dumpDone e duOk (s.dumpIdOf e) 0))

/-- LFT_DMP_CMD.DRAIN. -/
def execDmpDrain (s : State) : Out := if s.awake then .next (s.drainEngine engDump) else .next s

/-- A FORCE of the dump engine: waiting entries and the one in progress end ABORTED; a dump stays staged as far as
it got, which is free. An entry that completes in this event tick keeps its status (R464).
(DESIGN CHOICE, log entries 55 and 133) -/
def State.forceDump (s : State) (cause : Nat) : State :=
  let w := s.waitingEntries engDump
  let s := w.foldl (fun (s : State) e => s.dumpDone e duAborted (s.dumpIdOf e) 0) (s.clearQueues engDump)
  let s := (s.setHold engDump 2).forcedDisable engDump cause
  let s := match s.test.dump.sending with
    | some (e, _) =>
      if s.alsoNow (fun i => i == Instr.dumpSend) then s
      else (s.onTest (fun t => { t with dump := { t.dump with sending := none } })).dumpDone e duAborted (s.dumpIdOf e) 0
    | none => s
  match s.test.dump.running with
  | some (e, _) =>
    if s.alsoNow (fun i => i == Instr.dump) then s
    else
      let (l, s) := s.allRecs e
      let (k, s) := s.freeBelow (l.length + 1)
      s.endDump e (l.take k) duAborted
  | none => s

/-- LFT_DMP_CMD.FORCE. -/
def execDmpForce (s : State) : Out := if s.awake then .next (s.forceDump 0) else .next s

/-- LFT_DMP_CMD.RESUME. -/
def execDmpResume (s : State) : Out := if s.awake then .next (s.setHold engDump 0) else .next s

/-! ### Hangs (R455, R457) -/

/-- The scrub entry that hangs, with the state that no longer holds it: the one in progress, else the next.
(DESIGN CHOICE, log entry 51) -/
def State.scrubHung (s : State) : Option (State × Entry) :=
  match s.sec.scrub with
  | some r => some (s.onSec (fun x => { x with scrub := none }), r.e)
  | none => (s.nextEntry engScrub).map (fun p => (s.popQueue engScrub p.1, p.2))

/-- A scrub or dump entry runs past twice its bound: a unit reset refuses it ABORTED. -/
def execEngineEntryHang (e : BoundedEngine) (s : State) : Out :=
  match e with
  | .scrub =>
    match s.awake, s.scrubHung with
    | true, some (s, x) =>
      let s := s.scrubDone x scAborted 0
      .next (s.faultRecord { unitType := utSecurity, register := 1, cause := scAborted, action := 1
                             detail := s.reg (Reg.SEC_SCR_CRING ((s.fld Reg.SEC_SCR_CRHEAD ⟨0, 8⟩ + 255) % 256)) })
    | _, _ => .next s
  | .dump =>
    let late := match s.test.dump.running, s.test.dump.sending with
      | some (_, t), _ => s.since t (secTicks 4)
      | none, some (_, t) => s.since t (secTicks 1)
      | none, none => false
    if s.awake && late then
      let pre := s.test.dump.predump
      let s := s.dumpAbort
      let s := s.onTest (fun t => { t with dump := { t.dump with predump := none } })
      let s := s.faultRecord { unitType := utDump, register := 0, cause := duAborted, action := 1
                               detail := s.reg (Reg.LFT_DMP_CRING ((s.fld Reg.LFT_DMP_CRHEAD ⟨0, 8⟩ + 255) % 256)) }
      match pre, s.watch.after with
      | some _, some r => .next (s.startRun r)
      | _, _ => .next s
    else .next s

end Sys2Proof.Machine
end

