-- ==== Sys2Proof/Machine/Watch.lean ====
section
/-! DEFINITION. Module states and their commands (R385 to R388, R467, R468), the watchdog (R381), the power of
the Bosun cores (R380), wakes (R388, R399) and the thermal monitor (R390 to R392). -/

namespace Sys2Proof.Machine

/-! ### The boot so far -/

/-- DEDUCED, log entry 123. -/
def State.bootStep (s : State) : Nat := s.fld Reg.WCH_BOOT Fld.WCH_BOOT_STEP

/-- WCH_BOOT.STEP and ELAPSED after a step (R423). -/
def State.setStep (s : State) (n : Nat) : State :=
  (s.setFld Reg.WCH_BOOT Fld.WCH_BOOT_STEP n).setFld Reg.WCH_BOOT Fld.WCH_BOOT_ELAPSED ((s.tick - s.watch.wakeTick) / 25000)

/-- Bosun firmware runs: it has been verified and released since the last module-level reset. -/
def State.bosunUp (s : State) : Bool :=
  s.awake && match s.watch.run with
    | some r => decide ((if r.domain = 3 then 3 else 2) ≤ s.bootStep)
    | none => true

/-- The slot that runs. -/
def State.runningSlot (s : State) : FlashSlot := SMap.get {} s.watch.slots (s.fld Reg.WCH_BOOT Fld.WCH_BOOT_SLOT)

/-- The generation of the running image; the factory's agrees with its record. (DESIGN CHOICE, log entry 12) -/
def State.imageGeneration (s : State) : BitVec 32 :=
  if s.runningSlot.factory then s.watch.record.planegen else Config.imageGeneration s.runningSlot.image

/-! ### Commands of state (R385) -/

/-- WCH_STATE.CMDSTAT. -/
def csOk : Nat := 0
def csRefused : Nat := 1
def csBusy : Nat := 2

/-- DEDUCED, log entry 62. -/
def State.cmdStat (s : State) (v : Nat) : State := s.setFld Reg.WCH_STATE Fld.WCH_STATE_CMDSTAT v

/-- A transition is in progress: a reset is due, or runs and has not come to its state. (DEDUCED, log entry 62) -/
def State.inTransition (s : State) : Bool :=
  s.watch.after.isSome || match s.watch.run with
    | some r => r.domain == 2 || decide (s.bootStep < 3)
    | none => false

/-- Carry out a command of state, allowed when `ok` holds. (DEDUCED, log entry 62) -/
def State.command (s : State) (ok : Bool) (f : State → State) : State :=
  if s.inTransition then s.cmdStat csBusy
  else if ok then (f s).cmdStat csOk
  else s.cmdStat csRefused

/-- WAKE is refused wherever a write reaches the module (R388). (DEDUCED, log entry 57) -/
def State.doWake (s : State) : State := s.cmdStat csRefused

def execWake (s : State) : Out := if s.awake then .next s.doWake else .next s

/-- The module goes to WATCH: all but the Watch domain loses power; the wake sources stay selected. -/
def State.goSleep (s : State) : State :=
  let kept := keepKeys (fun k => decide ((Reg.BIC_WMASK 0 ≤ k ∧ k < Reg.BIC_WMASK 16)
    ∨ (Reg.BIC_SRC 0 ≤ k ∧ k < Reg.BIC_SRC 1024))) s.regs
  let s := s.discardAll
  let s : State := { s with regs := s.regs ++ kept }
  s.enterMode stWatch mcCommand

/-- A doorbell rings in this event tick (R407). -/
def State.bellNow (s : State) : Bool :=
  s.watch.bellAt == s.tick + 1 || (List.range 64).any (fun m => s.alsoNow (s.sendsTo m))

/-- SLEEP is refused BUSY in the tick of a doorbell (R407). -/
def State.doSleep (s : State) : State :=
  if s.bellNow then s.cmdStat csBusy else s.command (s.mode == stStandby) State.goSleep

/-- SLEEP. -/
def execSleep (s : State) : Out := if s.awake then .next s.doSleep else .next s

/-- The module enters SERVICE: after a datapath warm reset the committed epochs are announced again before any CONTRIB
frame is taken (R335, R463). (DEDUCED, log entry 40) -/
def State.enterService (s : State) (cause : Nat) : State :=
  let s := s.enterMode stService cause
  if s.watch.reissueDue then (s.onWatch (fun w => { w with reissueDue := false })).reissueCommits (fun _ => true) else s

/-- ADMIT from STANDBY: the channels leave self-refresh, enabled ports come up, and the boot is at its end.
(DEDUCED, log entry 112) -/
def State.admitStandby (s : State) : State :=
  let s := (List.range 16).foldl (fun (s : State) n => s.portsBack n) (s.selfRefresh false)
  let s := if s.bootStep = 8 then s.setStep 9 else s
  s.enterService mcCommand

/-- DEDUCED, log entry 112. -/
def State.doAdmit (s : State) : State :=
  if s.inTransition then s.cmdStat csBusy
  else if s.mode = stDraining ∨ s.mode = stStandby then
    if s.imageGeneration ≠ s.watch.record.planegen then
      (s.setFld Reg.WCH_BOOT Fld.WCH_BOOT_GENMISMATCH 1).cmdStat csRefused
    else if s.mode = stDraining then (s.enterService mcCommand).cmdStat csOk
    else if s.flag Reg.WCH_BOOT Fld.WCH_BOOT_READY then s.admitStandby.cmdStat csOk
    else s.cmdStat csRefused
  else s.cmdStat csRefused

/-- ADMIT (R423, R427); BUSY in the tick whose FW_ACTIVATE went before it (R428). -/
def execAdmitModule (s : State) : Out :=
  if s.awake then .next s.doAdmit else if s.isCut cutModule then .next (s.cmdStat csBusy) else .next s

def State.goDrain (s : State) : State :=
  (s.enterMode stDraining mcCommand).onWatch (fun w => { w with drainAt := s.tick })

def State.doDrain (s : State) : State := s.command (s.mode == stService) State.goDrain

/-- DRAIN. -/
def execDrain (s : State) : Out := if s.awake then .next s.doDrain else .next s

def State.doLayup (s : State) : State :=
  s.command (s.mode == stStandby || s.carries) (fun s => s.enterLaid mcCommand false)

/-- LAYUP. -/
def execLayup (s : State) : Out := if s.awake then .next s.doLayup else .next s

/-- An UNLAY is accepted (R386, R468). -/
def State.goUnlay (s : State) : State :=
  let s := (s.enterMode stStandby mcCommand).setFld Reg.WCH_STATE Fld.WCH_STATE_LAIDFLAG 0
  let s := (s.setFld Reg.WCH_ESC Fld.WCH_ESC_COUNT 0).setFld Reg.WCH_ESC Fld.WCH_ESC_ESCALATED 0
  s.onWatch (fun w => { w with counted := [] })

/-! ### Draining (R387, R467) -/

/-- Every queue of every engine is empty and no entry is in progress. -/
def State.enginesIdle (s : State) : Bool :=
  s.eng.queued.all (fun x => x.2.isEmpty) && s.eng.bypass.isEmpty && s.eng.moving.isEmpty
    && s.tbl.image.isNone && s.sec.scrub.isNone && s.test.dump.running.isNone && s.test.dump.sending.isNone && s.grn.engines.all (fun x => x.2.resilver.isNone)

/-- The module is drained. -/
def State.isDrained (s : State) : Bool :=
  s.red.rounds.all (fun x => x.2.state == 0) && s.maStat == 0 && s.enginesIdle
    && s.port.vcs.all (fun x => x.2.unacked.isEmpty)

/-- The module is drained: STANDBY. (DEDUCED, log entry 112) -/
def execDrained (s : State) : Out :=
  if s.mode = stDraining ∧ s.isDrained then .next ((s.darkAll.selfRefresh true).enterMode stStandby mcDrained)
  else .next s

/-- Force every engine, in the order of R467. (DEDUCED, log entry 112) -/
def State.forceAll (s : State) (cause : Nat) : State :=
  let s := (s.forceBypass cause).forceTable cause
  let s := (List.finRange 16).foldl (fun (s : State) n => s.forceDispatcher n cause) s
  let s := (List.finRange 16).foldl (fun (s : State) j => s.forceGranary j cause) s
  (s.forceScrub cause).forceDump cause

/-- Every OPEN software sheaf is aborted, COMMAND. -/
def State.abortSoftSheaves (s : State) : State :=
  ((s.tbl.sheaves.filter (fun x => x.2.state == shOpen && softId x.1)).map (fun x => x.1)).foldl
    (fun (s : State) id => s.abortSheaf id saCommand 0) s

/-- An ADMIT of the same event tick will be accepted: it applies, and nothing is forced (R476). -/
def State.admitNow (s : State) : Bool :=
  !s.inTransition && s.imageGeneration == s.watch.record.planegen && s.alsoNow (fun c => match c with
    | .admitModule => true
    | .registerWrite _ off val => off.toNat == Reg.WCH_STATECMD && val.toNat % 8 == 3
    | _ => false)

/-- DRAINWAIT has passed (R467). (DEDUCED, log entry 112) -/
def execDrainwaitExpiry (s : State) : Out :=
  let wait := min 3600 (max 1 (s.fld Reg.WCH_CTL ⟨0, 16⟩))
  if s.admitNow then .next s
  else if s.mode = stDraining ∧ s.since s.watch.drainAt (secTicks wait) then
    let s := (s.forceAll 1).faultRounds rfAborted (fun _ r => r.state != 0 && r.state != rsFaulted)
    let s := s.abortSoftSheaves
    let s := s.onMa (fun a => { a with
      trackers := []
      reads := []
      atoms := [] })
    .next ((s.darkAll.selfRefresh true).enterMode stStandby mcDrainwait)
  else .next s

/-! ### Bosun cores and the watchdog (R380, R381) -/

/-- Every core starts anew at tick `t` for the watchdog. (DEDUCED, log entry 62) -/
def State.restartPets (s : State) : State :=
  s.onWatch (fun w => { w with
    pets := (List.range 4).foldl (fun m c => SMap.put 0 m c s.tick) []
    wdogAt := s.tick })

/-- The cores that a source has woken in this event tick: R399 powers them on after a power-off of the same tick (R407). -/
def State.wokenCores (s : State) : Nat := ((List.range 4).map (fun c => if SMap.get 0 s.watch.wokenAt c = s.tick + 1 then 2 ^ c else 0)).sum

/-- A write of WCH_BOSPWR. -/
def State.bospwrWrite (s : State) (val : Nat) : State := s.bospwr (val ||| s.wokenCores)

def execBospwrWrite (val : BitVec 4) (s : State) : Out := if s.awake then .next (s.bospwrWrite val.toNat) else .next s

/-- A write of WCH_WDOG: only KEY 0x5A5A has an effect. (DEDUCED, log entry 62) -/
def State.pet (s : State) (val : Word) : State :=
  if Fld.WCH_WDOG_KEY.get val = 0x5A5A then
    let c := Fld.WCH_WDOG_CORE.get val
    let s := s.setFld Reg.WCH_WDOG Fld.WCH_WDOG_WDMASK (Fld.WCH_WDOG_WDMASK.get val)
    let s := s.setFld Reg.WCH_WDOG Fld.WCH_WDOG_PETTED (s.fld Reg.WCH_WDOG Fld.WCH_WDOG_PETTED ||| 2 ^ c)
    s.onWatch (fun w => { w with pets := SMap.put 0 w.pets c s.tick })
  else s

def execWdogPet (val : Word) (s : State) : Out := if s.awake then .next (s.pet val) else .next s

/-- The cores that the watchdog checks: those of WDMASK that are powered. -/
def State.checkedCores (s : State) : List Nat :=
  (List.range 4).filter (fun c => bitOf (s.fld Reg.WCH_WDOG Fld.WCH_WDOG_WDMASK) c && (s.reg Reg.WCH_BOSPWR).getLsbD c)

/-- A checked core has not petted for 1 s. -/
def execWdogWarn (s : State) : Out :=
  if s.bosunUp ∧ s.checkedCores.any (fun c => s.since (SMap.get 0 s.watch.pets c) (secTicks 1)) then
    .next (s.raiseWatch 5 11)
  else .next s

/-- A supply fault of this event tick; a thermal trip of it (R383). -/
def State.supplyNow (s : State) : Bool :=
  s.isCut cutSupply || s.alsoNow (fun c => match c with
    | .supplyFault => true
    | .railTimeout _ => true
    | .latchOpen => true
    | _ => false)

/-- A sensor of 1/16 °C reads at or above a threshold of WCH_THERM. (DEDUCED, log entry 111) -/
def State.reaches (s : State) (t : BitVec 16) (f : Fld) : Bool := decide (16 * (s.fld Reg.WCH_THERM f : Int) ≤ t.toInt)

def State.tripNow (s : State) : Bool :=
  s.isCut cutTrip || s.alsoNow (fun c => match c with
    | .thermalTrip _ _ t => s.reaches t Fld.WCH_THERM_TRIP
    | _ => false)

/-- Core `c` pets the watchdog in this event tick: the pet applies (R407). -/
def State.petsNow (s : State) (c : Nat) : Bool :=
  let pets := fun (val : Word) => Fld.WCH_WDOG_KEY.get val == 0x5A5A && Fld.WCH_WDOG_CORE.get val == c
  s.alsoNow (fun i => match i with
    | .wdogPet val => pets val
    | .registerWrite _ off val => off.toNat == Reg.WCH_WDOG && pets val
    | _ => false)

/-- The end of a watchdog period: it expires when a checked core has not petted in it. With a supply fault or a trip of the
same event tick the expiry is logged and not carried out (R383). -/
def execWdogExpiry (s : State) : Out :=
  if (s.bosunUp ∨ s.isCut cutSupply ∨ s.isCut cutTrip) ∧ s.since s.watch.wdogAt (secTicks 2) then
    let late := s.checkedCores.filter (fun c => !bitOf (s.fld Reg.WCH_WDOG Fld.WCH_WDOG_PETTED) c && !s.petsNow c)
    let seen := s.reg Reg.WCH_WDOG
    let s := (s.setFld Reg.WCH_WDOG Fld.WCH_WDOG_PETTED 0).onWatch (fun w => { w with wdogAt := s.tick })
    match late with
    | [] => .next s
    | c :: _ =>
      if s.supplyNow ∨ s.tripNow then .next (s.logEvent 3 srcWatch true)
      else
        let s := (s.logEvent 3 srcWatch false).faultRecord
          { cls := 3, unitType := utBosun, unit := c, action := 3, detail := seen }
        .next (s.decideReset 2 rcWatchdog)
  else .next s

/-! ### UNLAY (R386, R468) -/

/-- A counted reset that brings COUNT to 3 waits in this event tick: a trip, an expiry of the watchdog, or a request of Bosun
firmware. (DESIGN CHOICE, log entry 133) -/
def State.thirdResetNow (s : State) : Bool :=
  let asks := fun (src : Source) (val : Word) => s.mayWrite src && (sourceSession src).isNone
    && bitsOf val.toNat 31 16 == 0xA55A && decide (2 ≤ val.toNat % 4)
  decide (3 ≤ (s.window s.watch.counted s.escWindow).length) && (s.tripNow || s.alsoNow (fun i => match i with
    | .wdogExpiry => s.bosunUp && s.since s.watch.wdogAt (secTicks 2)
        && s.checkedCores.any (fun c => !bitOf (s.fld Reg.WCH_WDOG Fld.WCH_WDOG_PETTED) c && !s.petsNow c)
    | .resetreqDatapathWarm src val => asks src val
    | .resetreqCold src val => asks src val
    | .registerWrite src off val => off.toNat == Reg.WCH_RESETREQ && asks src val
    | _ => false))

/-- UNLAY, BUSY in the tick of the reset that brings COUNT to 3 (R476). (DEDUCED, log entry 112) -/
def State.doUnlay (s : State) (src : Source) : State :=
  if s.thirdResetNow then s.cmdStat csBusy
  else s.command (s.mode == stLaidUp && (sourceSession src).isSome && s.flag Reg.WCH_ESC Fld.WCH_ESC_TESTED
    && !s.watch.moduleFault) State.goUnlay

/-- UNLAY. -/
def execUnlay (src : Source) (s : State) : Out := if s.mayWrite src then .next (s.doUnlay src) else .next s

/-! ### Wakes (R388, R399) -/

/-- A wake source brings a module in WATCH up: the cold reset of R385 starts. (DEDUCED, log entry 57) -/
def State.wakeBy (s : State) (cause : Nat) : State :=
  let s := (s.setFld Reg.WCH_WAKE ⟨60, 4⟩ cause).raiseWatch 8 11
  s.startRun { domain := 3, cause := 0, startAt := s.tick, wake := true }

/-- The module can wake by the source of bit `k` of EN. (DEDUCED, log entry 57) -/
def State.canWake (s : State) (k : Nat) : Bool :=
  s.mode == stWatch && s.watch.run.isNone && s.watch.after.isNone && bitOf (s.fld Reg.WCH_WAKE ⟨0, 4⟩) k

/-- Light on the receive fibre of a Uzoley port. -/
def execWakeLight (k : Fin 2) (s : State) : Out := if s.canWake 0 then .next (s.wakeBy (1 + k.val)) else .next s

/-- WCH_TICK reaches WCH_WAKETIME. -/
def execWakeTimer (s : State) : Out :=
  if s.canWake 1 ∧ s.tick = (s.reg Reg.WCH_WAKETIME).toNat then .next (s.wakeBy 3) else .next s

/-- The wake pin of the service connector. -/
def execWakePin (s : State) : Out := if s.canWake 2 then .next (s.wakeBy 4) else .next s

/-- A selected source becomes pending (R399): its core is powered on, and a module in WATCH wakes. -/
def execWakeSource (i : Fin 1024) (s : State) : Out :=
  if (s.reg (Reg.BIC_WMASK (i.val / 64))).getLsbD (i.val % 64) ∧ s.isPending i then
    let c := s.fld (Reg.BIC_SRC i) Fld.BIC_SRC_TARGET
    let s := (s.bospwr ((s.reg Reg.WCH_BOSPWR).toNat ||| 2 ^ c)).onWatch (fun w => { w with
      wokenAt := SMap.put 0 w.wokenAt c (s.tick + 1) })
    if s.canWake 3 then .next (s.wakeBy 6) else .next s
  else .next s

/-! ### The thermal monitor (R390 to R392) -/

/-- Set a cluster's bit of WCH_THSTAT, with its event when it was clear. (DEDUCED, log entry 111) -/
def State.threshold (s : State) (n : Nat) (f : Fld) (bit : Nat) : State :=
  let v := s.fld Reg.WCH_THSTAT f
  if bitOf v n then s else (s.setFld Reg.WCH_THSTAT f (v ||| 2 ^ n)).raiseWatch bit 11

/-- A sensor reaches HOT. -/
def execThermalHot (n : Fin 16) (_sensor : Fin 64) (t : BitVec 16) (s : State) : Out :=
  if s.awake ∧ s.reaches t Fld.WCH_THERM_HOT then .next (s.threshold n Fld.WCH_THSTAT_HOT 0) else .next s

/-- A sensor reaches THROTTLE. -/
def execThermalThrottle (n : Fin 16) (_sensor : Fin 64) (t : BitVec 16) (s : State) : Out :=
  if s.awake ∧ s.reaches t Fld.WCH_THERM_THROTTLE then .next (s.threshold n Fld.WCH_THSTAT_THROTTLE 1) else .next s

/-- Every sensor of a cluster has been HYST below a threshold for 1 ms: the highest that is set clears.
(DEDUCED, log entry 111) -/
def execThermalClear (n : Fin 16) (s : State) : Out :=
  let off := fun (f : Fld) => s.setFld Reg.WCH_THSTAT f (s.fld Reg.WCH_THSTAT f &&& (65535 - 2 ^ n.val))
  if s.awake = false then .next s
  else if bitOf (s.fld Reg.WCH_THSTAT Fld.WCH_THSTAT_THROTTLE) n then .next (off Fld.WCH_THSTAT_THROTTLE)
  else .next (off Fld.WCH_THSTAT_HOT)

/-- The coolant inlet reaches COOLHOT. -/
def execCoolantHot (t : BitVec 8) (s : State) : Out :=
  if s.awake ∧ s.fld Reg.WCH_THERM Fld.WCH_THERM_COOLHOT ≤ t.toNat then .next (s.raiseWatch 2 11) else .next s

/-- The reset that a trip takes; one that is due or runs becomes the trip's and is counted once (R476).
(DEDUCED, log entry 60) -/
def State.tripReset (s : State) : State :=
  let own := fun (r : ResetRun) (s : State) =>
    if rcWatchdog ≤ r.cause ∧ r.cause ≤ rcEscalation then (r.laid, s) else s.countReset rcTrip
  match s.watch.run, s.watch.after with
  | some r, _ =>
    let (laid, s) := own r s
    s.startRun { domain := 2, cause := rcTrip, startAt := s.tick, trip := true, laid := laid }
  | none, some r =>
    let (laid, s) := own r s
    s.startRun { r with cause := rcTrip, trip := true, laid := laid }
  | none, none => s.decideReset 2 rcTrip

/-- A thermal trip (R392): clusters, Loft and optical engines lose power. (DEDUCED, log entry 111) -/
def State.trip (s : State) : State :=
  let s := (s.raiseWatch 3 2).tripReset.cut cutTrip
  let s := s.onTele (fun t => { t with
    capt := []
    captBad := [] })
  s.onTest (fun t => { t with dump := { t.dump with
    staged := false
    recs := [] } })

/-- A sensor reads at or above TRIP for the second sample. With a supply fault of the same event tick the trip is logged
and not carried out (R383, R407, R502). -/
def execThermalTrip (_n : Fin 16) (_sensor : Fin 64) (t : BitVec 16) (s : State) : Out :=
  if s.mode = 0 ∨ s.reaches t Fld.WCH_THERM_TRIP = false then .next s
  else if s.supplyNow ∧ (s.awake ∨ s.isCut cutSupply) then .next (s.logEvent 2 srcWatch true)
  else if s.awake then .next s.trip
  else .next s

/-- A write of WCH_THERM (R391). (DEDUCED, log entry 111) -/
def State.thermWrite (s : State) (val : Word) : State :=
  let hot := Fld.WCH_THERM_HOT.get val
  let thr := Fld.WCH_THERM_THROTTLE.get val
  let trp := Fld.WCH_THERM_TRIP.get val
  if hot ≤ thr ∧ thr ≤ trp ∧ trp ≤ 115 then s.writeReg Reg.WCH_THERM val else s.raiseWatch 7 11

def execWchThermWrite (val : Word) (s : State) : Out := if s.awake then .next (s.thermWrite val) else .next s

end Sys2Proof.Machine
end

