-- ==== Sys2Proof/Machine/Boot.lean ====
section
/-! DEFINITION. Requests for resets (R458, R462), the steps of a boot (R423, R424, R462, R463), the end of a
cluster reset, sliding windows that age out (R460), and failure scores (R473, R474). -/

namespace Sys2Proof.Machine

/-! ### Requests (R457, R458) -/

/-- A request whose unit an earlier event of the same tick has reset or powered down: logged, not carried out (R383). A cold
reset asked for beside a warm one applies (R476). -/
def State.requestCancelled (s : State) (code n : Nat) : Bool :=
  s.supplyNow || s.tripNow || (s.isCut cutModule && code != 3) || (code == 1 && s.isCut (cutCluster n))

/-- A class-4 request of a cause: code 1 resets a cluster, 2 is datapath warm, 3 cold.
(DEDUCED, log entries 52 and 60) -/
def State.resetRequest (s : State) (code n cause : Nat) : State :=
  if code = 0 then s
  else if s.requestCancelled code n then s.logEvent 4 srcWatch true
  else
    let s := s.logEvent 4 srcWatch false
    if code = 1 then s.clusterReset n else s.decideReset code cause

/-- A write of WCH_RESETREQ: only KEY 0xA55A has an effect. (DEDUCED, log entry 60) -/
def State.resetWrite (s : State) (src : Source) (val : Word) : State :=
  if bitsOf val.toNat 31 16 = 0xA55A then
    s.resetRequest (val.toNat % 4) (bitsOf val.toNat 7 4) (if (sourceSession src).isSome then rcOperator else rcFirmware)
  else s

/-- WCH_RESETREQ with code 1. -/
def execResetreqCluster (src : Source) (val : Word) (s : State) : Out :=
  if s.mayWrite src ∧ val.toNat % 4 = 1 then .next (s.resetWrite src val) else .next s

/-- WCH_RESETREQ with code 2. -/
def execResetreqDatapathWarm (src : Source) (val : Word) (s : State) : Out :=
  if s.mayWrite src ∧ val.toNat % 4 = 2 then .next (s.resetWrite src val) else .next s

/-- WCH_RESETREQ with code 3. -/
def execResetreqCold (src : Source) (val : Word) (s : State) : Out :=
  if s.mayWrite src ∧ val.toNat % 4 = 3 then .next (s.resetWrite src val) else .next s

/-! ### The signed configuration record (R422) -/

/-- The record that a byte string spells, without its signature block; none when a field is not as R422 has it. -/
def parseRecord (l : List Byte) : Option ConfigRec :=
  let n := natAt l 2 2
  if natAt l 0 2 = 1 ∧ n ≤ 256 ∧ natAt l 12 2 < 4096 ∧ natAt l 20 4 < 2 then
    some { modnum := BitVec.ofNat 12 (natAt l 12 2)
           site := l.getD 14 0
           plane := l.getD 15 0
           planegen := BitVec.ofNat 32 (natAt l 16 4)
           options := BitVec.ofNat 32 (natAt l 20 4)
           oproot := BitVec.ofNat 384 (natAt l 24 48)
           deny := (List.range n).map (fun i => BitVec.ofNat 160 (natAt l (72 + 20 * i) 20))
           serial := BitVec.ofNat 64 (natAt l 4 8) }
  else none

/-- The record of a slot, when the module takes it. -/
def FlashSlot.configRec (x : FlashSlot) : Option ConfigRec :=
  if x.factory then some {}
  else (parseRecord x.record).filter (fun r => r.serial == Config.serial)

/-- A verification of an object writes SEC_VSTAT; a rejection sets VERIFYFAIL (R430).
(DESIGN CHOICE, log entry 11) -/
def State.verified (s : State) (object : Nat) (p : SigPair) (form : Bool) : Bool × State :=
  let ok := p.ecdsa && p.hss && form
  let s := s.setReg Reg.SEC_VSTAT (pack [(Fld.SEC_VSTAT_OBJECT, object), (Fld.SEC_VSTAT_HSSOK, b2n p.hss),
    (Fld.SEC_VSTAT_ECDSAOK, b2n p.ecdsa)])
  (ok, if ok then s else s.raiseSec 0)

/-! ### Boot steps (R423, R424, R462) -/

/-- The slot that the boot verifies: the running one, and the other once that has been rejected.
(DEDUCED, log entry 59) -/
def State.bootSlot (s : State) : Nat :=
  let k := s.fld Reg.WCH_BOOT Fld.WCH_BOOT_SLOT
  if s.watch.rejected then 1 - k else k

/-- Step 2: both parts of a slot are verified. A rejected running slot gives way to the other; when both are
rejected the boot fails and the module must be replaced (R424, R461).
(DESIGN CHOICE, log entry 11; DEDUCED, log entry 59) -/
def State.bootVerify (s : State) (fw sig : SigPair) : State :=
  let k := s.bootSlot
  let x : FlashSlot := SMap.get {} s.watch.slots k
  let (a, s) := s.verified 1 fw (x.factory || !x.image.isEmpty)
  let (b, s) := s.verified 2 sig x.configRec.isSome
  match a && b, x.configRec with
  | true, some r =>
    let s := if s.watch.rejected then
      (s.setFld Reg.WCH_BOOT Fld.WCH_BOOT_SLOT k).setFld Reg.WCH_BOOT Fld.WCH_BOOT_FALLBACK 1 else s
    let s := s.onWatch (fun w => { w with
      record := r
      rejected := false })
    (s.setStep 2).restartPets
  | _, _ =>
    if s.watch.rejected then
      let s := (s.setFld Reg.WCH_BOOT Fld.WCH_BOOT_FAIL 1).setFld Reg.WCH_BOOT Fld.WCH_BOOT_FAILSTEP 2
      let s := s.faultRecord { unitType := utModule, register := 2, action := 7, flags := 1, detail := s.reg Reg.WCH_BOOT }
      s.onWatch (fun w => { w with
        run := none
        rejected := false })
    else s.onWatch (fun w => { w with rejected := true })

/-- WCH_STATE.CAUSE of the state that a reset ends in. -/
def ResetRun.modeCause (r : ResetRun) : Nat :=
  if r.wake then mcWake else if r.trip then mcTrip else if r.cause = rcEscalation then mcEscalation else mcCommand

/-- A reset ends in LAID_UP (R386, R465). -/
def State.endLaid (s : State) (r : ResetRun) : State :=
  let s := if s.mode = stLaidUp then s else s.enterLaid (if r.laid then mcEscalation else r.modeCause) s.watch.moduleFault
  let s := if r.laid then s.setFld Reg.WCH_ESC Fld.WCH_ESC_ESCALATED 1 else s
  s.lastReset r 2

/-- A reset ends in LAID_UP by its count, or because the laid-up flag is set. -/
def State.endsLaid (s : State) (r : ResetRun) : Bool :=
  r.laid || s.watch.laid || s.flag Reg.WCH_STATE Fld.WCH_STATE_LAIDFLAG

/-- Step 3 of a cold boot: Bosun is released, and the module leaves WATCH. -/
def State.bootRelease (s : State) (r : ResetRun) : State :=
  let s := (s.setStep 3).restartPets
  if s.endsLaid r then s.endLaid { r with laid := r.laid || s.watch.laid }
  else (s.enterMode stStandby r.modeCause).lastReset r 1

/-- Step 4: clusters and cages have power; a span port of a warm reset starts from ALIGN when its pluggable kept its
data path (R89, R462). -/
def State.bootClusters (s : State) (r : ResetRun) : State :=
  let s := (s.setStep 4).onWatch (fun w => { w with clusterDown := [] })
  let on := (List.range 32).foldl (fun w x => if (s.cmis x).caged then w else w + 2 ^ x) 0
  let s := s.setReg Reg.WCH_CAGEPWR (BitVec.ofNat 64 on)
  (List.range 32).foldl (fun (s : State) x =>
    if r.domain = 2 ∧ s.present x ∧ s.fld (Reg.CL_SX_CMIS_STAT x) Fld.CL_SX_CMIS_STAT_DPSTATE = 4
        ∧ (s.reg (Reg.CL_SX_CTL x)).getLsbD 0 ∧ s.portState (spanPort x) = pDark ∧ s.mode ≠ stLaidUp then
      s.setPortState (spanPort x) pAlign
    else s.tryBringUp x) s

/-- A failure of steps 4 to 6 is a module fault (R424). (DEDUCED, log entry 59) -/
def State.bootFail (s : State) (n : Nat) : State :=
  let s := (s.setFld Reg.WCH_BOOT Fld.WCH_BOOT_FAIL 1).setFld Reg.WCH_BOOT Fld.WCH_BOOT_FAILSTEP n
  (s.moduleFault { unitType := utModule, register := 2, detail := s.reg Reg.WCH_BOOT }).onWatch (fun w => { w with run := none })

/-- The step after `STEP` is done. -/
def State.bootStepDone (s : State) (r : ResetRun) (ok : Bool) (fw sig : SigPair) : State :=
  let n := s.bootStep + 1
  if n = 2 then s.bootVerify fw sig
  else if n = 3 then (if !ok then s else if r.domain = 3 then s.bootRelease r else s.setStep 3)
  else if n = 4 then (if ok then s.bootClusters r else s.bootFail 4)
  else if n = 5 then (if ok then (s.setStep 5).selfRefresh false else s.bootFail 5)
  else if n = 6 then (if ok then s.setStep 6 else s.bootFail 6)
  else if n = 7 then
    (if ok then (List.range 16).foldl (fun (s : State) k => s.portsBack k) (s.setStep 7) else s)
  else if n = 8 then
    (if ok && s.timeLocked then
      let s := (s.setStep 8).setFld Reg.WCH_BOOT Fld.WCH_BOOT_READY 1
      if r.domain = 3 then s.onWatch (fun w => { w with run := none }) else s
    else s)
  else s

/-- A boot step completes, or fails. (DEDUCED, log entries 57 and 59; DESIGN CHOICE, log entry 122) -/
def execBootStepDone (ok : Bool) (fw sig : SigPair) (s : State) : Out :=
  match s.watch.run with
  | some r => .next (s.bootStepDone r ok fw sig)
  | none => .next s

/-- A datapath warm reset reaches READY (R463, R465). -/
def execWarmResetReady (s : State) : Out :=
  match s.watch.run with
  | some r =>
    if r.domain = 2 ∧ s.flag Reg.WCH_BOOT Fld.WCH_BOOT_READY then
      let s := s.onWatch (fun w => { w with run := none })
      if s.endsLaid r then .next (s.endLaid { r with laid := r.laid || s.watch.laid })
      else if s.flag Reg.WCH_ESC Fld.WCH_ESC_AUTOADMIT ∧ r.trip = false then .next (s.admitStandby.lastReset r 0)
      else .next (s.lastReset r 1)
    else .next s
  | none => .next s

/-- A reset cluster comes back: its tables are reloaded and its ports leave DARK. -/
def execClusterResetDone (n : Fin 16) (s : State) : Out :=
  if s.awake ∧ s.clusterState n.val = 2 ∧ (s.watch.run.isNone ∨ 4 ≤ s.bootStep) then
    .next ((s.setCluster n.val 0).portsBack n.val)
  else .next s

/-! ### Windows (R460) -/

/-- The ticks of a window that are still in it. -/
def State.aged (s : State) (l : List Nat) (d : Nat) : List Nat := l.filter (fun t => decide (s.tick < t + d))

/-- An event of a sliding window ages out. -/
def State.ageOut (s : State) : EscWindow → State
  | .millFaults n c =>
    let k := 96 * n.val + c.val
    s.onWatch (fun w => { w with millFaults := SMap.put [] w.millFaults k (s.aged (SMap.get [] w.millFaults k) (secTicks 86400)) })
  | .countedResets => (s.onWatch (fun w => { w with counted := s.aged w.counted s.escWindow })).showCount
  | .granaryResets j =>
    let x := s.engine j.val
    s.setEngine j.val { x with resets := s.aged x.resets (secTicks 3600) }
  | .linkLosses p =>
    let l := s.link p.val
    s.setLink p.val { l with losses := s.aged l.losses (secTicks 60) }
  | .clusterUnitResets n =>
    s.onWatch (fun w => { w with unitResets := SMap.put [] w.unitResets n.val (s.aged (SMap.get [] w.unitResets n.val) (secTicks 1)) })
  | .clusterResets n =>
    s.onWatch (fun w => { w with
      clusterResets := SMap.put [] w.clusterResets n.val (s.aged (SMap.get [] w.clusterResets n.val) (secTicks 3600)) })
  | .tableResets => s.onWatch (fun w => { w with tableResets := s.aged w.tableResets (secTicks 1) })

def execEventWindowAgeOut (w : EscWindow) (s : State) : Out := .next (s.ageOut w)

/-! ### Failure scores (R473, R474) -/

def Fld.FSCORE_LEVEL : Fld := ⟨32, 2⟩
def Fld.FSCORE_S : Fld := ⟨0, 32⟩

/-- The score of a unit after a second with input `x`, and the record of a level it reaches.
(DEDUCED, log entry 116) -/
def State.scoreUnit (s : State) (u x : Nat) : State :=
  let old := s.fld (Reg.WCH_FSCORE u) Fld.FSCORE_S
  let level := s.fld (Reg.WCH_FSCORE u) Fld.FSCORE_LEVEL
  let v := min (2 ^ 32 - 1) (old - old / 2 ^ s.fld Reg.WCH_FSCTL ⟨0, 5⟩ + x)
  let warn := s.fld Reg.WCH_FSWARN ⟨0, 32⟩
  let reached := if s.fld Reg.WCH_FSACT ⟨0, 32⟩ ≤ v then 2 else if warn ≤ v then 1 else 0
  let new := max (if 2 * v < warn ∧ reached = 0 then 0 else level) reached
  let s := s.setReg (Reg.WCH_FSCORE u) (pack [(Fld.FSCORE_LEVEL, new), (Fld.FSCORE_S, v)])
  if level < new then
    s.faultRecord { unitType := utScore, unit := u, cause := new, action := 7, flags := 2, detail := s.reg (Reg.WCH_FSCORE u) }
  else s

/-- The scored units. -/
def scoredUnits : List Nat := List.range 570 ++ (List.range 1536).map (fun k => 1024 + k)

/-- A second has passed. (DESIGN CHOICE, log entry 15; DEDUCED, log entry 116) -/
def execScoreUpdate (s : State) : Out :=
  if s.since s.watch.scoreAt (secTicks 1) then
    let ins := s.watch.scoreIn
    let s := s.onWatch (fun w => { w with
      scoreIn := []
      scoreAt := s.tick })
    if s.flag Reg.WCH_FSCTL ⟨8, 1⟩ then
      .next (scoredUnits.foldl (fun (s : State) u =>
        s.scoreUnit u (SMap.get 0 ins u + (if u < 544 then 4 * Config.fecScored u s.tick else 0))) s)
    else .next s
  else .next s

/-- A write of WCH_FSCLR. (DEDUCED, log entry 116) -/
def State.fsclr (s : State) (val : Word) : State :=
  if val.getLsbD 63 then s.resetRegs (Reg.WCH_FSCORE 0) (Reg.WCH_FSCORE 2560) (fun _ => false)
  else if val.toNat % 4096 < 2560 then s.setReg (Reg.WCH_FSCORE (val.toNat % 4096)) 0
  else s

def execFsclr (val : Word) (s : State) : Out := if s.awake then .next (s.fsclr val) else .next s

end Sys2Proof.Machine
end

