-- ==== Sys2Proof/Machine/Selftest.lean ====
section
/-! DEFINITION. Test requests and their outcomes (R477 to R485), boundary scan (R486) and in-service margins
(R487). -/

namespace Sys2Proof.Machine

/-! ### A request -/

/-- The rest of WCH_TSTRES.STATUS. -/
def tePass : Nat := 0
def teBusy : Nat := 2
def teBadreq : Nat := 3
def teState : Nat := 4
def teInuse : Nat := 5

/-- TEST of a request. -/
def tqTest (w : Word) : Nat := Fld.WCH_TSTREQ_TEST.get w
def tqType (w : Word) : Nat := Fld.WCH_TSTREQ_UNITTYPE.get w
def tqUnit (w : Word) : Nat := Fld.WCH_TSTREQ_UNIT.get w
def tqWrite (w : Word) : Bool := Fld.WCH_TSTREQ_MODE.get w == 1
def tqDuration (w : Word) : Nat := Fld.WCH_TSTREQ_DURATION.get w

/-- TEST codes. -/
def tcLoopback : Nat := 1
def tcMembist : Nat := 2
def tcFull : Nat := 3
def tcCancel : Nat := 4

/-- A number below a bound. -/
def below (n k : Nat) : Option (Fin n) := if h : k < n then some ⟨k, h⟩ else none

/-- The unit that UNITTYPE and UNIT name. (DEDUCED, log entry 117) -/
def unitOf (ut k : Nat) : Option TestUnit :=
  if ut = utSite then (below 512 k).map .site
  else if ut = utSpan then (below 32 k).map .span
  else if ut = utGranary then (below 16 k).map .channel
  else if ut = utLoft then (below 8 k).map .stack
  else if ut = utUzoley then (below 2 k).map .uzoley
  else none

/-- A depth that R480 lists for the unit. -/
def depthListed : TestUnit → Nat → Bool
  | .site _, d => decide (1 ≤ d ∧ d ≤ 5)
  | .span _, d => decide (1 ≤ d ∧ d ≤ 5)
  | .uzoley _, d => d == 2 || d == 4
  | _, _ => false

def isPort : TestUnit → Bool
  | .site _ => true
  | .span _ => true
  | .uzoley _ => true
  | _ => false

def isMemory : TestUnit → Bool
  | .channel _ => true
  | .stack _ => true
  | _ => false

/-- The unit of a well-formed request; none is BADREQ (R478). A CANCEL with UNITTYPE 0 names FULL.
(DEDUCED, log entry 113) -/
def requestUnit (w : Word) : Option TestUnit :=
  let u := unitOf (tqType w) (tqUnit w)
  if tqTest w = tcLoopback then u.filter (fun u => isPort u && depthListed u (tqDepth w) && tqDuration w != 0)
  else if tqTest w = tcMembist then u.filter isMemory
  else if tqTest w = tcFull then some .full
  else if tqTest w = tcCancel then (if tqType w = utModule ∧ tqUnit w = 0 then some .full else u)
  else none

/-! ### What a request must meet (R478, R479) -/

/-- An entry waits or is in progress at a Granary engine. -/
def State.grnEntries (s : State) (j : Nat) : Bool :=
  (s.engine j).resilver.isSome || !(s.waitingEntries (engGrn j)).isEmpty

/-- The unit is isolated (R479). -/
def State.isolated (s : State) : TestUnit → Bool
  | .site p => s.portRefs p == 0 && s.drainedPort p
  | .span x =>
    let p := spanPort x
    s.portRefs p == 0 && (List.range 8).all (fun v => (s.equeue p v).isEmpty) && (s.copiesOf p).isEmpty
  | .channel j =>
    (s.channelBindings j).isEmpty && !s.grnEntries j
      && !s.tbl.entries.any (fun x => x.1 / 65536 == 3 && x.1 % 16 == j.val && tblBits x.2.data 0 63 63 == 1)
  | .uzoley k => (List.range 8).all (fun i => !(s.session k i).opened)
  | .stack _ => false
  | .core _ => false
  | .full => true

/-- The module state or the unit's own forbids the test. -/
def State.testState (s : State) (src : Source) (w : Word) (u : TestUnit) : Bool :=
  match u with
  | .full => s.mode != stLaidUp
  | .site p => tqDepth w == 4 && s.pathState p != 2
  | .channel j => tqWrite w && !(s.channelBindings j).isEmpty
  | .uzoley k => (sourceSession src).any (fun x => x.1 == k.val)
  | _ => false

/-- FULL tests every unit but the Uzoley ports. (DEDUCED, log entry 113) -/
def inFull : TestUnit → Bool
  | .uzoley _ => false
  | _ => true

/-- Two tests share a unit. (DEDUCED, log entry 113) -/
def sharesUnit (a b : TestUnit) : Bool := a == b || (a == .full && inFull b) || (b == .full && inFull a)

/-- The tables with the changes of this event tick that still wait (R488). (DESIGN CHOICE, log entry 133) -/
def State.soonTables (s : State) : State :=
  s.changesNow.foldl (fun (s : State) c => s.setEntry c.1 c.2.1 { gen := 0, data := c.2.2 }) s

/-- The refusal of a request that names unit `u`; 0 when it is accepted. A table write of the same tick comes first (R488).
(DEDUCED, log entry 113) -/
def State.testStatus (s : State) (src : Source) (w : Word) (u : TestUnit) : Nat :=
  if s.testState src w u then teState
  else if s.test.runs.any (fun r => sharesUnit r.u u) then teInuse
  else if s.carries && !s.soonTables.isolated u then teBusy
  else 0

/-! ### What a test does to its unit -/

/-- The frame of REMOTE that asks the far end to loop, or ends the loop (R482). (DESIGN CHOICE, log entry 124) -/
def State.loopFrame (s : State) (subk : Byte) (payload : List Byte) : Frame :=
  { kind := kTest, vc := 7, flags := flSrcmod, plen := BitVec.ofNat 13 payload.length, src := s.modnum.setWidth 20, subk := subk,
    payload := payload }

/-- A loop-back test starts. (DEDUCED, log entry 113; DESIGN CHOICE, log entry 124) -/
def State.loopStart (s : State) (u : TestUnit) (w : Word) : State :=
  let d := tqDepth w
  match u with
  | .uzoley k => if leavesUp u d then s.setFld (Reg.UZP_STAT k) ⟨0, 4⟩ pDark else s
  | _ =>
    match unitPort u with
    | none => s
    | some p =>
      let s := if leavesUp u d ∧ s.portState p ≠ pDark then (if isSpan p then s.darkLink p else s.goDark p) else s
      let s := if isSpan p ∧ d = 4 then s.emit (.cmis (p - 512) 3) else if isSpan p ∧ d = 5 then s.emit (.cmis (p - 512) 4) else s
      let s := if ¬isSpan p ∧ d = 5 then s.originate qBosun (s.loopFrame 2 (beBytes 4 (tqDuration w))) [.port p] .none else s
      s.emit (.pattern p true)

/-- A span port whose pluggable kept its data path starts again from ALIGN (R89, R481). -/
def State.spanRestarts (s : State) (x : Nat) : State :=
  if s.portState (spanPort x) = pDark ∧ s.present x ∧ (s.reg (Reg.CL_SX_CTL x)).getLsbD 0 ∧ (s.cmis x).step = 0
      ∧ s.fld (Reg.CL_SX_CMIS_STAT x) Fld.CL_SX_CMIS_STAT_DPSTATE = 4 ∧ s.mode ≠ stLaidUp then
    s.setPortState (spanPort x) pAlign
  else s

/-- A loop-back test ends: the port starts again, or the loop at the far end does (R481, R482).
(DEDUCED, log entry 113; DESIGN CHOICE, log entry 124) -/
def State.loopEnd (s : State) (u : TestUnit) (d : Nat) : State :=
  match u with
  | .uzoley k => if leavesUp u d then s.setFld (Reg.UZP_STAT k) ⟨0, 4⟩ pDetect else s
  | _ =>
    match unitPort u with
    | none => s
    | some p =>
      let s := s.emit (.pattern p false)
      let s := if ¬isSpan p ∧ d = 5 then s.originate qBosun (s.loopFrame 3 []) [.port p] .none else s
      let s := if isSpan p ∧ 4 ≤ d then s.emit (.cmis (p - 512) 5) else s
      if leavesUp u d then (if isSpan p then s.spanRestarts (p - 512) else s.leaveDark p) else s

/-- A WRITE test of a channel leaves what a cold boot writes (R285, R483): contents and journal are gone.
(DEDUCED, log entry 113) -/
def State.wipeChannel (s : State) (j : Nat) : State :=
  let other := fun (a : Nat) => addrChan a != j
  let s := s.onGrn (fun g => { g with
    mem := g.mem.filter (fun c => other c.1)
    ver := keepKeys (fun b => other (256 * b)) g.ver
    bad := keepKeys (fun b => other (256 * b)) g.bad
    bindings := keepKeys (fun k => k / 64 != j) g.bindings })
  s.onMa (fun a => { a with journal := keepKeys (fun k => k != j) a.journal })

/-- A memory test, or the memory tests of FULL, have written their channel. -/
def State.memoryEnd (s : State) (u : TestUnit) (w : Word) : State :=
  match u with
  | .channel j => if tqWrite w then s.wipeChannel j else s
  | .full => (List.range 16).foldl (fun (s : State) j => if (s.channelBindings j).isEmpty then s.wipeChannel j else s) s
  | _ => s

/-- The unit is left as the test's end leaves it. -/
def State.restoreUnit (s : State) (r : TestRun) : State :=
  if tqTest r.req = tcLoopback then s.loopEnd r.u (tqDepth r.req) else s.memoryEnd r.u r.req

/-- A failed WRITE test of a channel: the module is to be replaced (R483). -/
def State.writeFailed (s : State) (j : Nat) : State :=
  s.faultRecord { unitType := utGranary, unit := j, register := 1, action := 7, flags := 1, detail := s.reg (Reg.GRN_EVT j) }

/-! ### Requests -/

/-- A test starts, or its request is refused with a record (R477, R478). -/
def State.testStart (s : State) (src : Source) (w : Word) : State :=
  match requestUnit w with
  | none => s.testRecord w teBadreq (tqType w) (tqUnit w) 0
  | some u =>
    let st := s.testStatus src w u
    if st ≠ 0 then s.testRecord w st (tqType w) (tqUnit w) 0
    else
      let s := s.onTest (fun t => { t with runs := t.runs ++ [{ u := u, req := w, startAt := s.tick }] })
      if tqTest w = tcLoopback then s.loopStart u w else s

/-- The runs that a test leaves when unit `u`'s ends. -/
def State.dropRun (s : State) (u : TestUnit) : State :=
  s.onTest (fun t => { t with runs := t.runs.filter (fun r => r.u != u) })

/-- A loop-back has run for its DURATION; another test ends when it has done its work. -/
def State.testOver (s : State) (r : TestRun) : Bool :=
  s.awake && (tqTest r.req != tcLoopback || s.since r.startAt (msTicks (tqDuration r.req)))

/-- The test ends in this event tick, and its result stands beside a CANCEL (R488). (DESIGN CHOICE, log entry 133) -/
def State.endsNow (s : State) (r : TestRun) : Bool :=
  s.testOver r && s.alsoNow (fun i => match i with
    | .testEnd u _ _ => u == r.u
    | _ => false)

/-- CANCEL ends the test that runs on the unit it names. (DEDUCED, log entry 113) -/
def State.testCancel (s : State) (w : Word) : State :=
  match requestUnit w with
  | none => s.testRecord w teBadreq (tqType w) (tqUnit w) 0
  | some u =>
    match s.test.runs.find? (fun r => r.u == u) with
    | some r =>
      if s.endsNow r then s
      else ((s.dropRun u).restoreUnit r).testRecord r.req teCancelled (testUnit u).1 (testUnit u).2 0
    | none => s

/-- A write of WCH_TSTREQ. -/
def State.testWrite (s : State) (src : Source) (w : Word) : State :=
  if tqTest w = tcCancel then s.testCancel w else s.testStart src w

/-- A LOOPBACK request. -/
def execTestLoopback (src : Source) (val : Word) (s : State) : Out :=
  if s.mayWrite src ∧ tqTest val = tcLoopback then .next (s.testWrite src val) else .next s

/-- A MEMBIST request. -/
def execTestMembist (src : Source) (val : Word) (s : State) : Out :=
  if s.mayWrite src ∧ tqTest val = tcMembist then .next (s.testWrite src val) else .next s

/-- A FULL request. -/
def execTestFull (src : Source) (val : Word) (s : State) : Out :=
  if s.mayWrite src ∧ tqTest val = tcFull then .next (s.testWrite src val) else .next s

/-- A CANCEL request. -/
def execTestCancel (src : Source) (val : Word) (s : State) : Out :=
  if s.mayWrite src ∧ tqTest val = tcCancel then .next (s.testWrite src val) else .next s

/-! ### The end of a test -/

/-- The self-checks of FULL: a DISABLED core that passes returns to IDLE, one that fails is disabled (R231, R485). -/
def State.coresChecked (s : State) (failed : List TestUnit) : State :=
  let s := s.mill.cores.foldl (fun (s : State) x =>
    if x.2.st = coDisabled && !failed.any (fun u => testUnit u == (utCore, x.1)) then
      s.setCore (x.1 / 96) (x.1 % 96) { x.2.zero with
        st := coIdle
        wakeAt := none
        fresh := true
        idleAt := s.tick }
    else s) s
  failed.foldl (fun (s : State) u =>
    match u with
    | .core k => if (s.core (k.val / 96) (k.val % 96)).st = coDisabled then s else s.coreDisabled (k.val / 96) (k.val % 96)
    | _ => s) s

/-- The bad blocks of a channel. -/
def State.badBlocks (s : State) (j : Nat) : List Nat :=
  (s.grn.bad.filter (fun x => addrChan (256 * x.1) == j && x.2 != 0)).map (fun x => x.1)

/-- READ of a channel logs each bad block as the patrol does (R483). (DEDUCED, log entry 113) -/
def State.readChannel (s : State) (j : Nat) : State := (s.badBlocks j).foldl (fun (s : State) b => s.tagFail b 3) s

/-- The parts of FULL that fail: those found, and a bound channel with a bad block. -/
def State.fullFailed (s : State) (failed : List TestUnit) : List TestUnit :=
  failed ++ ((List.finRange 16).filter (fun (j : Fin 16) => !(s.channelBindings j).isEmpty && !(s.badBlocks j).isEmpty
    && !failed.contains (TestUnit.channel j))).map TestUnit.channel

/-- FULL ends: PASS sets TESTED, FAIL writes a record for each failed part (R485). -/
def State.fullEnd (s : State) (r : TestRun) (failed : List TestUnit) : State :=
  let failed := s.fullFailed failed
  let s := s.coresChecked failed
  let s := (List.range 16).foldl (fun (s : State) j => if (s.channelBindings j).isEmpty then s else s.readChannel j) s
  let s := failed.foldl (fun (s : State) u =>
    let s := match u with
      | .channel j => if (s.channelBindings j).isEmpty then s.writeFailed j else s
      | _ => s
    s.testRecord r.req teFail (testUnit u).1 (testUnit u).2 0) s
  let s := s.restoreUnit r
  let s := if failed.isEmpty && s.mode == stLaidUp then s.setFld Reg.WCH_ESC Fld.WCH_ESC_TESTED 1 else s
  s.testRecord r.req (if failed.isEmpty then tePass else teFail) (testUnit r.u).1 (testUnit r.u).2 failed.length

/-- A test on one unit ends. -/
def State.unitEnd (s : State) (r : TestRun) (errors : Nat) : State :=
  let errors := match r.u with
    | .channel j => if tqWrite r.req then errors else max errors (s.badBlocks j).length
    | _ => errors
  let s := s.restoreUnit r
  let s := match r.u with
    | .channel j => if !tqWrite r.req then s.readChannel j else if errors != 0 then s.writeFailed j else s
    | _ => s
  s.testRecord r.req (if errors = 0 then tePass else teFail) (testUnit r.u).1 (testUnit r.u).2 errors

/-- A test ends; a loop-back runs for its DURATION. (DESIGN CHOICE, log entries 122 and 124) -/
def execTestEnd (u : TestUnit) (errors : BitVec 16) (failed : List TestUnit) (s : State) : Out :=
  match s.test.runs.find? (fun r => r.u == u) with
  | none => .next s
  | some r =>
    if !s.testOver r then .next s
    else if u = .full then .next ((s.dropRun u).fullEnd r failed)
    else .next ((s.dropRun u).unitEnd r errors.toNat)

/-- No PATTERN frame has returned within 10 ms of a REMOTE test's start (R482). (DESIGN CHOICE, log entry 124) -/
def execRemoteNoReturn (u : TestUnit) (s : State) : Out :=
  match u, s.test.runs.find? (fun r => r.u == u) with
  | .site p, some r =>
    if s.awake ∧ tqTest r.req = tcLoopback ∧ tqDepth r.req = 5 ∧ s.since r.startAt (msTicks 10) then
      .next (((s.dropRun u).emit (.pattern p false)).testRecord r.req teFail utSite p 0xFFFF)
    else .next s
  | _, _ => .next s

/-! ### Margins (R487) -/

/-- A pre-spare of the laser waits in this event tick, and its measurement is abandoned (R488).
(DESIGN CHOICE, log entry 133) -/
def State.prespareNow (s : State) (g w : Nat) : Bool :=
  s.alsoNow (fun i => match i with
    | .prespare g' w' power => g'.val == g && w'.val == w && s.laserFld g w Fld.CL_OE_LASER_SOURCE == 0
        && s.laserFld g w Fld.CL_OE_LASER_STATE == 0 && decide (power.toInt ≤ -150)
    | _ => false)

/-- One measurement; a spare laser in use is not biased. -/
def State.margin (s : State) (x : Margin) : State :=
  let m := x.m.val
  if m < 34 then
    let s := s.setReg (Reg.WCH_MG m) (pack [(Fld.WCH_MG_VALID, 1), (Fld.WCH_MG_LANE, x.lane.toNat),
      (Fld.WCH_MG_EYEH, x.hi.toNat), (Fld.WCH_MG_EYEW, x.lo.toNat % 256)])
    if x.hi.toNat < s.fld Reg.WCH_MGCTL Fld.WCH_MGCTL_EYEMIN then s.setBits Reg.WCH_TSTEVT 8 else s
  else if m < 64 then s
  else
    let g := (m - 64) / 4
    let spare := if s.laserFld g (m % 4) Fld.CL_OE_LASER_SPARE = 0 ∧ s.prespareNow g (m % 4) = false then x.lo.toNat else 0
    s.setReg (Reg.WCH_MG m) (pack [(Fld.WCH_MG_VALID, 1), (Fld.WCH_MG_EYEH, x.hi.toNat), (Fld.WCH_MG_EYEW, spare)])

/-- INTERVAL seconds have passed. -/
def execMarginMeasure (ms : List Margin) (s : State) : Out :=
  if s.awake ∧ s.flag Reg.WCH_MGCTL Fld.WCH_MGCTL_ENABLE
      ∧ s.since s.test.marginAt (secTicks (max 1 (s.fld Reg.WCH_MGCTL Fld.WCH_MGCTL_INTERVAL))) then
    .next (ms.foldl (fun (s : State) x => s.margin x) (s.onTest (fun t => { t with marginAt := s.tick })))
  else .next s

/-! ### Boundary scan (R486) -/

/-- The instruction that the TAP takes up: 0 BYPASS, 1 IDCODE, 2 SAMPLE, 3 EXTEST, 4 EXTEST_PULSE, 5 EXTEST_TRAIN.
(DESIGN CHOICE, log entry 114) -/
def tapCode (laid : Bool) : TapInstr → Nat
  | .bypass => 0
  | .idcode => 1
  | .sample => 2
  | .extest => if laid then 3 else 0
  | .extestPulse => if laid then 4 else 0
  | .extestTrain => if laid then 5 else 0
  | .other _ => 0

/-- DESIGN CHOICE, log entry 114. -/
def execTapInstruction (i : TapInstr) (s : State) : Out :=
  .next (s.onWatch (fun w => { w with tap := tapCode (s.mode == stLaidUp) i }))

end Sys2Proof.Machine
end

