-- ==== Sys2Proof/Machine/Bus.lean ====
section
/-! DEFINITION. Register accesses (R5, R7 to R10, R15): a write reaches the action of its register or sets the
bits that its access code lets it; a read shows the register and clears an RC one. -/

namespace Sys2Proof.Machine

/-! ### Writes -/

/-- The state that a command answers; the rows used here always answer one. -/
def State.run (s : State) (f : State → Out) : State :=
  match f s with
  | .next t => t
  | .fault _ => s
  | .refused _ => s

/-- A field of a register changes by a write. -/
def changes (old val : Word) (f : Fld) : Bool := f.get old != f.get val

/-- DRAIN, FORCE and RESUME in bits 0 to 2 of a command register. -/
def State.engineCmd (s : State) (val : Word) (drain force resume : State → Out) : State :=
  let s := if val.getLsbD 0 then s.run drain else s
  let s := if val.getLsbD 1 then s.run force else s
  if val.getLsbD 2 then s.run resume else s

/-- A write of WCH_STATECMD; a value with no command is refused. (DEDUCED, log entry 62) -/
def State.stateCmd (s : State) (src : Source) (val : Word) : State :=
  match val.toNat % 8 with
  | 1 => s.doWake
  | 2 => s.doSleep
  | 3 => s.doAdmit
  | 4 => s.doDrain
  | 5 => s.doLayup
  | 6 => s.doUnlay src
  | _ => s.cmdStat csRefused

/-- A write of WCH_FRTAIL or WCH_EVTAIL: the records up to the new index have been read. (DEDUCED, log entry 27) -/
def State.logTail (s : State) (tail head size val : Nat) (f : Watch → Nat → Watch) : State :=
  let t := val % size
  if t = s.fld tail ⟨0, 12⟩ then s
  else (s.setReg tail (BitVec.ofNat 64 t)).onWatch (fun w => f w ((s.fld head ⟨0, 12⟩ + size - t) % size))

/-- The Uzoley link is down (R409). -/
def State.uzoleyDown (s : State) (k : Nat) : State :=
  let up := s.fld (Reg.UZP_STAT k) ⟨0, 4⟩ == pUp
  let s := s.setFld (Reg.UZP_STAT k) ⟨0, 4⟩ pDark
  if up then (s.raise (Reg.UZP_EVT k) 0 6 srcUzoley).score (568 + k) 4096 else s

/-- Registers of the Watch block. -/
def State.writeWatch (s : State) (src : Source) (b off : Nat) (val : Word) : State :=
  if b = Reg.WCH_STATECMD then s.stateCmd src val
  else if b = Reg.WCH_WDOG then s.pet val
  else if b = Reg.WCH_RESETREQ then s.resetWrite src val
  else if b = Reg.WCH_BOSPWR then s.bospwrWrite val.toNat
  else if b = Reg.WCH_THERM then s.thermWrite val
  else if b = Reg.WCH_ESC then (s.writeReg off val).ageOut .countedResets
  else if b = Reg.WCH_FRTAIL then
    s.logTail Reg.WCH_FRTAIL Reg.WCH_FRHEAD 1024 val.toNat (fun w n => { w with frUnread := n })
  else if b = Reg.WCH_EVTAIL then
    s.logTail Reg.WCH_EVTAIL Reg.WCH_EVHEAD 4096 val.toNat (fun w n => { w with evUnread := n })
  else if b = Reg.WCH_FSCLR then s.fsclr val
  else if b = Reg.WCH_TSTREQ then s.testWrite src val
  else if b = Reg.WCH_TSTTAIL then s.ringTail .tst val.toNat
  else s.writeReg off val

/-- Registers of the Bosun block. -/
def State.writeBosun (s : State) (src : Source) (b off i : Nat) (val : Word) : State :=
  if b = Reg.BIC_DONE 0 then s.complete i (val.toNat % 1024)
  else if b = Reg.BIC_PEND 0 then s.clearPending i val
  else if b = Reg.BIC_WMASK 0 then s.wmaskWrite i val
  else if b = Reg.MBX_SEND then s.run (execMbxSend src (Fin.ofNat 64 val.toNat))
  else if b = Reg.MBX_ACK then s.run (execMbxAck src (Fin.ofNat 64 (bitsOf val.toNat 21 16)) (val.setWidth 16))
  else s.writeReg off val

/-- A write of CL_SP_CTL. -/
def State.writeSpCtl (s : State) (p : Fin 512) (val : Word) : State :=
  let old := s.reg (Reg.CL_SP_CTL p)
  let s := if changes old val Fld.CL_SP_CTL_REEFHOLD then s.run (execReefholdWrite p (Fld.CL_SP_CTL_REEFHOLD.get val == 1)) else s
  let s := if changes old val Fld.CL_SP_CTL_TXALLOW then
    s.run (execTxallowWrite p (BitVec.ofNat 4 (Fld.CL_SP_CTL_TXALLOW.get val))) else s
  s.run (execSitePortEnable p (val.getLsbD 0))

/-- A write of CL_SX_CTL. -/
def State.writeSxCtl (s : State) (x : Fin 32) (val : Word) : State :=
  let k := Reg.CL_SX_CTL x
  let keep := Fld.CL_SX_CTL_ENABLE.put (s.fld k Fld.CL_SX_CTL_ENABLE) val
  (s.writeReg k keep).run (execSpanPortEnable x (val.getLsbD 0))

/-- A write of DSP_CORECMD. -/
def State.coreCommand (s : State) (n : Fin 16) (val : Word) : State :=
  let c := val.toNat % 128
  if h : c < 96 then
    match bitsOf val.toNat 10 8 with
    | 1 => s.run (execCoreReset n ⟨c, h⟩)
    | 2 => s.run (execCoreDisable n ⟨c, h⟩)
    | 3 => s.run (execCoreEnable n ⟨c, h⟩)
    | 4 => s.run (execCoreInject n ⟨c, h⟩)
    | _ => s
  else s

/-- The port of egress index `i` of cluster `n`. -/
def egressPort (n i : Nat) : Nat := if i < 32 then 32 * n + i else 512 + 2 * n + (i - 32)

/-- Registers of a cluster. -/
def State.writeCluster (s : State) (b off n i j : Nat) (val : Word) : State :=
  let nf : Fin 16 := Fin.ofNat 16 n
  let site : Fin 512 := Fin.ofNat 512 (32 * n + i)
  let span : Fin 32 := Fin.ofNat 32 (2 * n + i)
  let port : Fin 544 := Fin.ofNat 544 (egressPort n i)
  if b = Reg.CL_SP_CTL 0 then s.writeSpCtl site val
  else if b = Reg.CL_SP_CMD 0 then (if val.getLsbD 0 then s.run (execSiteRetrain site) else s)
  else if b = Reg.CL_OE_CTL 0 then s.writeEngineCtl (4 * n + i) val
  else if b = Reg.CL_SX_CTL 0 then s.writeSxCtl span val
  else if b = Reg.CL_SX_CMD 0 then (if val.getLsbD 0 then s.run (execSpanRetrain span) else s)
  else if b = Reg.CL_SX_CMIS_CMD 0 then s.run (execCmisCmd span val)
  else if b = Reg.CL_EG_CTL 0 then s.writeEgCtl port val
  else if b = Reg.CL_EG_GCL 0 0 then s.writeGcl port j val
  else if b = Reg.CL_EG_SHAPE 0 0 then s.run (execShaperWrite port (Fin.ofNat 8 j) val)
  else if b = Reg.DSP_CMD 0 then s.engineCmd val (execDspDrain nf) (execDspForce nf) (execDspResume nf)
  else if b = Reg.DSP_CRTAIL 0 then s.ringTail (.dsp nf) val.toNat
  else if b = Reg.DSP_CORECMD 0 then s.coreCommand nf val
  else s.writeReg off val

/-- Registers of the Granary, the Loft and Svetna. -/
def State.writeStores (s : State) (b off i : Nat) (val : Word) : State :=
  let j : Fin 16 := Fin.ofNat 16 i
  if b = Reg.GRN_CMD 0 then
    let s := s.engineCmd val (execGrnDrain j) (execGrnForce j) (execGrnResume j)
    if val.getLsbD 3 then s.run (execGrnReset j) else s
  else if b = Reg.GRN_CRTAIL 0 then s.ringTail (.grn j) val.toNat
  else if b = Reg.LFT_PART then s.run (execLftPartWrite val)
  else if b = Reg.LFT_CN_CTL then s.cnWrite val
  else if b = Reg.LFT_DMP_CMD then s.engineCmd val execDmpDrain execDmpForce execDmpResume
  else if b = Reg.LFT_DMP_CRTAIL then s.ringTail .dmp val.toNat
  else if b = Reg.SVB_CMD then s.engineCmd val execSvbDrain execSvbForce execSvbResume
  else if b = Reg.SVB_CRTAIL then s.ringTail .svb val.toNat
  else s.writeReg off val

/-- Registers of the tables and sheaves. -/
def State.writeTables (s : State) (src : Source) (b off i j : Nat) (val : Word) : State :=
  if b = Reg.TBL_CMD 0 then s.tblCommand src i (Fld.TBL_CMD_OP.get val) val
  else if b = Reg.TBL_DATA 0 0 then s.tblDataWrite src i j val
  else if b = Reg.TBL_QCTL then s.engineCmd val execTblDrain execTblForce execTblResume
  else if b = Reg.TBL_CRTAIL then s.ringTail .tbl val.toNat
  else if b = Reg.TBL_SH_CMD then
    (match Fld.TBL_SH_CMD_OP.get val with
    | 0 => s.run (execShBegin src val)
    | 1 => s.run (execShCommit src val)
    | 2 => s.run (execShAbort src val)
    | _ => s.run (execShStage src val))
  else s.writeReg off val

/-- Registers of time, telemetry and security. -/
def State.writeRest (s : State) (src : Source) (b off i j : Nat) (val : Word) : State :=
  if b = Reg.TIM_SET then s.run (execTimSet val)
  else if b = Reg.TEL_CTL then
    let s := s.freeze (val.getLsbD 0)
    if val.getLsbD 1 then s.askSnap else s
  else if b = Reg.TEL_BWWIN then s.bwwin (val.setWidth 20)
  else if b = Reg.TEL_TAG_CTL then s.tagWrite val
  else if b = Reg.TEL_CSEL 0 0 then s.cselWrite i j val
  else if b = Reg.TEL_CNT 0 0 then s.cntWrite i j val
  else if b = Reg.SEC_BKCMD then (if isSession src && val.getLsbD 0 then s.loadKey else s)
  else if b = Reg.SEC_BKEY 0 then (if isSession src then s.setReg off val else s)
  else if b = Reg.SEC_SLOT 0 then s.confWrite src i (val.getLsbD 63)
  else if b = Reg.SEC_SCR_CMD then s.engineCmd val execScrDrain execScrForce execScrResume
  else if b = Reg.SEC_SCR_CRTAIL then s.ringTail .scr val.toNat
  else s.writeReg off val

/-- A write of the register at an offset; where none exists there is no effect (R10).
(DESIGN CHOICE, log entry 22) -/
def State.busWrite (s : State) (src : Source) (off : Nat) (val : Word) : State :=
  match regRow off with
  | none => s
  | some r =>
    let ix := r.place off
    let at_ := fun (i : Nat) => ix.getD i 0
    match off / 0x1000000 with
    | 0 => s.writeWatch src r.base off val
    | 1 => s.writeBosun src r.base (viewKey src r off) (at_ 0) val
    | 2 => if r.base = Reg.UZP_CTL 0 ∧ val.getLsbD 0 = false then (s.writeReg off val).uzoleyDown (at_ 0) else s.writeReg off val
    | 4 => s.writeCluster r.base off (at_ 0) (at_ 1) (at_ 2) val
    | 6 => s.writeStores r.base off (at_ 0) val
    | 7 => s.writeStores r.base off (at_ 0) val
    | 8 => s.writeStores r.base off (at_ 0) val
    | 9 => s.writeTables src r.base off (at_ 0) (at_ 1) val
    | _ => s.writeRest src r.base off (at_ 0) (at_ 1) val

/-- Status of an access: 0 OK, 1 ADDRESS (R10, R418). -/
def accessStatusOf (off : Nat) : Nat := if (regRow off).isSome then 0 else 1

/-- A register write. (DESIGN CHOICE, log entry 3) -/
def execRegisterWrite (src : Source) (off : BitVec 32) (val : Word) (s : State) : Out :=
  if s.mayWrite src then .next ((s.busWrite src off.toNat val).answer 0 (accessStatusOf off.toNat)) else .next s

/-- Firmware advances a completion ring's CRTAIL. -/
def execCrtailWrite (ring : Ring) (idx : Byte) (s : State) : Out :=
  if s.awake then .next (s.ringTail ring idx.toNat) else .next s

/-! ### Reads -/

/-- The counters kept by context clear where they are kept (R200, R279). -/
def State.clearCtx (s : State) (n i : Nat) (ar : Bool) : State :=
  match s.ctxKey n i with
  | none => s
  | some k =>
    if ar then s.onRed (fun r => { r with arCnt := SMap.put 0 r.arCnt k 0 })
    else s.onRed (fun r => { r with ctxCnt := SMap.put 0 r.ctxCnt k 0 })

/-- What a read does beside showing the register: an RC register clears, BIC_CLAIM claims, DSP_PSADDR rises. -/
def State.readEffect (s : State) (r : RegRow) (off : Nat) : State :=
  let ix := r.place off
  let n := ix.getD 0 0
  let i := ix.getD 1 0
  if r.base = Reg.BIC_CLAIM 0 then s.claim n
  else if r.base = Reg.CL_RD_CTXCNT 0 0 then s.clearCtx n i false
  else if r.base = Reg.CL_AR_CNT 0 0 then s.clearCtx n i true
  else if r.base = Reg.DSP_PSDATA 0 then
    s.setReg (Reg.DSP_PSADDR n) (BitVec.ofNat 64 ((s.fld (Reg.DSP_PSADDR n) ⟨0, 15⟩ + 1) % 32768))
  else if isFecCounter r.base then (s.setReg off 0).onPort (fun p => { p with fecAt := SMap.put 0 p.fecAt off s.tick })
  else if r.rc then s.setReg off 0
  else s

/-- What a tenant session reads: its slot's counters and TEL_PWRT; any other register answers ADDRESS (R370, R371). -/
def State.tenantRead (s : State) (k i off : Nat) : Word × Nat :=
  let slot := s.slotOf (s.session k i).job.toNat
  match regRow off with
  | none => (0, 1)
  | some r =>
    if r.base = Reg.TEL_PWRT then (s.reg Reg.TEL_PWRT, 0)
    else if r.base = Reg.TEL_CNT 0 0 then
      let set := (r.place off).getD 0 0
      let c := (r.place off).getD 1 0
      let w := s.reg (Reg.TEL_CSEL set c)
      if Fld.TEL_CSEL_TENANT.get w = 1 ∧ slot = some (Fld.TEL_CSEL_SLOT.get w) then (s.tenantReads slot set c, 0) else (0, 1)
    else (0, 1)

/-- A read of the register at an offset: value, status, and the state after. (DESIGN CHOICE, log entry 22) -/
def State.busRead (s : State) (src : Source) (off : Nat) : Word × Nat × State :=
  match sourceSession src, s.tenantSource src with
  | some (k, i), true =>
    let (v, st) := s.tenantRead k i off
    (v, st, s)
  | _, _ =>
    match regRow off with
    | none => (0, 1, s)
    | some r =>
      let (v, s) := s.view src r off
      (v, 0, s.readEffect r off)

/-- An event in the cycle of the read applies after the clear: the counter holds 1, CL_QMAX the sample of that cycle (R9).
(DEDUCED, log entry 24) -/
def State.readEvent (s : State) (r : RegRow) (off : Nat) : State :=
  let n := (r.place off).getD 0 0
  let i := (r.place off).getD 1 0
  let one := fun (m : SMap Nat) => match s.ctxKey n i with
    | some k => SMap.put 0 m k 1
    | none => m
  if r.base = Reg.CL_RD_CTXCNT 0 0 then s.onRed (fun x => { x with ctxCnt := one x.ctxCnt })
  else if r.base = Reg.CL_AR_CNT 0 0 then s.onRed (fun x => { x with arCnt := one x.arCnt })
  else if r.base = Reg.CL_QMAX 0 0 then s.sampleQueue n i
  else if r.rc && r.base != Reg.BIC_CLAIM 0 then s.setReg off 1
  else s

/-- A read of an RC field; an event in the same cycle applies after the clear (R9).
(DESIGN CHOICE, log entry 3; DEDUCED, log entry 24) -/
def execRcFieldRead (src : Source) (off : BitVec 32) (event : Bool) (s : State) : Out :=
  if s.mayRead src then
    let (v, st, s) := s.busRead src off.toNat
    let s := match regRow off.toNat with
      | some r => if event && !s.tenantSource src then s.readEvent r off.toNat else s
      | none => s
    .next (s.answer v st)
  else .next s

end Sys2Proof.Machine
end

