-- ==== Sys2Proof/Machine/ControlLink.lean ====
section
/-! DEFINITION. The control link (R408 to R428): command packets and their completions, sessions, register
batches, command lists and bulk data, subscriptions, quotes (R432 to R434), resets, broadcasts from the root, and
firmware staging and activation. -/

namespace Sys2Proof.Machine

/-! ### Packets (R410, R411) -/

/-- COMPLETION STATUS. -/
def psOk : Nat := 0
def psBadpacket : Nat := 1
def psDenied : Nat := 2
def psState : Nat := 3
def psQueuefull : Nat := 4
def psOwned : Nat := 5
def psPartial : Nat := 6
def psRefused : Nat := 7
def psVerify : Nat := 8

/-- Bytes `i` to `i + n - 1` of a packet's ARG as a number. -/
def argNat (p : Packet) (i n : Nat) : Nat := p.arg.toNat / 2 ^ (8 * (28 - i - n)) % 2 ^ (8 * n)

/-- ARG is zero from byte `i` on. -/
def argEnds (p : Packet) (i : Nat) : Bool := argNat p i (28 - i) == 0

/-- The header of a packet to the module keeps R410. -/
def headerGood (p : Packet) : Bool :=
  p.ver == 1 && p.flags == 0 && p.status == 0 && p.plen.toNat == p.payload.length && decide (p.payload.length ≤ 65536)

/-- KINDs that a node sends. -/
def kindListed (k : Nat) : Bool := decide (1 ≤ k ∧ k ≤ 3) || decide (0x10 ≤ k ∧ k ≤ 0x19)

/-- A packet arrives: its link is UP. (DEDUCED, log entry 108) -/
def State.packetIn (s : State) (k : Nat) : State :=
  let s := if s.fld (Reg.UZP_STAT k) ⟨0, 4⟩ = pUp then s
    else (s.setFld (Reg.UZP_STAT k) ⟨0, 4⟩ pUp).raise (Reg.UZP_EVT k) 1 11 srcUzoley
  s.bump (Reg.UZP_CNT k 0) 1

/-- Send a COMPLETION and keep it among the last 64 (R416). -/
def State.completion (s : State) (k i : Nat) (q : BitVec 64) (tag : BitVec 16) (status : Nat) (payload : List Byte) : State :=
  let x := s.session k i
  if x.opened then
    let c : Packet := { kind := 0x90, tag := tag, status := BitVec.ofNat 8 status, plen := BitVec.ofNat 32 payload.length,
                        arg := packetArg (beBytes 8 q.toNat), payload := payload }
    (s.setSession k i { x with cache := (c :: x.cache).take 64 }).sendPacket k i c
  else s

/-- Send a packet of session 0. -/
def State.sendPlain (s : State) (k : Nat) (p : Packet) : State := (s.emit (.packet k p)).bump (Reg.UZP_CNT k 1) 1

/-- BADPACKET to a packet that no session holds (R411). (DEDUCED, log entry 108) -/
def State.sendBad (s : State) (k : Nat) (p : Packet) : State :=
  s.sendPlain k { kind := 0x90, tag := p.tag, status := BitVec.ofNat 8 psBadpacket, arg := packetArg (beBytes 8 p.seq.toNat) }

/-- The completion of a packet. (DEDUCED, log entry 108) -/
def State.answered (s : State) (k i : Nat) (p : Packet) (status : Nat) (payload : List Byte) : State :=
  s.completion k i p.seq p.tag status payload

/-! ### The order of a session's packets (R415, R416) -/

/-- A packet whose GCM tag fails is discarded; the third within 1 s closes the session.
(DESIGN CHOICE, log entry 11) -/
def State.gcmFail (s : State) (k i : Nat) : State :=
  let x := s.session k i
  let l := s.window x.gcmAt (secTicks 1)
  let s := (s.bump (Reg.UZP_CNT k 2) 1).setSession k i { x with gcmAt := l }
  if 3 ≤ l.length then s.closeSession k i else s

/-- A packet of a session arrives: the session slot it is executed in, if it is, and the state after. One that
comes while a batch of its session runs waits with its sender.
(DESIGN CHOICE, log entry 11; DEDUCED, log entries 70 and 108) -/
def State.arrive (s : State) (k : Fin 2) (p : Packet) : Option Nat × State :=
  let i := p.session.toNat - 1
  let x := s.session k i
  if !s.uzoleyUsable k then (none, s)
  else if p.session = 0 ∨ 8 < p.session.toNat then (none, (s.packetIn k).sendBad k p)
  else if !x.opened then (none, s.packetIn k)
  else if x.batch.isSome then (none, s)
  else
    let s := s.packetIn k
    if !p.gcmOk then (none, s.gcmFail k i)
    else
      let s := s.setSession k i { x with lastAt := s.tick }
      if p.seq = x.seqIn + 1 then
        (some i, s.setSession k i { s.session k i with seqIn := p.seq })
      else if p.seq.toNat ≤ x.seqIn.toNat ∧ x.seqIn.toNat < p.seq.toNat + 64 ∧ p.seq ≠ 0 then
        let s := s.bump (Reg.UZP_CNT k 3) 1
        match x.cache.find? (fun c => argNat c 0 8 == p.seq.toNat) with
        | some c => (none, s.sendPacket k i c)
        | none => (none, s)
      else (none, s.bump (Reg.UZP_CNT k 4) 1)

/-- A session that has had 2^32 packets closes (R415). (DEDUCED, log entry 108) -/
def State.closeWorn (s : State) (k i : Nat) : State :=
  if 2 ^ 32 ≤ (s.session k i).seqIn.toNat then s.closeSession k i else s

/-- What a packet of a kind must keep: its form, whether a TENANT may send it, and whether the security core answers
it without Bosun firmware (R413, R435). -/
structure KindRule where
  form : Bool
  tenant : Bool := false
  core : Bool := false

/-- A packet of a session is judged, and run where nothing turns it away. (DEDUCED, log entry 108) -/
def State.packet (s : State) (k : Fin 2) (p : Packet) (rule : KindRule) (run : Nat → State → State) : Out :=
  match s.arrive k p with
  | (none, s) => .next s
  | (some i, s) =>
    let s := if !(headerGood p && rule.form) then s.answered k i p psBadpacket []
      else if !rule.core && !s.bosunUp then s.answered k i p psState []
      else if (s.session k i).tenant && !rule.tenant then s.answered k i p psDenied []
      else run i s
    .next (s.closeWorn k i)

/-! ### HELLO (R412 to R414) -/

/-- "karonaren-operator" and "karonaren-tenant-". -/
def ouOperator : List Byte :=
  [0x6B, 0x61, 0x72, 0x6F, 0x6E, 0x61, 0x72, 0x65, 0x6E, 0x2D, 0x6F, 0x70, 0x65, 0x72, 0x61, 0x74, 0x6F, 0x72]
def ouTenant : List Byte :=
  [0x6B, 0x61, 0x72, 0x6F, 0x6E, 0x61, 0x72, 0x65, 0x6E, 0x2D, 0x74, 0x65, 0x6E, 0x61, 0x6E, 0x74, 0x2D]

/-- The value of an upper-case hexadecimal digit. -/
def hexDigit (b : Byte) : Option Nat :=
  if 0x30 ≤ b.toNat ∧ b.toNat ≤ 0x39 then some (b.toNat - 0x30)
  else if 0x41 ≤ b.toNat ∧ b.toNat ≤ 0x46 then some (b.toNat - 0x37)
  else none

/-- The job number that three hexadecimal digits spell. -/
def hexJob : List Byte → Option Nat
  | [a, b, c] =>
    match hexDigit a, hexDigit b, hexDigit c with
    | some x, some y, some z => some (256 * x + 16 * y + z)
    | _, _, _ => none
  | _ => none

/-- The role of a leaf certificate: none when it names none, 0 for OPERATOR, else a TENANT's job. -/
def certRole (c : Cert) : Option Nat :=
  match c.ous with
  | [(true, v)] =>
    if v = ouOperator then some 0
    else if v.take 17 = ouTenant then (hexJob (v.drop 17)).filter (fun j => j != 0)
    else none
  | _ => none

/-- The role that a handshake names, when its chain passes every check. -/
def State.helloRole (s : State) (c : Chain) : Option Nat :=
  if c.derOk && decide (c.certs.length ≤ 3) && c.certs.all (fun x => x.sigOk && !s.watch.record.deny.contains x.serial)
      && c.rootHash == s.watch.record.oproot then
    match c.certs with
    | [] => none
    | leaf :: _ => (certRole leaf).filter (fun j => j == 0 || s.jobState j == 1)
  else none

/-- A HELLO_REPLY. (PRESUMED, log entry 109) -/
def helloReply (p : Packet) (payload : List Byte) : Packet :=
  { kind := 0x81, tag := p.tag, plen := BitVec.ofNat 32 payload.length, payload := payload }

/-- The registers of a session's own start anew with it (R503). -/
def State.clearBank (s : State) (src : Source) : State :=
  let others := fun (x : Nat) => x / 0x100000000 != sourceIndex src + 1
  { s with
    regs := keepKeys others s.regs
    tbl := { s.tbl with busy := keepKeys others s.tbl.busy } }

/-- A refused handshake. (DEDUCED, log entry 108) -/
def State.helloRefused (s : State) (k : Nat) (p : Packet) : State :=
  ((s.sendPlain k (helloReply p [])).bump (Reg.UZP_CNT k 5) 1).raise (Reg.UZP_EVT k) 2 11 srcUzoley

/-- An accepted handshake: the session opens, and mailboxes that waited for it report (R405).
(PRESUMED, log entry 109) -/
def State.helloAccepted (s : State) (k : Fin 2) (i : Fin 8) (p : Packet) (role : Nat) : State :=
  let key := Config.moduleKey s.sec.hellos
  let nonce := Config.moduleNonce s.sec.hellos
  let signed := sliceBytes p.payload 97 32 ++ sliceBytes p.payload 0 97 ++ nonce ++ key
  let s := s.onSec (fun x => { x with hellos := x.hellos + 1 })
  let s := (s.clearBank (sessionSource k i)).setSession k i
    { opened := true, tenant := role != 0, job := BitVec.ofNat 12 role, lastAt := s.tick }
  let s := s.sendPlain k (helloReply p (key ++ nonce ++ Config.ecdsaSign (Config.sha384 signed)))
  (List.range 64).foldl (fun (s : State) m =>
    if SMap.get false s.uz.owed m && s.mbxReceiver m == some (k.val, i.val) then s.mbxReport m else s) s

/-- A handshake is judged: its chain, its role, and a free session. (PRESUMED, log entry 109) -/
def State.hello (s : State) (k : Fin 2) (p : Packet) (c : Chain) : State :=
  match s.helloRole c, (List.finRange 8).find? (fun (i : Fin 8) => !(s.session k i.val).opened) with
  | some role, some i => s.helloAccepted k i p role
  | _, _ => s.helloRefused k p

/-- A HELLO; one in a session breaks R410. (DESIGN CHOICE, log entries 10, 11, 127) -/
def execHello (k : Fin 2) (p : Packet) (chain : Chain) (s : State) : Out :=
  if p.kind ≠ 0x01 then .next s
  else if p.session ≠ 0 then s.packet k p { form := false } (fun _ s => s)
  else if !s.uzoleyUsable k then .next s
  else
    let s := s.packetIn k
    if headerGood p && argEnds p 0 && p.gcmOk then .next (s.hello k p chain) else .next (s.sendBad k p)

/-! ### CLOSE and PING -/

/-- CLOSE has no COMPLETION. (DEDUCED, log entry 108) -/
def execClose (k : Fin 2) (p : Packet) (s : State) : Out :=
  if p.kind ≠ 0x02 then .next s
  else s.packet k p { form := argEnds p 0 && p.payload.isEmpty, tenant := true } (fun i s => s.closeSession k i)

/-- PING; a reserved KIND is answered here with BADPACKET. (DESIGN CHOICE, log entry 28) -/
def execPing (k : Fin 2) (p : Packet) (s : State) : Out :=
  if kindListed p.kind.toNat ∧ p.kind ≠ 0x03 then .next s
  else s.packet k p { form := p.kind == 0x03 && argEnds p 0 && p.payload.isEmpty, tenant := true }
    (fun i s => s.answered k i p psOk [])

/-! ### Register batches (R418, R419) -/

/-- Status of a batch entry. -/
def bsOk : Nat := 0
def bsDenied : Nat := 2
def bsTimeout : Nat := 3
def bsBadentry : Nat := 4
def bsSkipped : Nat := 5

/-- Fields of a batch entry. -/
def beOp (e : BitVec 128) : Nat := e.toNat / 2 ^ 120
def beFlags (e : BitVec 128) : Nat := e.toNat / 2 ^ 112 % 256
def beWait (e : BitVec 128) : Nat := e.toNat / 2 ^ 96 % 65536
def beOffset (e : BitVec 128) : Nat := e.toNat / 2 ^ 64 % 2 ^ 32
def beData (e : BitVec 128) : Word := BitVec.ofNat 64 e.toNat

/-- Keep the batch of a session. -/
def State.setBatch (s : State) (k i : Nat) (b : Option Batch) : State := s.setSession k i { s.session k i with batch := b }

/-- A REG_BATCH starts its batch. -/
def execRegBatch (k : Fin 2) (p : Packet) (s : State) : Out :=
  if p.kind ≠ 0x10 then .next s
  else
    let n := p.payload.length / 16
    s.packet k p { form := argEnds p 0 && p.payload.length % 16 == 0 && decide (1 ≤ n ∧ n ≤ 4096), tenant := true } (fun i s =>
      let entries := (List.range n).map (fun j => BitVec.ofNat 128 (natAt p.payload (16 * j) 16))
      s.setBatch k i (some { seq := p.seq, tag := p.tag, entries := entries, results := [] }))

/-- The batch of an open session. -/
def State.batchOf (s : State) (k i : Nat) : Option Batch :=
  let x := s.session k i
  if s.awake && x.opened then x.batch else none

/-- A batch ends: one result per entry, and PARTIAL unless each is OK. -/
def State.batchEnd (s : State) (k i : Nat) (b : Batch) (results : List (Word × Nat)) : State :=
  let s := s.setBatch k i none
  let status := if results.all (fun r => r.2 == bsOk) then psOk else psPartial
  s.completion k i b.seq b.tag status
    (results.flatMap (fun r => beBytes 8 r.1.toNat ++ [BitVec.ofNat 8 r.2, 0, 0, 0, 0, 0, 0, 0]))

/-- The entry in front ends with a value and a status; TIMEOUT and BADENTRY skip the rest. A batch whose own write
has closed its session is gone. -/
def State.batchResult (s : State) (k i : Nat) (b : Batch) (v : Word) (st : Nat) : State :=
  if !(s.session k i).opened then s
  else
    let rest := b.entries.drop 1
    let results := b.results ++ [(v, st)]
    if st = bsTimeout ∨ st = bsBadentry then s.batchEnd k i b (results ++ rest.map (fun _ => (0, bsSkipped)))
    else if rest.isEmpty then s.batchEnd k i b results
    else s.setBatch k i (some { seq := b.seq, tag := b.tag, entries := rest, results := results, latched := b.latched })

/-- The entry in front, when its OP is one of `mine`. -/
def State.frontEntry (s : State) (k i : Nat) (mine : Nat → Bool) : Option (Batch × BitVec 128) :=
  match s.batchOf k i with
  | none => none
  | some b => match b.entries with
    | [] => none
    | e :: _ => if mine (beOp e) then some (b, e) else none

/-- A frame-check capture register: its cluster, and its place among the nine (R50). -/
def captPlace (off : Nat) : Option (Nat × Nat) :=
  match regRow off with
  | some r =>
    let ix := r.place off
    if r.base = Reg.CL_FCHK_LAST 0 0 then some (ix.getD 0 0, ix.getD 1 0)
    else if r.base = Reg.CL_FCHK_LASTSRC 0 then some (ix.getD 0 0, 8)
    else none
  | none => none

/-- The nine capture registers of cluster `n`. -/
def State.captWords (s : State) (n : Nat) : List Word :=
  (List.range 8).map (fun i => s.reg (Reg.CL_FCHK_LAST n i)) ++ [s.reg (Reg.CL_FCHK_LASTSRC n)]

/-- A batch that begins to read the capture registers of a cluster keeps all nine, so that it sees one frame (R51). -/
def State.latch (s : State) (b : Batch) (off : Nat) : Batch :=
  match captPlace off with
  | some (n, _) => if !(SMap.get [] b.latched n).isEmpty then b else { b with latched := SMap.put [] b.latched n (s.captWords n) }
  | none => b

/-- What a READ of a batch shows where it has kept a register, else `v`. -/
def Batch.shown (b : Batch) (off : Nat) (v : Word) : Word :=
  match captPlace off with
  | some (n, i) => (SMap.get [] b.latched n).getD i v
  | none => v

/-- A READ entry; an unlisted OP is a BADENTRY here. (DESIGN CHOICE, log entry 28) -/
def execBatchRead (k : Fin 2) (i : Fin 8) (s : State) : Out :=
  match s.frontEntry k i (fun op => op != 2 && op != 3) with
  | none => .next s
  | some (b, e) =>
    if beOp e ≠ 1 ∨ beFlags e ≠ 0 then .next (s.batchResult k i b 0 bsBadentry)
    else
      let b := s.latch b (beOffset e)
      let (v, st, s) := s.busRead (sessionSource k i) (beOffset e)
      .next (s.batchResult k i b (if st = 0 then b.shown (beOffset e) v else v) st)

/-- The register whose BUSY a WRITE waits for reads BUSY for this source (R419). -/
def State.writeWaits (s : State) (src : Source) (off : Nat) : Bool :=
  match regRow off with
  | some r => (r.base == Reg.CL_SX_CMIS_CMD 0 && (s.reg off).getLsbD 63)
      || ((r.base == Reg.TBL_CMD 0 || r.base == Reg.TBL_SH_CMD) && s.opBusy (banked src off))
  | none => false

/-- A WRITE entry. -/
def execBatchWrite (k : Fin 2) (i : Fin 8) (s : State) : Out :=
  match s.frontEntry k i (fun op => op == 2) with
  | none => .next s
  | some (b, e) =>
    let off := beOffset e
    if beFlags e ≠ 0 then .next (s.batchResult k i b 0 bsBadentry)
    else if (s.session k i).tenant then .next (s.batchResult k i b 0 bsDenied)
    else if s.writeWaits (sessionSource k i) off then
      match b.waitAt with
      | none => .next (s.setBatch k i (some { b with waitAt := some s.tick }))
      | some t => if s.since t (msTicks 1) then .next (s.batchResult k i b 0 bsTimeout) else .next s
    else .next ((s.busWrite (sessionSource k i) off (beData e)).batchResult k i b 0 (accessStatusOf off))

/-- A POLL entry looks once: it passes, or keeps what it has read. -/
def execBatchPoll (k : Fin 2) (i : Fin 8) (s : State) : Out :=
  match s.frontEntry k i (fun op => op == 3) with
  | none => .next s
  | some (b, e) =>
    if 1 < beFlags e ∨ beWait e = 0 then .next (s.batchResult k i b 0 bsBadentry)
    else
      let (v, st, s) := s.busRead (sessionSource k i) (beOffset e)
      let seen := v &&& beData e
      let passes := if beFlags e = 1 then seen == beData e else seen == 0
      if st ≠ 0 ∨ passes then .next (s.batchResult k i b v st)
      else .next (s.setBatch k i (some { b with pollAt := some (b.pollAt.getD s.tick), pollLast := v }))

/-- A POLL has waited its limit. -/
def execPollTimeout (k : Fin 2) (i : Fin 8) (s : State) : Out :=
  match s.frontEntry k i (fun op => op == 3) with
  | none => .next s
  | some (b, e) =>
    match b.pollAt with
    | some t => if s.since t (msTicks (beWait e)) then .next (s.batchResult k i b b.pollLast bsTimeout) else .next s
    | none => .next s

/-! ### Command lists (R420, R464) -/

/-- Refuse an entry appended while its engine is under FORCE. -/
def State.refuseAppend (s : State) (eng : Nat) (e : Entry) : State :=
  if eng < 0x10 then s.dspDone (Fin.ofNat 16 eng) e dpAborted
  else if eng < 0x20 then s.grnDone (Fin.ofNat 16 (eng - 0x10)) e gsAborted
  else if eng = engTable then s.tblAbort e
  else if eng = engBypass then s.bypassDone e bcAborted 0
  else if eng = engScrub then s.scrubDone e scAborted 0
  else s.dumpDone e duAborted (s.dumpIdOf e) 0

/-- The sources, by R22, of the entries at a queue's end that were appended in this event tick and still wait. -/
def State.freshTail (s : State) (eng q : Nat) : List Nat :=
  let f := SMap.get (0, []) s.eng.fresh (8 * eng + q)
  if f.1 = s.tick + 1 then f.2.drop (f.2.length - (s.queue eng q).length) else []

/-- Place `l` of source `r` behind the entries of earlier ticks and, within the tick, by the order of R22. -/
def State.place (s : State) (eng q r : Nat) (l : List Entry) : State :=
  let old := s.queue eng q
  let tail := s.freshTail eng q
  let front := old.length - tail.length + (tail.filter (fun x => decide (x ≤ r))).length
  let ranks := tail.filter (fun x => decide (x ≤ r)) ++ List.replicate l.length r ++ tail.filter (fun x => decide (r < x))
  (s.setQueue eng q (old.take front ++ l ++ old.drop front)).onEng (fun x => { x with
    fresh := SMap.put (0, []) x.fresh (8 * eng + q) (s.tick + 1, ranks) })

/-- An entry appended to a dark cluster's dispatcher wakes the cluster (R226). -/
def State.wakeFor (s : State) (eng : Nat) : State := if eng < 16 then s.wakeCluster eng else s

/-- Append a list of source `r` (its place in R22) to a queue, whole or not at all: the status, and the state after.
(DEDUCED, log entry 63) -/
def State.append (s : State) (eng q r : Nat) (l : List Entry) : Nat × State :=
  if s.mode = stDraining ∧ q ≠ 7 then (psState, s)
  else if 4096 < (s.queue eng q).length + l.length then (psQueuefull, s)
  else if s.hold eng = 2 then (psOk, l.foldl (fun (s : State) e => s.refuseAppend eng e) s)
  else (psOk, (s.place eng q r l).wakeFor eng)

/-- CMD_APPEND. (DEDUCED, log entry 63) -/
def execCmdAppend (k : Fin 2) (p : Packet) (s : State) : Out :=
  if p.kind ≠ 0x11 then .next s
  else
    let n := p.payload.length / 64
    let eng := argNat p 0 1
    let q := argNat p 1 1
    let form := argEnds p 2 && decide (eng < 0x24 ∧ q < 8 ∧ 1 ≤ n ∧ n ≤ 1024) && p.payload.length % 64 == 0
    s.packet k p { form := form } (fun i s =>
      let (st, s) := s.append eng q (8 * k + i) ((List.range n).map (fun j => entryOfBytes (sliceBytes p.payload (64 * j) 64)))
      s.answered k i p st [])

/-! ### Bulk data (R421, R425) -/

/-- The bulk store and the part of it in use. -/
def bulkStore : Nat := 2 ^ 31
def State.bulkUsed (s : State) : Nat := ((s.uz.bulk.filter (fun b => b.2.held && b.2.type == 0)).map (fun b => b.2.total)).sum

/-- The flash slot that does not run. (DEDUCED, log entry 56) -/
def State.otherSlot (s : State) : Nat := 1 - s.fld Reg.WCH_BOOT Fld.WCH_BOOT_SLOT

/-- A slot keeps, at its first write of a tick, whether it held an image and a record before. -/
def FlashSlot.noted (x : FlashSlot) (now : Nat) : FlashSlot :=
  if x.loadedAt = now + 1 then x
  else
    { x with
      loadedAt := now + 1
      hadImage := x.factory || !x.image.isEmpty
      hadRecord := x.configRec.isSome }

/-- Data of TYPE 1 or 2 goes to the alternate slot, which is no longer staged; a part is there once all its bytes are.
What it held before the tick is kept for an FW_STAGE of the same tick (R428). (DEDUCED, log entry 56) -/
def State.flashWrite (s : State) (b : Bulk) : State :=
  let k := s.otherSlot
  let x := (SMap.get {} s.watch.slots k).noted s.tick
  let l := if b.got.length = b.total then (List.range b.total).map (fun i => SMap.get 0 b.bytes i) else []
  let x := { x with
    staged := false
    factory := false }
  let x := if b.type = 1 then { x with image := l } else { x with record := l }
  s.onWatch (fun w => { w with slots := SMap.put {} w.slots k x })

/-- Place a piece. -/
def Bulk.place (b : Bulk) (off : Nat) (l : List Byte) : Bulk :=
  { b with
    bytes := (l.foldl (fun (a : Nat × SMap Byte) x => (a.1 + 1, SMap.put 0 a.2 a.1 x)) (off, b.bytes)).2
    got := (List.range l.length).foldl (fun m i => SMap.put false m (off + i) true) b.got }

/-- A piece of bulk data: its status and the state after. (DEDUCED, log entry 110) -/
def State.bulkLoad (s : State) (me handle off total type : Nat) (l : List Byte) : Nat × State :=
  let b := SMap.get {} s.uz.bulk handle
  if b.held ∧ b.owner ≠ me then (psOwned, s)
  else if b.held ∧ b.total ≠ total then (psRefused, s)
  else if total < off + l.length then (psRefused, s)
  else if !b.held ∧ type = 0 ∧ bulkStore < s.bulkUsed + total then (psRefused, s)
  else
    let b := Bulk.place (if b.held then b else { held := true, owner := me, type := type, total := total }) off l
    let s := s.onUz (fun u => { u with bulk := SMap.put {} u.bulk handle b })
    (psOk, if b.type = 0 then s else s.flashWrite b)

/-- Free a handle. -/
def State.bulkFree (s : State) (me handle : Nat) : Nat × State :=
  let b := SMap.get {} s.uz.bulk handle
  if !b.held then (psRefused, s)
  else if b.owner ≠ me then (psOwned, s)
  else (psOk, s.onUz (fun u => { u with bulk := SMap.put {} u.bulk handle {} }))

/-- BULK_LOAD. -/
def execBulkLoad (k : Fin 2) (p : Packet) (s : State) : Out :=
  if p.kind ≠ 0x12 then .next s
  else
    let free := argNat p 17 1
    s.packet k p { form := argEnds p 18 && decide (argNat p 16 1 ≤ 2) && (free == 0 || (free == 1 && p.payload.isEmpty)) }
      (fun i s =>
        let me := 8 * k.val + i
        let (st, s) := if free = 1 then s.bulkFree me (argNat p 0 8)
          else s.bulkLoad me (argNat p 0 8) (argNat p 8 4) (argNat p 12 4) (argNat p 16 1) p.payload
        s.answered k i p st [])

/-! ### Mailboxes and subscriptions -/

/-- MBX_POST. -/
def execMbxPost (k : Fin 2) (p : Packet) (s : State) : Out :=
  if p.kind ≠ 0x13 then .next s
  else s.packet k p { form := argEnds p 1 && decide (argNat p 0 1 < 64) && p.payload.length == 64 } (fun i s =>
    let (st, s) := s.mbxPlace (argNat p 0 1) (if k = 0 then snUzoleyA else snUzoleyB) (i + 1)
      ((List.range 8).map (fun w => BitVec.ofNat 64 (natAt p.payload (8 * w) 8)))
    s.answered k i p (if st = msOk then psOk else psRefused) [])

/-- Some session holds a ring. -/
def State.ringHeld (s : State) (source : Nat) : Bool :=
  s.uz.sessions.any (fun x => x.2.opened && x.2.subs.any (fun u => u.source == source))

/-- The entry of a subscription keeps R376 for the session. -/
def State.subGood (s : State) (x : Session) (e : List Byte) : Bool :=
  let source := natAt e 0 1
  let period := natAt e 4 4
  let index := natAt e 8 2
  let ring := source == 4 || source == 5
  decide (1 ≤ source ∧ source ≤ 7) && zeroBytes e 10 16 && (x.sub (BitVec.ofNat 16 (natAt e 2 2))).isNone
    && decide (x.subs.length < 64)
    && (if ring then period == 0 && !s.ringHeld source else period % 10 == 0 && decide (10 ≤ period ∧ period ≤ 10000000))
    && (if source = 1 then decide (index ≤ 16) else if source = 2 ∨ source = 3 ∨ source = 7 then decide (index < 16) else true)
    && (!x.tenant || (source == 1 && period % 10000 == 0) || (source == 6 && period % 100000 == 0))

/-- One subscription entry of session `(k, i)`: whether it stands, and the state after. (DEDUCED, log entry 110) -/
def State.subEntry (s : State) (k i : Nat) (e : List Byte) : Bool × State :=
  let x := s.session k i
  let id := BitVec.ofNat 16 (natAt e 2 2)
  let flags := natAt e 1 1
  let mark := fun (n : Nat) (s : State) => s.onClock (fun c => { c with bounds := SMap.put 0 c.bounds (bkSub k i id) n })
  if flags = 1 then
    if (x.sub id).isSome then
      (true, (s.setSession k i { x with subs := x.subs.filter (fun u => u.id != id) }) |> mark 0)
    else (false, s)
  else if flags = 0 ∧ s.subGood x e then
    let u : Sub := { source := natAt e 0 1, id := id, period := natAt e 4 4, index := natAt e 8 2, raw := BitVec.ofNat 64 (natAt e 0 8) }
    (true, (s.setSession k i { x with subs := x.subs ++ [u] }) |> mark s.nowNs)
  else (false, s)

/-- TEL_SUB: the entries in order, with a status byte for each where one is refused. (DEDUCED, log entry 110) -/
def execTelSub (k : Fin 2) (p : Packet) (s : State) : Out :=
  if p.kind ≠ 0x14 then .next s
  else
    let n := p.payload.length / 16
    s.packet k p { form := argEnds p 0 && p.payload.length % 16 == 0 && n != 0, tenant := true } (fun i s =>
      let (l, s) := (List.range n).foldl (fun (a : List Bool × State) j =>
        let (ok, s) := a.2.subEntry k i (sliceBytes p.payload (16 * j) 16)
        (a.1 ++ [ok], s)) ([], s)
      if l.all (fun b => b) then s.answered k i p psOk []
      else s.answered k i p psPartial (l.map (fun b => if b then 0 else 1)))

/-! ### Quotes (R432 to R434) -/

/-- The flags of a quote but TENANT and MORE (R433). -/
def State.partialReset (s : State) : Bool :=
  s.mill.cores.any (fun c => c.2.st == coReset) || s.grn.engines.any (fun x => x.2.st == 3)
    || s.watch.clusterDown.any (fun c => c.2 == 2) || s.watch.run.any (fun r => r.domain == 2)
    || (s.fld Reg.WCH_LASTRST Fld.WCH_LASTRST_DOMAIN == 2 && s.bootStep != 9)

def State.degraded (s : State) : Bool :=
  s.mode == stLaidUp || s.mill.cores.any (fun c => c.2.st == coDisabled)
    || (List.range 16).any (fun j => (s.engine j).st == 4)
    || (List.range 64).any (fun g => s.fld (Reg.CL_OE_EVT g) Fld.CL_OE_EVT_FAIL != 0)
    || (List.range 544).any (fun p => s.portState p == pDark && (s.link p).faulted)

/-- A flash slot is STAGED. -/
def State.staged? (s : State) : Bool := (SMap.get {} s.watch.slots s.otherSlot).staged

/-- Every distinct program: owner, BASE, measurement and the clusters that hold it. (DEDUCED, log entry 110) -/
def State.quotePrograms (s : State) (want : Nat → Bool) : List (Nat × Nat × BitVec 384 × Nat) :=
  let all := (List.range 16).flatMap (fun n => (s.programs n).map (fun g => (n, g.2)))
  all.foldl (fun l x =>
    let g := x.2
    if !want g.owner then l
    else if l.any (fun y => y.1 == g.owner && y.2.1 == g.base && y.2.2.1 == g.measure) then
      l.map (fun y => if y.1 == g.owner && y.2.1 == g.base && y.2.2.1 == g.measure then (y.1, y.2.1, y.2.2.1, y.2.2.2 ||| 2 ^ x.1) else y)
    else l ++ [(g.owner, g.base, g.measure, 2 ^ x.1)]) []

/-- The digest of a table; zero while the table engine is in reset. (DEDUCED, log entry 110) -/
def State.tableDigest (s : State) (t : Nat) : List Byte :=
  if s.watch.run.isSome ∧ s.bootStep < 4 then beBytes 48 0
  else beBytes 48 (Config.sha384 ((List.range (tblSize t)).flatMap (fun i =>
    sliceBytes (beBytes 64 (s.entry t i).data.toNat) 0 (tblWidth t / 8)))).toNat

/-- The bytes of a slot's image and record. (PRESUMED, log entry 5) -/
def FlashSlot.imageBytes (x : FlashSlot) : List Byte := if x.factory then Config.factoryImage else x.image
/-- PRESUMED, log entry 5. -/
def FlashSlot.recordBytes (x : FlashSlot) : List Byte := if x.factory then Config.factoryRecord else x.record

/-- The five measurements. (DESIGN CHOICE, log entry 12) -/
def State.measurements (s : State) : List Byte :=
  let x := SMap.get {} s.watch.slots s.otherSlot
  beBytes 48 Config.bootRomMeasure.toNat ++ beBytes 48 Config.watchFwMeasure.toNat
    ++ beBytes 48 (Config.bosunFwMeasure (s.fld Reg.WCH_BOOT Fld.WCH_BOOT_SLOT)).toNat
    ++ beBytes 48 (Config.sha384 s.runningSlot.recordBytes).toNat
    ++ beBytes 48 (if s.staged? then (Config.sha384 (x.imageBytes ++ x.recordBytes)).toNat else 0)

/-- The slot that a request limits PROGRAMS to: the tenant's own, or the one it names. (DEDUCED, log entry 110) -/
def State.quoteSlot (s : State) (x : Session) (sel : Nat) : Option Nat :=
  if x.tenant then some ((s.slotOf x.job.toNat).getD 64)
  else if bitOf sel 14 then some (bitsOf sel 13 8)
  else none

/-- The quote before its signature block. (PRESUMED, log entry 109) -/
def State.quoteBody (s : State) (x : Session) (p : Packet) : List Byte :=
  let sel := natAt p.payload 32 8
  let granted := if x.tenant then sel % 8 - (if bitOf sel 1 then 2 else 0) else sel % 8
  let want := fun (owner : Nat) => match s.quoteSlot x sel with
    | some k => owner == 1 + k
    | none => true
  let all := if bitOf granted 0 then s.quotePrograms want else []
  let progs := all.take 1000
  let flags := b2n s.staged? + 2 * b2n s.partialReset + 4 * b2n s.degraded
    + 8 * b2n (s.flag Reg.WCH_BOOT Fld.WCH_BOOT_FALLBACK) + 16 * b2n x.tenant + 32 * b2n (decide (1000 < all.length))
  [1, BitVec.ofNat 8 flags] ++ beBytes 2 s.modnum.toNat ++ [s.watch.record.site, s.watch.record.plane,
      BitVec.ofNat 8 s.mode, BitVec.ofNat 8 granted]
    ++ beBytes 8 s.tick ++ beBytes 2 s.watch.incarn.toNat ++ beBytes 2 progs.length ++ beBytes 4 s.watch.record.planegen.toNat
    ++ sliceBytes p.payload 0 32 ++ s.measurements
    ++ progs.flatMap (fun g => [if g.1 = 0 then 0xFF else BitVec.ofNat 8 (g.1 - 1), 0] ++ beBytes 2 g.2.1 ++ beBytes 2 g.2.2.2
        ++ [0, 0] ++ beBytes 48 g.2.2.1.toNat)
    ++ (if bitOf granted 1 then (List.range 6).flatMap s.tableDigest else [])
    ++ (if bitOf granted 2 then beBytes 4 Config.deviceChain.length ++ Config.deviceChain else [])

/-- The next HSS index, with 4,096 more reserved when none is left (R431). -/
def State.takeIndex (s : State) : Nat × State :=
  (s.sec.hssNext, s.onSec (fun x => { x with
    hssQ := if x.hssNext = x.hssQ then x.hssQ + 4096 else x.hssQ
    hssNext := x.hssNext + 1 }))

/-- Sign a quote and send it. (DESIGN CHOICE, log entry 10; PRESUMED, log entry 109) -/
def State.signQuote (s : State) (k i : Nat) (p : Packet) : State :=
  let body := s.quoteBody (s.session k i) p
  let (q, s) := s.takeIndex
  let s := s.onSec (fun x => { x with quotesAt := s.window x.quotesAt (secTicks 1) })
  s.answered k i p psOk (body ++ Config.ecdsaSign (Config.sha384 body) ++ Config.hssSign q body)

/-- A quote may be signed now. -/
def State.quoteTurn (s : State) : Bool :=
  decide ((s.sec.quotesAt.filter (fun t => decide (s.tick < t + secTicks 1))).length < 100)

/-- ATTEST: the quote is signed now, or waits its turn. -/
def execAttest (k : Fin 2) (p : Packet) (s : State) : Out :=
  if p.kind ≠ 0x15 then .next s
  else
    let sel := natAt p.payload 32 8
    s.packet k p { form := argEnds p 0 && p.payload.length == 40 && sel / 32768 == 0 && bitsOf sel 7 3 == 0, tenant := true, core := true }
      (fun i s =>
        if s.sec.quoteQ.isEmpty && s.quoteTurn then s.signQuote k i p
        else s.onSec (fun x => { x with quoteQ := x.quoteQ ++ [(8 * k.val + i, p)] }))

/-- The oldest quote that waits is signed. -/
def execQueuedQuoteSigned (s : State) : Out :=
  match s.sec.quoteQ with
  | [] => .next s
  | (x, p) :: rest =>
    if s.awake && s.quoteTurn then
      .next ((s.onSec (fun y => { y with quoteQ := rest })).signQuote (x / 8) (x % 8) p)
    else .next s

/-! ### Resets and broadcasts -/

/-- RESET; one that closes its session has no COMPLETION. -/
def execResetPacket (k : Fin 2) (p : Packet) (s : State) : Out :=
  if p.kind ≠ 0x16 then .next s
  else
    let v := argNat p 0 1
    s.packet k p { form := argEnds p 1 && p.payload.isEmpty && v % 4 != 0 && v / 4 % 4 == 0 } (fun i s =>
      (s.resetRequest (v % 4) (v / 16) rcOperator).answered k i p psOk [])

/-- BROADCAST: the module acts as the root; a message it discards is answered REFUSED.
(DEDUCED, log entries 41 and 63) -/
def State.rootBroadcast (s : State) (k : Fin 2) (p : Packet) : Out :=
  if p.kind ≠ 0x17 then .next s
  else
    let subk := natAt p.payload 2 1
    s.packet k p { form := argEnds p 0 && decide (3 ≤ p.payload.length) && decide (0x21 ≤ subk ∧ subk ≤ 0x23) } (fun i s =>
      if s.mode = stDraining ∧ subk = 0x21 then s.answered k i p psState []
      else
        let (ok, s) := s.broadcast (BitVec.ofNat 8 subk) (BitVec.ofNat 16 (natAt p.payload 0 2)) (p.payload.drop 3)
        s.answered k i p (if ok then psOk else psRefused) [])

/-- BROADCAST of the packet whose payload is `p.payload` and then `msg`. -/
def execBroadcastPacket (k : Fin 2) (p : Packet) (msg : List Byte) (s : State) : Out :=
  s.rootBroadcast k { p with payload := p.payload ++ msg }

/-! ### Firmware (R425, R426) -/

/-- FW_STAGE: both parts of the alternate slot are verified, each under both signatures; a BULK_LOAD of the same tick is not
yet part of it, and leaves the slot empty (R428).
(DESIGN CHOICE, log entry 11; DEDUCED, log entry 56) -/
def execFwStage (k : Fin 2) (p : Packet) (fw sig : SigPair) (s : State) : Out :=
  if p.kind ≠ 0x18 then .next s
  else s.packet k p { form := argEnds p 0 && p.payload.isEmpty } (fun i s =>
    let j := s.otherSlot
    let x := SMap.get {} s.watch.slots j
    let now := x.loadedAt == s.tick + 1
    let x := x.noted s.tick
    let (a, s) := s.verified 3 fw x.hadImage
    let (b, s) := s.verified 4 sig x.hadRecord
    let x : FlashSlot := if now then x else if a && b then { x with staged := true } else {}
    (s.onWatch (fun w => { w with slots := SMap.put {} w.slots j x })).answered k i p (if a && b then psOk else psVerify) [])

/-- An ADMIT that would be accepted waits in this tick, of a source that goes before `r` in R22. -/
def State.admitFirst (s : State) (r : Nat) : Bool :=
  s.mode == stStandby && s.imageGeneration == s.watch.record.planegen && s.flag Reg.WCH_BOOT Fld.WCH_BOOT_READY
    && s.alsoNow (fun i => match i with
      | .registerWrite src off val => off.toNat == Reg.WCH_STATECMD && val.toNat % 8 == 3 && decide (sourceIndex src < r)
      | _ => false)

/-- FW_ACTIVATE: a cold reset into the staged slot. An ADMIT of the same tick that goes before it applies instead (R428).
(DEDUCED, log entry 56; DESIGN CHOICE, log entry 133) -/
def execFwActivate (k : Fin 2) (p : Packet) (s : State) : Out :=
  if p.kind ≠ 0x19 then .next s
  else s.packet k p { form := argEnds p 0 && p.payload.isEmpty } (fun i s =>
    let j := s.otherSlot
    if (s.mode ≠ stStandby ∧ s.mode ≠ stLaidUp) ∨ s.inTransition ∨ s.admitFirst (8 * k.val + i) then s.answered k i p psState []
    else if !s.staged? then s.answered k i p psRefused []
    else
      let s := s.onWatch (fun w => { w with slots := SMap.put {} w.slots j { SMap.get {} w.slots j with staged := false } })
      (s.setFld Reg.WCH_BOOT Fld.WCH_BOOT_SLOT j).decideReset 3 rcActivate)

/-! ### Timeouts -/

/-- A session has had no packet from its node for 10 s. -/
def execSessionIdleTimeout (k : Fin 2) (i : Fin 8) (s : State) : Out :=
  let x := s.session k i
  if s.awake ∧ x.opened ∧ s.since x.lastAt (secTicks 10) then .next (s.closeSession k i) else .next s

/-- The link of a port has been out of UP for 10 s. -/
def execUzoleyLinkTimeout (k : Fin 2) (s : State) : Out :=
  if s.awake then .next ((List.range 8).foldl (fun (s : State) i => s.closeSession k i) (s.uzoleyDown k)) else .next s

end Sys2Proof.Machine
end

