-- ==== Sys2Proof/Machine/Power.lean ====
section
/-! DEFINITION. Input power, supply faults, the power cap, cages, coolant and the latch (R385, R489 to R500). -/

namespace Sys2Proof.Machine

/-- An event of WCH_PWREVT. -/
def State.raisePower (s : State) (bit : Nat) : State := s.raise Reg.WCH_PWREVT bit 11 srcWatch

/-- The module has input power. -/
def State.powered (s : State) : Bool := s.mode != 0

/-! ### On and off (R385, R492) -/

/-- What the module holds without power: flash, the laid-up flag, the HSS reservation, the incarnation and the
model's own records. (DEDUCED, log entries 56 and 58) -/
def State.powerOff (s : State) : State :=
  let old := s
  let s : State := { State.reset with
    pending := old.pending
    freeCtr := old.freeCtr
    out := old.out
    readData := old.readData
    accessStatus := old.accessStatus
    watch := { slots := old.watch.slots, record := old.watch.record, incarn := old.watch.incarn, moduleFault := old.watch.moduleFault }
    sec := { hssQ := old.sec.hssQ, hssNext := old.sec.hssQ } }
  let s := s.setReg Reg.WCH_STATE (pack [(Fld.WCH_STATE_LAIDFLAG, old.fld Reg.WCH_STATE Fld.WCH_STATE_LAIDFLAG)])
  s.setFld Reg.WCH_BOOT Fld.WCH_BOOT_SLOT (old.fld Reg.WCH_BOOT Fld.WCH_BOOT_SLOT)

/-- The Watch supply is lost: OFF. (DEDUCED, log entry 58) -/
def execWatchSupplyLoss (s : State) : Out := if s.powered then .next s.powerOff else .next s

/-- Input power comes within range: OFF to WATCH. (DEDUCED, log entries 58 and 125) -/
def execPowerApplied (s : State) : Out :=
  if s.powered then .next s
  else
    let s : State := { s with tick := 0 }
    let s := s.onWatch (fun w => { w with incarn := w.incarn + 1 })
    .next (s.enterMode stWatch mcPowerOn)

/-! ### Supply faults (R489, R493, R500) -/

/-- A supply fault of class 1: every rail outside Watch goes off, and the module waits in WATCH for a wake. A reset
that is due or runs ends with it. (DEDUCED, log entry 115) -/
def State.supplyFault (s : State) : State :=
  let s := s.raiseWatch 4 1
  if s.mode = stWatch ∧ s.watch.run.isNone then s
  else
    let (laid, s) := s.countReset rcSupply
    let s := (s.discardAll.onWatch (fun w => { w with laid := w.laid || laid })).cut cutSupply
    let s := if s.mode = stWatch then s else s.enterMode stWatch mcSupply
    s.lastReset { domain := 3, cause := rcSupply, startAt := s.tick } (if s.watch.laid then 2 else 1)

/-- The input has left the range for 100 µs, or a load-point rail for 50 µs. (DEDUCED, log entry 115) -/
def execSupplyFault (s : State) : Out := if s.powered then .next s.supplyFault else .next s

/-- A rail has not reached regulation within 10 ms of its enable. -/
def execRailTimeout (_rail : Fin 8) (s : State) : Out := if s.powered then .next s.supplyFault else .next s

/-- The ejector latch opens. -/
def execLatchOpen (s : State) : Out :=
  if s.awake then .next ((s.setBits Reg.WCH_PWREVT 4).supplyFault) else .next s

/-- The input lies in a band beside the range. (DEDUCED, log entry 115) -/
def execVrange (s : State) : Out := if s.powered then .next (s.raisePower 0) else .next s

/-! ### The power cap (R491) -/

/-- WCH_PCAP in mW; a value out of range is taken as the nearer bound. (DEDUCED, log entry 115) -/
def State.powerCap (s : State) : Nat := 1000 * min 5800 (max 4000 (s.fld Reg.WCH_PCAP ⟨0, 16⟩))

/-- TEL_PWR exceeds WCH_PCAP. -/
def execPcapExceed (milliwatt : Nat) (s : State) : Out :=
  if s.awake ∧ s.powerCap < milliwatt then
    let began := !s.watch.pcap
    let s := s.onWatch (fun w => { w with
      pcap := true
      pcapAt := s.tick })
    .next (if began then s.raisePower 1 else s)
  else .next s

/-- TEL_PWR has stayed at least 5 % below WCH_PCAP for 10 ms. (DEDUCED, log entry 115) -/
def execPcapLift (milliwatt : Nat) (s : State) : Out :=
  if s.awake ∧ s.watch.pcap ∧ 100 * milliwatt ≤ 95 * s.powerCap ∧ s.since s.watch.pcapAt (msTicks 10) then
    .next (s.onWatch (fun w => { w with pcap := false }))
  else .next s

/-! ### Cages and coolant (R494, R496) -/

/-- REFUSE = FAULT. -/
def refuseFault : Nat := 5

/-- A cage is switched off; its port goes to DARK. REFUSE is clear where the pluggable has gone (R502).
(DEDUCED, log entries 77 and 115) -/
def execCageOvercurrent (x : Fin 32) (s : State) : Out :=
  if s.awake ∧ (s.reg Reg.WCH_CAGEPWR).getLsbD x then
    let p := spanPort x
    let s := s.setCmis x { s.cmis x with
      caged := true
      step := 0
      timeouts := 0 }
    let s := s.setReg Reg.WCH_CAGEPWR (s.reg Reg.WCH_CAGEPWR &&& ~~~ (BitVec.ofNat 64 (2 ^ x.val)))
    let s := s.cmisFld x Fld.CL_SX_CMIS_STAT_REFUSE (if s.present x then refuseFault else 0)
    let s := (if s.portState p = pDark then s else s.goDark p).raisePower 4
    .next (s.portFault p 1 refuseFault 11 5 0 (Reg.CL_SX_CMIS_STAT x))
  else .next s

/-- Flow, in 0.1 L/min, has been below 5.5 L/min for 1 s. (DEDUCED, log entry 115) -/
def execLowFlow (flow : BitVec 16) (s : State) : Out :=
  if s.powered ∧ flow.toNat < 55 then
    let s := s.raisePower 3
    .next (s.faultRecord { unitType := utModule, register := 0, action := 7, detail := s.reg Reg.WCH_STATE })
  else .next s

end Sys2Proof.Machine
end

