-- ==== Sys2Proof/Machine/Dispatch.lean ====
section
/-! DEFINITION. The dispatch of the commands: one arm per constructor. -/

namespace Sys2Proof.Machine

/-- The effect of a command on everything but the queue. -/
def exec (i : Instr) (s : State) : Host.Outcome State Fault Refusal :=
  match i with
  | .registerWrite src off val => Sys2Proof.Machine.execRegisterWrite src off val s
  | .rcFieldRead src off event => Sys2Proof.Machine.execRcFieldRead src off event s
  | .crtailWrite ring idx => Sys2Proof.Machine.execCrtailWrite ring idx s
  | .frameReceive port f trailer ago => Sys2Proof.Machine.execFrameReceive port f trailer ago s
  | .frameLeaveStaging x => Sys2Proof.Machine.execFrameLeaveStaging x s
  | .internalSourceAdmit q idx => Sys2Proof.Machine.execInternalSourceAdmit q idx s
  | .overflowMove x v idx => Sys2Proof.Machine.execOverflowMove x v idx s
  | .frameTransmit x => Sys2Proof.Machine.execFrameTransmit x s
  | .lcbAck port b => Sys2Proof.Machine.execLcbAck port b s
  | .nakSel port b => Sys2Proof.Machine.execNakSel port b s
  | .nakGoback port b => Sys2Proof.Machine.execNakGoback port b s
  | .credit port b => Sys2Proof.Machine.execCredit port b s
  | .reef port b => Sys2Proof.Machine.execReef port b s
  | .reefTakesEffect port transmit => Sys2Proof.Machine.execReefTakesEffect port transmit s
  | .laneReport port b => Sys2Proof.Machine.execLaneReport port b s
  | .echo port b => Sys2Proof.Machine.execEcho port b s
  | .echoReply port b => Sys2Proof.Machine.execEchoReply port b s
  | .param port b => Sys2Proof.Machine.execParam port b s
  | .resync port b => Sys2Proof.Machine.execResync port b s
  | .ackTimerExpiry port v => Sys2Proof.Machine.execAckTimerExpiry port v s
  | .lightDetected p lanes => Sys2Proof.Machine.execLightDetected p lanes s
  | .laneLocked p lanes => Sys2Proof.Machine.execLaneLocked p lanes s
  | .aligned port => Sys2Proof.Machine.execAligned port s
  | .paramExchangeDone port => Sys2Proof.Machine.execParamExchangeDone port s
  | .lossOfSignal port => Sys2Proof.Machine.execLossOfSignal port s
  | .fecAlignmentLost port => Sys2Proof.Machine.execFecAlignmentLost port s
  | .lcbBadLimit port => Sys2Proof.Machine.execLcbBadLimit port s
  | .siteRetrain p => Sys2Proof.Machine.execSiteRetrain p s
  | .siteHoldExpiry p => Sys2Proof.Machine.execSiteHoldExpiry p s
  | .sitePortEnable p on => Sys2Proof.Machine.execSitePortEnable p on s
  | .txallowWrite p lanes => Sys2Proof.Machine.execTxallowWrite p lanes s
  | .reefholdWrite p on => Sys2Proof.Machine.execReefholdWrite p on s
  | .laneSignalLoss p w => Sys2Proof.Machine.execLaneSignalLoss p w s
  | .laneFecLimit p w => Sys2Proof.Machine.execLaneFecLimit p w s
  | .laneFecClear p w => Sys2Proof.Machine.execLaneFecClear p w s
  | .prespare g w power => Sys2Proof.Machine.execPrespare g w power s
  | .spareLocked g w => Sys2Proof.Machine.execSpareLocked g w s
  | .opticalSwitchMoved g w power => Sys2Proof.Machine.execOpticalSwitchMoved g w power s
  | .swapgo g => Sys2Proof.Machine.execSwapgo g s
  | .laserFailThreshold g w power => Sys2Proof.Machine.execLaserFailThreshold g w power s
  | .laserStop g w => Sys2Proof.Machine.execLaserStop g w s
  | .spareFail g w power => Sys2Proof.Machine.execSpareFail g w power s
  | .thermfast g txRings rxRings => Sys2Proof.Machine.execThermfast g txRings rxRings s
  | .thermClear g txRings rxRings => Sys2Proof.Machine.execThermClear g txRings rxRings s
  | .cagePresence x info => Sys2Proof.Machine.execCagePresence x info s
  | .moduleReady x => Sys2Proof.Machine.execModuleReady x s
  | .dpActivated x dpState => Sys2Proof.Machine.execDpActivated x dpState s
  | .cmisWaitTimeout x => Sys2Proof.Machine.execCmisWaitTimeout x s
  | .cmisTransactionTimeout x => Sys2Proof.Machine.execCmisTransactionTimeout x s
  | .intl x fl => Sys2Proof.Machine.execIntl x fl s
  | .cmisFlagPoll x fl => Sys2Proof.Machine.execCmisFlagPoll x fl s
  | .cmisCmd x val => Sys2Proof.Machine.execCmisCmd x val s
  | .cmisAccessComplete x timedOut data => Sys2Proof.Machine.execCmisAccessComplete x timedOut data s
  | .presenceDeassert x => Sys2Proof.Machine.execPresenceDeassert x s
  | .spanRetrain x => Sys2Proof.Machine.execSpanRetrain x s
  | .spanHoldmaxExpiry x => Sys2Proof.Machine.execSpanHoldmaxExpiry x s
  | .spanPortEnable x on => Sys2Proof.Machine.execSpanPortEnable x on s
  | .loftCopyDone x v seq => Sys2Proof.Machine.execLoftCopyDone x v seq s
  | .lftPartWrite val => Sys2Proof.Machine.execLftPartWrite val s
  | .loftPatrol findings => Sys2Proof.Machine.execLoftPatrol findings s
  | .bypassConnect => Sys2Proof.Machine.execBypassConnect s
  | .bypassRelease => Sys2Proof.Machine.execBypassRelease s
  | .bypassLoop => Sys2Proof.Machine.execBypassLoop s
  | .bypassInstant => Sys2Proof.Machine.execBypassInstant s
  | .svbPathEstablished p settle => Sys2Proof.Machine.execSvbPathEstablished p settle s
  | .svbPathFault p => Sys2Proof.Machine.execSvbPathFault p s
  | .svbDrain => Sys2Proof.Machine.execSvbDrain s
  | .svbForce => Sys2Proof.Machine.execSvbForce s
  | .svbResume => Sys2Proof.Machine.execSvbResume s
  | .gclCommit port => Sys2Proof.Machine.execGclCommit port s
  | .gclSwap port => Sys2Proof.Machine.execGclSwap port s
  | .gateBoundary port => Sys2Proof.Machine.execGateBoundary port s
  | .shaperRefill => Sys2Proof.Machine.execShaperRefill s
  | .shaperWrite port v val => Sys2Proof.Machine.execShaperWrite port v val s
  | .queueSample n => Sys2Proof.Machine.execQueueSample n s
  | .cnEnable val => Sys2Proof.Machine.execCnEnable val s
  | .cnRptrWrite val => Sys2Proof.Machine.execCnRptrWrite val s
  | .nrwaitExpiry w => Sys2Proof.Machine.execNrwaitExpiry w s
  | .memberEligible w => Sys2Proof.Machine.execMemberEligible w s
  | .lateExpiry r => Sys2Proof.Machine.execLateExpiry r s
  | .tblRead src t cmd => Sys2Proof.Machine.execTblRead src t cmd s
  | .tblWrite src t cmd => Sys2Proof.Machine.execTblWrite src t cmd s
  | .tblCas src t cmd => Sys2Proof.Machine.execTblCas src t cmd s
  | .tblSwap src t cmd => Sys2Proof.Machine.execTblSwap src t cmd s
  | .tblEntryWrite => Sys2Proof.Machine.execTblEntryWrite s
  | .tblEntryCas => Sys2Proof.Machine.execTblEntryCas s
  | .tblImage => Sys2Proof.Machine.execTblImage s
  | .tblDrain => Sys2Proof.Machine.execTblDrain s
  | .tblForce => Sys2Proof.Machine.execTblForce s
  | .tblResume => Sys2Proof.Machine.execTblResume s
  | .tableEngineHang h => Sys2Proof.Machine.execTableEngineHang h s
  | .descriptorEnqueue r => Sys2Proof.Machine.execDescriptorEnqueue r s
  | .roundTimeout n j => Sys2Proof.Machine.execRoundTimeout n j s
  | .nocommitTimeout n j => Sys2Proof.Machine.execNocommitTimeout n j s
  | .resultReceive r => Sys2Proof.Machine.execResultReceive r s
  | .commitReceive r => Sys2Proof.Machine.execCommitReceive r s
  | .loadprog n => Sys2Proof.Machine.execLoadprog n s
  | .freeprog n => Sys2Proof.Machine.execFreeprog n s
  | .dspBind n => Sys2Proof.Machine.execDspBind n s
  | .dspUnbind n => Sys2Proof.Machine.execDspUnbind n s
  | .dspDrain n => Sys2Proof.Machine.execDspDrain n s
  | .dspForce n => Sys2Proof.Machine.execDspForce n s
  | .dspResume n => Sys2Proof.Machine.execDspResume n s
  | .coreReset n c => Sys2Proof.Machine.execCoreReset n c s
  | .coreDisable n c => Sys2Proof.Machine.execCoreDisable n c s
  | .coreEnable n c => Sys2Proof.Machine.execCoreEnable n c s
  | .coreInject n c => Sys2Proof.Machine.execCoreInject n c s
  | .coreWake n c => Sys2Proof.Machine.execCoreWake n c s
  | .idlegateExpiry n w => Sys2Proof.Machine.execIdlegateExpiry n w s
  | .invocationStart n w => Sys2Proof.Machine.execInvocationStart n w s
  | .millHang n c => Sys2Proof.Machine.execMillHang n c s
  | .selfCheckDone n c pass => Sys2Proof.Machine.execSelfCheckDone n c pass s
  | .clusterDark n => Sys2Proof.Machine.execClusterDark n s
  | .clusterAwake n => Sys2Proof.Machine.execClusterAwake n s
  | .psdataRead src n => Sys2Proof.Machine.execPsdataRead src n s
  | .br n c e => Sys2Proof.Machine.execBr n c e s
  | .loop n c e => Sys2Proof.Machine.execLoop n c e s
  | .wait n c e => Sys2Proof.Machine.execWait n c e s
  | .waitSatisfied n c => Sys2Proof.Machine.execWaitSatisfied n c s
  | .sig n c e => Sys2Proof.Machine.execSig n c e s
  | .sigArrive n => Sys2Proof.Machine.execSigArrive n s
  | .halt n c e => Sys2Proof.Machine.execHalt n c e s
  | .frx n c e => Sys2Proof.Machine.execFrx n c e s
  | .ftx n c e => Sys2Proof.Machine.execFtx n c e s
  | .vadd n c e => Sys2Proof.Machine.execVadd n c e s
  | .vfma n c e => Sys2Proof.Machine.execVfma n c e s
  | .vmax n c e => Sys2Proof.Machine.execVmax n c e s
  | .vmin n c e => Sys2Proof.Machine.execVmin n c e s
  | .vscl n c e => Sys2Proof.Machine.execVscl n c e s
  | .vcast n c e => Sys2Proof.Machine.execVcast n c e s
  | .vsrnd n c e => Sys2Proof.Machine.execVsrnd n c e s
  | .vmxd n c e => Sys2Proof.Machine.execVmxd n c e s
  | .vmxe n c e => Sys2Proof.Machine.execVmxe n c e s
  | .vtkm n c e => Sys2Proof.Machine.execVtkm n c e s
  | .tally n c e => Sys2Proof.Machine.execTally n c e s
  | .ldb n c e => Sys2Proof.Machine.execLdb n c e s
  | .stb n c e => Sys2Proof.Machine.execStb n c e s
  | .shb n c e => Sys2Proof.Machine.execShb n c e s
  | .shc n c e => Sys2Proof.Machine.execShc n c e s
  | .sha n c e => Sys2Proof.Machine.execSha n c e s
  | .grnBind j => Sys2Proof.Machine.execGrnBind j s
  | .grnUnbind j => Sys2Proof.Machine.execGrnUnbind j s
  | .sethp j => Sys2Proof.Machine.execSethp j s
  | .load j => Sys2Proof.Machine.execLoad j s
  | .resilver j => Sys2Proof.Machine.execResilver j s
  | .grnDrain j => Sys2Proof.Machine.execGrnDrain j s
  | .grnForce j => Sys2Proof.Machine.execGrnForce j s
  | .grnResume j => Sys2Proof.Machine.execGrnResume j s
  | .grnReset j => Sys2Proof.Machine.execGrnReset j s
  | .chunkEnterEngine j => Sys2Proof.Machine.execChunkEnterEngine j s
  | .allotmentStall j b => Sys2Proof.Machine.execAllotmentStall j b s
  | .pass1Done j => Sys2Proof.Machine.execPass1Done j s
  | .pass2Done j => Sys2Proof.Machine.execPass2Done j s
  | .granaryHang j => Sys2Proof.Machine.execGranaryHang j s
  | .grnPatrol j findings => Sys2Proof.Machine.execGrnPatrol j findings s
  | .rdReqTaken r => Sys2Proof.Machine.execRdReqTaken r s
  | .readDataReady j gid => Sys2Proof.Machine.execReadDataReady j gid s
  | .wrReqFrame r => Sys2Proof.Machine.execWrReqFrame r s
  | .atReqTaken r => Sys2Proof.Machine.execAtReqTaken r s
  | .atomicWindowExpiry j gid => Sys2Proof.Machine.execAtomicWindowExpiry j gid s
  | .wrwaitExpiry j src tag => Sys2Proof.Machine.execWrwaitExpiry j src tag s
  | .deadwaitExpiry r => Sys2Proof.Machine.execDeadwaitExpiry r s
  | .channelServesAgain j => Sys2Proof.Machine.execChannelServesAgain j s
  | .shBegin src cmd => Sys2Proof.Machine.execShBegin src cmd s
  | .shStage src cmd => Sys2Proof.Machine.execShStage src cmd s
  | .shCommit src cmd => Sys2Proof.Machine.execShCommit src cmd s
  | .shAbort src cmd => Sys2Proof.Machine.execShAbort src cmd s
  | .sheafLifeExpiry id => Sys2Proof.Machine.execSheafLifeExpiry id s
  | .epochReady n j => Sys2Proof.Machine.execEpochReady n j s
  | .stateAckReceive r => Sys2Proof.Machine.execStateAckReceive r s
  | .stateReceive r => Sys2Proof.Machine.execStateReceive r s
  | .noticeReceive r => Sys2Proof.Machine.execNoticeReceive r s
  | .copyResend id => Sys2Proof.Machine.execCopyResend id s
  | .broadcastStage port idx => Sys2Proof.Machine.execBroadcastStage port idx s
  | .broadcastCommit port idx => Sys2Proof.Machine.execBroadcastCommit port idx s
  | .broadcastAbort port idx => Sys2Proof.Machine.execBroadcastAbort port idx s
  | .syncSend => Sys2Proof.Machine.execSyncSend s
  | .pdelayReqSend port => Sys2Proof.Machine.execPdelayReqSend port s
  | .pdelayReqReceive r => Sys2Proof.Machine.execPdelayReqReceive r s
  | .pdelayRespReceive r => Sys2Proof.Machine.execPdelayRespReceive r s
  | .syncReceive r => Sys2Proof.Machine.execSyncReceive r s
  | .holdtoExpiry => Sys2Proof.Machine.execHoldtoExpiry s
  | .timSet val => Sys2Proof.Machine.execTimSet val s
  | .telCntWrite set ix sel val => Sys2Proof.Machine.execTelCntWrite set ix sel val s
  | .telSnap => Sys2Proof.Machine.execTelSnap s
  | .snapCopy => Sys2Proof.Machine.execSnapCopy s
  | .telFreeze on => Sys2Proof.Machine.execTelFreeze on s
  | .tenantWindow => Sys2Proof.Machine.execTenantWindow s
  | .powerWindow meanMilliwatt => Sys2Proof.Machine.execPowerWindow meanMilliwatt s
  | .tagEnable val => Sys2Proof.Machine.execTagEnable val s
  | .srRptrWrite val => Sys2Proof.Machine.execSrRptrWrite val s
  | .bwWindow => Sys2Proof.Machine.execBwWindow s
  | .bwwinWrite val => Sys2Proof.Machine.execBwwinWrite val s
  | .subReport src id => Sys2Proof.Machine.execSubReport src id s
  | .ringReport src id => Sys2Proof.Machine.execRingReport src id s
  | .bospwrWrite val => Sys2Proof.Machine.execBospwrWrite val s
  | .wdogPet val => Sys2Proof.Machine.execWdogPet val s
  | .wdogWarn => Sys2Proof.Machine.execWdogWarn s
  | .wdogExpiry => Sys2Proof.Machine.execWdogExpiry s
  | .wake => Sys2Proof.Machine.execWake s
  | .sleep => Sys2Proof.Machine.execSleep s
  | .admitModule => Sys2Proof.Machine.execAdmitModule s
  | .drain => Sys2Proof.Machine.execDrain s
  | .layup => Sys2Proof.Machine.execLayup s
  | .unlay src => Sys2Proof.Machine.execUnlay src s
  | .drained => Sys2Proof.Machine.execDrained s
  | .drainwaitExpiry => Sys2Proof.Machine.execDrainwaitExpiry s
  | .wakeLight k => Sys2Proof.Machine.execWakeLight k s
  | .wakeTimer => Sys2Proof.Machine.execWakeTimer s
  | .wakePin => Sys2Proof.Machine.execWakePin s
  | .wakeSource ix => Sys2Proof.Machine.execWakeSource ix s
  | .thermalHot n sensor t => Sys2Proof.Machine.execThermalHot n sensor t s
  | .thermalThrottle n sensor t => Sys2Proof.Machine.execThermalThrottle n sensor t s
  | .thermalClear n => Sys2Proof.Machine.execThermalClear n s
  | .coolantHot t => Sys2Proof.Machine.execCoolantHot t s
  | .thermalTrip n sensor t => Sys2Proof.Machine.execThermalTrip n sensor t s
  | .wchThermWrite val => Sys2Proof.Machine.execWchThermWrite val s
  | .bicPending ix e => Sys2Proof.Machine.execBicPending ix e s
  | .modintExpiry ix => Sys2Proof.Machine.execModintExpiry ix s
  | .bicClaim c => Sys2Proof.Machine.execBicClaim c s
  | .bicDone c ix => Sys2Proof.Machine.execBicDone c ix s
  | .bicPendWrite w val => Sys2Proof.Machine.execBicPendWrite w val s
  | .bicGdis on => Sys2Proof.Machine.execBicGdis on s
  | .bicWmaskWrite w val => Sys2Proof.Machine.execBicWmaskWrite w val s
  | .mbxSend src m => Sys2Proof.Machine.execMbxSend src m s
  | .mbxAck src m seq => Sys2Proof.Machine.execMbxAck src m seq s
  | .hello k p chain => Sys2Proof.Machine.execHello k p chain s
  | .close k p => Sys2Proof.Machine.execClose k p s
  | .ping k p => Sys2Proof.Machine.execPing k p s
  | .regBatch k p => Sys2Proof.Machine.execRegBatch k p s
  | .batchRead k sx => Sys2Proof.Machine.execBatchRead k sx s
  | .batchWrite k sx => Sys2Proof.Machine.execBatchWrite k sx s
  | .batchPoll k sx => Sys2Proof.Machine.execBatchPoll k sx s
  | .pollTimeout k sx => Sys2Proof.Machine.execPollTimeout k sx s
  | .cmdAppend k p => Sys2Proof.Machine.execCmdAppend k p s
  | .bulkLoad k p => Sys2Proof.Machine.execBulkLoad k p s
  | .mbxPost k p => Sys2Proof.Machine.execMbxPost k p s
  | .telSub k p => Sys2Proof.Machine.execTelSub k p s
  | .attest k p => Sys2Proof.Machine.execAttest k p s
  | .resetPacket k p => Sys2Proof.Machine.execResetPacket k p s
  | .broadcastPacket k p msg => Sys2Proof.Machine.execBroadcastPacket k p msg s
  | .fwStage k p fw rec => Sys2Proof.Machine.execFwStage k p fw rec s
  | .fwActivate k p => Sys2Proof.Machine.execFwActivate k p s
  | .sessionIdleTimeout k sx => Sys2Proof.Machine.execSessionIdleTimeout k sx s
  | .uzoleyLinkTimeout k => Sys2Proof.Machine.execUzoleyLinkTimeout k s
  | .bkeyLoad src => Sys2Proof.Machine.execBkeyLoad src s
  | .resmaxExpiry slot => Sys2Proof.Machine.execResmaxExpiry slot s
  | .fenceEnd slot => Sys2Proof.Machine.execFenceEnd slot s
  | .scrubMarkerReceive r => Sys2Proof.Machine.execScrubMarkerReceive r s
  | .loopreqReceive r => Sys2Proof.Machine.execLoopreqReceive r s
  | .scrubSlot => Sys2Proof.Machine.execScrubSlot s
  | .scrubRegions => Sys2Proof.Machine.execScrubRegions s
  | .scrubDone => Sys2Proof.Machine.execScrubDone s
  | .scrDrain => Sys2Proof.Machine.execScrDrain s
  | .scrForce => Sys2Proof.Machine.execScrForce s
  | .scrResume => Sys2Proof.Machine.execScrResume s
  | .confWrite src slot on => Sys2Proof.Machine.execConfWrite src slot on s
  | .engineEntryHang e => Sys2Proof.Machine.execEngineEntryHang e s
  | .dump => Sys2Proof.Machine.execDump s
  | .dumpAccessTimeout unitType unit off => Sys2Proof.Machine.execDumpAccessTimeout unitType unit off s
  | .dumpTruncate => Sys2Proof.Machine.execDumpTruncate s
  | .dumpSend => Sys2Proof.Machine.execDumpSend s
  | .dumpSendTimeout => Sys2Proof.Machine.execDumpSendTimeout s
  | .dumpFree => Sys2Proof.Machine.execDumpFree s
  | .dmpDrain => Sys2Proof.Machine.execDmpDrain s
  | .dmpForce => Sys2Proof.Machine.execDmpForce s
  | .dmpResume => Sys2Proof.Machine.execDmpResume s
  | .resetreqCluster src val => Sys2Proof.Machine.execResetreqCluster src val s
  | .resetreqDatapathWarm src val => Sys2Proof.Machine.execResetreqDatapathWarm src val s
  | .resetreqCold src val => Sys2Proof.Machine.execResetreqCold src val s
  | .warmResetReady => Sys2Proof.Machine.execWarmResetReady s
  | .scoreUpdate => Sys2Proof.Machine.execScoreUpdate s
  | .fsclr val => Sys2Proof.Machine.execFsclr val s
  | .testLoopback src val => Sys2Proof.Machine.execTestLoopback src val s
  | .testMembist src val => Sys2Proof.Machine.execTestMembist src val s
  | .testFull src val => Sys2Proof.Machine.execTestFull src val s
  | .testCancel src val => Sys2Proof.Machine.execTestCancel src val s
  | .testEnd u errors failed => Sys2Proof.Machine.execTestEnd u errors failed s
  | .remoteNoReturn u => Sys2Proof.Machine.execRemoteNoReturn u s
  | .marginMeasure ms => Sys2Proof.Machine.execMarginMeasure ms s
  | .powerApplied => Sys2Proof.Machine.execPowerApplied s
  | .watchSupplyLoss => Sys2Proof.Machine.execWatchSupplyLoss s
  | .supplyFault => Sys2Proof.Machine.execSupplyFault s
  | .vrange => Sys2Proof.Machine.execVrange s
  | .railTimeout rail => Sys2Proof.Machine.execRailTimeout rail s
  | .pcapExceed milliwatt => Sys2Proof.Machine.execPcapExceed milliwatt s
  | .pcapLift milliwatt => Sys2Proof.Machine.execPcapLift milliwatt s
  | .cageOvercurrent x => Sys2Proof.Machine.execCageOvercurrent x s
  | .lowFlow flow => Sys2Proof.Machine.execLowFlow flow s
  | .latchOpen => Sys2Proof.Machine.execLatchOpen s
  | .faultedRoundRelease n j => Sys2Proof.Machine.execFaultedRoundRelease n j s
  | .readWindowExpiry j gid => Sys2Proof.Machine.execReadWindowExpiry j gid s
  | .grnEngineGate j => Sys2Proof.Machine.execGrnEngineGate j s
  | .grnEngineWake j => Sys2Proof.Machine.execGrnEngineWake j s
  | .laneRetrained p w => Sys2Proof.Machine.execLaneRetrained p w s
  | .laneSignalRestored p w => Sys2Proof.Machine.execLaneSignalRestored p w s
  | .bootStepDone ok fw rec => Sys2Proof.Machine.execBootStepDone ok fw rec s
  | .clusterResetDone n => Sys2Proof.Machine.execClusterResetDone n s
  | .eventWindowAgeOut w => Sys2Proof.Machine.execEventWindowAgeOut w s
  | .queuedQuoteSigned => Sys2Proof.Machine.execQueuedQuoteSigned s
  | .tapInstruction ix => Sys2Proof.Machine.execTapInstruction ix s

end Sys2Proof.Machine
end

