-- ==== Sys2Proof/Machine/Tick.lean ====
section
/-! DEFINITION. What the passing of one 40 ns event tick does whatever is commanded (DESIGN CHOICE, log entry 1): the
clocks run (R351, R382), the counters of time rise (R93, R144, R366), and work that waited for room goes on. -/

namespace Sys2Proof.Machine

/-! ### Heads of queues that wait (R93, R136, R138) -/

/-- Every port and VC with something to send. -/
def State.busyVcs (s : State) : List Nat :=
  ((s.sw.queues.map (fun p => p.1)) ++ (s.port.vcs.filter (fun p => !p.2.resend.isEmpty)).map (fun p => p.1)).eraseDups

/-- The head frame of an UP port waits for its window (R138). -/
def State.waitsGate (s : State) (port v : Nat) (h : Head) : Bool :=
  s.gated port && (!bitOf (s.openNow port) v || s.gateFit port v h.frame == .waits)

/-- It waits for room in the retry window of a span port (R93). -/
def State.waitsWindow (s : State) (port v : Nat) (h : Head) : Bool :=
  match h with
  | .again _ => false
  | .new x => !s.windowRoom port v (frameCells x.f)

/-- It would be eligible but for credit (R136). -/
def State.waitsCredit (s : State) (port v : Nat) (h : Head) : Bool :=
  s.mayCarry h.frame && bitOf (s.openNow port) v && s.gateFit port v h.frame != .waits && s.hasTokens port v
    && !s.waitsWindow port v h && decide ((s.vc port v).credit < s.headCredit port h)

/-- Count one tick of the waits of VC `v` of a port. -/
def State.countHead (s : State) (k : Nat) : State :=
  let port := k / 8
  let v := k % 8
  if s.portState port ≠ pUp then s
  else match s.head? port v with
    | none => s
    | some h =>
      let s1 := if s.waitsCredit port v h then s.frameEvent 0x07 40 port h.frame else s
      let s1 := if s.waitsGate port v h then s1.frameEvent 0x08 40 port h.frame else s1
      if s.waitsWindow port v h then s1.bump (Reg.CL_SX_WINSTALL (port - 512)) 40 else s1

/-! ### Frames that wait for room (R144) -/

/-- The egress queues, by 8 × port + VC, in which a frame waits for room. -/
def State.roomQueues (s : State) (n : Nat) (g : Group) (f : Frame) : List Nat :=
  match s.choose n g f with
  | .noRoom =>
    let el := g.members.filter s.eligible
    let ps := if g.hash then (s.hashPick n f el).toList else el
    ps.map (fun p => pv p f.vc.toNat)
  | _ => []

/-- Every queue that a ready frame, in staging (not in overflow holding) or at a source, waits for, with the frame. -/
def State.roomWaits (s : State) : List (Nat × Frame) :=
  let staged := s.sw.staging.flatMap (fun x => x.2.flatMap (fun h =>
    if s.ownFrame h.f || isSpan (x.1 / 8) then []
    else match s.target h.f with
      | some g => (s.roomQueues (clusterOf (x.1 / 8)) g h.f).map (fun q => (q, h.f))
      | none => []))
  let source := s.sw.sources.flatMap (fun x => x.2.flatMap (fun e => e.aims.flatMap (fun a =>
    let groups := match a with
      | .mcast gs => gs.filterMap s.group
      | a => (s.aimGroup e.f a).toList
    groups.flatMap (fun g => (s.roomQueues (sourceCluster x.1) g e.f).map (fun q => (q, e.f))))))
  staged ++ source

/-- The index q of a port's queue in its cluster. -/
def queueIndex (port v : Nat) : Nat := if isSpan port then 8 * (32 + port % 2) + v else 8 * (port % 32) + v

/-- Count one tick of CL_QSTALL and ROOM_NS, once for each queue. -/
def State.countRoom (s : State) : List (Nat × Frame) → List Nat → State
  | [], _ => s
  | (q, f) :: l, done =>
    if done.contains q then s.countRoom l done
    else
      let port := q / 8
      ((s.bump (Reg.CL_QSTALL (clusterOf port) (queueIndex port (q % 8))) 40).frameEvent 0x09 40 port f).countRoom l (q :: done)

/-! ### Ports, lasers and tables -/

/-- Ports may leave DARK by themselves: not once a drain has put them there, until the next ADMIT, nor before their boot
step (R387, R423). (DEDUCED, log entry 74) -/
def State.portsMayReturn (s : State) : Bool :=
  s.carries || (s.mode == stStandby && decide (7 ≤ s.bootStep) && !(s.engine 0).selfRefresh)

/-- A port that has been up or down goes on from DARK while it is enabled: a site port that is not furled (R64), a span port whose
pluggable is there and not refused (R89). (DEDUCED, log entry 74) -/
def State.portReturns (s : State) (p : Nat) : State :=
  if !isSpan p then s.leaveDark p
  else if s.portState p = pDark ∧ s.fld (Reg.CL_SX_CMIS_STAT (p - 512)) Fld.CL_SX_CMIS_STAT_REFUSE = 0 then s.tryBringUp (p - 512)
  else s

/-- Ports return, spares that wait for a lane or a release are swapped in once they may (R76, R77), and the table engine
and the scrub engine go on with their entries (R185, R443). -/
def State.goOn (s : State) : State :=
  let s := if s.portsMayReturn then s.port.links.foldl (fun (s : State) x => s.portReturns x.1) s else s
  ((List.range 64).foldl (fun (s : State) g => s.retrySwaps g) s).imageStep.scrubGo

/-! ### The tick -/

/-- 80 cycles of the 2.0 GHz core clock: event 0x12, which every set counts (R366). (DESIGN CHOICE, log entry 1) -/
def State.countCycles (s : State) : State :=
  if (s.reg Reg.TEL_CTL).getLsbD 0 then s
  else (List.range 17).foldl (fun (s : State) k =>
    (s.telListed k).foldl (fun (s : State) i => s.telCount k i { ev := 0x12, n := 80 }) s) s

/-- One event tick passes: nothing runs in OFF; in WATCH the clocks alone. (DESIGN CHOICE, log entries 1 and 126) -/
def passTick (s : State) : State :=
  if s.mode = 0 then s
  else if !s.awake then s.clockTick
  else
    let s := s.goOn
    let heads := s.busyVcs
    let waits := s.roomWaits
    let s := heads.foldl (fun (s : State) k => s.countHead k) s
    ((s.countRoom waits []).countCycles.pumpCopies).clockTick

end Sys2Proof.Machine
end

