-- ==== Sys2Proof/Machine/Step.lean ====
section
/-! DEFINITION. The step: the command at the front of the queue runs; on an empty queue one
event tick passes. -/

namespace Sys2Proof.Machine

/-- One step: the front command on the state with the queue's rest; on an empty queue one
40 ns tick passes (DESIGN CHOICE, log entry 1). (DESIGN CHOICE, log entries 7, 8, 126) -/
def step (s : State) : Host.Outcome State Fault Refusal :=
  match s.pending with
  | [] => .next (passTick s)
  | c :: rest => exec c { s with pending := rest }

/-- The state with the command that the word spells put at the front of its queue; no word
spells a command, so the state is unchanged. (DESIGN CHOICE, log entry 8) -/
def State.withFetchWord (s : State) (nbits w : Nat) : State :=
  match decodeTableWord nbits w with
  | some c => { s with pending := c :: s.pending }
  | none => s

end Sys2Proof.Machine
end

