-- ==== Sys2Proof/Safety.lean ====
section
/-! DEFINITION. What counts as a safe run: a step neither faults nor refuses. With it the terms that
statements use: the canonical form of the state's stores, registers without an action of their own, and
when a Mill core issues its next instruction. -/

namespace Sys2Proof

/-- The step at `s` answers a next state. -/
def Safe (s : Machine.State) : Prop := ∃ t, Machine.step s = .next t

/-- The commands of the Watch domain, which have their effect in WATCH or OFF too (R385, R386, R388, R473, R486).
(DEDUCED, log entry 120) -/
def Instr.ofWatch : Instr → Bool
  | .wakeLight _ => true
  | .wakeTimer => true
  | .wakePin => true
  | .wakeSource _ => true
  | .powerApplied => true
  | .watchSupplyLoss => true
  | .supplyFault => true
  | .railTimeout _ => true
  | .vrange => true
  | .lowFlow _ => true
  | .bootStepDone _ _ _ => true
  | .warmResetReady => true
  | .scoreUpdate => true
  | .eventWindowAgeOut _ => true
  | .tapInstruction _ => true
  | _ => false

namespace Machine

/-- The register file is in canonical form: equal contents are equal data. -/
def State.regsOk (s : State) : Prop := SMap.wf none s.regs = true

/-- The rows (by their base) of the registers whose write does more than its access codes say. -/
def actionRegs : List Nat :=
  [Reg.WCH_STATECMD, Reg.WCH_WDOG, Reg.WCH_RESETREQ, Reg.WCH_BOSPWR, Reg.WCH_THERM, Reg.WCH_ESC, Reg.WCH_FRTAIL, Reg.WCH_EVTAIL,
    Reg.WCH_FSCLR, Reg.WCH_TSTREQ, Reg.WCH_TSTTAIL, Reg.BIC_DONE 0, Reg.BIC_PEND 0, Reg.BIC_WMASK 0, Reg.MBX_SEND, Reg.MBX_ACK,
    Reg.UZP_CTL 0] ++
  [Reg.CL_SP_CTL 0, Reg.CL_SP_CMD 0, Reg.CL_OE_CTL 0, Reg.CL_SX_CTL 0, Reg.CL_SX_CMD 0, Reg.CL_SX_CMIS_CMD 0, Reg.CL_EG_CTL 0,
    Reg.CL_EG_GCL 0 0, Reg.CL_EG_SHAPE 0 0, Reg.DSP_CMD 0, Reg.DSP_CRTAIL 0, Reg.DSP_CORECMD 0] ++
  [Reg.GRN_CMD 0, Reg.GRN_CRTAIL 0, Reg.LFT_PART, Reg.LFT_CN_CTL, Reg.LFT_DMP_CMD, Reg.LFT_DMP_CRTAIL, Reg.SVB_CMD, Reg.SVB_CRTAIL] ++
  [Reg.TBL_CMD 0, Reg.TBL_DATA 0 0, Reg.TBL_QCTL, Reg.TBL_CRTAIL, Reg.TBL_SH_CMD, Reg.TIM_SET, Reg.TEL_CTL, Reg.TEL_BWWIN,
    Reg.TEL_TAG_CTL, Reg.TEL_CSEL 0 0, Reg.TEL_CNT 0 0, Reg.SEC_BKCMD, Reg.SEC_BKEY 0, Reg.SEC_SLOT 0, Reg.SEC_SCR_CMD,
    Reg.SEC_SCR_CRTAIL]

/-- `c` is what DRAIN, FORCE or RESUME, written alone to an engine's command register, commands. -/
def engineCommand (val : Word) (d f r c : Instr) : Prop :=
  (val.toNat % 8 = 1 ∧ c = d) ∨ (val.toNat % 8 = 2 ∧ c = f) ∨ (val.toNat % 8 = 4 ∧ c = r)

/-- `c` is the command of the table that a write of a register of a cluster is. -/
def clusterCommand (b n i j : Nat) (val : Word) (c : Instr) : Prop :=
  let nf : Fin 16 := Fin.ofNat 16 n
  let span : Fin 32 := Fin.ofNat 32 (2 * n + i)
  (b = Reg.CL_SP_CMD 0 ∧ val.getLsbD 0 = true ∧ c = .siteRetrain (Fin.ofNat 512 (32 * n + i))) ∨
  (b = Reg.CL_SX_CMD 0 ∧ val.getLsbD 0 = true ∧ c = .spanRetrain span) ∨
  (b = Reg.CL_SX_CMIS_CMD 0 ∧ c = .cmisCmd span val) ∨
  (b = Reg.CL_EG_SHAPE 0 0 ∧ c = .shaperWrite (Fin.ofNat 544 (egressPort n i)) (Fin.ofNat 8 j) val) ∨
  (b = Reg.DSP_CMD 0 ∧ engineCommand val (.dspDrain nf) (.dspForce nf) (.dspResume nf) c) ∨
  (b = Reg.DSP_CRTAIL 0 ∧ c = .crtailWrite (.dsp nf) (val.setWidth 8))

/-- `c` is the command of the table that a write of a register outside the clusters is. -/
def moduleCommand (src : Source) (b i : Nat) (val : Word) (c : Instr) : Prop :=
  let j : Fin 16 := Fin.ofNat 16 i
  (b = Reg.WCH_WDOG ∧ c = .wdogPet val) ∨ (b = Reg.WCH_THERM ∧ c = .wchThermWrite val) ∨
  (b = Reg.WCH_FSCLR ∧ c = .fsclr val) ∨ (b = Reg.WCH_TSTTAIL ∧ c = .crtailWrite .tst (val.setWidth 8)) ∨
  (b = Reg.MBX_SEND ∧ c = .mbxSend src (Fin.ofNat 64 val.toNat)) ∨
  (b = Reg.MBX_ACK ∧ c = .mbxAck src (Fin.ofNat 64 (bitsOf val.toNat 21 16)) (val.setWidth 16)) ∨
  (b = Reg.GRN_CMD 0 ∧ val.getLsbD 3 = false ∧ engineCommand val (.grnDrain j) (.grnForce j) (.grnResume j) c) ∨
  (b = Reg.GRN_CRTAIL 0 ∧ c = .crtailWrite (.grn j) (val.setWidth 8)) ∨
  (b = Reg.LFT_PART ∧ c = .lftPartWrite val) ∨ (b = Reg.LFT_CN_CTL ∧ c = .cnEnable val) ∨
  (b = Reg.LFT_DMP_CMD ∧ engineCommand val .dmpDrain .dmpForce .dmpResume c) ∨
  (b = Reg.LFT_DMP_CRTAIL ∧ c = .crtailWrite .dmp (val.setWidth 8)) ∨
  (b = Reg.SVB_CMD ∧ engineCommand val .svbDrain .svbForce .svbResume c) ∨
  (b = Reg.SVB_CRTAIL ∧ c = .crtailWrite .svb (val.setWidth 8)) ∨
  (b = Reg.TBL_QCTL ∧ engineCommand val .tblDrain .tblForce .tblResume c) ∨
  (b = Reg.TBL_CRTAIL ∧ c = .crtailWrite .tbl (val.setWidth 8)) ∨
  (b = Reg.TBL_SH_CMD ∧ Fld.TBL_SH_CMD_OP.get val = 0 ∧ c = .shBegin src val) ∨
  (b = Reg.TBL_SH_CMD ∧ Fld.TBL_SH_CMD_OP.get val = 1 ∧ c = .shCommit src val) ∨
  (b = Reg.TBL_SH_CMD ∧ Fld.TBL_SH_CMD_OP.get val = 2 ∧ c = .shAbort src val) ∨
  (b = Reg.TBL_SH_CMD ∧ Fld.TBL_SH_CMD_OP.get val = 3 ∧ c = .shStage src val) ∨
  (b = Reg.TIM_SET ∧ c = .timSet val) ∨ (b = Reg.TEL_BWWIN ∧ c = .bwwinWrite (val.setWidth 20)) ∨
  (b = Reg.TEL_TAG_CTL ∧ c = .tagEnable val) ∨
  (b = Reg.SEC_SCR_CMD ∧ engineCommand val .scrDrain .scrForce .scrResume c) ∨
  (b = Reg.SEC_SCR_CRTAIL ∧ c = .crtailWrite .scr (val.setWidth 8))

/-- `c` is the command of the table that a write of `val` to the register at `off` is by itself. -/
def writeCommand (src : Source) (off : Nat) (val : Word) (c : Instr) : Prop :=
  ∃ r, regRow off = some r ∧
    let at_ := fun (k : Nat) => (r.place off).getD k 0
    (clusterCommand r.base (at_ 0) (at_ 1) (at_ 2) val c ∨ moduleCommand src r.base (at_ 0) val c)

/-- The RC registers that show what the state keeps elsewhere, or clear another way. -/
def computedRc : List Nat :=
  [Reg.BIC_CLAIM 0, Reg.CL_RD_CTXCNT 0 0, Reg.CL_AR_CNT 0 0, Reg.CL_SP_FECC 0 0, Reg.CL_SP_FECU 0 0, Reg.CL_SX_FECC 0 0,
    Reg.CL_SX_FECU 0 0, Reg.CL_QMAX 0 0]

/-- A link control block of the row of TYPE `type` reaches port `p` of `s`, which receives such blocks; what its wire holds
then is `r` (R64, R107). -/
abbrev State.blockReaches (s : State) (p : Fin 544) (type : Nat) (usesVc : Bool) (b : Lcb) (r : State) : Prop :=
  s.arrives p (lcbFrom p type (lcbGood type usesVc b) b) = some r ∧ r.linked p = true

/-- Core `c` of cluster `n` runs an invocation of descriptor `d`, and `w` is the word at its pc. -/
def State.running (s : State) (n : Fin 16) (c : Fin 96) (d : Desc) (w : Word) : Prop :=
  s.coreCmd n.val = true ∧ (s.core n.val c.val).st = coRun ∧ (s.core n.val c.val).ftxGrn = false ∧
    (s.core n.val c.val).desc = some d ∧ s.fetch n.val (s.core n.val c.val).pc = w

/-- The instruction retires before the watchdog's cycle; a HALT may issue up to it (R230, R259). -/
def Prep.inTime (p : Prep) : Bool :=
  match p.i with
  | .halt _ _ _ => decide (p.early ≤ watchdogCycles)
  | _ => decide (p.early < watchdogCycles ∧ p.at < watchdogCycles)

/-- Such a core issues instruction `i`, `p` being the instruction with its operands and times, no injected residue error
falls on it, and none of the checks that every instruction shares stops it: HANG, PSTORE, ILLEGAL, REGECC, FORMAT (R258). -/
def State.issues (s : State) (n : Fin 16) (c : Fin 96) (i : MInstr) (p : Prep) : Prop :=
  ∃ (d : Desc) (w : Word) (e : MillErr), s.running n c d w ∧ decodeMill w = some i ∧ e ≠ .storeEcc ∧ e ≠ .regEcc ∧
    ((s.core n.val c.val).inject = false ∨ i.checked = false) ∧ p = s.prep n.val c.val d i e ∧
    s.pstoreWord n.val (s.core n.val c.val) w = false ∧ p.illegal = false ∧ p.format = false ∧ p.inTime = true

/-- The command of a packet KIND in a session: the form its ARG and payload must keep, whether a TENANT session may
send it (R413), and whether the security core answers it without Bosun firmware (R435). -/
structure SessionCmd where
  kind : Byte
  form : Bool
  tenant : Bool := false
  core : Bool := false
  cmd : Instr

/-- The packet KINDs of a session (R411, R418, R420, R421, R432). -/
def sessionCmds (k : Fin 2) (p : Packet) (fw sig : SigPair) : List SessionCmd :=
  let empty := argEnds p 0 && p.payload.isEmpty
  let sized := fun (n most : Nat) => p.payload.length % n == 0 && decide (1 ≤ p.payload.length / n ∧ p.payload.length / n ≤ most)
  [ { kind := 0x02, form := empty, tenant := true, cmd := .close k p },
    { kind := 0x03, form := empty, tenant := true, cmd := .ping k p },
    { kind := 0x10, form := argEnds p 0 && sized 16 4096, tenant := true, cmd := .regBatch k p },
    { kind := 0x11, form := argEnds p 2 && decide (argNat p 0 1 < 0x24 ∧ argNat p 1 1 < 8) && sized 64 1024, cmd := .cmdAppend k p },
    { kind := 0x12
      form := argEnds p 18 && decide (argNat p 16 1 ≤ 2) && (argNat p 17 1 == 0 || (argNat p 17 1 == 1 && p.payload.isEmpty))
      cmd := .bulkLoad k p },
    { kind := 0x13, form := argEnds p 1 && decide (argNat p 0 1 < 64) && p.payload.length == 64, cmd := .mbxPost k p },
    { kind := 0x14, form := argEnds p 0 && p.payload.length % 16 == 0 && p.payload.length / 16 != 0, tenant := true, cmd := .telSub k p },
    { kind := 0x15
      form := argEnds p 0 && p.payload.length == 40 && natAt p.payload 32 8 / 32768 == 0 && bitsOf (natAt p.payload 32 8) 7 3 == 0
      tenant := true
      core := true
      cmd := .attest k p },
    { kind := 0x16
      form := argEnds p 1 && p.payload.isEmpty && argNat p 0 1 % 4 != 0 && argNat p 0 1 / 4 % 4 == 0
      cmd := .resetPacket k p },
    { kind := 0x17
      form := argEnds p 0 && decide (3 ≤ p.payload.length) && decide (0x21 ≤ natAt p.payload 2 1 ∧ natAt p.payload 2 1 ≤ 0x23)
      cmd := .broadcastPacket k p [] },
    { kind := 0x18, form := empty, cmd := .fwStage k p fw sig },
    { kind := 0x19, form := empty, cmd := .fwActivate k p } ]

/-- A packet of session slot `i` of port `k` comes next in order; `t` is the state in which it is judged. -/
def State.inOrder (s : State) (k : Fin 2) (p : Packet) (i : Nat) (t : State) : Prop := s.arrive k p = (some i, t)

/-- Such a packet keeps R410, Bosun firmware runs, and the session is an OPERATOR's: `t` executes it. -/
def State.operatorTakes (s : State) (k : Fin 2) (p : Packet) (i : Nat) (t : State) : Prop :=
  s.inOrder k p i t ∧ headerGood p = true ∧ t.bosunUp = true ∧ (t.session k i).tenant = false

end Machine

end Sys2Proof
end

