-- ==== Sys2Proof/Certificates/Slice0/Obligations.lean ====
section
/-! DEFINITION. The statements for the provers: what each command does, by the rules of the spec, what every
step keeps, and what the shared operations do. -/

open Sys2Proof Sys2Proof.Machine

/-- A step runs the command at the front of the queue on the queue's rest (00_scope.md). -/
def Obligations.StepRunsFrontCommand : Prop :=
  ∀ (s : State) (c : Instr) (rest : List Instr), s.pending = c :: rest →
    step s = exec c { s with pending := rest }

/-- After reset: OFF of power aside, the module is in WATCH with every register at its reset value (R385, R492, R7). -/
def Obligations.ResetState : Prop :=
  State.reset.mode = stWatch ∧ State.reset.awake = false ∧ State.reset.pending = [] ∧
  (∀ k, State.reset.reg k = regReset k) ∧
  State.reset.tbl = {} ∧ State.reset.red = {} ∧ State.reset.grn.mem = [] ∧ State.reset.grn.bindings = [] ∧
  State.reset.uz = {} ∧ State.reset.sw = {} ∧ State.reset.eng = {} ∧ State.reset.mill = {} ∧ State.reset.tick = 0

/-- What a register write and a read of an RC field leave, by access code or as the command they are (R7, R8, R9, R10, R117). -/
def Obligations.RegisterAccess : Prop :=
  (∀ (s : State) (src : Source) (off : BitVec 32) (val : Word) (r : RegRow), s.mayWrite src = true →
    regRow off.toNat = some r → r.base ∉ actionRegs →
    let key := viewKey src r off.toNat
    ∃ w : Word, exec (.registerWrite src off val) s = .next ((s.setReg key w).answer 0 0) ∧
      ∀ i : Nat, w.getLsbD i =
        (if r.rw.getLsbD i then val.getLsbD i
        else if r.w1s.getLsbD i then val.getLsbD i || (s.reg key).getLsbD i && !(r.w1c.getLsbD i && val.getLsbD i)
        else if r.w1c.getLsbD i then (s.reg key).getLsbD i && !val.getLsbD i
        else (s.reg key).getLsbD i)) ∧
  (∀ (s : State) (src : Source) (off : BitVec 32) (val : Word) (c : Instr), s.mayWrite src = true →
    writeCommand src off.toNat val c →
    ∃ t, exec c s = .next t ∧ exec (.registerWrite src off val) s = .next (t.answer 0 0)) ∧
  (∀ (s : State) (src : Source) (off : BitVec 32) (val : Word), s.mayWrite src = true →
    regRow off.toNat = none → exec (.registerWrite src off val) s = .next (s.answer 0 1)) ∧
  (∀ (s : State) (src : Source) (off : BitVec 32) (event : Bool) (r : RegRow), s.mayRead src = true → s.tenantSource src = false →
    regRow off.toNat = some r → r.rc = true →
    let n := (r.place off.toNat).getD 0 0
    let i := (r.place off.toNat).getD 1 0
    let seen := fun (m : SMap Nat) (k : Nat) => if event then SMap.put 0 (SMap.put 0 m k 0) k 1 else SMap.put 0 m k 0
    (r.base ∉ computedRc → exec (.rcFieldRead src off event) s =
      .next ((if event then (s.setReg off.toNat 0).setReg off.toNat 1 else s.setReg off.toNat 0).answer (s.reg off.toNat) 0)) ∧
    (isFecCounter r.base = true → exec (.rcFieldRead src off event) s =
      .next (((if event then (s.setReg off.toNat 0).setReg off.toNat 1 else s.setReg off.toNat 0).onPort
        (fun p => { p with fecAt := SMap.put 0 p.fecAt off.toNat s.tick })).answer (s.fecWord off.toNat) 0)) ∧
    (r.base = Reg.CL_QMAX 0 0 → exec (.rcFieldRead src off event) s =
      .next ((if event then (s.setReg off.toNat 0).sampleQueue n i else s.setReg off.toNat 0).answer (s.reg off.toNat) 0)) ∧
    (∀ k, s.ctxKey n i = some k →
      (r.base = Reg.CL_RD_CTXCNT 0 0 → exec (.rcFieldRead src off event) s =
        .next ((s.onRed (fun x => { x with ctxCnt := seen x.ctxCnt k })).answer (BitVec.ofNat 64 (SMap.get 0 s.red.ctxCnt k)) 0)) ∧
      (r.base = Reg.CL_AR_CNT 0 0 → exec (.rcFieldRead src off event) s =
        .next ((s.onRed (fun x => { x with arCnt := seen x.arCnt k })).answer (BitVec.ofNat 64 (SMap.get 0 s.red.arCnt k)) 0)))) ∧
  (∀ (s : State) (src : Source) (off : BitVec 32) (event : Bool), s.mayRead src = true → s.tenantSource src = false →
    regRow off.toNat = none → exec (.rcFieldRead src off event) s = .next (s.answer 0 1)) ∧
  (∀ (s : State) (src : Source) (off : BitVec 32) (event : Bool) (k i : Nat), s.mayRead src = true →
    sourceSession src = some (k, i) → (s.session k i).tenant = true →
    exec (.rcFieldRead src off event) s = .next (s.answer (s.tenantRead k i off.toNat).1 (s.tenantRead k i off.toNat).2)) ∧
  (∀ (s : State) (src : Source) (off : BitVec 32) (val : Word) (event : Bool),
    (s.mayWrite src = false → exec (.registerWrite src off val) s = .next s) ∧
    (s.mayRead src = false → exec (.rcFieldRead src off event) s = .next s)) ∧
  (∀ (s : State) (ring : Ring) (idx : Byte), s.awake = true →
    let r := ringRegs ring
    let reach := (s.fld r.head ⟨0, 8⟩ + 256 - s.fld r.tail ⟨0, 8⟩) % 256
    let step := (idx.toNat + 256 - s.fld r.tail ⟨0, 8⟩) % 256
    exec (.crtailWrite ring idx) s = .next (if step ≤ reach then s.setReg r.tail (BitVec.ofNat 64 idx.toNat) else s))

/-- A send that ALLOW lets in fills its mailbox and rings its doorbell; an acknowledgement of the current SEQ frees it (R400, R401, R402, R403, R404, R405). -/
def Obligations.MailboxCommands : Prop :=
  (∀ (s : State) (src : Source) (m : Fin 64), s.mayWrite src = true →
    (s.reg (Reg.MBX_CFG m)).toNat.testBit (mbxSender src).1 = true →
    let full := s.flag (Reg.MBX_STAT m) Fld.MBX_STAT_FULL
    let words := (List.range 8).map (fun i => s.reg (banked src (Reg.MBX_STAGE i)))
    let copied := (List.range 8).foldl (fun (s : State) i => s.setReg (Reg.MBX_MSG m i) (words.getD i 0)) s
    let stat := copied.setReg (Reg.MBX_STAT m) (pack [(Fld.MBX_STAT_FULL, 1), (Fld.MBX_STAT_COLLIDE, b2n full),
      (Fld.MBX_STAT_SENDER, (mbxSender src).1), (Fld.MBX_STAT_SESSION, (mbxSender src).2),
      (Fld.MBX_STAT_SEQ, s.fld (Reg.MBX_STAT m) Fld.MBX_STAT_SEQ + 1)])
    let rung := ((stat.linePulse (srcDoorbell m)).onWatch (fun w => { w with bellAt := stat.tick + 1 })).logEvent 10 (srcDoorbell m) false
    let recv := rung.fld (Reg.MBX_CFG m) ⟨61, 3⟩
    let powered := if recv < 4 then rung.bospwr ((rung.reg Reg.WCH_BOSPWR).toNat ||| 2 ^ recv) else rung
    exec (.mbxSend src m) s = .next ((powered.mbxReport m).setReg (banked src Reg.MBX_SENDSTAT)
      (BitVec.ofNat 64 (if full then 2 else 0)))) ∧
  (∀ (s : State) (src : Source) (m : Fin 64), s.mayWrite src = true →
    (s.reg (Reg.MBX_CFG m)).toNat.testBit (mbxSender src).1 = false →
    exec (.mbxSend src m) s = .next (s.setReg (banked src Reg.MBX_SENDSTAT) 1)) ∧
  (∀ (s : State) (src : Source) (m : Fin 64) (seq : BitVec 16), s.mayWrite src = true →
    let current := s.fld (Reg.MBX_STAT m) Fld.MBX_STAT_SEQ = seq.toNat ∧ s.alsoNow (s.sendsTo m) = false
    let receives := ∀ k i, s.mbxReceiver m = some (k, i) → sourceSession src = some (k, i) ∧ (s.session k i).operator = true
    (current ∧ receives → exec (.mbxAck src m seq) s =
      .next (((s.onUz (fun u => { u with owed := SMap.put false u.owed m false })).setFld (Reg.MBX_STAT m)
        Fld.MBX_STAT_FULL 0).setFld (Reg.MBX_STAT m) Fld.MBX_STAT_COLLIDE 0)) ∧
    (¬(current ∧ receives) → exec (.mbxAck src m seq) s = .next s))

/-- What each step of the Bosun interrupt controller leaves (R393, R394, R395, R396, R397, R398, R399). -/
def Obligations.InterruptControllerCommands : Prop :=
  (∀ (s : State) (i : Fin 1024) (e : Edge), s.awake = true → sourceExists i = true → ¬(512 ≤ i.val ∧ i.val < 576) →
    s.line i = decide (e = .rising) →
    exec (.bicPending i (some e)) s = .next (
      if s.sense i = 4 ∨ s.sense i = (if e = .rising then 2 else 3) then
        (if s.isActive i && SMap.get false s.bic.edges i then s.bump Reg.BIC_COAL 1
        else s.onBic (fun b => { b with edges := SMap.put false b.edges i true }))
      else s)) ∧
  (∀ (s : State) (i : Fin 1024), exec (.bicPending i none) s = .next s) ∧
  (∀ (s : State) (i : Fin 1024) (c : Nat), s.modintPassed i = true → s.flag (Reg.BIC_SRC i) Fld.BIC_SRC_ENABLE = true →
    s.fld (Reg.BIC_SRC i) Fld.BIC_SRC_TARGET = c → s.isPending i = true → s.isActive i = false → s.curPri c < s.prio i →
    exec (.modintExpiry i) s = .next s ∧ s.deliverable c i = true) ∧
  (∀ (s : State) (c : Fin 4) (i : Nat), s.awake = true → s.presented c = some i →
    exec (.bicClaim c) s = .next ((s.onBic (fun b => { b with
      active := SMap.put false b.active i true
      edges := SMap.put false b.edges i false
      claimed := SMap.put 0 b.claimed i (s.tick + 1)
      nest := SMap.put [] b.nest c ((i, s.prio i) :: s.stack c) })).answer (pack [(⟨63, 1⟩, 1), (⟨0, 10⟩, i)]) 0)) ∧
  (∀ (s : State) (c : Fin 4), s.awake = true → s.presented c = none → exec (.bicClaim c) s = .next (s.answer 0 0)) ∧
  (∀ (s : State) (c : Fin 4) (i : BitVec 10) (p : Nat) (l : List (Nat × Nat)), s.awake = true →
    s.stack c = (i.toNat, p) :: l →
    exec (.bicDone c i) s = .next (s.onBic (fun b => { b with
      nest := SMap.put [] b.nest c l
      active := SMap.put false b.active i.toNat false }))) ∧
  (∀ (s : State) (c : Fin 4) (i : BitVec 10), s.awake = true → (∀ p l, s.stack c ≠ (i.toNat, p) :: l) →
    exec (.bicDone c i) s = .next ((s.bump Reg.BIC_OOOCNT 1).raise Reg.BIC_EVT c 11 srcBic)) ∧
  (∀ (s : State) (w : Fin 16) (val : Word), s.awake = true → SMap.wf false s.bic.edges = true →
    ∃ t, exec (.bicPendWrite w val) s = .next t ∧ t = s.onBic (fun b => { b with edges := t.bic.edges }) ∧
      ∀ i, SMap.get false t.bic.edges i =
        (SMap.get false s.bic.edges i && !(decide (i / 64 = w.val) && val.getLsbD (i % 64) && decide (2 ≤ s.sense i)))) ∧
  (∀ (s : State) (on : Bool), s.awake = true → SMap.wf none s.regs = true →
    exec (.bicGdis on) s = .next (s.setFld Reg.BIC_CTL ⟨0, 1⟩ (b2n on)) ∧
    (on = true → ∀ c, (s.setFld Reg.BIC_CTL ⟨0, 1⟩ 1).presented c = none)) ∧
  (∀ (s : State) (w : Fin 16) (val : Word), s.awake = true →
    let n := ((List.range 16).map (fun k => popCount (if k = w.val then val else s.reg (Reg.BIC_WMASK k)))).sum
    exec (.bicWmaskWrite w val) s = .next (if n ≤ 64 then s.setReg (Reg.BIC_WMASK w) val else s.raise Reg.BIC_EVT 4 11 srcBic))

/-- The commands of WCH_STATECMD: the state each one reaches, and the status REFUSED or BUSY otherwise (R385, R386, R387, R388, R423, R427, R468, R335, R463). -/
def Obligations.ModuleStateCommands : Prop :=
  let status := fun (s : State) (v : Nat) => s.setFld Reg.WCH_STATE Fld.WCH_STATE_CMDSTAT v
  (∀ s : State, s.awake = true → exec .wake s = .next (status s 1)) ∧
  (∀ s : State, s.awake = true → s.bellNow = false → s.inTransition = false → s.mode = stStandby →
    exec .sleep s = .next (status s.goSleep 0)) ∧
  (∀ s : State, s.awake = true → s.inTransition = false → s.mode = stService →
    exec .drain s = .next (status ((s.enterMode stDraining 0).onWatch (fun w => { w with drainAt := s.tick })) 0)) ∧
  (∀ s : State, s.awake = true → s.inTransition = false → (s.mode = stStandby ∨ s.mode = stService ∨ s.mode = stDraining) →
    exec .layup s = .next (status (s.enterLaid 0 false) 0)) ∧
  (∀ s : State, s.inTransition = false → s.mode = stDraining → s.imageGeneration = s.watch.record.planegen →
    let e := s.enterMode stService 0
    exec .admitModule s = .next (status (if s.watch.reissueDue then (e.onWatch (fun w => { w with
      reissueDue := false })).reissueCommits (fun _ => true) else e) 0)) ∧
  (∀ s : State, s.inTransition = false → s.mode = stStandby → s.imageGeneration = s.watch.record.planegen →
    s.flag Reg.WCH_BOOT Fld.WCH_BOOT_READY = true →
    exec .admitModule s = .next (status s.admitStandby 0)) ∧
  (∀ (s : State) (src : Source), s.mayWrite src = true → s.inTransition = false → s.mode = stLaidUp →
    (sourceSession src).isSome = true → s.flag Reg.WCH_ESC Fld.WCH_ESC_TESTED = true → s.watch.moduleFault = false →
    s.thirdResetNow = false →
    exec (.unlay src) s = .next (status (((((s.enterMode stStandby 0).setFld Reg.WCH_STATE Fld.WCH_STATE_LAIDFLAG 0).setFld
      Reg.WCH_ESC Fld.WCH_ESC_COUNT 0).setFld Reg.WCH_ESC Fld.WCH_ESC_ESCALATED 0).onWatch (fun w => { w with counted := [] })) 0)) ∧
  (∀ s : State, s.awake = true → s.inTransition = false →
    (s.mode ≠ stStandby → s.bellNow = false → exec .sleep s = .next (status s 1)) ∧
    (s.mode ≠ stService → exec .drain s = .next (status s 1)) ∧
    (s.mode = stLaidUp → exec .layup s = .next (status s 1)) ∧
    (s.mode ≠ stStandby → s.mode ≠ stDraining → exec .admitModule s = .next (status s 1)) ∧
    (s.mode = stStandby → s.imageGeneration = s.watch.record.planegen → s.flag Reg.WCH_BOOT Fld.WCH_BOOT_READY = false →
      exec .admitModule s = .next (status s 1))) ∧
  (∀ (s : State) (src : Source), s.mayWrite src = true → s.inTransition = false → s.thirdResetNow = false →
    (s.mode ≠ stLaidUp ∨ sourceSession src = none ∨ s.flag Reg.WCH_ESC Fld.WCH_ESC_TESTED = false ∨ s.watch.moduleFault = true) →
    exec (.unlay src) s = .next (status s 1)) ∧
  (∀ s : State, s.awake = true →
    (s.bellNow = true ∨ s.inTransition = true → exec .sleep s = .next (status s 2)) ∧
    (s.inTransition = true → exec .drain s = .next (status s 2) ∧ exec .layup s = .next (status s 2) ∧
      exec .admitModule s = .next (status s 2)) ∧
    ∀ src, s.mayWrite src = true → (s.thirdResetNow = true ∨ s.inTransition = true) → exec (.unlay src) s = .next (status s 2)) ∧
  (∀ s : State, s.regsOk → ∀ st cause, st < 8 → (s.enterMode st cause).mode = st ∧
    (s.enterMode st cause).fld Reg.WCH_STATE Fld.WCH_STATE_PREV = s.mode)

/-- The end of draining, the power of the Bosun cores and the watchdog (R380, R381, R387, R467, R382). -/
def Obligations.DrainWatchdogAndCorePower : Prop :=
  (∀ s : State, s.mode = stDraining → s.isDrained = true →
    exec .drained s = .next ((s.darkAll.selfRefresh true).enterMode stStandby 2)) ∧
  (∀ s : State, s.mode = stDraining → s.since s.watch.drainAt (secTicks (min 3600 (max 1 (s.fld Reg.WCH_CTL ⟨0, 16⟩)))) = true →
    s.admitNow = false →
    let forced := ((s.forceAll 1).faultRounds rfAborted (fun _ r => r.state != 0 && r.state != rsFaulted)).abortSoftSheaves
    exec .drainwaitExpiry s = .next ((((forced.onMa (fun a => { a with
      trackers := []
      reads := []
      atoms := [] })).darkAll).selfRefresh true).enterMode stStandby 3)) ∧
  (∀ s : State, s.admitNow = true → exec .drainwaitExpiry s = .next s) ∧
  (∀ (s : State) (val : BitVec 4), s.awake = true →
    let on : Word := BitVec.ofNat 64 ((val.toNat ||| s.wokenCores) % 16 ||| 1)
    exec (.bospwrWrite val) s = .next ((s.setReg Reg.WCH_BOSPWR on).onWatch (fun w => { w with
      pets := (List.range 4).foldl (fun m c =>
        if on.getLsbD c && !(s.reg Reg.WCH_BOSPWR).getLsbD c then SMap.put 0 m c s.tick else m) w.pets }))) ∧
  (∀ (s : State) (val : Word), s.awake = true → Fld.WCH_WDOG_KEY.get val = 0x5A5A →
    let c := Fld.WCH_WDOG_CORE.get val
    let masked := s.setFld Reg.WCH_WDOG Fld.WCH_WDOG_WDMASK (Fld.WCH_WDOG_WDMASK.get val)
    exec (.wdogPet val) s = .next ((masked.setFld Reg.WCH_WDOG Fld.WCH_WDOG_PETTED
      (masked.fld Reg.WCH_WDOG Fld.WCH_WDOG_PETTED ||| 2 ^ c)).onWatch (fun w => { w with pets := SMap.put 0 w.pets c s.tick }))) ∧
  (∀ (s : State) (c : Nat), s.bosunUp = true → c ∈ s.checkedCores → s.since (SMap.get 0 s.watch.pets c) (secTicks 1) = true →
    exec .wdogWarn s = .next (s.raise Reg.WCH_EVT 5 11 srcWatch)) ∧
  (∀ s : State, (s.bosunUp = true ∨ s.isCut cutSupply = true ∨ s.isCut cutTrip = true) → s.since s.watch.wdogAt (secTicks 2) = true →
    let cleared := (s.setFld Reg.WCH_WDOG Fld.WCH_WDOG_PETTED 0).onWatch (fun w => { w with wdogAt := s.tick })
    let late := s.checkedCores.filter (fun c => !(s.fld Reg.WCH_WDOG Fld.WCH_WDOG_PETTED).testBit c && !s.petsNow c)
    (late = [] → exec .wdogExpiry s = .next cleared) ∧
    (∀ c l, late = c :: l →
      ((cleared.supplyNow = true ∨ cleared.tripNow = true) → exec .wdogExpiry s = .next (cleared.logEvent 3 srcWatch true)) ∧
      (cleared.supplyNow = false → cleared.tripNow = false → exec .wdogExpiry s =
        .next (((cleared.logEvent 3 srcWatch false).faultRecord
          { cls := 3, unitType := utBosun, unit := c, action := 3, detail := s.reg Reg.WCH_WDOG }).decideReset 2 rcWatchdog))))

/-- A selected wake source starts the cold reset of a wake; the thermal monitor sets, clears and trips (R388, R390, R391, R392, R399, R382). -/
def Obligations.WakesAndThermalMonitor : Prop :=
  let woken := fun (s : State) (cause : Nat) => (((s.setFld Reg.WCH_WAKE ⟨60, 4⟩ cause).raise Reg.WCH_EVT 8 11 srcWatch).startRun
    { domain := 3, cause := 0, startAt := s.tick, wake := true })
  let asleep := fun (s : State) (k : Nat) => s.mode = stWatch ∧ s.watch.run = none ∧ s.watch.after = none ∧
    (s.fld Reg.WCH_WAKE ⟨0, 4⟩).testBit k = true
  (∀ (s : State) (k : Fin 2), asleep s 0 → exec (.wakeLight k) s = .next (woken s (1 + k.val))) ∧
  (∀ s : State, asleep s 1 → s.tick = (s.reg Reg.WCH_WAKETIME).toNat → exec .wakeTimer s = .next (woken s 3)) ∧
  (∀ s : State, asleep s 2 → exec .wakePin s = .next (woken s 4)) ∧
  (∀ (s : State) (i : Fin 1024), (s.reg (Reg.BIC_WMASK (i.val / 64))).getLsbD (i.val % 64) = true → s.isPending i = true →
    let c := s.fld (Reg.BIC_SRC i) Fld.BIC_SRC_TARGET
    let p := (s.bospwr ((s.reg Reg.WCH_BOSPWR).toNat ||| 2 ^ c)).onWatch (fun w => { w with
      wokenAt := SMap.put 0 w.wokenAt c (s.tick + 1) })
    (p.mode ≠ stWatch → exec (.wakeSource i) s = .next p) ∧
    (asleep p 3 → exec (.wakeSource i) s = .next (woken p 6))) ∧
  (∀ (s : State) (n : Fin 16) (k : Fin 64) (t : BitVec 16), s.awake = true →
    (16 * (s.fld Reg.WCH_THERM Fld.WCH_THERM_HOT : Int) ≤ t.toInt → (s.fld Reg.WCH_THSTAT Fld.WCH_THSTAT_HOT).testBit n = false →
      exec (.thermalHot n k t) s = .next ((s.setFld Reg.WCH_THSTAT Fld.WCH_THSTAT_HOT
        (s.fld Reg.WCH_THSTAT Fld.WCH_THSTAT_HOT ||| 2 ^ n.val)).raise Reg.WCH_EVT 0 11 srcWatch)) ∧
    (16 * (s.fld Reg.WCH_THERM Fld.WCH_THERM_THROTTLE : Int) ≤ t.toInt → (s.fld Reg.WCH_THSTAT Fld.WCH_THSTAT_THROTTLE).testBit n = false →
      exec (.thermalThrottle n k t) s = .next ((s.setFld Reg.WCH_THSTAT Fld.WCH_THSTAT_THROTTLE
        (s.fld Reg.WCH_THSTAT Fld.WCH_THSTAT_THROTTLE ||| 2 ^ n.val)).raise Reg.WCH_EVT 1 11 srcWatch)) ∧
    (16 * (s.fld Reg.WCH_THERM Fld.WCH_THERM_TRIP : Int) ≤ t.toInt → (s.supplyNow = false → exec (.thermalTrip n k t) s = .next s.trip) ∧
      (s.supplyNow = true → exec (.thermalTrip n k t) s = .next (s.logEvent 2 srcWatch true)))) ∧
  (∀ (s : State) (n : Fin 16), s.awake = true →
    let f := if (s.fld Reg.WCH_THSTAT Fld.WCH_THSTAT_THROTTLE).testBit n then Fld.WCH_THSTAT_THROTTLE else Fld.WCH_THSTAT_HOT
    exec (.thermalClear n) s = .next (s.setFld Reg.WCH_THSTAT f (s.fld Reg.WCH_THSTAT f &&& (65535 - 2 ^ n.val)))) ∧
  (∀ (s : State) (t : BitVec 8), s.awake = true → s.fld Reg.WCH_THERM Fld.WCH_THERM_COOLHOT ≤ t.toNat →
    exec (.coolantHot t) s = .next (s.raise Reg.WCH_EVT 2 11 srcWatch)) ∧
  (∀ (s : State) (val : Word), s.awake = true →
    let ok := Fld.WCH_THERM_HOT.get val ≤ Fld.WCH_THERM_THROTTLE.get val ∧
      Fld.WCH_THERM_THROTTLE.get val ≤ Fld.WCH_THERM_TRIP.get val ∧ Fld.WCH_THERM_TRIP.get val ≤ 115
    (ok → exec (.wchThermWrite val) s = .next (s.setReg Reg.WCH_THERM
      ((s.reg Reg.WCH_THERM &&& ~~~ 0xFFFFFFFF00FF) ||| (val &&& 0xFFFFFFFF00FF)))) ∧
    (¬ok → exec (.wchThermWrite val) s = .next (s.raise Reg.WCH_EVT 7 11 srcWatch)))

/-- Input power, supply faults, the power cap, cage overcurrent, low flow and the latch (R385, R489, R491, R492, R493, R494, R496, R500). -/
def Obligations.PowerEvents : Prop :=
  (∀ s : State, s.mode = 0 →
    exec .powerApplied s = .next ((({ s with tick := 0 } : State).onWatch (fun w => { w with incarn := w.incarn + 1 })).enterMode stWatch 7)) ∧
  (∀ s : State, s.mode ≠ 0 →
    (∃ t, exec .watchSupplyLoss s = .next t ∧ t.mode = 0 ∧ t.pending = s.pending ∧ t.watch.slots = s.watch.slots ∧
      t.watch.record = s.watch.record ∧ t.sec.hssQ = s.sec.hssQ ∧ t.tbl = {} ∧ t.grn = {} ∧ t.uz = {} ∧ t.red = {} ∧ t.sw = {}) ∧
    exec .vrange s = .next (s.raise Reg.WCH_PWREVT 0 11 srcWatch) ∧
    (∀ rail, exec (.railTimeout rail) s = exec .supplyFault s)) ∧
  (∀ s : State, s.mode ≠ 0 →
    let e := s.raise Reg.WCH_EVT 4 1 srcWatch
    let d := ((e.countReset rcSupply).2.discardAll.onWatch (fun w => { w with
      laid := w.laid || (e.countReset rcSupply).1 })).cut cutSupply
    let slept := if d.mode = stWatch then d else d.enterMode stWatch 5
    (e.mode = stWatch ∧ e.watch.run = none → exec .supplyFault s = .next e) ∧
    (¬(e.mode = stWatch ∧ e.watch.run = none) → exec .supplyFault s = .next (slept.lastReset
      { domain := 3, cause := 3, startAt := slept.tick } (if slept.watch.laid then 2 else 1)))) ∧
  (∀ s : State, s.awake = true → exec .latchOpen s = .next (s.setBits Reg.WCH_PWREVT 4).supplyFault) ∧
  (∀ (s : State) (mw : Nat), s.awake = true → 1000 * min 5800 (max 4000 (s.fld Reg.WCH_PCAP ⟨0, 16⟩)) < mw →
    let capped := s.onWatch (fun w => { w with
      pcap := true
      pcapAt := s.tick })
    exec (.pcapExceed mw) s = .next (if s.watch.pcap then capped else capped.raise Reg.WCH_PWREVT 1 11 srcWatch)) ∧
  (∀ (s : State) (mw : Nat), s.awake = true → s.watch.pcap = true →
    100 * mw ≤ 95 * (1000 * min 5800 (max 4000 (s.fld Reg.WCH_PCAP ⟨0, 16⟩))) → s.since s.watch.pcapAt (msTicks 10) = true →
    exec (.pcapLift mw) s = .next (s.onWatch (fun w => { w with pcap := false }))) ∧
  (∀ (s : State) (x : Fin 32), s.awake = true → (s.reg Reg.WCH_CAGEPWR).getLsbD x = true →
    let cut := (s.setCmis x { s.cmis x with
      caged := true
      step := 0
      timeouts := 0 }).setReg Reg.WCH_CAGEPWR (s.reg Reg.WCH_CAGEPWR &&& ~~~ (BitVec.ofNat 64 (2 ^ x.val)))
    let off := cut.cmisFld x Fld.CL_SX_CMIS_STAT_REFUSE (if cut.present x then 5 else 0)
    let dark := if off.portState (spanPort x) = pDark then off else off.goDark (spanPort x)
    exec (.cageOvercurrent x) s = .next ((dark.raise Reg.WCH_PWREVT 4 11 srcWatch).portFault (spanPort x) 1 5 11 5 0 (Reg.CL_SX_CMIS_STAT x))) ∧
  (∀ (s : State) (flow : BitVec 16), s.mode ≠ 0 → flow.toNat < 55 →
    let e := s.raise Reg.WCH_PWREVT 3 11 srcWatch
    exec (.lowFlow flow) s = .next (e.faultRecord { unitType := utModule, register := 0, action := 7, detail := e.reg Reg.WCH_STATE }))

/-- Requests for resets, the boot steps, the end of a reset and windows that age out (R422, R423, R424, R457, R458, R460, R462, R463, R465, R472). -/
def Obligations.ResetsAndBoot : Prop :=
  let cause := fun (src : Source) => if (sourceSession src).isSome then rcOperator else rcFirmware
  (∀ (s : State) (src : Source) (val : Word), s.mayWrite src = true → val.toNat / 2 ^ 16 % 2 ^ 16 = 0xA55A →
    let n := val.toNat / 16 % 16
    let run := s.logEvent 4 srcWatch false
    (val.toNat % 4 = 1 → exec (.resetreqCluster src val) s = .next (if s.requestCancelled 1 n then s.logEvent 4 srcWatch true
      else run.clusterReset n)) ∧
    (val.toNat % 4 = 2 → exec (.resetreqDatapathWarm src val) s = .next (if s.requestCancelled 2 n then s.logEvent 4 srcWatch true
      else run.decideReset 2 (cause src))) ∧
    (val.toNat % 4 = 3 → exec (.resetreqCold src val) s = .next (if s.requestCancelled 3 n then s.logEvent 4 srcWatch true
      else run.decideReset 3 (cause src)))) ∧
  (∀ (s : State) (src : Source) (val : Word), val.toNat / 2 ^ 16 % 2 ^ 16 ≠ 0xA55A → exec (.resetreqCluster src val) s = .next s ∧
    exec (.resetreqDatapathWarm src val) s = .next s ∧ exec (.resetreqCold src val) s = .next s) ∧
  (∀ (s : State) (r : ResetRun) (fw rec : SigPair), s.watch.run = some r →
    (s.bootStep = 1 → exec (.bootStepDone true fw rec) s = .next (s.bootVerify fw rec)) ∧
    (s.bootStep = 2 → r.domain = 3 → exec (.bootStepDone true fw rec) s = .next (s.bootRelease r)) ∧
    (s.bootStep = 2 → r.domain = 2 → exec (.bootStepDone true fw rec) s = .next (s.setStep 3)) ∧
    (s.bootStep = 3 → exec (.bootStepDone true fw rec) s = .next (s.bootClusters r)) ∧
    (s.bootStep = 4 → exec (.bootStepDone true fw rec) s = .next ((s.setStep 5).selfRefresh false)) ∧
    (s.bootStep = 5 → exec (.bootStepDone true fw rec) s = .next (s.setStep 6)) ∧
    (s.bootStep = 6 → exec (.bootStepDone true fw rec) s = .next ((List.range 16).foldl (fun (s : State) k => s.portsBack k) (s.setStep 7))) ∧
    (s.bootStep = 7 → r.domain = 2 → s.timeLocked = true →
      exec (.bootStepDone true fw rec) s = .next ((s.setStep 8).setFld Reg.WCH_BOOT Fld.WCH_BOOT_READY 1)) ∧
    (s.bootStep = 7 → r.domain = 3 → s.timeLocked = true → exec (.bootStepDone true fw rec) s =
      .next (((s.setStep 8).setFld Reg.WCH_BOOT Fld.WCH_BOOT_READY 1).onWatch (fun w => { w with run := none }))) ∧
    ((s.bootStep = 2 ∨ s.bootStep = 6 ∨ s.bootStep = 7) → exec (.bootStepDone false fw rec) s = .next s) ∧
    ((s.bootStep = 3 ∨ s.bootStep = 4 ∨ s.bootStep = 5) →
      exec (.bootStepDone false fw rec) s = .next (s.bootFail (s.bootStep + 1)))) ∧
  (∀ (s : State) (r : ResetRun), s.watch.run = some r → r.domain = 2 → s.flag Reg.WCH_BOOT Fld.WCH_BOOT_READY = true →
    let e := s.onWatch (fun w => { w with run := none })
    (s.endsLaid r = true → exec .warmResetReady s = .next (e.endLaid { r with laid := r.laid || s.watch.laid })) ∧
    (s.endsLaid r = false → s.flag Reg.WCH_ESC Fld.WCH_ESC_AUTOADMIT = true → r.trip = false →
      exec .warmResetReady s = .next (e.admitStandby.lastReset r 0)) ∧
    (s.endsLaid r = false → (s.flag Reg.WCH_ESC Fld.WCH_ESC_AUTOADMIT = false ∨ r.trip = true) →
      exec .warmResetReady s = .next (e.lastReset r 1))) ∧
  (∀ (s : State) (n : Fin 16), s.awake = true → s.clusterState n = 2 → (s.watch.run = none ∨ 4 ≤ s.bootStep) →
    exec (.clusterResetDone n) s = .next ((s.setCluster n 0).portsBack n)) ∧
  (∀ (s : State) (src : Source) (t : Fin 6) (w : Word), s.mayWrite src = true →
    exec (.tableEngineHang (.cmd src t w)) s = .next (((s.setReg (banked src (Reg.TBL_CMD t))
      (Fld.TBL_CMD_OP.put (Fld.TBL_CMD_OP.get w) (Fld.TBL_CMD_STATUS.put tsAborted (Fld.TBL_CMD_BUSY.put 0
        (w &&& tblCmdKept))))).tblCount tsAborted).tableReset)) ∧
  (∀ s : State, s.awake = true → s.tbl.image.isSome = true → exec (.tableEngineHang .entry) s = .next s.abortImage.tableReset) ∧
  (∀ (s : State) (q : Nat) (e : Entry), s.awake = true → s.tbl.image = none → s.nextEntry engTable = some (q, e) →
    exec (.tableEngineHang .entry) s = .next (((s.popQueue engTable q).tblAbort e).tableReset)) ∧
  (∀ (s : State) (n : Fin 16) (c : Fin 96) (j : Fin 16) (p : Fin 544),
    let kept := fun (l : List Nat) (d : Nat) => l.filter (fun t => decide (s.tick < t + secTicks d))
    exec (.eventWindowAgeOut (.millFaults n c)) s = .next (s.onWatch (fun w => { w with
      millFaults := SMap.put [] w.millFaults (96 * n.val + c.val) (kept (SMap.get [] w.millFaults (96 * n.val + c.val)) 86400) })) ∧
    exec (.eventWindowAgeOut (.granaryResets j)) s = .next (s.setEngine j { s.engine j with resets := kept (s.engine j).resets 3600 }) ∧
    exec (.eventWindowAgeOut (.clusterUnitResets n)) s = .next (s.onWatch (fun w => { w with
      unitResets := SMap.put [] w.unitResets n (kept (SMap.get [] w.unitResets n) 1) })) ∧
    exec (.eventWindowAgeOut (.clusterResets n)) s = .next (s.onWatch (fun w => { w with
      clusterResets := SMap.put [] w.clusterResets n (kept (SMap.get [] w.clusterResets n) 3600) })) ∧
    exec (.eventWindowAgeOut (.linkLosses p)) s = .next (s.setLink p { s.link p with losses := kept (s.link p).losses 60 }) ∧
    (let c := s.watch.counted.filter (fun t => decide (s.tick < t + s.escWindow))
     exec (.eventWindowAgeOut .countedResets) s = .next ((s.onWatch (fun w => { w with counted := c })).setFld Reg.WCH_ESC
      Fld.WCH_ESC_COUNT (min 3 c.length))) ∧
    exec (.eventWindowAgeOut .tableResets) s = .next (s.onWatch (fun w => { w with tableResets := kept w.tableResets 1 })))

/-- A second's scores: decay by 2^K and the second's input, levels WARN and ACT, and FSCLR (R473, R474, R453). -/
def Obligations.FailureScores : Prop :=
  (∀ s : State, s.since s.watch.scoreAt (secTicks 1) = true →
    let taken := s.onWatch (fun w => { w with
      scoreIn := []
      scoreAt := s.tick })
    (s.flag Reg.WCH_FSCTL ⟨8, 1⟩ = true → exec .scoreUpdate s = .next (scoredUnits.foldl (fun (t : State) u =>
      t.scoreUnit u (SMap.get 0 s.watch.scoreIn u + (if u < 544 then 4 * Config.fecScored u t.tick else 0))) taken)) ∧
    (s.flag Reg.WCH_FSCTL ⟨8, 1⟩ = false → exec .scoreUpdate s = .next taken)) ∧
  (∀ (s : State) (u x : Nat), s.regsOk → u < 2560 →
    let old := s.fld (Reg.WCH_FSCORE u) ⟨0, 32⟩
    let v := min (2 ^ 32 - 1) (old - old / 2 ^ s.fld Reg.WCH_FSCTL ⟨0, 5⟩ + x)
    let warn := s.fld Reg.WCH_FSWARN ⟨0, 32⟩
    let act := s.fld Reg.WCH_FSACT ⟨0, 32⟩
    let was := s.fld (Reg.WCH_FSCORE u) ⟨32, 2⟩
    let reached := if act ≤ v then 2 else if warn ≤ v then 1 else 0
    let level := max (if 2 * v < warn ∧ reached = 0 then 0 else was) reached
    ∃ t : State, t.fld (Reg.WCH_FSCORE u) ⟨0, 32⟩ = v ∧ t.fld (Reg.WCH_FSCORE u) ⟨32, 2⟩ = level ∧
      (∀ k, k ≠ Reg.WCH_FSCORE u → t.reg k = s.reg k) ∧
      s.scoreUnit u x = if was < level then t.faultRecord
        { unitType := utScore, unit := u, cause := level, action := 7, flags := 2, detail := t.reg (Reg.WCH_FSCORE u) } else t) ∧
  (∀ (s : State) (val : Word), s.awake = true →
    (val.getLsbD 63 = true → exec (.fsclr val) s = .next (s.resetRegs (Reg.WCH_FSCORE 0) (Reg.WCH_FSCORE 2560) (fun _ => false))) ∧
    (val.getLsbD 63 = false → exec (.fsclr val) s =
      .next (if val.toNat % 4096 < 2560 then s.setReg (Reg.WCH_FSCORE (val.toNat % 4096)) 0 else s)))

/-- A good link control block received has its effect; a bad one is discarded and counted (R57, R60, R62, R64, R67, R69, R70, R72, R74, R84, R107, R124). -/
def Obligations.LinkBlocksReceived : Prop :=
  ∀ (s r : State) (p : Fin 544) (b : Lcb),
    let v := b.vc.toNat
    let l := r.vc p v
    (∀ x ∈ [(Instr.lcbAck p b, lcbAckType, true), (.nakSel p b, lcbNakSelType, true), (.nakGoback p b, lcbNakGobackType, true),
        (.credit p b, lcbCreditType, true), (.reef p b, lcbReefType, false), (.laneReport p b, lcbLaneReportType, false),
        (.echo p b, lcbEchoType, false), (.echoReply p b, lcbEchoReplyType, false), (.param p b, lcbParamType, false),
        (.resync p b, lcbResyncType, true)],
      let good := lcbGood x.2.1 x.2.2 b
      (s.arrives p (lcbFrom p x.2.1 good b) = none → exec x.1 s = .next s) ∧
      (s.arrives p (lcbFrom p x.2.1 good b) = some r → r.linked p = false → exec x.1 s = .next r) ∧
      (s.blockReaches p x.2.1 x.2.2 b r → good = false → exec x.1 s = .next (r.lcbBad p))) ∧
    (s.blockReaches p lcbAckType true b r → lcbGood lcbAckType true b = true →
      exec (.lcbAck p b) s = .next (if l.wasSent b.seq then (r.setVc p v (l.release b.seq)).emptied p v else r.lcbBad p)) ∧
    (s.blockReaches p lcbNakSelType true b r → lcbGood lcbNakSelType true b = true →
      exec (.nakSel p b) s = .next (r.setVc p v (l.resendOne b.seq))) ∧
    (s.blockReaches p lcbNakGobackType true b r → lcbGood lcbNakGobackType true b = true →
      exec (.nakGoback p b) s = .next (r.setVc p v (l.resendFrom b.seq))) ∧
    (s.blockReaches p lcbCreditType true b r → lcbGood lcbCreditType true b = true →
      let n := b.arg.toNat % 65536
      (r.portState p = pResync ∨ (r.portState p = pUp ∧ l.creditGot = 0) →
        exec (.credit p b) s = .next (r.setVc p v { l with
          credit := l.credit + n
          creditGot := l.creditGot + n })) ∧
      (r.portState p = pUp → l.creditGot ≠ 0 → exec (.credit p b) s = .next
        (if l.credit + n ≤ l.creditGot then r.setVc p v { l with credit := l.credit + n } else r.lcbBad p)) ∧
      (r.portState p ≠ pResync → r.portState p ≠ pUp → exec (.credit p b) s = .next r)) ∧
    (s.blockReaches p lcbReefType false b r → lcbGood lcbReefType false b = true →
      let m : BitVec 4 := b.arg.setWidth 4
      (isSpan p = true ∨ m = 0 → exec (.reef p b) s = .next (r.lcbBad p)) ∧
      (isSpan p = false → m ≠ 0 → exec (.reef p b) s = .next
        (if r.portState p = pUp ∧ (∀ x ∈ (r.link p).reefRx, x.2 ≠ b.seq)
          then r.setLink p { r.link p with reefRx := (r.link p).reefRx ++ [(m, b.seq)] } else r))) ∧
    (s.blockReaches p lcbLaneReportType false b r → lcbGood lcbLaneReportType false b = true →
      (isSpan p = true → exec (.laneReport p b) s = .next (r.lcbBad p)) ∧
      (isSpan p = false → exec (.laneReport p b) s = .next
        (if r.portState p = pUp then (((r.askLanes p ((b.arg >>> 4).setWidth 4)).reefUpdate p).rejoinLanes p (b.arg.setWidth 4)).trainUpdate p
          else r))) ∧
    (s.blockReaches p lcbEchoType false b r → lcbGood lcbEchoType false b = true →
      exec (.echo p b) s = .next (r.sendLcb p lcbEchoReplyType 0 0 0 b.arg.toNat)) ∧
    (s.blockReaches p lcbEchoReplyType false b r → lcbGood lcbEchoReplyType false b = true →
      (r.portState p = pParam → (r.link p).echo = some b.arg →
        let ns := 40 * (r.tick - (r.link p).echoAt)
        let t := (r.setLink p { r.link p with echo := none }).setReg (rttReg p) (BitVec.ofNat 64 (min ns 0xFFFFFFFF))
        exec (.echoReply p b) s = .next (if isSpan p ∧ 1677000 < ns then t.raisePort p 6 11 else t)) ∧
      (r.portState p ≠ pParam ∨ (r.link p).echo ≠ some b.arg → exec (.echoReply p b) s = .next r)) ∧
    (s.blockReaches p lcbParamType false b r → lcbGood lcbParamType false b = true →
      exec (.param p b) s = .next (r.setReg (peerReg p)
        (pack [(Fld.CL_SP_PEER_VALID, 1), (Fld.CL_SP_PEER_ISMOD, b2n (b.arg.getLsbD 20)), (Fld.CL_SP_PEER_ID, b.arg.toNat % 2 ^ 20)]))) ∧
    (s.blockReaches p lcbResyncType true b r → lcbGood lcbResyncType true b = true →
      let e := if b.flags = 1 then r.farReset p else (r.setVc p v ((l.release b.seq).resendAll)).emptied p v
      let t := e.setVc p v { e.vc p v with resynced := true }
      (r.portState p = pResync ∨ r.portState p = pUp → exec (.resync p b) s = .next
        (if t.portState p = pResync ∧ (∀ w : Fin 8, (t.vc p w).resynced = true) then t.enterUp p else t)) ∧
      (r.portState p ≠ pResync → r.portState p ≠ pUp → exec (.resync p b) s = .next r))

/-- The events that move a port through its link states (R62, R64, R65, R66, R67, R68, R89, R90, R95, R456, R460). -/
def Obligations.LinkStateEvents : Prop :=
  (∀ (s : State) (p : Fin 544) (v : Fin 8), s.awake = true →
    let l := s.vc p v
    exec (.ackTimerExpiry p v) s = .next (if s.portState p = pUp ∧ s.timedOut p v = true then
      if l.expiries < 15 then s.setVc p v { l.resendAll with expiries := l.expiries + 1 }
      else ((s.setVc p v { l.resendAll with expiries := 0 }).portFault p 0 0 8 1 0 (evtReg p)).retrain p
      else s)) ∧
  (∀ (s : State) (p : Fin 512) (lanes : BitVec 4), s.awake = true →
    let t := s.leaveDark p
    exec (.lightDetected p lanes) s = .next (if lanes = 0 then s
      else if t.portState p = pDetect ∨ t.portState p = pHold then t.setPortState p pLock else t)) ∧
  (∀ (s : State) (p : Fin 512) (lanes : BitVec 4), s.awake = true →
    exec (.laneLocked p lanes) s = .next (if s.portState p = pLock ∧ lanes ≠ 0 then (lanes4.foldl (fun (s : State) w =>
      if lanes.getLsbD w then s.setCause p true w cSignal false else s)
        (s.setLink p { s.link p with lockedLanes := lanes })).setPortState p pAlign else s)) ∧
  (∀ (s : State) (p : Fin 544), s.awake = true →
    let plugUp := isSpan p = true ∧ (SMap.get {} s.port.cmis (p.val - 512)).step = 0 ∧ (s.reg (Reg.CL_SX_CMIS_STAT (p.val - 512))).getLsbD 63 = true
    (s.portState p = pAlign ∨ (s.portState p = pHold ∧ plugUp) → exec (.aligned p) s = .next (s.startParam p)) ∧
    (s.portState p ≠ pAlign → ¬ (s.portState p = pHold ∧ plugUp) → exec (.aligned p) s = .next s)) ∧
  (∀ (s : State) (p : Fin 544), s.awake = true →
    exec (.paramExchangeDone p) s = .next (if s.portState p = pParam ∧ (s.reg (peerReg p)).getLsbD 63 = true ∧ (s.link p).echo = none
      then s.startResync p else s)) ∧
  (∀ (s : State) (p : Fin 544), s.awake = true →
    let held := (((s.raisePort p 0 6).setLanes p 0 0).restart p).handBack p
    let ls := held.window (held.link p).losses (secTicks 60)
    let kept := held.setLink p { held.link p with
      holdAt := held.tick
      losses := ls }
    let lost := if 8 ≤ ls.length then ((kept.setFld (ctlReg p) ⟨0, 1⟩ 0).goDark p).portFault p 0 0 6 5 0 (evtReg p) else kept
    let after := if s.portState p = pUp then lost else if pDetect < s.portState p ∧ s.portState p ≠ pHold then s.restart p else s
    exec (.lossOfSignal p) s = .next after ∧ exec (.fecAlignmentLost p) s = .next after) ∧
  (∀ (s : State) (p : Fin 544), exec (.lcbBadLimit p) s = .next (if s.linked p = true ∧
    16 < ((s.link p).badLcbs.filter (fun t => decide (s.tick < t + msTicks 1))).length
      then ((s.setLink p { s.link p with badLcbs := [] }).raisePort p 3 11).linkLost p else s)) ∧
  (∀ (s : State) (p : Fin 512), s.awake = true →
    exec (.siteRetrain p) s = .next ((lanes4.foldl (fun (t : State) w =>
      if (s.link p).fecStuck.getLsbD w then t.setCause p true w cFec false else t)
      (s.setLink p { s.link p with fecStuck := 0 })).linkLost p)) ∧
  (∀ (s : State) (p : Fin 512), s.awake = true →
    exec (.siteHoldExpiry p) s = .next (if s.holding p = true ∧ s.since (s.link p).holdAt (secTicks 2) = true
      then ((s.goDark p).raisePort p 5 11).portFault p 0 5 11 7 0 (evtReg p) else s)) ∧
  (∀ (s : State) (p : Fin 512), s.awake = true →
    exec (.sitePortEnable p true) s = .next (((s.setFld (Reg.CL_SP_CTL p) Fld.CL_SP_CTL_ENABLE 1).wakeCluster (clusterOf p)).leaveDark p) ∧
    (let off := s.setFld (Reg.CL_SP_CTL p) Fld.CL_SP_CTL_ENABLE 0
     exec (.sitePortEnable p false) s = .next (if off.portState p = pDark then off else (off.linkLost p).goDark p)))

/-- The events that take a lane of a site port out and bring it back (R70, R71, R72, R73, R74, R78, R81, R84). -/
def Obligations.LaneEvents : Prop :=
  ∀ (s : State) (p : Fin 512), s.awake = true →
    (∀ lanes : BitVec 4,
      let set := s.setFld (Reg.CL_SP_CTL p) Fld.CL_SP_CTL_TXALLOW lanes.toNat
      (set.furled p = true → exec (.txallowWrite p lanes) s = .next (((lanes4.foldl (fun (t : State) w =>
        (((((((((t.setCause p false w cSignal false).setCause p true w cSignal false).setCause p false w cFec false).setCause p true w cFec
          false).setCause p false w cTherm false).setCause p true w cTherm false).setCause p false w cSwap false).setCause p true w cSwap
          false)).setCause p false w cCmd false) set).reefUpdate p).trainUpdate p)) ∧
      (set.furled p = false → exec (.txallowWrite p lanes) s = .next (((lanes4.foldl (fun (t : State) w =>
        let t := if t.spareFailed p w = true then t.setCause p false w cSignal true else t
        t.setCause p false w cCmd (!(t.reg (Reg.CL_SP_CTL p)).getLsbD (4 + w))) set).reefUpdate p).trainUpdate p))) ∧
    (let held := s.setFld (Reg.CL_SP_CTL p) Fld.CL_SP_CTL_REEFHOLD 1
     exec (.reefholdWrite p true) s = .next (held.setLink p { held.link p with training := 0 })) ∧
    exec (.reefholdWrite p false) s = .next ((s.setFld (Reg.CL_SP_CTL p) Fld.CL_SP_CTL_REEFHOLD 0).trainUpdate p) ∧
    (∀ w : Fin 4,
      let caused := s.setCause p true w cSignal true
      exec (.laneSignalLoss p w) s = .next (if s.portState p = pDark then s else (caused.setLink p { caused.link p with
        lockedLanes := (caused.link p).lockedLanes &&& ~~~(BitVec.ofNat 4 (2 ^ w.val)) }).laneReport p)) ∧
    (∀ w : Fin 4, exec (.laneSignalRestored p w) s = .next (if (s.causes p true w).testBit cSignal = true
      then (s.setCause p true w cSignal false).laneReport p else s)) ∧
    (∀ w : Fin 4,
      let l := s.link p
      let back := SMap.get 0 l.fecBack w
      let again : Prop := 0 < back ∧ s.tick < back - 1 + secTicks 1
      let first := { l with fecAt := SMap.put 0 l.fecAt w (s.tick + 1) }
      (s.portState p ≠ pDark → ¬ again → exec (.laneFecLimit p w) s = .next ((s.setLink p first).rxCause p w cFec)) ∧
      (s.portState p ≠ pDark → again →
        let out := (s.setLink p { first with fecStuck := l.fecStuck ||| BitVec.ofNat 4 (2 ^ w.val) }).rxCause p w cFec
        exec (.laneFecLimit p w) s = .next (out.portFault p 1 (out.causes p true w) 11 7 0 (Reg.CL_SP_LANE p))) ∧
      (s.portState p = pDark → exec (.laneFecLimit p w) s = .next s)) ∧
    (∀ w : Fin 4, exec (.laneFecClear p w) s = .next (if (s.causes p true w).testBit cFec = true ∧ (s.link p).fecStuck.getLsbD w = false ∧
      0 < SMap.get 0 (s.link p).fecAt w ∧ s.since (SMap.get 0 (s.link p).fecAt w - 1) (msTicks 100) = true
      then (s.setCause p true w cFec false).laneReport p else s)) ∧
    (∀ w : Fin 4, exec (.laneRetrained p w) s = .next (if s.portState p = pUp ∧ s.causes p true w = 0 ∧
      (s.link p).lockedLanes.getLsbD w = false then (s.setLink p { s.link p with
        lockedLanes := (s.link p).lockedLanes ||| BitVec.ofNat 4 (2 ^ w.val) }).laneReport p else s))

/-- Lane masks taking effect, spare lasers, and rings out of lock (R72, R74, R75, R76, R77, R78, R79, R80, R119, R138). -/
def Obligations.LaserAndRingEvents : Prop :=
  (∀ (s : State) (p : Fin 512) (m : BitVec 4) (q : BitVec 32) (rest : List (BitVec 4 × BitVec 32)), s.awake = true →
    let due := s.portState p = pUp ∧ seqLe q (s.stripe p) = true
    ((s.link p).reefTx = [] → exec (.reefTakesEffect p true) s = .next s) ∧
    ((s.link p).reefRx = [] → exec (.reefTakesEffect p false) s = .next s) ∧
    ((s.link p).reefTx = (m, q) :: rest → exec (.reefTakesEffect p true) s = .next (if due then
      ((((((s.setLink p { s.link p with reefTx := rest }).slowWire p m.toNat).setFld (Reg.CL_SP_STAT p) Fld.CL_SP_STAT_TXLANES m.toNat).bump
        (Reg.CL_SP_REEFS p) 1).raisePort p 2 11).retrySwaps (p / 8)) else s)) ∧
    ((s.link p).reefRx = (m, q) :: rest → exec (.reefTakesEffect p false) s = .next (if due then
      ((((s.setLink p { s.link p with reefRx := rest }).noteBack p (m &&& ~~~(BitVec.ofNat 4 (s.fld (Reg.CL_SP_STAT p)
        Fld.CL_SP_STAT_RXLANES)))).setFld (Reg.CL_SP_STAT p) Fld.CL_SP_STAT_RXLANES m.toNat).raisePort p 2 11) else s))) ∧
  (∀ (s : State) (g w : Nat), s.swapWaits g w = true →
    let ports := enginePorts g
    let ctl := s.reg (Reg.CL_OE_CTL g)
    let forced := s.laserPower g w ≤ -300 ∨ s.laserFld g w Fld.CL_OE_LASER_STATE = 3
    let sole := fun (t : State) (p : Nat) => t.portState p ≠ pDark ∧ t.fld (Reg.SVB_PORT p) Fld.SVB_PORT_STATE = 0 ∧
      t.portState p = pUp ∧ t.txMask p = BitVec.ofNat 4 (2 ^ w)
    (forced ∨ ((ctl.getLsbD 0 = false ∨ ctl.getLsbD 4 = true) ∧ ∀ p ∈ ports, ¬ sole s p) → s.trySwap g w = ports.foldl (fun (t : State) p =>
      if t.portState p = pDark ∨ t.fld (Reg.SVB_PORT p) Fld.SVB_PORT_STATE ≠ 0 then t
      else if sole t p then (t.setCause p false w cSwap true).linkLost p
      else if t.causes p false w ≠ 0 then t else t.txCause p w cSwap) (s.setLaser g w Fld.CL_OE_LASER_STATE 2)) ∧
    (¬ forced → (ctl.getLsbD 0 = true ∧ ctl.getLsbD 4 = false) ∨ (∃ p ∈ ports, sole s p) → s.trySwap g w = s)) ∧
  (∀ (s : State) (g : Nat),
    let waits := lanes4.filter (fun w => s.swapWaits g w)
    let tried := waits.foldl (fun (t : State) w => t.trySwap g w) s
    s.retrySwaps g = if waits ≠ [] ∧ (∀ w ∈ waits, tried.swapWaits g w = false) then tried.setFld (Reg.CL_OE_CTL g) Fld.CL_OE_CTL_SWAPGO 0
      else tried) ∧
  (∀ (s : State) (g : Fin 64) (w : Fin 4) (power : BitVec 16), s.awake = true →
    let read := s.setLaser g w Fld.CL_OE_LASER_POWER power.toNat
    let working := s.laserFld g w Fld.CL_OE_LASER_SOURCE = 0
    let state := s.laserFld g w Fld.CL_OE_LASER_STATE
    exec (.prespare g w power) s = .next (if working ∧ state = 0 ∧ power.toInt ≤ -150 then
      ((read.setLaser g w Fld.CL_OE_LASER_STATE 1).setLaser g w Fld.CL_OE_LASER_SPARE 1).raiseEngine g w else s) ∧
    (let warm := if read.laserFld g w Fld.CL_OE_LASER_SPARE = 0 then
        ((read.setLaser g w Fld.CL_OE_LASER_STATE 1).setLaser g w Fld.CL_OE_LASER_SPARE 1).raiseEngine g w else read
     exec (.laserFailThreshold g w power) s = .next (if working ∧ power.toInt ≤ -300 then
      if warm.laserFld g w Fld.CL_OE_LASER_STATE = 2 then warm else warm.retrySwaps g else s)) ∧
    exec (.opticalSwitchMoved g w power) s = .next (if state = 2 then (enginePorts g).foldl (fun (s : State) p =>
        if s.portState p = pUp then s.trainUpdate p else s.setCause p false w cSwap false)
        ((s.setReg (Reg.CL_OE_LASER g w) (pack [(Fld.CL_OE_LASER_SPARE, 3), (Fld.CL_OE_LASER_STATE, 0),
          (Fld.CL_OE_LASER_SOURCE, 1), (Fld.CL_OE_LASER_POWER, power.toNat)])).raiseEngine g (4 + w)) else s) ∧
    exec (.spareFail g w power) s = .next (if s.laserFld g w Fld.CL_OE_LASER_SOURCE = 1 ∧ state ≠ 3 ∧ power.toInt ≤ -300 then
      ((enginePorts g).foldl (fun (s : State) p => if s.furled p then s else s.txCause p w cSignal)
        ((read.setLaser g w Fld.CL_OE_LASER_STATE 3).raiseEngine g (8 + w))).portFault (8 * g) 2 (8 + w) 11 7 1 (Reg.CL_OE_EVT g) else s)) ∧
  (∀ (s : State) (g : Fin 64) (w : Fin 4), s.awake = true →
    exec (.spareLocked g w) s = .next (if s.laserFld g w Fld.CL_OE_LASER_SPARE = 1
      then (s.setLaser g w Fld.CL_OE_LASER_SPARE 2).retrySwaps g else s) ∧
    (let stopped := (s.free.2.setLaser g w Fld.CL_OE_LASER_POWER (s.free.1.toNat % 65536)).setLaser g w Fld.CL_OE_LASER_STATE 3
     exec (.laserStop g w) s = .next (if s.laserFld g w Fld.CL_OE_LASER_SOURCE = 0 ∧ s.laserFld g w Fld.CL_OE_LASER_STATE ≠ 2 then
      if stopped.laserFld g w Fld.CL_OE_LASER_SPARE = 0 then stopped.setLaser g w Fld.CL_OE_LASER_SPARE 1 else stopped.retrySwaps g else s))) ∧
  (∀ (s : State) (g : Fin 64) (tx rx : BitVec 32), s.awake = true →
    exec (.swapgo g) s = .next ((s.setFld (Reg.CL_OE_CTL g) Fld.CL_OE_CTL_SWAPGO 1).retrySwaps g) ∧
    exec (.thermfast g tx rx) s = .next ((ringsOf g rx).foldl (fun (s : State) (r : Nat × Nat) =>
      if s.furled r.1 then s else s.rxCause r.1 r.2 cTherm) ((enginePorts g).foldl (fun (s : State) p => s.reefUpdate p)
        ((ringsOf g tx).foldl (fun (s : State) (r : Nat × Nat) =>
          if s.furled r.1 then s else s.setCause r.1 false r.2 cTherm true) (s.raiseEngine g 12)))) ∧
    exec (.thermClear g tx rx) s = .next ((ringsOf g rx).foldl (fun (s : State) (r : Nat × Nat) =>
      if (s.causes r.1 true r.2).testBit cTherm then (s.setCause r.1 true r.2 cTherm false).laneReport r.1 else s)
        ((ringsOf g tx).foldl (fun (s : State) (r : Nat × Nat) => s.txClear r.1 r.2 cTherm) s)))

/-- Span ports: bring-up through CMIS, window accesses, HOLD, ENABLE and Loft copies (R85, R86, R87, R88, R89, R90, R91, R92). -/
def Obligations.SpanPortEvents : Prop :=
  ∀ (s : State) (x : Fin 32), s.awake = true →
    let port := spanPort x
    let c := s.cmis x
    let cmd := s.reg (Reg.CL_SX_CMIS_CMD x)
    (∀ info, let seen := s.cmisFld x Fld.CL_SX_CMIS_STAT_PRESENT 1
      exec (.cagePresence x info) s = .next ((seen.setCmis x { seen.cmis x with info := some info }).tryBringUp x)) ∧
    (let ready := s.cmisFld x Fld.CL_SX_CMIS_STAT_MODSTATE 3
     exec (.moduleReady x) s = .next (if c.step = 3 then (ready.setCmis x { ready.cmis x with
        step := 4
        waitAt := ready.tick
        timeouts := 0 }).emit (.cmis x cmisActivate) else s)) ∧
    (∀ st : BitVec 4, let active := s.cmisFld x Fld.CL_SX_CMIS_STAT_DPSTATE st.toNat
      let up := active.setCmis x { active.cmis x with
        step := 0
        timeouts := 0 }
      exec (.dpActivated x st) s = .next (if c.step = 4 then if up.loopHeld port then up else up.setPortState port pAlign else s)) ∧
    (let ended := (((((s.setCmis x { c with
        step := 0
        timeouts := 0 }).cmisFld x Fld.CL_SX_CMIS_STAT_REFUSE 4).raisePort port 2 11).linkLost port).goDark port)
     exec (.cmisWaitTimeout x) s = .next (if c.step ≠ 0 ∧ s.since c.waitAt c.bound = true then ended else s) ∧
     exec (.cmisTransactionTimeout x) s = .next (if s.present x = true then if 2 ≤ c.timeouts then ended
      else s.setCmis x { c with timeouts := c.timeouts + 1 } else s)) ∧
    (∀ fl, exec (.intl x fl) s = .next (if s.present x = true then s.readFlags x fl true else s) ∧
      exec (.cmisFlagPoll x fl) s = .next (if s.present x = true then s.readFlags x fl false else s)) ∧
    (∀ word : Word, let val := word &&& 0x01FFFFFF000000FF
      let put := fun (busy status : Nat) => s.setReg (Reg.CL_SX_CMIS_CMD x)
        (Fld.CL_SX_CMIS_CMD_BUSY.put busy (Fld.CL_SX_CMIS_CMD_STATUS.put status val))
      exec (.cmisCmd x word) s = .next (if cmd.getLsbD 63 = true then s else if s.present x = false then put 0 3
        else if s.cmisDenied x val = true then put 0 1 else (put 1 0).setCmis x { (put 1 0).cmis x with access := some val })) ∧
    (∀ (timed : Bool) (data : Vector Word 16), c.access = none → exec (.cmisAccessComplete x timed data) s = .next s) ∧
    (∀ (val : Word) (data : Vector Word 16), c.access = some val →
      let idle := (s.setCmis x { c with access := none }).setFld (Reg.CL_SX_CMIS_CMD x) Fld.CL_SX_CMIS_CMD_BUSY 0
      let ok := idle.setFld (Reg.CL_SX_CMIS_CMD x) Fld.CL_SX_CMIS_CMD_STATUS 0
      let done := ok.setCmis x { ok.cmis x with
        access := none
        timeouts := 0 }
      let bytes := ((data.toList.flatMap (fun w => beBytes 8 w.toNat)).take (if Fld.CL_SX_CMIS_CMD_LEN.get val = 0 then 128
        else min 128 (Fld.CL_SX_CMIS_CMD_LEN.get val)))
      let window := (List.range 16).flatMap (fun i => beBytes 8 (done.reg (Reg.CL_SX_CMIS_DATA x i)).toNat)
      exec (.cmisAccessComplete x true data) s = .next ((idle.setFld (Reg.CL_SX_CMIS_CMD x) Fld.CL_SX_CMIS_CMD_STATUS 2).cmisTransaction x) ∧
      exec (.cmisAccessComplete x false data) s = .next (if Fld.CL_SX_CMIS_CMD_WRITE.get val = 1 then done
        else (List.range 16).foldl (fun (t : State) i => t.setReg (Reg.CL_SX_CMIS_DATA x i)
          (BitVec.ofNat 64 (natAt (bytes ++ window.drop (if Fld.CL_SX_CMIS_CMD_LEN.get val = 0 then 128
            else min 128 (Fld.CL_SX_CMIS_CMD_LEN.get val))) (8 * i) 8))) done)) ∧
    (let gone := (s.cmisFld x Fld.CL_SX_CMIS_STAT_PRESENT 0).cmisFld x Fld.CL_SX_CMIS_STAT_REFUSE 0
     let power := if (gone.cmis x).caged = true then gone.setBits Reg.WCH_CAGEPWR (BitVec.ofNat 64 (2 ^ x.val)) else gone
     let lost := (power.setCmis x { power.cmis x with
        step := 0
        caged := false
        info := none }).linkLost port
     exec (.presenceDeassert x) s = .next (if s.present x = true then if lost.holding port = true then lost.setPortState port pHold
      else if lost.portState port = pDark then lost else lost.goDark port else s)) ∧
    exec (.spanRetrain x) s = .next (s.linkLost port) ∧
    exec (.spanHoldmaxExpiry x) s = .next (if s.holding port = true ∧ s.since (s.link port).holdAt
      (secTicks (min 60 (max 2 (s.fld (Reg.CL_SX_CTL x) Fld.CL_SX_CTL_HOLDMAX)))) = true
      then ((s.goDark port).raisePort port 5 11).portFault port 0 5 11 7 0 (evtReg port) else s) ∧
    exec (.spanPortEnable x true) s = .next (((s.setFld (Reg.CL_SX_CTL x) Fld.CL_SX_CTL_ENABLE 1).wakeCluster (x / 2)).tryBringUp x) ∧
    (let off := s.setFld (Reg.CL_SX_CTL x) Fld.CL_SX_CTL_ENABLE 0
     exec (.spanPortEnable x false) s = .next (if off.portState port = pDark then off else (off.linkLost port).goDark port)) ∧
    (∀ (v : Fin 8) (seq : BitVec 32), exec (.loftCopyDone x v seq) s = .next (s.setVc port v { s.vc port v with
      unacked := (s.vc port v).unacked.map (fun c => if c.seq = seq then { c with inBuf := false } else c) }))

/-- The bypass engine: entries taken, their instant, the path that settles or fails, DRAIN, FORCE, RESUME (R109, R110, R111, R112, R113, R115, R116, R117, R120, R464). -/
def Obligations.BypassEngineCommands : Prop :=
  (∀ (s : State) (q : Nat) (e : Entry), s.awake = true → s.nextEntry engBypass = some (q, e) → s.eng.bypass.length < 256 →
    let popped := s.popQueue engBypass q
    let taken := if popped.bypassCheck e = bcOk then popped.onEng (fun x => { x with bypass := x.bypass ++ [e] })
      else popped.bypassDone e (popped.bypassCheck e) 0
    exec .bypassConnect s = .next (if entryOp e ≠ opRelease ∧ entryOp e ≠ opLoop then taken else s) ∧
    exec .bypassRelease s = .next (if entryOp e = opRelease then taken else s) ∧
    exec .bypassLoop s = .next (if entryOp e = opLoop then taken else s)) ∧
  (∀ s : State, s.nextEntry engBypass = none ∨ 256 ≤ s.eng.bypass.length →
    exec .bypassConnect s = .next s ∧ exec .bypassRelease s = .next s ∧ exec .bypassLoop s = .next s) ∧
  (∀ s : State, earliest s.eng.bypass = none → exec .bypassInstant s = .next s) ∧
  (∀ (s : State) (t : Nat), s.awake = true → earliest s.eng.bypass = some t →
    let r := s.holdtoRun
    exec .bypassInstant s = .next (if t ≤ s.nowNs then
      (r.eng.bypass.filter (fun e => bypInstant e == t)).foldl (fun (s : State) e => s.bypassRun e)
        (r.onEng (fun x => { x with bypass := x.bypass.filter (fun e => bypInstant e != t) })) else s)) ∧
  (∀ (s : State) (e : Entry), s.bypassJudge e = bcOk →
    let a := bypA e
    let b := bypB e
    let dark := (s.bypassDark a).bypassDark b
    let moves := dark.onEng (fun x => { x with moving := x.moving ++ [(a, b, e, bypInstant e)] })
    (entryOp e = opConnect → s.bypassRun e = (((moves.setPath a 1 b).setPath b 1 a).settleCauses a).settleCauses b) ∧
    (entryOp e = opLoop → s.bypassRun e = (((moves.setPath a 2 b).setPath b 2 a).settleCauses a).settleCauses b) ∧
    (entryOp e = opRelease → s.bypassRun e = (((moves.setPath a 0 0).setPath b 0 0).settleCauses a).settleCauses b)) ∧
  (∀ (s : State) (e : Entry), s.bypassJudge e ≠ bcOk → s.bypassRun e = s.bypassDone e (s.bypassJudge e) 0) ∧
  (∀ (s : State) (p : Fin 512) (a b t : Nat) (e : Entry) (settle : BitVec 14), s.awake = true → s.movingAt p = some (a, b, e, t) →
    (let ended := (s.endMove p).bypassDone e bcOk settle.toNat
     exec (.svbPathEstablished p settle) s = .next (if settle.toNat ≤ 4000 ∧ s.nowNs ≤ t + 4000 then
      if a = b then ended.portLit a else (ended.portLit a).portLit b else s)) ∧
    (let failed := ((((((s.endMove p).setPath a 3 0).setPath b 3 0).settleCauses a).settleCauses b).bypassDone e bcFault 0).raise Reg.SVB_EVT 2 11 srcSvetna
     exec (.svbPathFault p) s = .next (if t + 4000 ≤ s.nowNs then failed.faultRecord
        { unitType := utSvetna, register := 1, cause := 2, action := 7, detail := failed.reg Reg.SVB_EVT } else s))) ∧
  (∀ (s : State) (p : Fin 512) (settle : BitVec 14), s.movingAt p = none →
    exec (.svbPathEstablished p settle) s = .next s ∧ exec (.svbPathFault p) s = .next s) ∧
  (∀ s : State, s.awake = true →
    exec .svbDrain s = .next (s.setHold engBypass (max 1 (s.hold engBypass))) ∧
    exec .svbForce s = .next ((((byInstant s.eng.bypass ++ s.waitingEntries engBypass).foldl (fun (s : State) e => s.bypassDone e bcAborted 0)
      ((s.onEng (fun x => { x with bypass := [] })).clearQueues engBypass)).setHold engBypass 2).forcedDisable engBypass 0) ∧
    exec .svbResume s = .next (s.setHold engBypass 0))

/-- The Loft: LFT_PART and the findings of reads and patrol (R100, R101, R102, R104, R105). -/
def Obligations.LoftCommands : Prop :=
  (∀ (s : State) (val : Word), s.awake = true →
    (s.partOk val = true → exec (.lftPartWrite val) s = .next (s.setReg Reg.LFT_PART (pack [(Fld.LFT_PART_DUMP, partSize val 4),
      (Fld.LFT_PART_CAPT, partSize val 3), (Fld.LFT_PART_HOLD, partSize val 1), (Fld.LFT_PART_SPILL, partSize val 2),
      (Fld.LFT_PART_RETRY, 41)]))) ∧
    (s.partOk val = false → exec (.lftPartWrite val) s = .next (s.raise Reg.LFT_EVT 0 11 srcLoft))) ∧
  (∀ (s : State) (a : Nat), s.awake = true → s.pathCut = false → a < 288 * 2 ^ 30 →
    let k := a / 2048 % 8
    exec (.loftPatrol [.corrected a]) s = .next ((s.bump (Reg.LFT_ECCC k) 1).score (560 + k) 16) ∧
    (∀ u : LoftUse,
      let counted := ((s.bump (Reg.LFT_ECCU k) 1).score (560 + k) 1048576).setReg Reg.LFT_UELOG (pack
        [(Fld.LFT_UELOG_REGION, loftRegion u), (Fld.LFT_UELOG_STACK, k), (Fld.LFT_UELOG_ADDR, a)])
      let logged := counted.raise Reg.LFT_EVT 1 5 srcLoft
      let done := (logged.faultRecord
        { cls := 5, unitType := utLoft, unit := k, register := 0, cause := loftRegion u, action := 7, detail := counted.reg Reg.LFT_UELOG }).loftEffect u
      let l := done.window (SMap.get [] done.port.loftUes k) (secTicks 1)
      let kept := done.onPort (fun p => { p with loftUes := SMap.put [] p.loftUes k l })
      exec (.loftPatrol [.uncorrectable a u]) s = .next (if 16 < l.length then kept.stackFail k else kept))) ∧
  (∀ (s : State) (k : Fin 8), s.awake = true → s.pathCut = false → exec (.loftPatrol [.trainFail k]) s = .next (s.stackFail k)) ∧
  (∀ (s : State) (l : List LoftFinding), s.awake = true → s.pathCut = false → exec (.loftPatrol l) s = .next (l.foldl (fun (s : State) f =>
    match f with
    | .corrected a => if a < 288 * 2 ^ 30 then s.loftFinding f else s
    | .uncorrectable a _ => if a < 288 * 2 ^ 30 then s.loftFinding f else s
    | .trainFail _ => s.loftFinding f) s)) ∧
  (∀ (s : State) (l : List LoftFinding), s.pathCut = true → exec (.loftPatrol l) s = .next (l.foldl (fun (s : State) f =>
    match f with
    | .corrected _ => s
    | .uncorrectable _ _ => s.logEvent 5 srcLoft true
    | .trainFail _ => s.logEvent 5 srcLoft true) s))

/-- The egress ports: transmission, gates, shapers and the samples of the queues (R58, R60, R62, R136, R137, R138, R139, R141, R142, R143, R144). -/
def Obligations.EgressAndGates : Prop :=
  (∀ (s : State) (p : Fin 544) (v : Nat) (d : SMap Nat) (sub : Fin 80), s.awake = true → s.portState p = pUp →
    let w := s.noteWaits p
    w.pickVc p = some (v, d) →
    (∀ c, w.head? p v = some (.again c) →
      exec (.frameTransmit ⟨p, sub, false⟩) s = .next (((((w.spend p v c.h.f d).countOverrun p v (w.gateFit p v c.h.f)).sendAgain p v
        (w.egressAt c.h.f sub) c).emptied p v)) ∧
      exec (.frameTransmit ⟨p, sub, true⟩) s = .next ((w.discard p { f := c.h.f, m := { pin := p } } dcInternal).hopReset p)) ∧
    (∀ h, w.head? p v = some (.new h) →
      exec (.frameTransmit ⟨p, sub, false⟩) s = .next (((((w.spend p v h.f d).countOverrun p v (w.gateFit p v h.f)).sendNew p v
        (w.egressAt h.f sub) h).emptied p v)) ∧
      exec (.frameTransmit ⟨p, sub, true⟩) s = .next (((w.setEqueue p v (w.equeue p v).tail).discard p h dcInternal).emptied p v))) ∧
  (∀ (s : State) (p : Fin 544) (sub : Fin 80) (bad : Bool), s.awake = true →
    (s.portState p = pUp → (s.noteWaits p).pickVc p = none → exec (.frameTransmit ⟨p, sub, bad⟩) s = .next (s.noteWaits p)) ∧
    (s.portState p ≠ pUp → exec (.frameTransmit ⟨p, sub, bad⟩) s = .next s)) ∧
  (∀ (s : State) (p : Fin 544), s.awake = true → s.flag (Reg.CL_EG_CTL p) Fld.CL_EG_CTL_COMMIT = false →
    let cycle := ((s.adminList p).map (fun w => w.toNat % 2 ^ 32)).sum
    let base := (s.reg (Reg.CL_EG_BASE p)).toNat
    let first := s.nowNs + 10000
    let at_ := if first ≤ base then base else base + ceilDiv (first - base) cycle * cycle
    (adminGood (s.adminList p) = true → exec (.gclCommit p) s = .next ((s.setFld (Reg.CL_EG_CTL p) Fld.CL_EG_CTL_COMMIT 1).setEgPort p
      { s.egPort p with
        swapAt := some at_
        swapLen := (s.adminList p).length })) ∧
    (adminGood (s.adminList p) = false → exec (.gclCommit p) s = .next (s.raiseEgress p 1))) ∧
  (∀ (s : State) (p : Fin 544), s.awake = true → s.flag (Reg.CL_EG_CTL p) Fld.CL_EG_CTL_COMMIT = true → exec (.gclCommit p) s = .next s) ∧
  (∀ (s : State) (p : Fin 544), (s.egPort p).swapAt = none → exec (.gclSwap p) s = .next s) ∧
  (∀ (s : State) (p : Fin 544) (t : Nat), s.awake = true → (s.egPort p).swapAt = some t →
    let l := (List.range (s.egPort p).swapLen).map (fun i => s.reg (Reg.CL_EG_GCL p i))
    let copied := ((l.zipIdx).foldl (fun (s : State) (x : Word × Nat) => s.setReg (Reg.CL_EG_GCLOPER p x.2) x.1) s).setFld
      (Reg.CL_EG_STAT p) Fld.CL_EG_STAT_OPERLEN l.length
    let loaded := copied.setFld (Reg.CL_EG_STAT p) Fld.CL_EG_STAT_CYCLE ((l.map (fun w => w.toNat % 2 ^ 32)).sum)
    exec (.gclSwap p) s = .next (if t ≤ s.nowNs then ((((loaded.setEgPort p { loaded.egPort p with
      operBase := t
      swapAt := none
      noFit := [] }).setFld (Reg.CL_EG_CTL p) Fld.CL_EG_CTL_COMMIT 0).raiseEgress p 0).showGates p).noteHoldover p else s)) ∧
  (∀ (s : State) (p : Fin 544), s.awake = true →
    let i := (gateAt (s.gates p) 0 (s.gatePhase p)).1
    exec (.gateBoundary p) s = .next (if s.gated p = true ∧ i ≠ (s.egPort p).gateIdx then
      ((s.setEgPort p { s.egPort p with gateIdx := i }).noteWaits p).noteHoldover p else s)) ∧
  (∀ s : State, s.awake = true → exec .shaperRefill s = .next (if s.boundDue bkRefill 1000 = true then
    allPorts.foldl (fun (s : State) p => s.refillPort p) (s.takeBound bkRefill 1000) else s)) ∧
  (∀ (s : State) (p : Fin 544) (v : Fin 8) (val : Word), s.awake = true →
    exec (.shaperWrite p v val) s = .next (s.setReg (Reg.CL_EG_SHAPE p v) (val &&& 0x8000FFFFF0FFFFFF))) ∧
  (∀ (s : State) (n : Fin 16), s.awake = true →
    let sample := fun (s : State) (q : Nat) =>
      let port := queuePort n q
      let depth := min (s.charge port (q % 8)) 0xFFFF
      let delay := match s.equeue port (q % 8) with
        | h :: _ => min (40 * (s.tick - h.m.since)) 0xFFFFFFFF
        | [] => 0
      let old := (s.reg (Reg.CL_QMAX n q)).toNat
      (s.setReg (Reg.CL_QSAMP n q) (pack [(⟨0, 16⟩, depth), (⟨32, 32⟩, delay)])).setReg (Reg.CL_QMAX n q)
        (pack [(⟨0, 16⟩, max depth (old % 65536)), (⟨32, 32⟩, max delay (old / 2 ^ 32 % 2 ^ 32))])
    exec (.queueSample n) s = .next (if s.boundDue (bkSample n) 10000 = true then
      (List.range 272).foldl sample (s.takeBound (bkSample n) 10000) else s))

/-- A frame leaves staging, holding or its source for an egress queue; the limits of its wait (R47, R48, R97, R125, R128, R132, R148, R153, R154, R156, R166, R325). -/
def Obligations.ForwardingCommands : Prop :=
  (∀ (s : State) (r : StageRef) (h : Held), s.awake = true → s.stagedAt r = some h →
    let n := clusterOf r.port
    let stays := fun (h : Held) (s : State) => s.setStaged r.port r.vc (putAt (s.staged r.port r.vc) r.idx h)
    exec (.frameLeaveStaging ⟨r, true⟩) s = .next ((s.unstage r).discardStaged r.port h dcInternal) ∧
    (s.ownFrame h.f = true → exec (.frameLeaveStaging ⟨r, false⟩) s = .next s) ∧
    (s.ownFrame h.f = false →
      (s.target h.f = none → exec (.frameLeaveStaging ⟨r, false⟩) s = .next ((s.unstage r).discardStaged r.port h dcNoRoute)) ∧
      (∀ g, s.target h.f = some g →
        (s.routeBroken r.port h.f = true → exec (.frameLeaveStaging ⟨r, false⟩) s = .next ((s.unstage r).discardStaged r.port h dcSpan)) ∧
        (s.routeBroken r.port h.f = false →
          (∀ p, s.choose n g h.f = .member p → exec (.frameLeaveStaging ⟨r, false⟩) s = .next (if s.behind r h p = true then s
            else ((s.unstage r).enqueue g p h).returnCells r.port h)) ∧
          (s.choose n g h.f = .noRoom → exec (.frameLeaveStaging ⟨r, false⟩) s = .next (stays { h with m := { h.m with noElig := none } } s)) ∧
          (s.choose n g h.f = .noElig → exec (.frameLeaveStaging ⟨r, false⟩) s = .next (stays { h with m := { h.m with
            waited := true
            noElig := some (h.m.noElig.getD s.tick) } } (if h.m.waited then s else s.bump (Reg.CL_RT_NOELIG n) 1))))))) ∧
  (∀ (s : State) (r : StageRef) (bad : Bool), s.stagedAt r = none → exec (.frameLeaveStaging ⟨r, bad⟩) s = .next s) ∧
  (∀ (s : State) (r : StageRef), exec (.memberEligible (.staged r)) s = exec (.frameLeaveStaging ⟨r, false⟩) s) ∧
  (∀ (s : State) (x : Fin 32) (v : Fin 8) (idx : Nat) (hp : 512 + x.val < 544),
    exec (.overflowMove x v idx) s = exec (.frameLeaveStaging ⟨⟨⟨512 + x.val, hp⟩, v, idx⟩, false⟩) s) ∧
  (∀ (s : State) (n : Fin 16) (idx : Nat), s.awake = true → exec (.memberEligible (.handedBack n idx)) s = .next (s.rechooseAt n.val idx).2) ∧
  (∀ (s : State) (q : FrameSource) (idx : Nat), s.awake = true →
    (∀ t : State, s.admitSource (sourceKey q) idx = (none, t) → exec (.internalSourceAdmit q idx) s = .next t) ∧
    (∀ (x : SrcFrame) (t : State), s.admitSource (sourceKey q) idx = (some x, t) →
      (x.note = .none → exec (.internalSourceAdmit q idx) s = .next t) ∧
      (∀ c h : Nat, x.note = .commit c h → exec (.internalSourceAdmit q idx) s = .next (t.settleCommit c h)) ∧
      (∀ r c : Nat, x.note = .result r c → exec (.internalSourceAdmit q idx) s = .next (t.settleEmission (.result r c))) ∧
      (∀ r c : Nat, x.note = .sitePartial r c → exec (.internalSourceAdmit q idx) s = .next (t.settleEmission (.sitePartial r c))) ∧
      (∀ n g : Nat, x.note = .reply n g → exec (.internalSourceAdmit q idx) s = .next (t.settleReply g)) ∧
      (∀ id : Nat, x.note = .copy id → exec (.internalSourceAdmit q idx) s = .next (t.copyAdmitted id)))) ∧
  (∀ (s : State) (q : FrameSource) (idx : Nat), exec (.memberEligible (.atSource q idx)) s = exec (.internalSourceAdmit q idx) s) ∧
  (∀ (s : State) (w : WaitRef), s.alsoNow (fun i => i == .memberEligible w) = true → exec (.nrwaitExpiry w) s = .next s) ∧
  (∀ (s : State) (r : StageRef), s.awake = true → s.alsoNow (fun i => i == .memberEligible (.staged r)) = false →
    (∀ (h : Held) (t : Nat), s.stagedAt r = some h → h.m.noElig = some t → exec (.nrwaitExpiry (.staged r)) s = .next
      (if s.since t (usTicks (s.nrwait (clusterOf r.port))) = true ∧ s.stagedNoElig h.f = true
        then (s.unstage r).discardStaged r.port h dcNoRoute else s)) ∧
    (∀ h : Held, s.stagedAt r = some h → h.m.noElig = none → exec (.nrwaitExpiry (.staged r)) s = .next s) ∧
    (s.stagedAt r = none → exec (.nrwaitExpiry (.staged r)) s = .next s)) ∧
  (∀ (s : State) (n : Fin 16) (idx : Nat), s.awake = true → s.alsoNow (fun i => i == .memberEligible (.handedBack n idx)) = false →
    (∀ b : HandedBack, (s.handedAt n)[idx]? = some b → exec (.nrwaitExpiry (.handedBack n idx)) s = .next
      (if s.since b.h.m.since (usTicks (s.nrwait n)) = true ∧ s.noEligible b.h.f b.h.m.aim = true
        then (s.setHanded n (dropAt (s.handedAt n) idx)).discard b.port b.h dcNoRoute else s)) ∧
    ((s.handedAt n)[idx]? = none → exec (.nrwaitExpiry (.handedBack n idx)) s = .next s)) ∧
  (∀ (s : State) (q : FrameSource) (idx : Nat), s.awake = true → s.alsoNow (fun i => i == .memberEligible (.atSource q idx)) = false →
    let k := sourceKey q
    let n := sourceCluster k
    (∀ (x : SrcFrame), (s.source k)[idx]? = some x →
      let stuck : Prop := ∃ a ∈ x.aims, (∃ gs, a = .mcast gs ∧ ∃ g ∈ gs, s.noEligible x.f (.group g) = true) ∨
        ((∀ gs, a ≠ .mcast gs) ∧ (s.aimGroup x.f a).isSome = true ∧ s.noEligible x.f a = true)
      let told := s.setSource k (putAt (s.source k) idx { x with faulted := true })
      (x.faulted = false → stuck → s.since x.since (usTicks (s.nrwait n)) = true → exec (.nrwaitExpiry (.atSource q idx)) s = .next
        (told.faultRecord { unitType := utCluster, unit := n, register := 0, cause := dcNoRoute, action := 7, detail := told.reg (Reg.CL_FCHK_LASTSRC n), slot := told.slotByte x.f.job.toNat })) ∧
      (x.faulted = true ∨ ¬ stuck ∨ s.since x.since (usTicks (s.nrwait n)) = false → exec (.nrwaitExpiry (.atSource q idx)) s = .next s)) ∧
    ((s.source k)[idx]? = none → exec (.nrwaitExpiry (.atSource q idx)) s = .next s)) ∧
  (∀ (s : State) (r : StageRef), s.awake = true →
    (∀ h : Held, s.stagedAt r = some h → exec (.lateExpiry r) s = .next
      (if (r.vc.val = 0 ∨ r.vc.val = 7) ∧ s.ownFrame h.f = false ∧ s.since h.m.since (usTicks (s.late (clusterOf r.port))) = true
        then ((s.unstage r).returnCells r.port h).bump (Reg.CL_RT_LATE (clusterOf r.port) (if r.vc.val = 0 then 0 else 1)) 1 else s)) ∧
    (s.stagedAt r = none → exec (.lateExpiry r) s = .next s))

/-- A frame received: the CRC, the HOPSEQ, the acknowledgement (R23, R27, R39, R46, R50, R58, R59, R60, R61, R62, R94, R107). -/
def Obligations.FrameReceive : Prop :=
  (∀ (s : State) (p : Fin 544) (f : Frame) (crc : BitVec 32) (ago : BitVec 16), s.awake = true →
    let good := frameCrc f == crc.toNat
    let got := s.arrives p (frameFrom p good f crc)
    (got = none → exec (.frameReceive p f crc ago) s = .next s) ∧
    (∀ r, got = some r → r.portState p ≠ pUp → exec (.frameReceive p f crc ago) s = .next r) ∧
    (∀ r, got = some r → r.portState p = pUp →
      let g : Frame := if isSpan p then { f with flags := f.flags ||| flSpanned } else f
      let m : Meta :=
        { pin := p, tin := r.nowHalf - ago.toNat, since := r.tick, era := (r.link p).era, badJob := r.jobBad f,
          asRx := if g = f then none else some f }
      let stranger : Prop := f.job ≠ 0 ∧ r.carries = false ∧ r.ingressCheck p { f := g, m := m } = none
      (frameCrc f ≠ crc.toNat → exec (.frameReceive p f crc ago) s = .next (r.discard p { f := g, m := m } dcCrc)) ∧
      (frameCrc f = crc.toNat → stranger → exec (.frameReceive p f crc ago) s = .next r) ∧
      (frameCrc f = crc.toNat → ¬ stranger → exec (.frameReceive p f crc ago) s = .next
        ((r.tagFrame (clusterOf p) g).2.hopTake p { f := g, m := { m with tagged := (r.tagFrame (clusterOf p) g).1 } })))) ∧
  (∀ (s : State) (p : Fin 544) (h : Held),
    let v := h.f.vc.toNat
    let l := s.vc p v
    let asked := s.sendLcb p lcbNakSelType v 0 l.rxNext 0
    let fits := asked.holdUse p v + 64 + h.f.plen.toNat ≤ holdSize p
    let ahead := h.f.hopseq ≠ l.rxNext ∧ seqLe l.rxNext h.f.hopseq = true ∧ ∀ x ∈ l.rxHold, x.1 ≠ h.f.hopseq
    (h.f.hopseq = l.rxNext →
      let a := s.hopAccept p h
      let on := a.2.setVc p v { a.2.vc p v with
        rxNext := h.f.hopseq + 1
        overflowed := false }
      s.hopTake p h = ((on.release p a.1).releaseHeld p v l.rxHold.length).ackVc p v) ∧
    (h.f.hopseq ≠ l.rxNext → (seqLe l.rxNext h.f.hopseq = false ∨ ∃ x ∈ l.rxHold, x.1 = h.f.hopseq) →
      s.hopTake p h = s.ackVc p v) ∧
    (ahead → l.overflowed = true → s.hopTake p h = asked) ∧
    (ahead → l.overflowed = false → fits →
      s.hopTake p h = (asked.hopAccept p h).2.setVc p v { (asked.hopAccept p h).2.vc p v with
        rxHold := l.rxHold ++ [((asked.hopAccept p h).1.f.hopseq, (asked.hopAccept p h).1)] }) ∧
    (ahead → l.overflowed = false → ¬ fits →
      s.hopTake p h = ((asked.setVc p v { asked.vc p v with overflowed := true }).bump (holdovfReg p v) 1).sendLcb p lcbNakGobackType v 0
        h.f.hopseq 0))

/-- What a read, a write, a compare-and-swap and a swap of a table entry leave, and the table engine's commands (R168, R170, R174, R175, R177, R178, R179, R180, R184, R185, R186, R503). -/
def Obligations.TableCommands : Prop :=
  (∀ (s : State) (src : Source) (t : Fin 6) (cmd : Word),
    ∀ x ∈ [(0, (.tblRead src t cmd : Instr)), (1, .tblWrite src t cmd), (2, .tblCas src t cmd), (3, .tblSwap src t cmd)],
      let key := banked src (Reg.TBL_CMD t)
      let started := s.onTbl (fun y => { y with busy := SMap.put 0 y.busy key (s.tick + 1) })
      let w := cmd &&& 0x0380FFFFFFFFFFFF
      let r := started.tblOp t (Fld.TBL_CMD_INDEX.get w) x.1 (Fld.TBL_CMD_STAGE.get w == 1) (Fld.TBL_CMD_SHEAF.get w)
        (BitVec.ofNat 16 (Fld.TBL_CMD_GEN.get w)) (started.tblData src t)
      let back := match r.1.back with
        | some d => (List.range (tblWidth t / 64)).foldl (fun (s : State) j => s.setReg (banked src (Reg.TBL_DATA t j)) (tblWord d j)) r.2
        | none => r.2
      let shown := Fld.TBL_CMD_OP.put x.1 (Fld.TBL_CMD_STATUS.put r.1.status (Fld.TBL_CMD_BUSY.put 0 w))
      let answered := match r.1.gen with
        | some g => Fld.TBL_CMD_GEN.put g.toNat shown
        | none => shown
      exec x.2 s = .next (if s.mayWrite src = true then
        if SMap.get 0 s.tbl.busy key = s.tick + 1 then s.setBits Reg.TBL_EVT 8
        else (back.setReg key answered).tblCount r.1.status else s)) ∧
  (∀ (s : State) (t i : Nat) (gen : BitVec 16) (d : BitVec 512) (id : Nat),
    let e := s.entry t i
    (indexBad t i = false →
      s.tblOp t i 0 false id gen d = ({ status := tsOk, gen := some e.gen, back := some e.data }, s)) ∧
    (indexBad t i = true → s.tblOp t i 0 false id gen d = ({ status := tsRange }, s)) ∧
    (∀ op, op = 1 ∨ op = 2 ∨ op = 3 → formStatus t i (tblNarrow t d) = tsOk → (t = 1 → jobChange e.data (tblNarrow t d) = true) →
      (s.directStatus t i op gen (tblNarrow t d) = tsOk →
        s.tblOp t i op false id gen d = ({ status := tsOk, gen := some (e.gen + 1), back := if op = 3 then some e.data else none },
          s.applyEntries [(t, i, tblNarrow t d)])) ∧
      (s.directStatus t i op gen (tblNarrow t d) = tsCasfail →
        s.tblOp t i op false id gen d = ({ status := tsCasfail, gen := some e.gen, back := some e.data }, s)))) ∧
  (∀ (s : State) (t i : Nat) (d : BitVec 512), t ≠ 1 → t ≠ 2 → t ≠ 5 →
    s.applyEntries [(t, i, d)] = s.setEntry t i { gen := (s.entry t i).gen + 1, data := d }) ∧
  (∀ (s : State) (q : Nat) (e : Entry), s.awake = true → s.tbl.image = none → s.nextEntry engTable = some (q, e) →
    let taken := (s.popQueue engTable q).tblEntry e
    exec .tblEntryWrite s = .next (if entryOp e ≠ 2 ∧ entryOp e ≠ 3 then taken else s) ∧
    exec .tblEntryCas s = .next (if entryOp e = 2 then taken else s) ∧
    exec .tblImage s = .next (if entryOp e = 3 then taken else s)) ∧
  (∀ s : State, s.nextEntry engTable = none ∨ s.tbl.image ≠ none →
    exec .tblEntryWrite s = .next s ∧ exec .tblEntryCas s = .next s ∧ exec .tblImage s = .next s) ∧
  (∀ s : State, s.awake = true →
    let ended := match s.tbl.image with
      | none => s
      | some m => (s.onTbl (fun x => { x with image := none })).tblDone m.e tsAborted (teIndex m.e + m.k) 0
    exec .tblDrain s = .next (s.setHold engTable (max 1 (s.hold engTable))) ∧
    exec .tblForce s = .next ((((ended.waitingEntries engTable).foldl (fun (s : State) e => s.tblDone e tsAborted (teIndex e) 0)
      (ended.clearQueues engTable)).setHold engTable 2).forcedDisable engTable 0) ∧
    exec .tblResume s = .next (s.setHold engTable 0))

/-- LFT_CN_CTL and LFT_CN_RPTR: ENABLE rising starts the rules' sequences, and sets NORING without a region (R145, R147). -/
def Obligations.CrowsNestRegisters : Prop :=
  ∀ (s : State) (val : Word), s.awake = true →
    let stored := s.setReg Reg.LFT_CN_CTL (val &&& 0xFFFFFFFF00000003)
    let rises := val.getLsbD 0 = true ∧ (s.reg Reg.LFT_CN_CTL).getLsbD 0 = false
    let told := if stored.captSize = 0 then stored.raise Reg.LFT_CN_EVT 2 11 srcCrow else stored
    (¬ rises → exec (.cnEnable val) s = .next stored) ∧
    (rises → exec (.cnEnable val) s = .next (told.onTele (fun t => { t with
      captSeq := 0
      captLfsr := (List.range 8).foldl (fun m i => SMap.put 0 m i (lfsrSeed (BitVec.ofNat 32 (val.toNat / 2 ^ 32 + i)))) [] }))) ∧
    (∀ v : BitVec 32, exec (.cnRptrWrite v) s = .next (s.setReg Reg.LFT_CN_RPTR (v.setWidth 64)))

/-- Rounds: timers, release of a faulted record, RESULT and COMMIT of another home (R198, R202, R204, R205, R207, R209, R210, R211). -/
def Obligations.RoundCommands : Prop :=
  (∀ (s : State) (n : Fin 16) (j : Byte), s.awake = true →
    let key := 256 * n.val + j.toNat
    let r := s.round key
    let d := s.cx r.coll.toNat
    let lowest := (s.unmet r).headD 0x3FF
    exec (.roundTimeout n j) s = .next (if r.state = rsOpen ∧ s.since r.regAt (cxTimeout d) = true
      then s.roundFault key rfTimeout lowest else s) ∧
    exec (.nocommitTimeout n j) s = .next (if (r.state = rsTallied ∨ r.state = rsWaitHome) ∧ (∃ h ∈ s.otherHomes d, h ∉ r.commits) ∧
      s.since r.talliedAt (4 * cxTimeout d) = true then s.roundFault key rfNoCommit lowest else s) ∧
    exec (.faultedRoundRelease n j) s = .next (if r.state = rsFaulted ∧ s.since r.faultAt (cxTimeout d) = true ∧ s.mayFree r = true
      then (s.freeRound key).settleColl r.coll else s)) ∧
  (∀ (s : State) (key cause contrib : Nat),
    let r := s.round key
    r.state = rsOpen ∨ r.state = rsTallied ∨ r.state = rsWaitHome →
    let log := pack [(Fld.CL_RD_FLOG_CAUSE, cause), (Fld.CL_RD_FLOG_CONTRIB, contrib),
      (Fld.CL_RD_FLOG_COLL, r.coll.toNat), (Fld.CL_RD_FLOG_ROUND, r.round.toNat)]
    let quiet := ((s.dropEmissions key).dropCopiesOf key).abortSheaf (epochSheaf key) saRound 0
    let bare := ((quiet.roundSlots r.coll.toNat r.round.toNat).foldl (fun (s : State) p => s.releaseSlot p.1) quiet).dropDescriptors
      (fun d => d.coll == r.coll && d.round == r.round)
    let logged := (bare.setReg (Reg.CL_RD_FLOG (key / 256)) log).ctxCount r.coll.toNat 5 1
    let cls := if cause = rfTimeout ∨ cause = rfNoCommit then 8 else 11
    let told := logged.raise (Reg.CL_RD_EVT (key / 256)) 0 cls (srcReduction (key / 256))
    let kept := told.faultRecord
      { cls := cls, unitType := utRound, unit := key, cause := cause, action := 7, detail := log,
        slot := told.slotByte (cxJob (told.cx r.coll.toNat)) }
    s.roundFault key cause contrib = (kept.setRound key { r with
      state := rsFaulted
      fcause := BitVec.ofNat 4 cause
      faultAt := kept.tick }).settleColl r.coll) ∧
  (∀ (s : State) (r : StageRef), s.stagedAt r = none → exec (.resultReceive r) s = .next s ∧ exec (.commitReceive r) s = .next s) ∧
  (∀ (s : State) (r : StageRef) (h : Held), s.awake = true → s.stagedAt r = some h →
    let n := clusterOf r.port
    let gs := s.downGroups h.f
    let copy := downCopy h
    (s.ownFrame h.f = false ∨ h.f.kind ≠ kResult → exec (.resultReceive r) s = .next s) ∧
    (s.ownFrame h.f = false ∨ h.f.kind ≠ kCommit → exec (.commitReceive r) s = .next s) ∧
    (∀ x ∈ [(kResult, (.resultReceive r : Instr), fun s => s), (kCommit, .commitReceive r, fun s => s.commitFrom h.f)],
      s.ownFrame h.f = true → h.f.kind = x.1 →
      (∀ c, s.downCheck r.port h.f = some c → exec x.2.1 s = .next ((s.unstage r).rdDrop n h c)) ∧
      (s.downCheck r.port h.f = none → s.stagedNoElig h.f = true → exec x.2.1 s = .next ((s.noteNoElig n h).2.restage r (s.noteNoElig n h).1)) ∧
      (s.downCheck r.port h.f = none → s.stagedNoElig h.f = false → s.admitAll n copy gs.1 = none →
        exec x.2.1 s = .next (s.restage r { h with m := { h.m with noElig := none } })) ∧
      (∀ t, s.downCheck r.port h.f = none → s.stagedNoElig h.f = false → s.admitAll n copy gs.1 = some t →
        let told := (List.range gs.2).foldl (fun s _ => s.discard r.port copy dcNoRoute) t
        exec x.2.1 s = .next (x.2.2 (told.consume r { h with m := { h.m with tagged := h.m.tagged && (told.downGroups h.f).1.isEmpty } }))))) ∧
  (∀ (s : State) (f : Frame) (key : Nat), s.findRound f.coll f.round = some key → (s.round key).state ≠ rsFaulted →
    let r := s.round key
    let told := s.setRound key { r with commits := if r.commits.contains f.src.toNat then r.commits else r.commits ++ [f.src.toNat] }
    let held := (told.roundSlots f.coll.toNat f.round.toNat).filter
      (fun p => p.2.state == 3 && home (s.cx f.coll.toNat) (slotChunk p.1) == f.src.toNat)
    s.commitFrom f = (held.foldl (fun (s : State) p => s.chunkDone key (slotChunk p.1)) told).settleColl f.coll)

/-- The dispatcher: LOADPROG, FREEPROG, BIND, UNBIND, DRAIN, FORCE, RESUME, and the program store's window (R216, R219, R220, R221, R222, R223, R224, R232, R463, R464). -/
def Obligations.DispatcherCommands : Prop :=
  (∀ (s : State) (n : Fin 16) (q : Nat) (e : Entry), s.awake = true → s.clusterState n.val = 0 →
    s.nextEntry (engDsp n.val) = some (q, e) →
    let taken := s.popQueue (engDsp n.val) q
    (deGood e = false →
      (entryOp e = 2 → exec (.freeprog n) s = .next (taken.dspDone n e dpBadentry)) ∧
      (entryOp e = 3 → exec (.dspBind n) s = .next (taken.dspDone n e dpBadentry)) ∧
      (entryOp e = 4 → exec (.dspUnbind n) s = .next (taken.dspDone n e dpBadentry)) ∧
      (entryOp e ≠ 2 → entryOp e ≠ 3 → entryOp e ≠ 4 → exec (.loadprog n) s = .next (taken.dspDone n e dpBadentry))) ∧
    (deGood e = true →
      (entryOp e = 1 →
        let data := taken.bulkData (deBulk e)
        let status := taken.loadStatus n.val e data
        exec (.loadprog n) s = .next ((if status = dpOk then taken.loadProgram n.val e (data.getD []) else taken).dspDone n e status)) ∧
      (entryOp e = 2 →
        let status := taken.freeStatus n.val e
        exec (.freeprog n) s = .next ((if status = dpOk then taken.freeProgram n.val (deBase e) else taken).dspDone n e status)) ∧
      (entryOp e = 3 →
        let status := taken.bindStatus n.val e
        exec (.dspBind n) s = .next ((if status = dpOk then taken.bindCore n.val e else taken).dspDone n e status)) ∧
      (entryOp e = 4 →
        let status := taken.unbindStatus n.val e
        exec (.dspUnbind n) s = .next ((if status = dpOk then taken.unbindCore n.val (deCore e) (deColl e) else taken).dspDone n e status)))) ∧
  (∀ (s : State) (n : Fin 16), s.nextEntry (engDsp n.val) = none ∨ s.clusterState n.val ≠ 0 →
    exec (.loadprog n) s = .next s ∧ exec (.freeprog n) s = .next s ∧ exec (.dspBind n) s = .next s ∧ exec (.dspUnbind n) s = .next s) ∧
  (∀ (s : State) (n : Fin 16) (q : Nat) (e : Entry), s.nextEntry (engDsp n.val) = some (q, e) →
    (entryOp e = 2 ∨ entryOp e = 3 ∨ entryOp e = 4 → exec (.loadprog n) s = .next s) ∧ (entryOp e ≠ 2 → exec (.freeprog n) s = .next s) ∧
    (entryOp e ≠ 3 → exec (.dspBind n) s = .next s) ∧ (entryOp e ≠ 4 → exec (.dspUnbind n) s = .next s)) ∧
  (∀ (e : Entry), entryOp e = 0 ∨ 4 < entryOp e → deGood e = false) ∧
  (∀ (s : State) (n : Fin 16) (e : Entry) (status : Nat),
    s.dspDone n e status = (s.bump (Reg.DSP_CNT n.val status) 1).ringWrite (.dsp n)
      (pack [(Fld.DSP_CRING_TAG, deTag e), (Fld.DSP_CRING_OP, entryOp e), (Fld.DSP_CRING_STATUS, status),
        (Fld.DSP_CRING_CORE, if entryOp e = 3 ∨ entryOp e = 4 then deCore e else 0xFF)]) (status != dpOk)) ∧
  (∀ (s : State) (n : Fin 16), s.awake = true →
    exec (.dspDrain n) s = .next (s.setHold (engDsp n.val) (max 1 (s.hold (engDsp n.val)))) ∧
    exec (.dspForce n) s = .next ((((s.waitingEntries (engDsp n.val)).foldl (fun (s : State) e => s.dspDone n e dpAborted)
      (s.clearQueues (engDsp n.val))).setHold (engDsp n.val) 2).forcedDisable (engDsp n.val) 0) ∧
    exec (.dspResume n) s = .next (s.setHold (engDsp n.val) 0)) ∧
  (∀ (s : State) (src : Source) (n : Fin 16), s.mayRead src = true →
    let a := s.fld (Reg.DSP_PSADDR n.val) ⟨0, 15⟩
    (s.tenantSource src = true → exec (.psdataRead src n) s = .next (s.answer 0 1)) ∧
    (s.tenantSource src = false → exec (.psdataRead src n) s =
      .next ((s.answer (s.psWord n.val a) 0).setReg (Reg.DSP_PSADDR n.val) (BitVec.ofNat 64 ((a + 1) % 32768)))))

/-- A contribution joins the queue of its bound core, or is dropped; a waiting descriptor starts an invocation (R194, R199, R200, R201, R214, R216, R217, R218, R243, R244). -/
def Obligations.DescriptorsAndInvocations : Prop :=
  (∀ (s : State) (r : StageRef) (h : Held), s.awake = true → s.stagedAt r = some h → h.f.kind = kContrib → s.ownFrame h.f = true →
    let n := h.f.chunk.toNat % 16
    let d := s.cx h.f.coll.toNat
    (s.findRound h.f.coll h.f.round = none → exec (.descriptorEnqueue r) s = .next ((s.unstage r).rdDrop n h rdDup)) ∧
    (∀ rk, s.findRound h.f.coll h.f.round = some rk →
      ((s.round rk).state = rsFaulted → exec (.descriptorEnqueue r) s =
        .next ((s.unstage r).rdDrop (tallyCluster h.f.coll.toNat) h rdFaulted)) ∧
      ((s.round rk).state ≠ rsFaulted →
        (s.boundCore n h.f.coll h.f.chunk.toNat = none ∨ s.contribBit d h.m.pin = none →
          exec (.descriptorEnqueue r) s = .next ((s.unstage r).rdDrop n h rdUnbound)) ∧
        (∀ c b, s.boundCore n h.f.coll h.f.chunk.toNat = some c → s.contribBit d h.m.pin = some b →
          let x := s.core n c
          let y := s.slot (slotKey h.f.coll.toNat h.f.round.toNat h.f.chunk.toNat)
          let seen := SMap.get false (s.round rk).done h.f.chunk.toNat || y.state == 3 || y.bitmap.getLsbD b || y.queued.getLsbD b
          (x.st = coDisabled → exec (.descriptorEnqueue r) s = .next ((s.unstage r).rdDrop n h rdUnbound)) ∧
          (x.st ≠ coDisabled → x.st = coReset ∨ 64 ≤ x.dq.length ∨ s.clusterState n ≠ 0 → exec (.descriptorEnqueue r) s = .next s) ∧
          (x.st ≠ coDisabled → ¬ (x.st = coReset ∨ 64 ≤ x.dq.length ∨ s.clusterState n ≠ 0) →
            (seen = true → exec (.descriptorEnqueue r) s = .next ((s.unstage r).rdDrop n h rdDup)) ∧
            (seen = false → y.state ≠ 0 → exec (.descriptorEnqueue r) s = .next ((s.unstage r).enqueueDesc n c b y false h)) ∧
            (seen = false → y.state = 0 →
              (s.takeSlot n c d = none →
                exec (.descriptorEnqueue r) s = .next (((s.unstage r).roundFaultUnmet rk rfNoSpill).rdDrop (tallyCluster h.f.coll.toNat) h rdFaulted)) ∧
              (∀ z t, s.takeSlot n c d = some (z, t) → z.spill = false →
                exec (.descriptorEnqueue r) s = .next ((t.unstage r).enqueueDesc n c b z true h)) ∧
              (∀ z t, s.takeSlot n c d = some (z, t) → z.spill = true →
                exec (.descriptorEnqueue r) s = .next (((t.millEvent n 0x0D 1 h.f).unstage r).enqueueDesc n c b z true h)))))))) ∧
  (∀ (s : State) (r : StageRef), s.stagedAt r = none → exec (.descriptorEnqueue r) s = .next s) ∧
  (∀ (s : State) (r : StageRef) (h : Held), s.stagedAt r = some h → h.f.kind ≠ kContrib ∨ s.ownFrame h.f = false →
    exec (.descriptorEnqueue r) s = .next s) ∧
  (∀ (s : State) (n : Fin 16) (c : Fin 96) (ue : Bool), (s.core n.val c.val).dq = [] → exec (.invocationStart n ⟨c, ue⟩) s = .next s) ∧
  (∀ (s : State) (n : Fin 16) (c : Fin 96) (ue : Bool), s.coreCmd n.val = true → (s.core n.val c.val).st ≠ coIdle →
    ¬ ((s.core n.val c.val).st = coRun ∧ (s.core n.val c.val).desc = none) → exec (.invocationStart n ⟨c, ue⟩) s = .next s) ∧
  (∀ (s : State) (n : Fin 16) (c : Fin 96) (d : Desc) (l : List Desc) (ue : Bool), s.coreCmd n.val = true →
    (s.core n.val c.val).st = coIdle ∨ ((s.core n.val c.val).st = coRun ∧ (s.core n.val c.val).desc = none) →
    (s.core n.val c.val).dq = d :: l →
    let cx := s.cx d.coll.toNat
    let loaded := (s.loadWindow n.val c.val d).2
    let cost := (s.loadWindow n.val c.val d).1
    let x := (loaded.core n.val c.val).loadRegs d cx
    let late := if x.fresh ∨ x.lastProg ≠ some (cxProg cx) then 2 else 0
    let m := { d.h.m with dmstart := some loaded.nowHalf }
    let h := { d.h with m := m }
    let begun := loaded.setCore n.val c.val { x with
      st := coRun
      dq := x.dq.tail
      desc := some { d with h := h }
      flags := 0
      flagAt := []
      gen := genSeed (cxSeed cx) d.round d.chunk
      blocks := 0
      tallied := false
      complete := false
      emitted := false
      ftxGrn := false
      waitEv := none
      loops := []
      arith := []
      pc := cxProg cx
      progBase := cxProg cx
      lastProg := some (cxProg cx)
      fresh := false
      startAt := loaded.tick
      tm := { issue := cost + late } }
    let bad := if (s.core n.val c.val).winKey = some d.key then none else s.backFails n.val c.val ue
    (bad = none → exec (.invocationStart n ⟨c, ue⟩) s = .next (if (begun.program n.val (cxProg cx)).isNone
      then begun.exception n.val c.val exPstore 0 (cost + late) false else begun)) ∧
    (∀ y, bad = some y → exec (.invocationStart n ⟨c, ue⟩) s = .next ((begun.free.2.loftUe begun.free.1.toNat (.spill y.cell)).loftEnd n.val c.val cost)))

/-- The Mill core states: RESET, DISABLE, ENABLE, INJECT, self-check, wake, gating, HANG; a cluster's power (R214, R225, R226, R228, R229, R230, R231, R232, R233, R244, R281). -/
def Obligations.CoreCommands : Prop :=
  (∀ (s : State) (n : Fin 16) (c : Fin 96), s.coreCmd n.val = true →
    let x := s.core n.val c.val
    let idle := { x with
      st := coIdle
      wakeAt := none
      fresh := true
      idleAt := s.tick }
    let stopped := s.isCut (cutCore n.val c.val)
    (x.st ≠ coDisabled →
      exec (.coreReset n c) s = .next (if stopped = true then s else s.exception n.val c.val exAborted 0 (s.coreCycle x) false) ∧
      exec (.coreDisable n c) s = .next (if stopped = true then s.coreDisabled n.val c.val
        else s.exception n.val c.val exAborted 0 (s.coreCycle x) true) ∧
      exec (.coreInject n c) s = .next (s.setCore n.val c.val { x with inject := true }) ∧
      exec (.coreEnable n c) s = .next s) ∧
    (x.st = coDisabled →
      exec (.coreEnable n c) s = .next (s.setCore n.val c.val { x.zero with wakeAt := some s.tick }) ∧
      exec (.coreReset n c) s = .next s ∧ exec (.coreDisable n c) s = .next s ∧ exec (.coreInject n c) s = .next s) ∧
    (x.st = coReset →
      exec (.selfCheckDone n c true) s = .next (s.setCore n.val c.val idle) ∧
      exec (.selfCheckDone n c false) s = .next (s.coreDisabled n.val c.val)) ∧
    (x.st = coDisabled → x.wakeAt.isSome = true →
      exec (.selfCheckDone n c true) s = .next (s.setCore n.val c.val idle) ∧
      exec (.selfCheckDone n c false) s = .next (s.setCore n.val c.val { x with wakeAt := none })) ∧
    (x.st ≠ coReset → ¬ (x.st = coDisabled ∧ x.wakeAt.isSome = true) → ∀ pass, exec (.selfCheckDone n c pass) s = .next s) ∧
    exec (.coreWake n c) s = .next (if x.st = coGated ∧ x.wakeAt.isSome = true then s.setCore n.val c.val { x.zero with
        st := coIdle
        wakeAt := none
        fresh := true
        idleAt := s.tick } else s) ∧
    (∀ ue, let g := s.fld (Reg.DSP_CTL n.val) Fld.DSP_CTL_IDLEGATE
      let gates := x.st = coIdle ∧ x.dq = [] ∧ s.descriptorNow n.val c.val = false ∧
        ((s.coreBinds n.val c.val).isEmpty = true ∨ (g ≠ 0 ∧ s.since x.idleAt (usTicks g) = true))
      let put := match s.backFails n.val c.val ue with
        | some y => s.free.2.loftUe s.free.1.toNat (.spill y.cell)
        | none => (s.writeBack n.val c.val).2
      exec (.idlegateExpiry n ⟨c, ue⟩) s = .next (if gates then put.setCore n.val c.val { put.core n.val c.val with st := coGated } else s)) ∧
    exec (.millHang n c) s = .next (if x.desc.isSome = true ∧ s.since x.startAt (msTicks 1) = true
      then s.exception n.val c.val exHang ((s.storeWord n.val x.pc).toNat / 2 ^ 56) watchdogCycles false else s)) ∧
  (∀ (s : State) (n : Fin 16), s.awake = true →
    exec (.clusterDark n) s = .next (if s.clusterState n.val = 0 ∧ s.mayDarken n.val = true then s.setCluster n.val 1 else s) ∧
    exec (.clusterAwake n) s = .next (if s.clusterState n.val = 3 then (s.setCluster n.val 0).portsBack n.val else s)) ∧
  (∀ x : Core, x.zero.v = [] ∧ x.zero.sreg = [] ∧ x.zero.p = [] ∧ x.zero.flags = 0 ∧ x.zero.winKey = none ∧ x.zero.st = x.st)

/-- Every Mill instruction that its fields allow is decoded from its own word, and no word decodes to two (R235, R236, R239, R246, R247, R248, R249, R250, R251, R253, R256, R257). -/
def Obligations.MillEncoding : Prop :=
  (∀ i : MInstr, i.good = true → decodeMill (encodeMill i) = some i) ∧
  (∀ (w : Word) (i : MInstr), decodeMill w = some i → encodeMill i = w ∧ i.good = true) ∧
  (∀ (w : Word) (op : AluOp) (d a b : BitVec 8) (fa fb : BitVec 4) (c sat pe : BitVec 1) (pred : BitVec 3) (ne : BitVec 14),
    decodeMill w = some (.alu op d a b fa fb c sat pe pred ne) → w.extractLsb' 56 8 = op.major)

/-- BR, LOOP, WAIT, SIG and HALT: where a core goes on, its loops, flags and times, and the end of an invocation (R218, R225, R246, R247, R248, R259). -/
def Obligations.MillControl : Prop :=
  (∀ (s : State) (n : Fin 16) (c : Fin 96) (p : Prep) (a : BitVec 8) (cond : BitVec 4) (bit : BitVec 6) (target : BitVec 15),
    s.issues n c (.br a cond bit target) p →
    (p.x.cond cond a bit = true →
      let e := p.ends
      exec (.br n c p.e) s = .next (p.finish s { e with
        next := p.start + 2
        pc := target.toNat
        loops := p.x.loops.dropWhile (fun l => !decide (l.first ≤ target.toNat ∧ target.toNat ≤ l.last)) })) ∧
    (p.x.cond cond a bit = false →
      let e := p.ends
      exec (.br n c p.e) s = .next (p.finish s { e with next := p.start + 1 }))) ∧
  (∀ (s : State) (n : Fin 16) (c : Fin 96) (p : Prep) (a : BitVec 8) (count body : BitVec 12),
    s.issues n c (.loop a count body) p →
    let k := if count = 0 then (p.x.s a).toNat % 4096 else count.toNat
    let e := p.ends
    (k = 0 ∨ body = 0 →
      exec (.loop n c p.e) s = .next (p.finish s { e with
        pc := (loopBack (p.x.pc + body.toNat) p.x.loops).1
        loops := (loopBack (p.x.pc + body.toNat) p.x.loops).2 })) ∧
    (¬ (k = 0 ∨ body = 0) →
      let level : LoopLevel := { first := p.x.pc + 1, last := p.x.pc + body.toNat, left := k }
      exec (.loop n c p.e) s = .next (p.finish s { e with
        pc := p.x.pc + 1
        loops := level :: p.x.loops }))) ∧
  (∀ (s : State) (n : Fin 16) (c : Fin 96) (p : Prep) (d : BitVec 8) (ev : BitVec 4) (mask : BitVec 8),
    s.issues n c (.wait d ev mask) p →
    let cyc := if ev = 0 then max (p.start + 1) ((s.core p.n p.c).flagCycle mask)
      else if ev = 1 then max p.start p.last + 1 else p.start + 1
    (s.waitMet p.n p.c ev mask = true → cyc < watchdogCycles → exec (.wait n c p.e) s = .next (p.waitEnd s d ev mask cyc)) ∧
    (s.waitMet p.n p.c ev mask = true → watchdogCycles ≤ cyc →
      exec (.wait n c p.e) s = .next (s.exception p.n p.c exHang p.i.major watchdogCycles false)) ∧
    (s.waitMet p.n p.c ev mask = false →
      exec (.wait n c p.e) s = .next (s.setCore p.n p.c { p.x with
        st := coWait
        waitEv := some (ev.toNat, mask, none) }))) ∧
  (∀ (s : State) (n : Fin 16) (c : Fin 96) (d : Desc) (r : BitVec 8) (ev : BitVec 4) (mask : BitVec 8),
    let x := s.core n.val c.val
    let p := s.prep n.val c.val d (.wait r ev mask) .none
    let cyc := if ev = 0 then max (p.start + 1) (x.flagCycle mask)
      else if ev = 1 then max p.start p.last + 1 else max (p.start + 1) (s.coreCycle x)
    x.desc = some d → decodeMill (s.fetch n.val x.pc) = some (.wait r ev mask) → s.coreCmd n.val = true → x.st = coWait →
    s.waitMet n.val c.val ev mask = true →
    (cyc < watchdogCycles → exec (.waitSatisfied n c) s = .next (p.waitEnd s r ev mask cyc)) ∧
    (watchdogCycles ≤ cyc → exec (.waitSatisfied n c) s = .next (s.exception p.n p.c exHang p.i.major watchdogCycles false))) ∧
  (∀ (s : State) (n : Fin 16) (c : Fin 96), (s.core n.val c.val).st ≠ coWait → exec (.waitSatisfied n c) s = .next s) ∧
  (∀ (s : State) (n : Fin 16) (c : Fin 96) (r : BitVec 8) (ev : BitVec 4) (mask : BitVec 8),
    decodeMill (s.fetch n.val (s.core n.val c.val).pc) = some (.wait r ev mask) → s.waitMet n.val c.val ev mask = false →
    exec (.waitSatisfied n c) s = .next s) ∧
  (∀ (s : State) (n : Fin 16) (c : Fin 96) (p : Prep) (a : BitVec 8) (core : BitVec 7) (mask : BitVec 8),
    s.issues n c (.sig a core mask) p →
    let k := if core = 0x7F then (p.x.s a).toNat % 128 else core.toNat
    let f : Flight := { n := p.n, core := k, mask := mask, slot := s.collSlot p.d.coll, due := 80 * p.x.startAt + (p.at + 4) }
    exec (.sig n c p.e) s = .next (p.finish (s.onMill (fun m => { m with flights := m.flights ++ [f] })) p.ends)) ∧
  (∀ (s : State) (n : Fin 16) (f : Flight), s.awake = true → s.nextFlight n.val = some f →
    let gone := s.onMill (fun m => { m with flights := m.flights.erase f })
    let x := gone.core n.val f.core
    let here := f.core < 96 ∧ gone.coreCmd n.val = true ∧ (x.st = coIdle ∨ x.st = coRun ∨ x.st = coWait) ∧
      (gone.coreBinds n.val f.core).any (fun b => gone.collSlot b.coll == f.slot) = true ∧
      ¬ (x.desc.isSome = true ∧ f.due ≤ 80 * x.startAt)
    (here → exec (.sigArrive n) s = .next (gone.setCore n.val f.core { x with
      flags := x.flags ||| f.mask
      flagAt := (List.range 8).foldl (fun m i => if f.mask.getLsbD i then
        SMap.put 0 m i (if x.flags.getLsbD i then min (SMap.get 0 m i) f.due else f.due) else m) x.flagAt })) ∧
    (¬ here → exec (.sigArrive n) s = .next gone)) ∧
  (∀ (s : State) (n : Fin 16), s.nextFlight n.val = none → exec (.sigArrive n) s = .next s) ∧
  (∀ (s : State) (n : Fin 16) (c : Fin 96) (p : Prep) (a : BitVec 8) (cond : BitVec 4) (bit : BitVec 6),
    s.issues n c (.halt a cond bit) p →
    let ret := max p.start (if p.x.tm.retired = 0 then 0 else p.last + 1)
    (p.x.cond cond a bit = true → ret ≤ watchdogCycles →
      exec (.halt n c p.e) s = .next (s.endInvocation p.n p.c ret)) ∧
    (p.x.cond cond a bit = true → watchdogCycles < ret →
      exec (.halt n c p.e) s = .next (s.exception p.n p.c exHang p.i.major watchdogCycles false)) ∧
    (p.x.cond cond a bit = false →
      let e := p.ends
      exec (.halt n c p.e) s = .next (p.finish s { e with
        done := ret
        ret := ret
        next := p.start + 1 })))

/-- The arithmetic, block and sparse instructions: the destination group, the counts and the generator (R227, R237, R238, R239, R251, R252, R253, R254, R277, R278, R279, R281). -/
def Obligations.MillArithmetic : Prop :=
  (∀ (s : State) (n : Fin 16) (c : Fin 96) (p : Prep) (op : AluOp) (d a b : BitVec 8) (fa fb : BitVec 4) (cb sat pe : BitVec 1)
      (pred : BitVec 3) (ne : BitVec 14), s.issues n c (.alu op d a b fa fb cb sat pe pred ne) p →
    let row : Instr := match op with
      | .vadd => .vadd n c p.e
      | .vfma => .vfma n c p.e
      | .vmax => .vmax n c p.e
      | .vmin => .vmin n c p.e
      | .vscl => .vscl n c p.e
      | .vcast => .vcast n c p.e
      | .vsrnd => .vsrnd n c p.e
    let regs := aluGroup fa.toNat (cb == 1) p.env.ne
    let srcA := match op with
      | .vadd | .vmax | .vmin => aluGroup fa.toNat (cb == 1) p.env.ne
      | .vscl => groupRegs fa.toNat p.env.ne
      | .vfma | .vcast | .vsrnd => groupRegs fb.toNat p.env.ne
    let input : AluIn :=
      { op := op, fa := fa.toNat, fb := fb.toNat, c := cb == 1, sat := sat == 1
        pe := if pe = 1 then some (p.x.pred pred.toNat) else none
        ne := p.env.ne
        gd := p.x.group d regs
        ga := p.x.group a srcA
        gb := if isV b then p.x.group b (groupRegs fb.toNat p.env.ne) else 0
        sv := f32 ((p.x.s b).toNat % 2 ^ 32) }
    (p.residue = false → p.overlaps = false →
      let done := (p.x.setGroup d regs (input.run p.x.gen).1).addArith (input.run p.x.gen).2.1
      exec row s = .next (p.finish (s.setCore p.n p.c { done with gen := (input.run p.x.gen).2.2 }) p.ends)) ∧
    (p.residue = false → p.overlaps = true → exec row s = .next (p.vecFree s d regs (input.run p.x.gen).2.2)) ∧
    (p.residue = true → exec row s = .next (p.residueExc s))) ∧
  (∀ (s : State) (n : Fin 16) (c : Fin 96) (p : Prep) (d a : BitVec 8) (fa fb : BitVec 4) (rnd : BitVec 2) (ne : BitVec 14),
    let regs := groupRegs fa.toNat p.env.ne
    (s.issues n c (.vmxd d a fa fb rnd ne) p →
      (p.residue = false → p.overlaps = false →
        let r := mxdRun fa.toNat fb.toNat p.env.ne (p.x.group d regs) (p.x.group a (groupRegs fb.toNat p.env.ne))
        exec (.vmxd n c p.e) s = .next (p.vecEnd s d regs (r.1, r.2, p.x.gen))) ∧
      (p.residue = false → p.overlaps = true → exec (.vmxd n c p.e) s = .next (p.vecFree s d regs p.x.gen)) ∧
      (p.residue = true → exec (.vmxd n c p.e) s = .next (p.residueExc s))) ∧
    (s.issues n c (.vmxe d a fa fb rnd ne) p →
      let r := mxeRun fa.toNat p.env.ne (rnd == 1) (p.x.group a (groupRegs fb.toNat p.env.ne)) p.x.gen
      (p.residue = false → p.overlaps = false → exec (.vmxe n c p.e) s = .next (p.vecEnd s d regs r)) ∧
      (p.residue = false → p.overlaps = true → exec (.vmxe n c p.e) s = .next (p.vecFree s d regs r.2.2)) ∧
      (p.residue = true → exec (.vmxe n c p.e) s = .next (p.residueExc s)))) ∧
  (∀ (s : State) (n : Fin 16) (c : Fin 96) (p : Prep) (d a b : BitVec 8), s.issues n c (.vtkm d a b) p →
    let regs := pairRegs p.env.k
    let r := topMerge (cxElems p.cx) p.env.k (p.x.group a regs) (p.x.group b regs)
    (p.residue = false → exec (.vtkm n c p.e) s = .next (p.vecEnd s d regs (r.1, r.2, p.x.gen))) ∧
    (p.residue = true → exec (.vtkm n c p.e) s = .next (p.residueExc s))) ∧
  (∀ (x : Core) (d : BitVec 8) (k g : Nat) (a : Arith), ((x.setGroup d k g).addArith a).sreg = x.sreg ∧
    ((x.setGroup d k g).addArith a).p = x.p ∧ ((x.setGroup d k g).addArith a).winBytes = x.winBytes ∧
    ((x.setGroup d k g).addArith a).flags = x.flags)

/-- FRX, FTX, TALLY, LDB and STB: payload blocks, emissions, the tally and the window (R200, R201, R218, R244, R245, R249, R250, R255, R256, R295). -/
def Obligations.MillFramesAndSlots : Prop :=
  (∀ (s : State) (n : Fin 16) (c : Fin 96) (p : Prep) (d : BitVec 8) (w : BitVec 1) (nr off : BitVec 4) (cell : BitVec 10),
    s.issues n c (.frx d w nr off cell) p →
    let nb := frxBlocks nr.toNat off.toNat p.env.plen
    let taken := (List.range nb).foldl (fun (b : BitVec 16) k => b ||| BitVec.ofNat 16 (2 ^ (off.toNat + k))) p.x.blocks
    (w = 1 → nb ≠ 0 ∧ (cell = 0 ∨ slotCells p.cx < cell.toNat + 2 * nb) →
      exec (.frx n c p.e) s = .next (p.exc s exWindow p.at)) ∧
    (w = 1 → ¬ (nb ≠ 0 ∧ (cell = 0 ∨ slotCells p.cx < cell.toNat + 2 * nb)) →
      let bytes := sliceBytes p.d.h.f.payload (256 * off.toNat) (256 * nb)
      let x := p.x.atStart p.start
      let put := (List.range (256 * nb)).foldl (fun m b => SMap.put 0 m (128 * cell.toNat + b) (bytes.getD b 0)) x.winBytes
      let mark := fun (m : SMap Bool) => (List.range (256 * nb / 128)).foldl (fun m k => SMap.put false m (cell.toNat + k) true) m
      exec (.frx n c p.e) s = .next (p.finish (s.setCore p.n p.c { x with
        blocks := taken
        winBytes := put
        present := mark x.present
        dirty := mark x.dirty }) p.ends)) ∧
    (w ≠ 1 →
      let filled := (List.range (frxRegs nr.toNat off.toNat p.env)).foldl (fun (x : Core) k => x.setGroup (BitVec.ofNat 8 (d.toNat + k)) 1
        (blockReg p.d.h.f.payload (cxImage p.cx) (elemWidth (cxEfmt p.cx)) (off.toNat + k))) p.x
      exec (.frx n c p.e) s = .next (p.finish (s.setCore p.n p.c { filled with blocks := taken }) p.ends))) ∧
  (∀ (s : State) (n : Fin 16) (c : Fin 96) (p : Prep) (a b : BitVec 8) (nr : BitVec 6) (cell : BitVec 10),
    s.issues n c (.stb a b nr cell) p →
    let k := nr.toNat + 1
    let lo := p.cells b cell
    (lo = 0 ∨ slotCells p.cx < lo + 2 * k → exec (.stb n c p.e) s = .next (p.exc s exWindow p.at)) ∧
    (¬ (lo = 0 ∨ slotCells p.cx < lo + 2 * k) →
      let bytes := imageBytes (256 * k) (p.x.group a k)
      let x := p.x.atStart p.start
      let put := (List.range (256 * k)).foldl (fun m i => SMap.put 0 m (128 * lo + i) (bytes.getD i 0)) x.winBytes
      let mark := fun (m : SMap Bool) => (List.range (256 * k / 128)).foldl (fun m i => SMap.put false m (lo + i) true) m
      exec (.stb n c p.e) s = .next (p.finish (s.setCore p.n p.c { x with
        winBytes := put
        present := mark x.present
        dirty := mark x.dirty }) p.ends))) ∧
  (∀ (s : State) (n : Fin 16) (c : Fin 96) (p : Prep) (d b : BitVec 8) (nr : BitVec 6) (cell : BitVec 10),
    s.issues n c (.ldb d b nr cell) p →
    let k := nr.toNat + 1
    let lo := p.cells b cell
    (slotCells p.cx < lo + 2 * k → exec (.ldb n c p.e) s = .next (p.exc s exWindow p.at)) ∧
    (¬ slotCells p.cx < lo + 2 * k →
      let y := p.x.slotAt p.start (s.slot p.d.key)
      let x := p.x.atStart p.start
      let absent := ((List.range (2 * k)).map (fun i => lo + i)).filter (fun j => !x.hasCell j)
      let filled := ((List.range k).filter (fun i => !x.hasCell (lo + 2 * i) || !x.hasCell (lo + 2 * i + 1))).length
      let first := if filled ≠ 0 ∧ y.spill then p.start + 400 else p.start + 2
      let hits := ceilDiv (k - filled) 2
      let done := if filled = 0 then p.done
        else if y.spill then max p.done (first + 4 * (filled - 1) + hits)
        else max p.done (first + filled + hits - 1)
      let ret := max done p.last
      let broken := p.e = .loftUe ∧ filled ≠ 0 ∧ y.spill = true ∧ first < watchdogCycles
      let filledIn := x.fill y absent
      let read := (List.range k).foldl (fun (s : State) i =>
        let u := s.cellBits p filledIn y (lo + 2 * i)
        let v := u.2.cellBits p filledIn y (lo + 2 * i + 1)
        v.2.setCore p.n p.c ((v.2.core p.n p.c).setGroup (BitVec.ofNat 8 (d.toNat + i)) 1 (u.1 + v.1 * 2 ^ 1024))) (s.setCore p.n p.c filledIn)
      let e := p.ends
      (broken → exec (.ldb n c p.e) s =
        .next ((s.free.2.loftUe s.free.1.toNat (.spill (cellAt y.runs (absent.headD lo)))).loftEnd p.n p.c (max first p.last))) ∧
      (¬ broken → watchdogCycles ≤ ret → exec (.ldb n c p.e) s = .next (p.exc s exHang watchdogCycles)) ∧
      (¬ broken → ret < watchdogCycles → exec (.ldb n c p.e) s = .next (p.finish read { e with
        first := first
        done := done
        unit := done
        ret := ret })))) ∧
  (∀ (s : State) (n : Fin 16) (c : Fin 96) (p : Prep) (pd a : BitVec 8), s.issues n c (.tally pd a) p →
    (p.x.tallied = true ∨ p.allTaken = false → exec (.tally n c p.e) s = .next (p.exc s exTally p.at)) ∧
    (p.x.tallied = false → p.allTaken = true → p.residue = true → exec (.tally n c p.e) s = .next (p.residueExc s)) ∧
    (p.x.tallied = false → p.allTaken = true → p.residue = false →
      let full := (s.tallyCount p.d).1
      let counted := (s.tallyCount p.d).2
      let m := { p.d.h.m with dmfin := some counted.nowHalf }
      let h := { p.d.h with m := m }
      let later := full && counted.ownHome (home p.cx p.d.chunk.toNat) && (cxDest p.cx == 1 || cxDest p.cx == 2)
      let back := counted.returnCells h.m.pin h
      let left := if later then back else back.depart h { consumed := true }
      let fl := pack [(⟨4, 1⟩, b2n p.d.first), (⟨2, 2⟩, cxDest p.cx),
        (⟨1, 1⟩, b2n (left.ownHome (home p.cx p.d.chunk.toNat))), (⟨0, 1⟩, b2n full)]
      let x := ((left.core p.n p.c).setPred pd.toNat (if full then BitVec.allOnes 256 else 0)).setS a fl
      exec (.tally n c p.e) s = .next (p.finishLate (left.setCore p.n p.c { x with
        shadow := x.shadow ++ [(p.at, s.slot p.d.key)]
        tallied := true
        complete := full
        owes := later
        desc := some { p.d with h := h } })))) ∧
  (∀ (s : State) (n : Fin 16) (c : Fin 96) (p : Prep) (a : BitVec 8) (fmt : BitVec 4) (tgt : BitVec 1) (ne : BitVec 14),
    s.issues n c (.ftx a fmt tgt ne) p →
    let chunk := p.d.chunk.toNat
    let row := s.ftxRow p.cx chunk
    let q := qMill p.n p.c
    let want := ftxFormat p.cx row
    (fmt.toNat ≠ want → exec (.ftx n c p.e) s = .next (p.exc s exFormat p.at)) ∧
    (fmt.toNat = want → p.emitBad row tgt.toNat = true → exec (.ftx n c p.e) s = .next (p.exc s exEmit p.at)) ∧
    (fmt.toNat = want → p.emitBad row tgt.toNat = false →
      (2 ≤ s.emissionsWaiting q → exec (.ftx n c p.e) s = .next (s.setCore p.n p.c { p.x with waitEv := some (2, 0, none) })) ∧
      (s.emissionsWaiting q < 2 → watchdogCycles ≤ p.ftxCycle s → exec (.ftx n c p.e) s = .next (p.exc s exHang watchdogCycles)) ∧
      (s.emissionsWaiting q < 2 → p.ftxCycle s < watchdogCycles → s.disableNow p.n p.c = true → exec (.ftx n c p.e) s = .next s) ∧
      (s.emissionsWaiting q < 2 → p.ftxCycle s < watchdogCycles → s.disableNow p.n p.c = false → s.findRound p.d.coll p.d.round = none →
        exec (.ftx n c p.e) s = .next (p.ftxEnd s (p.ftxCycle s))) ∧
      (∀ rk, s.emissionsWaiting q < 2 → p.ftxCycle s < watchdogCycles → s.disableNow p.n p.c = false →
        s.findRound p.d.coll p.d.round = some rk →
        let g := p.x.group a (if p.env.k = 0 then groupRegs want p.env.ne else pairRegs p.env.ne)
        let payload := if p.env.k = 0 then emitBytes want p.env.ne g else imageBytes (8 * p.env.ne) g
        let begun := p.ftxBegin s
        ((s.round rk).state = rsFaulted → exec (.ftx n c p.e) s = .next (p.ftxEnd s (p.ftxCycle s))) ∧
        ((s.round rk).state ≠ rsFaulted → row = 0 →
          let sent := (begun.emitResult q rk chunk payload).settleEmission (.result rk chunk)
          exec (.ftx n c p.e) s = .next (p.ftxEnd sent (p.ftxCycle sent))) ∧
        ((s.round rk).state ≠ rsFaulted → row = 2 →
          let sent := (begun.emitPartial q rk chunk payload).settleEmission (.sitePartial rk chunk)
          exec (.ftx n c p.e) s = .next (p.ftxEnd sent (p.ftxCycle sent))) ∧
        ((s.round rk).state ≠ rsFaulted → row = 1 →
          let gc : GChunk :=
            { bix := 0, chunk := chunk, h := 0, rrec := rk, coll := p.d.coll, round := p.d.round,
              grads := streamValues want p.env.ne g }
          let en := SMap.get {} begun.grn.engines (chunk % 16)
          let given := { en with ftxWait := en.ftxWait ++ [(qMill p.n p.c, gc)] }
          let handed := begun.onGrn (fun x => { x with engines := SMap.put {} x.engines (chunk % 16) given })
          exec (.ftx n c p.e) s = .next (handed.setCore p.n p.c { handed.core p.n p.c with
            ftxGrn := true
            waitEv := some (2, 0, none) })))))

/-- SHB, SHC, SHA; the exceptions every Mill row can take; what an exception writes (R219, R227, R228, R229, R230, R231, R235, R240, R246, R257, R258, R259). -/
def Obligations.MillExceptions : Prop :=
  (∀ (s : State) (n : Fin 16) (c : Fin 96) (p : Prep) (d a : BitVec 8),
    let id := (p.x.s a).toNat % 65536
    (s.issues n c (.shb d) p →
      exec (.shb n c p.e) s = .next (p.finishLate (s.setCore p.n p.c (p.x.setS d (match s.epochSheafOf p.d.coll p.d.round with
        | some k => BitVec.ofNat 64 (k + 0x10000)
        | none => 0))))) ∧
    (s.issues n c (.shc d a) p →
      (s.sheafVisible p.d.coll id = true →
        exec (.shc n c p.e) s = .next (p.finishLate (s.setCore p.n p.c (p.x.setS d ((s.sheaf id).state.setWidth 64))))) ∧
      (s.sheafVisible p.d.coll id = false → exec (.shc n c p.e) s = .next (p.exc s exSheaf p.at))) ∧
    (s.issues n c (.sha d a) p →
      (s.sheafVisible p.d.coll id = true →
        let after := if s.epochNow id then s.epochGo (id - 0xF000) else s
        ((after.sheaf id).state = shOpen →
          let gone := after.abortSheaf id saProgram 0
          let told := match gone.findRound (after.sheaf id).coll (after.sheaf id).round with
            | some rk => gone.roundFaultUnmet rk rfProgram
            | none => gone
          exec (.sha n c p.e) s = .next (p.finishLate (told.setCore p.n p.c ((told.core p.n p.c).setS d 0)))) ∧
        ((after.sheaf id).state ≠ shOpen →
          exec (.sha n c p.e) s = .next (p.finishLate (after.setCore p.n p.c ((after.core p.n p.c).setS d
            (if (after.sheaf id).state = shAborted then 1 else 2)))))) ∧
      (s.sheafVisible p.d.coll id = false → exec (.sha n c p.e) s = .next (p.exc s exSheaf p.at)))) ∧
  (∀ (s : State) (n : Fin 16) (c : Fin 96) (d : Desc) (e : MillErr) (mine : Nat) (run : Prep → State → State),
    let x := s.core n.val c.val
    let w := s.fetch n.val x.pc
    let major := w.toNat / 2 ^ 56
    let early := max x.tm.issue (x.tm.retired - 1)
    let late := watchdogCycles < early ∨ (early = watchdogCycles ∧ major ≠ 0x05)
    s.coreCmd n.val = true → x.st = coRun → x.ftxGrn = false → x.desc = some d → mine = (if reservedMajor w then 0x01 else major) →
    (late → s.millRow n c e mine run = s.exception n.val c.val exHang major watchdogCycles false) ∧
    (¬ late → e = .storeEcc → s.millRow n c e mine run = s.exception n.val c.val exPstore 0 early false) ∧
    (¬ late → e ≠ .storeEcc → s.pstoreWord n.val x w = true → s.millRow n c e mine run = s.exception n.val c.val exPstore major early false) ∧
    (¬ late → e ≠ .storeEcc → s.pstoreWord n.val x w = false → decodeMill w = none →
      s.millRow n c e mine run = s.exception n.val c.val exIllegal major early false) ∧
    (∀ i, ¬ late → e ≠ .storeEcc → s.pstoreWord n.val x w = false → decodeMill w = some i →
      let t := s.takeInject n.val c.val i e
      let p := t.2.prep n.val c.val d i t.1
      let ecc := t.1 = .regEcc ∧ ((i.reads p.env) ++ (i.writes p.env)).isEmpty = false
      let hang := watchdogCycles ≤ p.at ∧ (major ≠ 0x05 ∨ ecc)
      (p.illegal = true → s.millRow n c e mine run = p.exc t.2 exIllegal p.early) ∧
      (p.illegal = false → hang → s.millRow n c e mine run = p.exc t.2 exHang watchdogCycles) ∧
      (p.illegal = false → ¬ hang → ecc → s.millRow n c e mine run = p.exc t.2 exRegecc p.at) ∧
      (p.illegal = false → ¬ hang → ¬ ecc → p.format = true → s.millRow n c e mine run = p.exc t.2 exFormat p.at))) ∧
  (∀ (s : State) (n : Fin 16) (c : Fin 96) (e : MillErr), ∀ r ∈ [((.br n c e : Instr), 0x01), ((.loop n c e : Instr), 0x02),
      ((.wait n c e : Instr), 0x03), ((.sig n c e : Instr), 0x04), ((.halt n c e : Instr), 0x05), ((.frx n c e : Instr), 0x10),
      ((.ftx n c e : Instr), 0x11), ((.vadd n c e : Instr), 0x20), ((.vfma n c e : Instr), 0x21), ((.vmax n c e : Instr), 0x22),
      ((.vmin n c e : Instr), 0x23), ((.vscl n c e : Instr), 0x24), ((.vcast n c e : Instr), 0x25), ((.vsrnd n c e : Instr), 0x26),
      ((.vmxd n c e : Instr), 0x30), ((.vmxe n c e : Instr), 0x31), ((.vtkm n c e : Instr), 0x38), ((.tally n c e : Instr), 0x40),
      ((.ldb n c e : Instr), 0x48), ((.stb n c e : Instr), 0x49), ((.shb n c e : Instr), 0x50), ((.shc n c e : Instr), 0x51),
      ((.sha n c e : Instr), 0x52)],
    let x := s.core n.val c.val
    let w := s.fetch n.val x.pc
    let runs := s.coreCmd n.val = true ∧ x.st = coRun ∧ x.ftxGrn = false ∧ x.desc.isSome = true
    ¬ runs ∨ (if reservedMajor w then 0x01 else w.toNat / 2 ^ 56) ≠ r.2 → exec r.1 s = .next s) ∧
  (∀ (s : State) (n c code major cyc : Nat) (disable : Bool),
    let x := s.core n c
    let key := 96 * n + c
    let marked := s.cut (cutCore n c)
    let counted := if x.desc.isSome then (marked.runCycles n c (cyc + 1 - x.tm.waited)).sendCounts n c else marked
    let exc := pack [(Fld.MIL_EXC_CODE, code), (Fld.MIL_EXC_PC, x.pc), (Fld.MIL_EXC_COLL, (x.desc.map (fun d => d.coll.toNat)).getD 0),
      (Fld.MIL_EXC_ROUND, (x.desc.map (fun d => d.round.toNat)).getD 0)]
    let excx := pack [(Fld.MIL_EXCX_MAJOR, major), (Fld.MIL_EXCX_CBIT, (x.desc.map (fun d => d.cbit)).getD 0),
      (Fld.MIL_EXCX_CHUNK, (x.desc.map (fun d => d.chunk.toNat)).getD 0)]
    let written := ((counted.setReg (Reg.MIL_EXC n c) exc).setReg (Reg.MIL_EXCX n c) excx).bump (Reg.DSP_EXCCNT n code) 1
    let errs := if code = exResidue then (written.bump (Reg.MIL_RESERR n c) 1).score (1024 + key) 65536 else written
    let l := errs.window (errs.millFaults n c) (secTicks 86400)
    let scored := if code = exAborted then errs
      else (errs.onWatch (fun w => { w with millFaults := SMap.put [] w.millFaults key l })).score (1024 + key) 65536
    let cls := if code = exHang then 8 else 11
    let off := disable || decide (max 1 (scored.fld (Reg.DSP_CTL n) Fld.DSP_CTL_FAULTMAX)
      ≤ ((scored.millFaults n c).filter (fun t => !scored.since t (secTicks 86400))).length)
    let told := (scored.raise (Reg.DSP_EVT n) 3 cls (srcDispatch n)).dspMail n c false
    let kept := told.faultRecord
      { cls := cls, unitType := utCore, unit := key, cause := code, action := (if off then 5 else 1),
        detail := told.reg (Reg.MIL_EXC n c), slot := (x.desc.map (fun d => told.slotByte (cxJob (told.cx d.coll.toNat)))).getD 0xFF }
    let gone := kept.dropCurrent n c { discarded := true, cause := rdFaulted, cset := 2 }
    let rounds := (gone.coreRounds n c).foldl (fun (s : State) k =>
      s.roundFaultUnmet k (if code = exAborted then rfAborted else rfProgram)) gone
    let bare := (rounds.core n c).dq.foldl (fun (s : State) d => s.rdDrop n d.h rdFaulted) rounds
    let freed := bare.onGrn (fun g => { g with engines := g.engines.map (fun p =>
      (p.1, { p.2 with ftxWait := p.2.ftxWait.filter (fun w => w.1 != key) })) })
    let reset := freed.setCore n c { (freed.core n c).stopped coReset with fresh := true }
    s.exception n c code major cyc disable = if off then reset.coreDisabled n c else reset.unitReset n)

/-- The Granary engines' command lists: BIND, UNBIND, SETHP, LOAD, RESILVER, and DRAIN, FORCE, RESUME (R289, R290, R304, R305, R306, R307, R344, R463, R464). -/
def Obligations.GranaryEntries : Prop :=
  (∀ (s : State) (j : Fin 16) (q : Nat) (e : Entry), s.awake = true → (s.engine j.val).st = 1 → (s.engine j.val).resilver = none →
    s.nextEntry (engGrn j.val) = some (q, e) →
    let taken := s.popQueue (engGrn j.val) q
    (entryOp e = 1 → let st := taken.bindGrnStatus j.val e
      exec (.grnBind j) s = .next ((if st = gsOk then (taken.setBinding j.val (geBix e) (geBinding e)).setPending j.val (geBix e) else taken).grnDone j e st)) ∧
    (¬ (1 ≤ entryOp e ∧ entryOp e ≤ 5) → exec (.grnBind j) s = .next (taken.grnDone j e gsBadentry)) ∧
    (entryOp e = 2 → let st := taken.unbindGrnStatus j.val e
      exec (.grnUnbind j) s = .next ((if st = gsOk then taken.unbindGrn j.val (geBix e) else taken).grnDone j e st)) ∧
    (entryOp e = 3 → let st := taken.sethpStatus j.val e
      let b := taken.binding j.val (geBix e)
      let given := taken.setBinding j.val (geBix e) { b with
        hp := geHyper e
        hpWas := some (taken.tick + 1, b.hpAt taken.tick) }
      exec (.sethp j) s = .next ((if st = gsOk then given else taken).grnDone j e st)) ∧
    (entryOp e = 4 → let data := taken.bulkData (entryNat e 24 8)
      let st := taken.loadGrnStatus j.val e data
      let l := data.getD []
      exec (.load j) s = .next ((if st = gsOk then taken.loadRange j.val (entryNat e 8 8) l (BitVec.ofNat 32 (entryNat e 20 4))
        else taken).grnDone j e st)) ∧
    (entryOp e = 5 → let st := taken.resilverStatus j.val e
      (st = gsOk ∧ (taken.binding j.val (geBix e)).peerState ≠ 0 → exec (.resilver j) s = .next (taken.resilverGo j e 0)) ∧
      (¬ (st = gsOk ∧ (taken.binding j.val (geBix e)).peerState ≠ 0) → exec (.resilver j) s = .next (taken.grnDone j e st)))) ∧
  (∀ (s : State) (j : Nat) (b : Nat),
    let x := s.engine j
    s.unbindGrn j b = (s.setEngine j { x with wasBound := some (s.tick + 1, s.binding j b) }).setBinding j b {} ∧
    s.setPending j b = s.setBinding j b { s.binding j b with pend := s.holdsNext j b }) ∧
  (∀ (s : State) (j a : Nat) (l : List Byte) (v : BitVec 32),
    let o := addrOff a
    let put := (s.gWrite a l v).grnEvent evWrite l.length 0 a
    s.loadRange j a l v = ((put.channelBindings j).filter (fun x => rangesShare o (o + l.length) x.2.planes.p0 x.2.planes.stop)).foldl
      (fun (s : State) x => (s.dirtyCopies j x.1 (x.2.touches o l.length)).setPending j x.1) put) ∧
  (∀ (s : State) (j : Fin 16), (s.awake = false ∨ (s.engine j.val).st ≠ 1 ∨ (s.engine j.val).resilver.isSome = true ∨
      s.nextEntry (engGrn j.val) = none) →
    exec (.grnBind j) s = .next s ∧ exec (.grnUnbind j) s = .next s ∧ exec (.sethp j) s = .next s ∧ exec (.load j) s = .next s) ∧
  (∀ (s : State) (j : Fin 16) (e : Entry) (i : Nat), (s.engine j.val).resilver = some (e, i) → s.engineRuns j.val = true →
    exec (.resilver j) s = .next (s.resilverGo j e i)) ∧
  (∀ (s : State) (j : Nat) (e : Entry), ¬ (1 ≤ entryOp e ∧ entryOp e ≤ 5) → s.grnBad j e = true) ∧
  (∀ (s : State) (j : Fin 16) (e : Entry) (st : Nat),
    let told := (s.bump (Reg.GRN_CNT j.val st) 1).ringWrite (.grn j)
      (pack [(Fld.GRN_CRING_TAG, entryNat e 6 2), (Fld.GRN_CRING_OP, entryOp e), (Fld.GRN_CRING_STATUS, st),
        (Fld.GRN_CRING_BIX, if entryOp e = 4 then 0 else geBix e)]) (st != gsOk)
    s.grnDone j e st = told.setEngine j.val { told.engine j.val with
      progressAt := told.tick
      idleAt := told.tick }) ∧
  (∀ (s : State) (j : Fin 16), s.awake = true →
    exec (.grnDrain j) s = .next (s.setHold (engGrn j.val) (max 1 (s.hold (engGrn j.val)))) ∧
    exec (.grnForce j) s = .next (((((((s.waitingEntries (engGrn j.val)).foldl (fun (s : State) e => s.grnDone j e gsAborted)
      (s.clearQueues (engGrn j.val))).endResilver j).stopPass j.val).setHold (engGrn j.val) 2).forcedDisable (engGrn j.val) 0).dropChunks j.val rfAborted) ∧
    exec (.grnResume j) s = .next (s.setHold (engGrn j.val) 0))

/-- The Granary engines: chunks entering, the passes of a step, stalls, hangs, resets, gating and patrol (R287, R288, R293, R295, R296, R297, R298, R299, R300, R307, R389, R460). -/
def Obligations.GranarySteps : Prop :=
  (∀ (s : State) (j : Fin 16), s.awake = true →
    exec (.chunkEnterEngine j) s = .next (s.enterFirst j.val (s.engine j.val).ftxWait)) ∧
  (∀ (s : State) (j : Nat) (key : Nat) (g : GChunk) (rest : List (Nat × GChunk)),
    (∀ t, s.enterChunk j key g = some t → s.enterFirst j ((key, g) :: rest) = t) ∧
    (s.enterChunk j key g = none → s.enterFirst j ((key, g) :: rest) = s.enterFirst j rest)) ∧
  (∀ (s : State) (j : Fin 16) (b : Fin 64) (t : Nat), s.awake = true → (s.binding j.val b.val).fullAt = some t →
    2 ≤ (s.engine j.val).places b.val → s.since t (usTicks 500) = true → s.placeFrees j.val b.val = false →
    let e := s.engine j.val
    let emptied := s.setEngine j.val { e with
      chunks := e.chunks.filter (fun g => g.bix != b.val)
      idleAt := s.tick }
    exec (.allotmentStall j b) s = .next ((e.chunks.filter (fun g => g.bix == b.val)).foldl (fun (s : State) g => s.chunkFault g rfEngine)
      ((emptied.freePlace j.val b.val).raise (Reg.GRN_EVT j.val) 5 11 (srcGranary j.val)))) ∧
  (∀ (s : State) (j : Fin 16) (g : GChunk) (l : List GChunk), s.engineRuns j.val = true → (s.engine j.val).chunks = g :: l →
    let b := s.binding j.val g.bix
    (g.phase = 0 → s.chunkLive g = false → exec (.pass1Done j) s = .next (s.chunkLeaves j.val)) ∧
    (s.chunkLive g = true → b.damaged = true →
      (g.phase = 0 → exec (.pass1Done j) s = .next ((s.chunkLeaves j.val).noBinding j.val g)) ∧
      (g.phase = 1 → exec (.pass2Done j) s = .next ((s.chunkLeaves j.val).noBinding j.val g))) ∧
    (g.phase ≠ 0 → exec (.pass1Done j) s = .next s) ∧
    (g.phase = 0 → exec (.pass2Done j) s = .next s) ∧
    (g.phase = 0 → s.chunkLive g = true → b.damaged = false →
      let counted := s.bump (Reg.GRN_NAN j.val) (badGrads g.grads)
      (badGrads g.grads ≠ 0 → (counted.binding j.val g.bix).nanabort = true →
        exec (.pass1Done j) s = .next ((((counted.chunkLeaves j.val).abortSheaf (epochSheaf g.rrec) saEngine 0).raise
          (Reg.GRN_EVT j.val) 8 11 (srcGranary j.val)).chunkFault g rfEngine)) ∧
      (badGrads g.grads = 0 ∨ (counted.binding j.val g.bix).nanabort = false →
        exec (.pass1Done j) s = .next (counted.passFirst j.val g))) ∧
    (g.phase = 1 → ¬ (s.chunkLive g = true ∧ b.damaged = true) → s.planeBusy j.val g.bix b = false → exec (.pass2Done j) s = .next (s.passSecond j.val g)) ∧
    (g.phase = 1 → ¬ (s.chunkLive g = true ∧ b.damaged = true) → s.planeBusy j.val g.bix b = true → exec (.pass2Done j) s = .next s) ∧
    (g.phase = 2 → exec (.pass2Done j) s = .next (s.stepCopy j.val g))) ∧
  (∀ (s : State) (j : Fin 16),
    exec (.grnReset j) s = .next (if s.awake = true ∧ (s.engine j.val).st ≠ 4 ∧ s.isCut (cutChannel j.val) = false ∧ s.hangNow j.val = false
      then (s.stopPass j.val).engineReset j else s)) ∧
  (∀ (s : State) (j : Fin 16),
    let gone := ((s.endResilver j).dropChunks j.val rfEngine).cut (cutChannel j.val)
    let l := gone.window (gone.engine j.val).resets (secTicks 3600)
    (l.length < 3 → s.engineReset j = gone.setEngine j.val { gone.engine j.val with
      st := 3
      resets := l }) ∧
    (3 ≤ l.length →
      let off := gone.setEngine j.val { gone.engine j.val with
        st := 4
        resets := l }
      s.engineReset j = off.faultRecord
        { unitType := utGranary, unit := j.val, register := 1, cause := 7, action := 5, detail := off.reg (Reg.GRN_EVT j.val) })) ∧
  (∀ (s : State) (j : Fin 16),
    let told := s.raise (Reg.GRN_EVT j.val) 7 8 (srcGranary j.val)
    exec (.granaryHang j) s = .next (if s.granaryHung j.val = true then (told.faultRecord
      { cls := 8, unitType := utGranary, unit := j.val, register := 1, cause := 7, action := 1, detail := told.reg (Reg.GRN_EVT j.val) }).engineReset j
      else s)) ∧
  (∀ (s : State) (j : Fin 16), s.awake = true →
    let x := s.engine j.val
    (x.st = 1 → s.engineWork j.val = false → s.since x.idleAt (usTicks ((s.reg (Reg.GRN_ECTL j.val)).toNat % 65536)) = true →
      exec (.grnEngineGate j) s = .next (s.setEngine j.val { x with st := 0 })) ∧
    (x.st = 0 → x.selfRefresh = false → s.engineWork j.val = true →
      exec (.grnEngineWake j) s = .next (s.setEngine j.val { x with
        st := 1
        idleAt := s.tick
        progressAt := s.tick }))) ∧
  (∀ (s : State) (j : Fin 16) (l : List GrnFinding),
    let on := s.reg (Reg.GRN_ECTL j.val) &&& 0x10000 ≠ 0
    let seen := l.filter (fun f => f.wf && (GrnFinding.silent f || on))
    (s.pathCut = true → exec (.grnPatrol j l) s =
      .next ((seen.filter GrnFinding.grave).foldl (fun (s : State) _ => s.logEvent 5 (srcGranary j.val) true) s)) ∧
    (s.pathCut = false → s.awake = true → exec (.grnPatrol j l) s = .next (seen.foldl (fun (s : State) f => s.grnFinding j.val f) s)) ∧
    (s.pathCut = false → s.awake = false → exec (.grnPatrol j l) s = .next s)) ∧
  (∀ (s : State) (j : Nat) (b : Nat) (ecc : Bool),
    let key := blockOf (chanAddr j (256 * b))
    s.grnFinding j (.corrected b) = (s.bump (Reg.GRN_ECCC j) 1).score (544 + j) 16 ∧
    s.grnFinding j (.eccUe b) = (s.onGrn (fun g => { g with bad := SMap.put 0 g.bad key 2 })).tagFail key 3 ∧
    s.grnFinding j (.tagBad b) = (s.onGrn (fun g => { g with bad := SMap.put 0 g.bad key 1 })).tagFail key 3 ∧
    s.grnFinding j (.unseen b ecc) = s.onGrn (fun g => { g with bad := SMap.put 0 g.bad key (if ecc then 2 else 1) }) ∧
    s.grnFinding j .trainFail = s.channelFail j)

/-- Requests at their home: reads and their groups, writes and their trackers, atomics and the journal (R49, R309, R311, R312, R314, R315, R316, R317, R318, R319, R320, R321). -/
def Obligations.MemoryAccess : Prop :=
  (∀ (s : State) (r : StageRef),
    exec (.rdReqTaken r) s = .next ((if s.awake = true ∧ (s.stagedAt r).any (fun h => frameEpoch h.f) = true then s.epochsNow else s).takeRead r) ∧
    (s.stagedAt r = none → s.takeRead r = s ∧ exec (.atReqTaken r) s = .next s ∧ exec (.wrReqFrame r) s = .next s)) ∧
  (∀ (s : State) (r : StageRef) (h : Held) (e : BitVec 8), s.awake = true → s.stagedAt r = some h → s.ownFrame h.f = true → s.mode ≠ stDraining →
    s.requestError h.f = some e →
    let refused := (s.consume r h).errorReply (reqChan h.f) (requesterOf h.f) e
    (h.f.kind = kRdReq → s.takeRead r = refused) ∧ (h.f.kind = kAtReq → exec (.atReqTaken r) s = .next refused)) ∧
  (∀ (s : State) (r : StageRef), s.mode = stDraining → s.takeRead r = s ∧ exec (.atReqTaken r) s = .next s) ∧
  (∀ (s : State) (r : StageRef) (h : Held), s.awake = true → s.stagedAt r = some h → s.ownFrame h.f = true → h.f.kind = kWrReq →
    let j := reqChan h.f
    let open' := s.tracker j h.f.src h.f.tag
    (s.mode = stDraining → open' = none → exec (.wrReqFrame r) s = .next s) ∧
    (¬ (s.mode = stDraining ∧ open' = none) →
      (∀ e, s.writeError h.f = some e → exec (.wrReqFrame r) s = .next ((s.consume r h).failWrite h.f e)) ∧
      (s.writeError h.f = none → exec (.wrReqFrame r) s = .next
        (if s.serving j = true ∧ (s.engine j).st ≠ 0 then (s.consume r h).writeFrame h.f else s)))) ∧
  (∀ (s : State) (f : Frame), s.writeError f = if (s.tracker (reqChan f) f.src f.tag).any
      (fun t => !t.ended && (t.addr != f.addr || t.len != f.len.toNat)) then some errBadRequest else s.requestError f) ∧
  (∀ (s : State) (f : Frame),
    let j := reqChan f
    let fresh := s.freshTracker f
    (s.tracker j f.src f.tag = none →
      (∀ b, s.pieceBad f = some b →
        let failed := s.tagFail b 0
        s.writeFrame f = failed.endWrite { failed.freshTracker f with pieces := [pieceOf f] } errIntegrity) ∧
      (s.pieceBad f = none → 16384 ≤ s.openTrackers j → s.writeFrame f = (s.maCount 7 1).raise Reg.GRN_MA_EVT 1 11 srcAccess) ∧
      (s.pieceBad f = none → s.openTrackers j < 16384 → s.writeFrame f = (s.maRequest f).writePiece f fresh)) ∧
    (∀ t, s.tracker j f.src f.tag = some t → t.ended = false →
      (frameFence f = true ∧ t.count.any (fun c => c != f.count.toNat) = true → s.writeFrame f = s.endWrite t errBadRequest) ∧
      (¬ (frameFence f = true ∧ t.count.any (fun c => c != f.count.toNat) = true) →
        (t.pieces.contains (pieceOf f) = true → s.writeFrame f = s.maCount 10 1) ∧
        (t.pieces.contains (pieceOf f) = false → s.writeFrame f = s.writePiece f t))) ∧
    (∀ t, s.tracker j f.src f.tag = some t → t.ended = true → t.pieces.contains (pieceOf f) = false →
      s.writeFrame f = s.setTracker { t with pieces := t.pieces ++ [pieceOf f] })) ∧
  (∀ (s : State) (f : Frame) (t : Tracker),
    let a := reqAddr f.addr + f.opnd.toNat % 2 ^ 32
    let n := f.payload.length
    let u : Tracker := { t with pieces := t.pieces ++ [pieceOf f], got := t.got + 1, count := if frameFence f then some f.count.toNat else t.count }
    (u.count.any (fun c => decide (c < u.got)) = true → s.writePiece f t = s.endWrite u errBadRequest) ∧
    (u.count.any (fun c => decide (c < u.got)) = false →
      (∀ b, s.pieceBad f = some b → s.writePiece f t = (s.tagFail b 0).endWrite u errIntegrity) ∧
      (s.pieceBad f = none →
        let shut := (s.closeAtoms (atomOverlaps a n)).closeReads (readOverlaps u.j a n)
        let put := (shut.gWrite a f.payload 0).grnEvent evWrite n f.job.toNat a
        let v := { u with blocks := (u.blocks ++ touched a n).dedup }
        s.writePiece f t = (put.setTracker v).copyWrite v))) ∧
  (∀ (s : State) (r : StageRef) (h : Held), s.awake = true → s.stagedAt r = some h → s.ownFrame h.f = true →
    s.requestError h.f = none → s.serving (reqChan h.f) = true → (s.engine (reqChan h.f)).st ≠ 0 → s.mode ≠ stDraining →
    (h.f.kind = kRdReq →
      (∀ g, s.joinable h.f = some g →
        let joined := (((s.consume r h).mapRead g.gid (fun g => { g with members := g.members ++ [requesterOf h.f] })).maCount 1 1).maRequest h.f
        (g.data = none → s.takeRead r = joined) ∧
        (∀ l, g.data = some l → s.takeRead r = joined.sendRead g l (requesterOf h.f))) ∧
      (s.joinable h.f = none → h.f.len.toNat ≤ s.replyRoom (reqChan h.f) →
        s.takeRead r = ((s.consume r h).maRequest h.f).openRead h.f) ∧
      (s.joinable h.f = none → s.replyRoom (reqChan h.f) < h.f.len.toNat → s.takeRead r = s)) ∧
    (h.f.kind = kAtReq →
      let taken := (s.consume r h).maRequest h.f
      (∀ e, (taken.journal (reqChan h.f)).find? (journalMatch (requesterOf h.f)) = some e →
        exec (.atReqTaken r) s = .next (taken.oldAtomic h.f e)) ∧
      ((taken.journal (reqChan h.f)).find? (journalMatch (requesterOf h.f)) = none →
        exec (.atReqTaken r) s = .next (taken.newAtomic h.f)))) ∧
  (∀ (s : State) (j : Fin 16) (g : ReadGroup), s.awake = true → s.readGroup g.gid = some g → g.j = j.val →
    (g.data = none → s.serving j.val = true →
      let checked := s.verify j.val (addrOff g.phys) g.len 0
      (checked.1 = true →
        let l := checked.2.gChan j.val (addrOff g.phys) g.len
        let read := (checked.2.grnEvent evRead g.len g.job.toNat g.phys).mapRead g.gid (fun g => { g with data := some l })
        exec (.readDataReady j g.gid) s = .next ((g.members.foldl (fun (s : State) m => s.sendRead g l m) read).settleRead g.gid)) ∧
      (checked.1 = false → exec (.readDataReady j g.gid) s = .next (g.members.foldl (fun (s : State) m => s.errorReply j.val m errIntegrity)
        (checked.2.setReads (fun l => l.filter (fun x => x.gid != g.gid)))))) ∧
    (g.opened = true → s.since g.closeAt 0 = true →
      exec (.readWindowExpiry j g.gid) s = .next ((s.mapRead g.gid (fun g => { g with opened := false })).settleRead g.gid))) ∧
  (∀ (s : State) (j : Fin 16) (g : AtomGroup), s.awake = true → s.atomGroup g.gid = some g → g.j = j.val → g.applied = false →
    s.since g.closeAt 0 = true → s.serving j.val = true →
    exec (.atomicWindowExpiry j g.gid) s = .next (s.applyAtoms g.gid)) ∧
  (∀ (s : State) (g : AtomGroup), s.atomGroup g.gid = some g → g.applied = false → s.blockOk (blockOf (reqAddr g.addr)) = true →
    let a := reqAddr g.addr
    let n := atLen g.subk
    let shut := s.closeReads (readOverlaps g.j a n)
    let run := atomRun g.members (beNat (shut.gBytes a n))
    let stored := ((shut.gWrite a (beBytes n run.2) 0).grnEvent evRead 256 g.job.toNat a).grnEvent evWrite 256 g.job.toNat a
    let es := (g.members.zip run.1).map (fun p =>
      ({ src := p.1.src, tag := p.1.tag, addr := p.1.addr, subk := p.1.subk, value := p.2, committed := false, job := p.1.job } : JEntry))
    let logged := ((stored.setJournal g.j (es.reverse ++ stored.journal g.j)).maCount 3 g.members.length).maCount 4 1
    s.applyAtoms g.gid = (logged.mapAtom g.gid (fun g => { g with
      applied := true
      values := run.1 })).copyAtoms g.gid) ∧
  (∀ (m : Requester) (w : Nat),
    (m.subk = 1 → atomOp m w = (w + m.opnd.toNat) % 2 ^ 32) ∧
    (m.subk = 2 → atomOp m w = (w + m.opnd.toNat) % 2 ^ 64) ∧
    (m.subk = 4 → atomOp m w = if w = m.opnd.toNat then m.swap.toNat else w) ∧
    (m.subk = 5 → atomOp m w = if toSigned 64 w < toSigned 64 m.opnd.toNat then m.opnd.toNat else w)) ∧
  (∀ (s : State) (j : Fin 16) (src : BitVec 20) (tag : BitVec 32) (t : Tracker), s.awake = true →
    s.tracker j.val src tag = some t → s.since t.openAt (msTicks s.wrWait) = true →
    (t.ended = true → exec (.wrwaitExpiry j src tag) s = .next (s.dropTracker t)) ∧
    (t.ended = false → exec (.wrwaitExpiry j src tag) s = .next ((((s.onMa (fun a => { a with
      copies := a.copies.filter (fun p => some p.1 != t.copy) })).dropTracker t).maCount 6 1).raise Reg.GRN_MA_EVT 2 11 srcAccess))) ∧
  (∀ (s : State) (r : StageRef) (h : Held), s.awake = true → s.stagedAt r = some h → isRequest h.f = true → s.ownFrame h.f = true →
    s.requestError h.f = none → s.serving (reqChan h.f) = false → s.since h.m.since (usTicks s.deadWait) = true →
    s.alsoNow (fun i => match i with
      | .channelServesAgain k => k.val == reqChan h.f && (s.engine (reqChan h.f)).st == 3
      | _ => false) = false →
    exec (.deadwaitExpiry r) s = .next ((s.consume r h).answerDead h.f)) ∧
  (∀ (s : State) (f : Frame),
    let dead := fun (s : State) => (((s.homeDeadReplies f).foldl (fun (s : State) x =>
      s.originate (qGranary (reqChan f)) x [.route] .none) s).maCount 9 1).raise Reg.GRN_MA_EVT 0 11 srcAccess
    (f.kind ≠ kWrReq → s.answerDead f = dead s) ∧
    (f.kind = kWrReq → s.tracker (reqChan f) f.src f.tag = none →
      s.answerDead f = dead (s.setTracker { s.freshTracker f with pieces := [pieceOf f], ended := true })) ∧
    (∀ t, f.kind = kWrReq → s.tracker (reqChan f) f.src f.tag = some t → t.ended = false →
      s.answerDead f = dead (s.setTracker { t with ended := true }))) ∧
  (∀ (s : State) (j : Fin 16), ¬ (s.awake = true ∧ (s.engine j.val).st = 3) → exec (.channelServesAgain j) s = .next s) ∧
  (∀ (s : State) (j : Fin 16), s.awake = true → (s.engine j.val).st = 3 →
    exec (.channelServesAgain j) s = .next (s.setEngine j.val { s.engine j.val with
      st := 1
      idleAt := s.tick
      progressAt := s.tick }))

/-- Sheaves: BEGIN, STAGE of a member, COMMIT, ABORT, LIFE; a commit takes every member or none (R326, R327, R328, R329, R330, R340, R343, R345). -/
def Obligations.SheafCommands : Prop :=
  (∀ (s : State) (src : Source) (cmd : Word),
    (s.mayWrite src = false → exec (.shBegin src cmd) s = .next s ∧ exec (.shStage src cmd) s = .next s ∧
      exec (.shCommit src cmd) s = .next s ∧ exec (.shAbort src cmd) s = .next s) ∧
    (s.mayWrite src = true → s.opBusy (banked src Reg.TBL_SH_CMD) = true →
      let told := s.setBits Reg.TBL_EVT 8
      exec (.shBegin src cmd) s = .next told ∧ exec (.shStage src cmd) s = .next told ∧
      exec (.shCommit src cmd) s = .next told ∧ exec (.shAbort src cmd) s = .next told)) ∧
  (∀ (s : State) (src : Source) (cmd : Word), s.mayWrite src = true → s.opBusy (banked src Reg.TBL_SH_CMD) = false →
    let w := cmd &&& 0x0300FFFFFFFFFFFF
    let id := Fld.TBL_SH_CMD_SHEAF.get w
    let b := s.startOp (banked src Reg.TBL_SH_CMD)
    let shown := fun (op st : Nat) (t : State) => t.setReg (banked src Reg.TBL_SH_CMD) (Fld.TBL_SH_CMD_OP.put op (Fld.TBL_SH_CMD_STATUS.put st w))
    (b.beginStatus id = ssOk → exec (.shBegin src cmd) s = .next (shown 0 ssOk (b.setSheaf id
      { state := shOpen, origin := originOf src, life := BitVec.ofNat 16 (Fld.TBL_SH_CMD_LIFE.get cmd), openedAt := b.tick }))) ∧
    (b.beginStatus id ≠ ssOk → exec (.shBegin src cmd) s = .next (shown 0 (b.beginStatus id) b)) ∧
    (softId id = false →
      exec (.shStage src cmd) s = .next (shown 3 ssRange b) ∧ exec (.shCommit src cmd) s = .next (shown 1 ssRange b)) ∧
    (softId id = true → (b.sheaf id).state ≠ shOpen →
      exec (.shStage src cmd) s = .next (shown 3 ssState b) ∧ exec (.shCommit src cmd) s = .next (shown 1 ssState b)) ∧
    (softId id = true → (b.sheaf id).state = shOpen →
      (16 ≤ (b.sheaf id).members.length → exec (.shStage src cmd) s = .next (shown 3 ssRange b)) ∧
      ((b.sheaf id).members.length < 16 → cmdMember cmd = none → exec (.shStage src cmd) s = .next (shown 3 ssField b)) ∧
      (∀ m, (b.sheaf id).members.length < 16 → cmdMember cmd = some m →
        let grown := { b.sheaf id with members := (b.sheaf id).members ++ [m] }
        exec (.shStage src cmd) s = .next (shown 3 ssOk (b.setSheaf id grown))) ∧
      (b.outranked src id = true → exec (.shCommit src cmd) s = .next (shown 1 ssState b)) ∧
      (b.outranked src id = false → exec (.shCommit src cmd) s = .next (shown 1 (b.commitSheaf id).1 (b.commitSheaf id).2))) ∧
    (id = 0 → exec (.shAbort src cmd) s = .next (shown 2 ssRange b)) ∧
    (id ≠ 0 → (b.sheaf id).state ≠ shOpen ∨ b.outranked src id = true → exec (.shAbort src cmd) s = .next (shown 2 ssState b)) ∧
    (id ≠ 0 → (b.sheaf id).state = shOpen → b.outranked src id = false →
      (id < 0xF000 → exec (.shAbort src cmd) s = .next (shown 2 ssOk (b.abortSheaf id saCommand 0))) ∧
      (0xF000 ≤ id → exec (.shAbort src cmd) s = .next (shown 2 ssOk ((b.abortSheaf id saCommand 0).roundFaultUnmet (id - 0xF000) rfAborted))))) ∧
  (∀ (s : State) (id : BitVec 16), s.awake = true → (s.sheaf id.toNat).state = shOpen → (s.sheaf id.toNat).life ≠ 0 →
    s.since (s.sheaf id.toNat).openedAt (msTicks (s.sheaf id.toNat).life.toNat) = true →
    s.alsoNow (fun i => s.commitWaits i == some id.toNat) = false →
    exec (.sheafLifeExpiry id) s = .next (s.abortSheaf id.toNat saExpired 0)) ∧
  (∀ (s : State) (id : Nat),
    let x := s.sheaf id
    let after := x.staged.foldl (fun (s : State) y => s.setEntry y.t y.idx { gen := 0, data := y.data }) s
    let bad := s.stagedVerdict after x.staged
    (bad ≠ tsOk → s.commitSheaf id = (ssAborted, s.abortSheaf id saEntry bad)) ∧
    (bad = tsOk → s.membersVerdict x.members ≠ 0 →
      s.commitSheaf id = (ssAborted, s.abortSheaf id (s.membersVerdict x.members) bad)) ∧
    (bad = tsOk → s.membersVerdict x.members = 0 →
      let shut := (x.staged.filter (fun y => y.t == 3 && (s.entry 3 y.idx).data != y.data)).foldl (fun (s : State) y => s.closeRegion y.idx) s
      let closed := { x with
        state := shCommitted
        cause := 0
        estat := 0 }
      let told := ((shut.setSheaf id closed).bump (Reg.TBL_SH_CNT 0) 1).raise Reg.TBL_SH_EVT 0 11 srcTable
      let applied := x.members.foldl (fun (s : State) m => s.applyMember m) (told.applyEntries (x.staged.map (fun y => (y.t, y.idx, y.data))))
      let acts := x.members.filterMap Member.promoted
      s.commitSheaf id = (ssOk, if acts.isEmpty then applied else applied.reissueCommits (fun b => b.acting.any (fun h => acts.contains h))))) ∧
  (∀ (s : State) (id cause estat : Nat), (s.sheaf id).state = shOpen →
    let t := s.abortSheaf id cause estat
    t.tbl.entries = s.tbl.entries ∧ t.grn = s.grn ∧ t.red = s.red ∧ t.mill = s.mill ∧ t.sw.staging = s.sw.staging)

/-- The epoch switch, state copies acknowledged, sent again and received, NOTICEs and broadcasts (R165, R300, R332, R333, R334, R337, R338, R339, R347, R348). -/
def Obligations.EpochAndCopies : Prop :=
  (∀ (s : State) (n : Fin 16) (j : Byte), s.awake = true → exec (.epochReady n j) s = .next (s.epochGo (256 * n.val + j.toNat))) ∧
  (∀ (s : State) (r : StageRef) (h : Held), s.awake = true → s.stagedAt r = some h → s.ownFrame h.f = true →
    let t := s.consume r h
    (h.f.kind = kStateAck → s.resetNow = false →
      (t.copyFor h.f.src h.f.tag = none → exec (.stateAckReceive r) s = .next t) ∧
      (∀ id c, t.copyFor h.f.src h.f.tag = some (id, c) →
        let ended := t.onMa (fun a => { a with copies := SMap.put none a.copies id none })
        (h.f.subk = 1 → exec (.stateAckReceive r) s = .next (ended.copyOk id c).pumpCopies) ∧
        (h.f.subk = 2 → exec (.stateAckReceive r) s = .next (ended.copyRefused c).pumpCopies) ∧
        (h.f.subk ≠ 1 → h.f.subk ≠ 2 → exec (.stateAckReceive r) s = .next t))) ∧
    (h.f.kind = kState → h.f.subk ≠ 4 →
      let gone := (h.f.subk = 1 ∨ h.f.subk = 2) ∧ t.unboundNow h.f = true
      (gone → exec (.stateReceive r) s = .next t) ∧
      (¬ gone → 1 ≤ h.f.subk.toNat ∧ h.f.subk.toNat ≤ 5 → exec (.stateReceive r) s = .next (t.copyFrame r.port.val h.f)) ∧
      (¬ gone → ¬ (1 ≤ h.f.subk.toNat ∧ h.f.subk.toNat ≤ 5) → exec (.stateReceive r) s = .next t)) ∧
    (h.f.kind = kState → h.f.subk = 4 → s.resetNow = false →
      (frameFence h.f = false ∨ h.f.count ≠ 1 → exec (.noticeReceive r) s = .next t) ∧
      (frameFence h.f = true → h.f.count = 1 →
        let mine := t.replicas h.f.coll h.f.src
        let keys := mine.map (fun p => p.1)
        let step := BitVec.ofNat 32 (natAt h.f.payload 0 4)
        let shut := t.closePlanes (mine.filter (fun p => decide (p.2.step.toNat < step.toNat)))
        let told := shut.onGrn (fun g => { g with bindings := g.bindings.map (fun p =>
          if keys.contains p.1 then (p.1, noticeBinding step (natAt h.f.payload 4 1 == 1) h.f.epochnum p.2) else p) })
        exec (.noticeReceive r) s = .next (told.originate (qGranary (clusterOf r.port.val)) (told.stateAck h.f (!keys.isEmpty)) [.route] .none))) ∧
    (h.f.kind = kMgmt → s.keyLoads = false → r.vc = 0 →
      let other := frameSrcmod h.f = false ∨ h.f.job ≠ 0
      (h.f.subk = 0x21 → other ∨ t.mode = stDraining → exec (.broadcastStage r.port r.idx) s = .next t) ∧
      (h.f.subk = 0x21 → ¬ other → t.mode ≠ stDraining →
        exec (.broadcastStage r.port r.idx) s = .next (t.broadcast 0x21 h.f.sheaf h.f.payload).2) ∧
      (h.f.subk = 0x22 → exec (.broadcastCommit r.port r.idx) s = .next (if other then t else (t.broadcast 0x22 h.f.sheaf h.f.payload).2)) ∧
      (h.f.subk = 0x23 → exec (.broadcastAbort r.port r.idx) s = .next (if other then t else (t.broadcast 0x23 h.f.sheaf h.f.payload).2)))) ∧
  (∀ (s : State) (r : StageRef), (s.stagedAt r = none → exec (.stateReceive r) s = .next s) ∧
    (s.stagedAt r = none ∨ s.resetNow = true → exec (.stateAckReceive r) s = .next s ∧ exec (.noticeReceive r) s = .next s) ∧
    (s.stagedAt r = none ∨ s.keyLoads = true → r.vc = 0 →
      exec (.broadcastStage r.port r.idx) s = .next s ∧ exec (.broadcastCommit r.port r.idx) s = .next s ∧ exec (.broadcastAbort r.port r.idx) s = .next s)) ∧
  (∀ (s : State) (id : Nat) (c : Copy), s.awake = true → SMap.get none s.ma.copies id = some c →
    s.since c.sentAt (msTicks 4) = true → s.noteAtSource (.copy id) = false →
    exec (.copyResend id) s = .next (c.frames.foldl (fun (s : State) f => s.originate c.source f [.route] (.copy id))
      (s.onMa (fun a => { a with copies := SMap.put none a.copies id (some { c with sentAt := s.tick }) })))) ∧
  (∀ (s : State) (subk : Byte) (sheaf : BitVec 16) (l : List Byte), s.bcTag subk sheaf l = (s.sec.bkeySet &&
    Config.aesGmac s.sec.bkey (sheaf ++ subk ++ (0 : BitVec 8) ++ BitVec.ofNat 32 (natAt l 0 4) ++ (0 : BitVec 32)) (l.take (bcCovered l))
      == BitVec.ofNat 128 (natAt l (bcCovered l) 16))) ∧
  (∀ (s : State) (subk : Byte) (sheaf : BitVec 16) (l : List Byte),
    let t := bcTree l
    let mine := (t.mapIdx (fun i e => (i, e))).filter (fun e => decide (e.2.1 < 4096) && s.isOwn (BitVec.ofNat 12 e.2.1))
    let good := (s.bcTag subk sheaf l && decide (s.bcHigh < natAt l 0 4) && bcForm l) = true
    (¬ good ∨ mine.length ≠ 1 →
      s.broadcast subk sheaf l = (false, (s.bump (Reg.TBL_SH_CNT 3) 1).raise Reg.TBL_SH_EVT 3 11 srcTable)) ∧
    (∀ i n size, good → mine = [(i, (n, size))] →
      let high := (s.setReg Reg.SEC_BKSTAT ((s.reg Reg.SEC_BKSTAT &&& 0xFFFFFFFF00000000) ||| BitVec.ofNat 64 (natAt l 0 4))).bump (Reg.TBL_SH_CNT 2) 1
      let id := sheaf.toNat
      let done := if subk = 0x21 then high.bcStage id l
        else if (high.sheaf id).state ≠ shOpen then high
        else if subk = 0x22 then (if softId id then (high.commitSheaf id).2 else high)
        else high.abortCommand id
      s.broadcast subk sheaf l = (true, (bcChildren t (i + size) t.length (i + 1)).foldl (fun (s : State) n =>
        s.originate qBosun
          { kind := kMgmt, vc := 0, flags := flDstmod ||| flSrcmod, plen := BitVec.ofNat 13 l.length, dst := BitVec.ofNat 20 n,
            src := s.modnum.setWidth 20, subk := subk, sheaf := sheaf, payload := l } [.route] .none) done))) ∧
  (∀ (step : BitVec 32) (cur : Bool) (epoch : BitVec 32) (b : Binding),
    (noticeBinding step cur epoch b).unnoticed = true ∧
    (b.step.toNat < step.toNat → (noticeBinding step cur epoch b).step = step ∧ (noticeBinding step cur epoch b).cur = cur ∧
      (noticeBinding step cur epoch b).epoch = epoch ∧ (noticeBinding step cur epoch b).pend = false) ∧
    (b.step = step → (noticeBinding step cur epoch b).epoch = epoch ∧ (noticeBinding step cur epoch b).cur = b.cur) ∧
    (step.toNat < b.step.toNat → noticeBinding step cur epoch b = { b with unnoticed := true }))

/-- Fabric time: Syncs and peer delay sent and received, the servo, HOLDTO and TIM_SET (R351, R352, R353, R355, R359, R360, R361). -/
def Obligations.TimeCommands : Prop :=
  (∀ s : State, s.awake = true → s.flag Reg.TIM_CTL Fld.TIM_CTL_FANEN = true → s.timeLocked = true →
    s.since s.clock.syncAt s.syncTicks = true →
    exec .syncSend s = .next ((List.range 256).foldl (fun (s : State) i =>
      if (s.reg (Reg.TIM_FAN i)).getLsbD 63 then s.sendSync ((s.reg (Reg.TIM_FAN i)).toNat % 4096) else s)
      (s.onClock (fun c => { c with syncAt := s.tick })))) ∧
  (∀ (s : State) (p : Fin 544), s.awake = true → s.portState p = pUp → s.since (s.peerDelay p).askedAt s.pdTicks = true →
    let n := (s.peerDelay p).seq + 1
    let asked := s.setPeerDelay p { s.peerDelay p with
      seq := n
      askedAt := s.tick }
    exec (.pdelayReqSend p) s = .next (asked.originate qBosun
      (asked.timeFrame 1 (ptpMessage ptpReq 54 [(8, beBytes 8 0), (30, beBytes 2 n.toNat)])) [.port p] .none)) ∧
  (∀ (s : State) (r : StageRef) (h : Held), s.awake = true → s.stagedAt r = some h → h.f.kind = kTime → s.ownFrame h.f = true →
    let t := s.consume r h
    let p := h.f.payload
    (h.f.subk = 1 → ptpType p = ptpReq →
      (p.length < 54 → exec (.pdelayReqReceive r) s = .next (t.timeCount 1)) ∧
      (54 ≤ p.length → exec (.pdelayReqReceive r) s = .next ((t.originate qBosun (t.timeFrame 1 (ptpMessage ptpResp 54
        [(8, beBytes 8 h.m.tin), (30, sliceBytes p 30 2), (34, beBytes 10 0), (44, sliceBytes p 20 10)])) [.port r.port.val] .none).timeCount 5))) ∧
    (h.f.subk = 1 → ptpType p ≠ ptpReq →
      let formed := ptpType p = ptpResp ∧ ptpTwoStep p = false ∧ 54 ≤ p.length
      (¬ formed → exec (.pdelayRespReceive r) s = .next (t.timeCount 1)) ∧
      (formed → (t.peerDelay r.port.val).sent = none → exec (.pdelayRespReceive r) s = .next (t.timeCount 4)) ∧
      (∀ q t1, formed → (t.peerDelay r.port.val).sent = some (q, t1) →
        (q.toNat ≠ natAt p 30 2 → exec (.pdelayRespReceive r) s = .next (t.timeCount 4)) ∧
        (q.toNat = natAt p 30 2 → exec (.pdelayRespReceive r) s = .next (t.measure r.port.val
          (32768 * ((h.m.tin : Int) - (t1 : Int)) - (BitVec.ofNat 64 (natAt p 8 8)).toInt))))) ∧
    (h.f.subk ≠ 1 →
      let q := BitVec.ofNat 16 (natAt p 30 2)
      let accepted := h.f.subk = 0 ∧ ptpType p = 0 ∧ ptpTwoStep p = false ∧ 44 ≤ p.length ∧ frameSrcmod h.f = true ∧
        h.f.src.toNat = t.fld Reg.TIM_CTL Fld.TIM_CTL_SRCMOD ∧ natAt p 4 1 = t.fld Reg.TIM_CTL Fld.TIM_CTL_DOMAIN ∧
        seqNewer t.clock.lastSeq q = true ∧ (t.peerDelay r.port.val).seen = 16
      (¬ accepted → exec (.syncReceive r) s = .next (t.timeCount 1)) ∧
      (accepted →
        let kept := t.onClock (fun c => { c with
          lastSeq := some q
          lastSync := t.tick })
        exec (.syncReceive r) s = .next ((kept.timeCount 0).servoRun (kept.theta r.port.val h.m.tin p))))) ∧
  (∀ (s : State) (p : Nat) (x : Int), (s.peerDelay p).seen = 16 →
    50 * 131072 < (x - 8192 * toSigned 32 (s.reg (Reg.TIM_PD p)).toNat).natAbs →
    s.measure p x = (s.timeCount 4).raiseTime 3) ∧
  (∀ s : State,
    let judged := s.judgeSyncs (s.sw.staging.map (fun p => p.2.length)).sum
    (s.awake = true → s.holdtoDue = true → judged.holdtoDue = true → exec .holdtoExpiry s = .next (judged.setServo tsHoldover)) ∧
    (s.awake = true → s.holdtoDue = true → judged.holdtoDue = false → exec .holdtoExpiry s = .next judged) ∧
    (s.awake = false ∨ s.holdtoDue = false → exec .holdtoExpiry s = .next s) ∧
    s.holdtoDue = (s.servo == tsLocked && s.since s.clock.lastSync (msTicks (s.fld Reg.TIM_INT Fld.TIM_INT_HOLDTO)))) ∧
  (∀ (s : State) (n : Nat), s.judgeSyncs 0 = s ∧ (s.waitingSync = none → s.judgeSyncs n = s) ∧
    (∀ r t, s.waitingSync = some r → exec (.syncReceive r) s = .next t → s.judgeSyncs (n + 1) = t.judgeSyncs n)) ∧
  (∀ (s : State) (val : Word), s.awake = true →
    (s.grandmaster = true → exec (.timSet val) s = .next (s.timeStep ((val.toNat : Int) * 2 ^ 35))) ∧
    (s.grandmaster = false → exec (.timSet val) s = .next s)) ∧
  (∀ s : State, s.grandmaster = s.isOwn (BitVec.ofNat 12 (s.fld Reg.TIM_CTL Fld.TIM_CTL_SRCMOD)) ∧
    s.timeLocked = (s.servo == tsLocked || s.grandmaster)) ∧
  (∀ (s : State) (r : StageRef), s.stagedAt r = none → exec (.syncReceive r) s = .next s ∧ exec (.pdelayReqReceive r) s = .next s ∧
    exec (.pdelayRespReceive r) s = .next s)

/-- Telemetry: counters, snapshots, tenant and power windows, tags, bandwidth windows, reports (R366, R369, R370, R371, R372, R373, R374, R375, R376, R377). -/
def Obligations.TelemetryCommands : Prop :=
  (∀ (s : State), s.awake = true →
    (∀ (set : Fin 17) (i : Fin 64) (val : Word),
      exec (.telCntWrite set i false val) s = .next ((s.writeReg (Reg.TEL_CNT set i) val).tenantZero set i) ∧
      (setCounts set (Fld.TEL_CSEL_EVENT.get val) = true →
        exec (.telCntWrite set i true val) s = .next ((s.writeReg (Reg.TEL_CSEL set i) val).tenantZero set i)) ∧
      (setCounts set (Fld.TEL_CSEL_EVENT.get val) = false → exec (.telCntWrite set i true val) s =
        .next ((s.writeReg (Reg.TEL_CSEL set i) (Fld.TEL_CSEL_EVENT.put 0 val)).tenantZero set i))) ∧
    ((s.reg Reg.TEL_CTL).getLsbD 1 = true → exec .telSnap s = .next (s.setBits Reg.TEL_CTL 2)) ∧
    ((s.reg Reg.TEL_CTL).getLsbD 1 = false → exec .telSnap s = .next ((s.onClock (fun c => { c with
      bounds := SMap.put 0 c.bounds bkSnap (s.nowNs / 10000 * 10000) })).setBits Reg.TEL_CTL 2)) ∧
    ((s.reg Reg.TEL_CTL).getLsbD 1 = true → s.boundDue bkSnap 10000 = true →
      let copied := (List.range 17).foldl (fun (s : State) k => (List.range 64).foldl (fun (s : State) i =>
        s.setReg (Reg.TEL_SCNT k i) (s.reg (Reg.TEL_CNT k i))) s) (s.takeBound bkSnap 10000)
      exec .snapCopy s = .next ((copied.setReg Reg.TEL_CTL (copied.reg Reg.TEL_CTL &&& ~~~ 2)).raise Reg.TEL_EVT 0 11 srcTele)) ∧
    (∀ on, exec (.telFreeze on) s = .next (s.setFld Reg.TEL_CTL ⟨0, 1⟩ (b2n on))) ∧
    (s.boundDue bkTenant 10000000 = true →
      exec .tenantWindow s = .next ((s.takeBound bkTenant 10000000).onTele (fun t => { t with
        tenant := t.tenant.foldl (fun m x => SMap.put {} m x.1 { sum := x.2.sum + coarse x.2.window, window := 0 }) [] }))) ∧
    (∀ mw, s.boundDue bkPower 100000000 = true → exec (.powerWindow mw) s =
      .next ((s.takeBound bkPower 100000000).setReg Reg.TEL_PWRT (BitVec.ofNat 64 (mw / 25000 % 65536)))) ∧
    (∀ val : Word, (Fld.TEL_TAG_CTL_ENABLE.get val = 1 → s.flag Reg.TEL_TAG_CTL Fld.TEL_TAG_CTL_ENABLE = false →
        exec (.tagEnable val) s = .next ((s.writeReg Reg.TEL_TAG_CTL val).onTele (fun t => { t with
          tagSeq := 0
          lfsr := (List.range 16).foldl (fun m n =>
            SMap.put 0 m n (lfsrSeed (BitVec.ofNat 32 (Fld.TEL_TAG_CTL_SEED.get val + n)))) [] }))) ∧
      (Fld.TEL_TAG_CTL_ENABLE.get val ≠ 1 ∨ s.flag Reg.TEL_TAG_CTL Fld.TEL_TAG_CTL_ENABLE = true →
        exec (.tagEnable val) s = .next (s.writeReg Reg.TEL_TAG_CTL val))) ∧
    (∀ v : BitVec 32, exec (.srRptrWrite v) s = .next (s.setReg Reg.TEL_SR_RPTR (v.setWidth 64))) ∧
    (s.boundDue bkBandwidth (1000 * s.bwMicros) = true →
      let us := s.bwMicros
      let due := s.takeBound bkBandwidth (1000 * us)
      let shown := if due.tele.bwFull
        then ((due.bwRates Reg.TEL_BWTX us due.tele.bwTx).bwRates Reg.TEL_BWRX us due.tele.bwRx).setBits Reg.TEL_EVT 8 else due
      exec .bwWindow s = .next (shown.onTele (fun t => { t with
        bwTx := []
        bwRx := []
        bwFull := true }))) ∧
    (s.boundDue bkBandwidth (1000 * s.bwMicros) = false → exec .bwWindow s = .next s) ∧
    (∀ v : BitVec 20,
      let put := (s.bwBoundary.setReg Reg.TEL_BWWIN (v.setWidth 64)).setReg Reg.TEL_EVT (s.bwBoundary.reg Reg.TEL_EVT &&& ~~~ 8)
      exec (.bwwinWrite v) s = .next ((put.onClock (fun c => { c with
        bounds := SMap.put 0 c.bounds bkBandwidth (put.nowNs / (1000 * put.bwMicros) * (1000 * put.bwMicros)) })).onTele (fun t => { t with bwFull := false })))) ∧
  (∀ s : State, s.awake = false → (∀ set i sel val, exec (.telCntWrite set i sel val) s = .next s) ∧ exec .telSnap s = .next s ∧
    exec .snapCopy s = .next s ∧ (∀ on, exec (.telFreeze on) s = .next s) ∧ exec .tenantWindow s = .next s ∧
    (∀ mw, exec (.powerWindow mw) s = .next s) ∧ (∀ v, exec (.tagEnable v) s = .next s) ∧ (∀ v, exec (.srRptrWrite v) s = .next s) ∧
    exec .bwWindow s = .next s ∧ (∀ v, exec (.bwwinWrite v) s = .next s)) ∧
  (∀ (s : State) (src : Source) (k i : Nat) (u : Sub), s.awake = true → sourceSession src = some (k, i) →
    (s.session k i).sub u.id = some u →
    (u.source ≠ 4 → u.source ≠ 5 → exec (.subReport src u.id) s = .next (s.subReport k i u)) ∧
    (u.source = 4 → s.srUnread ≠ 0 →
      let told := s.takeSamples.2.setSession k i ((s.takeSamples.2.session k i).setSub { u with seq := u.seq + 1 })
      exec (.ringReport src u.id) s = .next (told.sendPacket k i (reportPacket u told.nowHalf s.takeSamples.1))) ∧
    (u.source = 5 → min s.captUnread s.captSize ≠ 0 →
      let told := s.takeCaptures.2.setSession k i ((s.takeCaptures.2.session k i).setSub { u with seq := u.seq + 1 })
      exec (.ringReport src u.id) s = .next (told.sendPacket k i (reportPacket u told.nowHalf s.takeCaptures.1)))) ∧
  (coarse 0 = 0 ∧ ∀ d : Nat, 0 < d → coarse d ≤ d ∧ d < 2 * coarse d)

/-- The broadcast key, the fence of a departing job, the scrub engine and confidential mode (R436, R437, R439, R440, R441, R443, R444, R445, R446, R448, R482). -/
def Obligations.SecurityCommands : Prop :=
  (∀ (s : State) (src : Source), s.mayWrite src = true →
    ((sourceSession src).isSome = true →
      let n := bitsOf (s.reg Reg.SEC_BKSTAT).toNat 63 48
      exec (.bkeyLoad src) s = .next (((s.onSec (fun x => { x with
        bkey := s.reg (Reg.SEC_BKEY 0) ++ s.reg (Reg.SEC_BKEY 1) ++ s.reg (Reg.SEC_BKEY 2) ++ s.reg (Reg.SEC_BKEY 3)
        bkeySet := true })).setReg Reg.SEC_BKSTAT (pack [(⟨48, 16⟩, n + 1)])).raise Reg.SEC_EVT 1 11 srcSecurity)) ∧
    ((sourceSession src).isSome = false → exec (.bkeyLoad src) s = .next s) ∧
    (∀ (k : Fin 64) (on : Bool),
      (isSession src = true → s.slotState k = 0 → s.bindNow k = false → s.watch.record.options.getLsbD 0 = true →
        exec (.confWrite src k on) s = .next (s.setFld (Reg.SEC_SLOT k) Fld.SEC_SLOT_CONF (b2n on))) ∧
      (isSession src = false ∨ s.slotState k ≠ 0 ∨ s.bindNow k = true ∨ s.watch.record.options.getLsbD 0 = false →
        exec (.confWrite src k on) s = .next (s.raise Reg.SEC_EVT 8 11 srcSecurity)))) ∧
  (∀ (s : State) (src : Source), s.mayWrite src = false → exec (.bkeyLoad src) s = .next s ∧ ∀ k on, exec (.confWrite src k on) s = .next s) ∧
  (∀ (s : State) (k : Fin 64), ¬ (s.awake = true ∧ s.fencing k = true) → exec (.resmaxExpiry k) s = .next s ∧ exec (.fenceEnd k) s = .next s) ∧
  (∀ (s : State) (k : Fin 64), s.awake = true → s.fencing k = true →
    (s.since (s.trOf k) s.resmax = false → exec (.resmaxExpiry k) s = .next s) ∧
    (s.since (s.trOf k) s.resmax = true → exec (.resmaxExpiry k) s =
      .next ((s.discardJob k (fun _ h => h.f.job.toNat == s.slotJob k)).discardQueued k (s.slotJob k))) ∧
    (s.jobFrames (s.slotJob k) = false →
      let ended := s.setFld (Reg.SEC_SLOT k) Fld.SEC_SLOT_FENCING 0
      let late := s.trOf k + 2 * s.resmax + nsTicks s.rttMax < s.tick
      exec (.fenceEnd k) s = .next (((if late then ended.raise Reg.SEC_EVT 3 11 srcSecurity else ended).raise Reg.SEC_EVT 2 11
        srcSecurity).sendMarkers 1 k)) ∧
    (s.jobFrames (s.slotJob k) = true → exec (.fenceEnd k) s = .next s)) ∧
  (∀ (s : State) (r : StageRef) (h : Held), s.awake = true → s.stagedAt r = some h → s.ownFrame h.f = true →
    (h.f.kind = kScrub → exec (.scrubMarkerReceive r) s = .next ((s.consume r h).bump Reg.SEC_MKCNT 1)) ∧
    (h.f.kind = kTest → h.f.subk = 2 → exec (.loopreqReceive r) s = .next (s.consume r h))) ∧
  (∀ (s : State) (q : Nat) (e : Entry), s.awake = true → s.sec.scrub = none → s.nextEntry engScrub = some (q, e) →
    let t := s.popQueue engScrub q
    let st := t.scrubStatus e
    (st ≠ scOk →
      (entryOp e = 2 → exec .scrubRegions s = .next (t.scrubDone e st 0)) ∧ (entryOp e = 3 → exec .scrubDone s = .next (t.scrubDone e st 0)) ∧
      (entryOp e ≠ 2 → entryOp e ≠ 3 → exec .scrubSlot s = .next (t.scrubDone e st 0))) ∧
    (st = scOk →
      (entryOp e = 1 → exec .scrubSlot s = .next (t.onSec (fun x => { x with scrub := some { e := e } }))) ∧
      (entryOp e = 2 → exec .scrubRegions s = .next (t.onSec (fun x => { x with scrub := some { e := e } }))) ∧
      (entryOp e = 3 → exec .scrubDone s = .next ((((t.setFld (Reg.SEC_SLOT (seSlot e)) Fld.SEC_SLOT_STATE 3).raise Reg.SEC_EVT 4 11
        srcSecurity).sendMarkers 2 (seSlot e)).scrubDone e scOk 0)))) ∧
  (∀ s : State, (s.awake = false ∨ s.sec.scrub.isSome = true ∨ s.nextEntry engScrub = none) →
    exec .scrubSlot s = .next s ∧ exec .scrubRegions s = .next s ∧ exec .scrubDone s = .next s) ∧
  (∀ (s : State) (r : ScrubRun), s.sec.scrub = some r →
    let idle := s.onSec (fun x => { x with scrub := none })
    (entryOp r.e = 1 → s.scrubGo = (idle.runSlot r.e).2.scrubDone r.e scOk (idle.runSlot r.e).1) ∧
    (entryOp r.e ≠ 1 → 8192 * seCount r.e ≤ r.k + 1 → s.scrubGo = (idle.zeroPiece r.e r.k).scrubDone r.e scOk (128 * seCount r.e)) ∧
    (entryOp r.e ≠ 1 → r.k + 1 < 8192 * seCount r.e →
      s.scrubGo = (s.zeroPiece r.e r.k).onSec (fun x => { x with scrub := some { r with k := r.k + 1 } })) ∧
    s.abortScrub = idle.scrubDone r.e scAborted (r.k * scrubPiece / 1048576)) ∧
  (∀ s : State, s.sec.scrub = none → s.scrubGo = s ∧ s.abortScrub = s) ∧
  (∀ s : State, s.awake = true →
    exec .scrDrain s = .next (s.setHold engScrub (max 1 (s.hold engScrub))) ∧
    exec .scrForce s = .next ((((s.abortScrub.waitingEntries engScrub).foldl (fun (s : State) e => s.scrubDone e scAborted 0)
      (s.abortScrub.clearQueues engScrub)).setHold engScrub 2).forcedDisable engScrub 0) ∧
    exec .scrResume s = .next (s.setHold engScrub 0)) ∧
  (∀ (s : State) (e : Entry) (k a : Nat), SMap.wf 0 s.grn.mem = true → SMap.wf 0 s.grn.ver = true →
    let t := s.zeroPiece e k
    let lo := seFirst e * 134217728 + k * 16384
    (lo ≤ a → a < lo + 16384 → t.gByte a = 0) ∧
    (a < lo ∨ lo + 16384 ≤ a → t.gByte a = s.gByte a) ∧
    (lo ≤ 256 * a → 256 * a < lo + 16384 → t.blockVer a = 0) ∧
    (256 * a < lo ∨ lo + 16384 ≤ 256 * a → t.blockVer a = s.blockVer a))

/-- Crash dumps: DUMP, SEND and FREE, a unit that hangs, the bounds of a dump, DRAIN, FORCE and RESUME (R449, R455, R457, R464, R469, R470, R471, R472). -/
def Obligations.DumpCommands : Prop :=
  (∀ (s : State) (q : Nat) (e : Entry), s.awake = true → s.dumpIdle = true → s.nextEntry engDump = some (q, e) →
    let t := s.popQueue engDump q
    let st := t.dumpStatus e
    (st ≠ duOk →
      (entryOp e ≠ 2 → entryOp e ≠ 3 → exec .dump s = .next (t.dumpDone e st (t.dumpIdOf e) 0)) ∧
      (entryOp e = 2 → exec .dumpSend s = .next (t.dumpDone e st (t.dumpIdOf e) 0)) ∧
      (entryOp e = 3 → exec .dumpFree s = .next (t.dumpDone e st (t.dumpIdOf e) 0))) ∧
    (st = duOk →
      (entryOp e = 1 → exec .dump s = .next (t.onTest (fun x => { x with dump := { x.dump with
        running := some (e, t.tick)
        id := (x.dump.id + 1) % 65536
        staged := false
        recs := []
        unresp := 0
        hung := [] } }))) ∧
      (entryOp e = 2 → exec .dumpSend s = .next (t.onTest (fun x => { x with dump := { x.dump with sending := some (e, t.tick) } }))) ∧
      (entryOp e = 3 → exec .dumpFree s = .next ((t.onTest (fun x => { x with dump := { x.dump with
        staged := false
        recs := [] } })).dumpDone e duOk (entryNat e 8 2) 0)))) ∧
  (∀ (s : State) (e : Entry) (t : Nat), s.awake = true → s.test.dump.running = some (e, t) →
    let l := (s.allRecs e).1
    exec .dump s = .next ((s.allRecs e).2.endDump e l duOk) ∧
    (s.since t (secTicks 2) = true → ∃ k, k ≤ l.length ∧ exec .dumpTruncate s = .next
      ((((s.allRecs e).2.freeBelow (l.length + 1)).2.raiseDump 4).endDump e (l.take k ++ ((l.drop k).take 1).map (fun r => { r with
        status := 4
        data := [] })) duOk)) ∧
    (∀ (ut : Byte) (u : BitVec 16) (off : Word), s.test.dump.hung.any (fun h => h.1 == ut.toNat && h.2.1 == u.toNat) = false →
      exec (.dumpAccessTimeout ut u off) s = .next (((s.onTest (fun x => { x with dump := { x.dump with
        unresp := min 65535 (x.dump.unresp + 1)
        hung := x.dump.hung ++ [(ut.toNat, u.toNat, off.toNat)] } })).bump Reg.LFT_DMP_UNRESP 1).raiseDump 3)) ∧
    (∀ (ut : Byte) (u : BitVec 16) (off : Word), s.test.dump.hung.any (fun h => h.1 == ut.toNat && h.2.1 == u.toNat) = true →
      exec (.dumpAccessTimeout ut u off) s = .next s) ∧
    (s.since t (secTicks 2) = false → exec .dumpTruncate s = .next s) ∧
    (s.since t (secTicks 4) = false → exec (.engineEntryHang .dump) s = .next s) ∧
    (s.since t (secTicks 4) = true →
      let u := s.dumpAbort.onTest (fun x => { x with dump := { x.dump with predump := none } })
      let v := u.faultRecord { unitType := utDump, register := 0, cause := duAborted, action := 1
                               detail := u.reg (Reg.LFT_DMP_CRING ((u.fld Reg.LFT_DMP_CRHEAD ⟨0, 8⟩ + 255) % 256)) }
      (s.test.dump.predump = none → exec (.engineEntryHang .dump) s = .next v) ∧
      (∀ pre r, s.test.dump.predump = some pre → v.watch.after = some r → exec (.engineEntryHang .dump) s = .next (v.startRun r)))) ∧
  (∀ (s : State) (e : Entry) (t : Nat), s.awake = true → s.test.dump.sending = some (e, t) →
    let ended := s.onTest (fun x => { x with dump := { x.dump with sending := none } })
    let l := dumpPackets s.test.dump.recs
    exec .dumpSend s = .next ((ended.dumpSendTo e l).dumpDone e duOk (s.dumpIdOf e) 0) ∧
    (s.since t (msTicks 500) = true → ∃ k, k < max 1 l.length ∧ exec .dumpSendTimeout s =
      .next ((((s.freeBelow (max 1 l.length)).2.onTest (fun x => { x with dump := { x.dump with sending := none } })).dumpSendTo e
        (l.take k)).dumpDone e duTimeout (s.dumpIdOf e) 0)) ∧
    (s.since t (msTicks 500) = false → exec .dumpSendTimeout s = .next s) ∧
    (s.test.dump.running = none → s.since t (secTicks 1) = true → s.test.dump.predump = none →
      let u := s.dumpAbort.onTest (fun x => { x with dump := { x.dump with predump := none } })
      exec (.engineEntryHang .dump) s = .next (u.faultRecord { unitType := utDump, register := 0, cause := duAborted, action := 1
                                                               detail := u.reg (Reg.LFT_DMP_CRING ((u.fld Reg.LFT_DMP_CRHEAD ⟨0, 8⟩ + 255) % 256)) }))) ∧
  (∀ s : State, s.awake = true →
    exec .dmpDrain s = .next (s.setHold engDump (max 1 (s.hold engDump))) ∧
    exec .dmpResume s = .next (s.setHold engDump 0) ∧
    (let w := (((s.waitingEntries engDump).foldl (fun (s : State) e => s.dumpDone e duAborted (s.dumpIdOf e) 0)
        (s.clearQueues engDump)).setHold engDump 2).forcedDisable engDump 0;
      ∀ v, (((w.test.dump.sending = none ∨ w.alsoNow (fun i => i == Instr.dumpSend) = true) ∧ v = w) ∨
          (∃ e t, w.test.dump.sending = some (e, t) ∧ w.alsoNow (fun i => i == Instr.dumpSend) = false ∧
            v = (w.onTest (fun x => { x with dump := { x.dump with sending := none } })).dumpDone e duAborted (w.dumpIdOf e) 0)) →
        (v.test.dump.running = none ∨ v.alsoNow (fun i => i == Instr.dump) = true → exec .dmpForce s = .next v) ∧
        (∀ e t, v.test.dump.running = some (e, t) → v.alsoNow (fun i => i == Instr.dump) = false → ∃ k, k ≤ (v.allRecs e).1.length ∧
          exec .dmpForce s = .next (((v.allRecs e).2.freeBelow ((v.allRecs e).1.length + 1)).2.endDump e ((v.allRecs e).1.take k) duAborted))) ∧
    (s.scrubHung = none → exec (.engineEntryHang .scrub) s = .next s) ∧
    (∀ t e, s.scrubHung = some (t, e) →
      let u := t.scrubDone e scAborted 0
      exec (.engineEntryHang .scrub) s = .next (u.faultRecord { unitType := utSecurity, register := 1, cause := scAborted, action := 1
                                                                detail := u.reg (Reg.SEC_SCR_CRING ((u.fld Reg.SEC_SCR_CRHEAD ⟨0, 8⟩ + 255) % 256)) }))) ∧
  (∀ (s : State), (∀ r, s.sec.scrub = some r → s.scrubHung = some (s.onSec (fun x => { x with scrub := none }), r.e)) ∧
    (s.sec.scrub = none → (s.nextEntry engScrub = none → s.scrubHung = none) ∧
      ∀ q e, s.nextEntry engScrub = some (q, e) → s.scrubHung = some (s.popQueue engScrub q, e))) ∧
  (∀ s : State, s.awake = false → exec .dmpDrain s = .next s ∧ exec .dmpForce s = .next s ∧ exec .dmpResume s = .next s ∧
    (∀ e, exec (.engineEntryHang e) s = .next s) ∧ exec .dumpSendTimeout s = .next s ∧ exec .dumpTruncate s = .next s) ∧
  (∀ (s : State) (ut : Byte) (u : BitVec 16) (off : Word), s.test.dump.running = none →
    exec (.dumpAccessTimeout ut u off) s = .next s ∧ exec .dumpTruncate s = .next s) ∧
  (∀ s : State, s.test.dump.sending = none → exec .dumpSendTimeout s = .next s) ∧
  (∀ (s : State) (u : DumpUnit), s.test.dump.hung.find? (fun h => h.1 == u.ut && h.2.1 == u.unit) = none →
    (u.hide = false → s.unitRecs u = [s.dumpRec u drOk u.off u.data]) ∧
    (u.hide = true → s.unitRecs u = [s.dumpRec u drWithheld u.off []])) ∧
  (∀ (s : State) (u : DumpUnit) (a b off : Nat), s.test.dump.hung.find? (fun h => h.1 == u.ut && h.2.1 == u.unit) = some (a, b, off) →
    (u.off = off → 0 < u.data.length → s.unitRecs u = [s.dumpRec u drUnresponsive off []]) ∧
    (u.off < off → off < u.off + u.data.length → u.hide = false →
      s.unitRecs u = [s.dumpRec u drOk u.off (u.data.take (off - u.off)), s.dumpRec u drUnresponsive off []]) ∧
    (off < u.off → s.unitRecs u = [])) ∧
  (∀ (l : List DumpRec) (n : Nat), ((numberRecs l)[n]?.map (fun r => r.seq)) = (l[n]?.map (fun _ => n))) ∧
  (∀ r : DumpRec, (recBytes r).length = 32 + r.data.length) ∧
  (∀ l : List DumpRec, (dumpPackets l).flatMap (fun p => p.payload) = l.flatMap recBytes ∧ ∀ p ∈ dumpPackets l, p.payload.length ≤ 65536)

/-- Test requests: refused in the order BADREQ, STATE, INUSE, BUSY with nothing else changed, or started; CANCEL (R454, R477, R478, R480, R481, R482, R484, R488). -/
def Obligations.TestRequests : Prop :=
  (∀ (s : State) (src : Source) (w : Word), s.mayWrite src = true →
    let refuse := fun (status : Nat) => s.testRecord w status (tqType w) (tqUnit w) 0
    ∀ c ∈ ([(tcLoopback, .testLoopback src w), (tcMembist, .testMembist src w), (tcFull, .testFull src w), (tcCancel, .testCancel src w)] : List (Nat × Instr)),
    tqTest w = c.1 →
      (requestUnit w = none → exec c.2 s = .next (refuse teBadreq)) ∧
      (∀ u, requestUnit w = some u → tqTest w ≠ tcCancel →
        (s.testState src w u = true → exec c.2 s = .next (refuse teState)) ∧
        (s.testState src w u = false → s.test.runs.any (fun r => sharesUnit r.u u) = true → exec c.2 s = .next (refuse teInuse)) ∧
        (s.testState src w u = false → s.test.runs.any (fun r => sharesUnit r.u u) = false →
          (s.carries = true → s.soonTables.isolated u = false → exec c.2 s = .next (refuse teBusy)) ∧
          (s.carries = false ∨ s.soonTables.isolated u = true →
            let t := s.onTest (fun t => { t with runs := t.runs ++ [{ u := u, req := w, startAt := s.tick }] })
            (tqTest w = tcLoopback → exec c.2 s = .next (t.loopStart u w)) ∧
            (tqTest w ≠ tcLoopback → exec c.2 s = .next t)))) ∧
      (∀ u, requestUnit w = some u → tqTest w = tcCancel →
        (∀ r, s.test.runs.find? (fun r => r.u == u) = some r →
          (s.endsNow r = true → exec c.2 s = .next s) ∧
          (s.endsNow r = false → exec c.2 s = .next (((s.dropRun u).restoreUnit r).testRecord r.req teCancelled (testUnit u).1 (testUnit u).2 0))) ∧
        (s.test.runs.find? (fun r => r.u == u) = none → exec c.2 s = .next s))) ∧
  (∀ (s : State) (src : Source) (w : Word),
    (s.testState src w .full = true ↔ s.mode ≠ stLaidUp) ∧
    (∀ p, s.testState src w (.site p) = true ↔ tqDepth w = 4 ∧ s.pathState p.val ≠ 2) ∧
    (∀ j, s.testState src w (.channel j) = true ↔ tqWrite w = true ∧ s.channelBindings j ≠ []) ∧
    (∀ k, s.testState src w (.uzoley k) = true ↔ ∃ i, sourceSession src = some (k.val, i)) ∧
    (∀ x, s.testState src w (.span x) = false) ∧ (∀ x, s.isolated (.stack x) = false)) ∧
  (∀ (s : State) (src : Source) (w : Word), (s.mayWrite src = false ∨ tqTest w ≠ tcLoopback → exec (.testLoopback src w) s = .next s) ∧
    (s.mayWrite src = false ∨ tqTest w ≠ tcMembist → exec (.testMembist src w) s = .next s) ∧
    (s.mayWrite src = false ∨ tqTest w ≠ tcFull → exec (.testFull src w) s = .next s) ∧
    (s.mayWrite src = false ∨ tqTest w ≠ tcCancel → exec (.testCancel src w) s = .next s)) ∧
  (∀ (s : State) (w : Word) (p : Fin 512), tqDepth w ≤ 3 → s.portState p ≠ pDark →
    s.loopStart (.site p) w = (s.goDark p).emit (.pattern p true)) ∧
  (∀ (s : State) (w : Word) (p : Fin 512), tqDepth w = 5 →
    s.loopStart (.site p) w = (s.originate qBosun (s.loopFrame 2 (beBytes 4 (tqDuration w))) [.port p] .none).emit (.pattern p true)) ∧
  (∀ (s : State) (b : Byte) (l : List Byte), (s.loopFrame b l).flags = flSrcmod ∧ (s.loopFrame b l).src = s.modnum.setWidth 20 ∧
    (s.loopFrame b l).kind = kTest ∧ (s.loopFrame b l).vc = 7 ∧ (s.loopFrame b l).subk = b ∧ (s.loopFrame b l).payload = l) ∧
  (∀ (u : TestUnit) (d : Nat), depthListed u d = true ↔
    (isPort u = true ∧ (∀ k, u ≠ .uzoley k) ∧ 1 ≤ d ∧ d ≤ 5) ∨ (∃ k, u = .uzoley k ∧ (d = 2 ∨ d = 4)))

/-- How tests end; the far end that returns nothing; in-service margins; boundary scan (R477, R481, R482, R483, R485, R486, R487). -/
def Obligations.TestOutcomes : Prop :=
  (∀ (s : State) (u : TestUnit) (n : BitVec 16) (failed : List TestUnit),
    (s.test.runs.find? (fun r => r.u == u) = none → exec (.testEnd u n failed) s = .next s) ∧
    (∀ r, s.test.runs.find? (fun r => r.u == u) = some r →
      let t := s.dropRun u
      let v := t.restoreUnit r
      (s.testOver r = false → exec (.testEnd u n failed) s = .next s) ∧
      (s.testOver r = true → u ≠ .full →
        ((∀ j, r.u ≠ .channel j) → exec (.testEnd u n failed) s =
          .next (v.testRecord r.req (if n = 0 then tePass else teFail) (testUnit r.u).1 (testUnit r.u).2 n.toNat)) ∧
        (∀ j, r.u = .channel j → tqWrite r.req = true →
          (n = 0 → exec (.testEnd u n failed) s = .next (v.testRecord r.req tePass utGranary j 0)) ∧
          (n ≠ 0 → exec (.testEnd u n failed) s = .next ((v.writeFailed j).testRecord r.req teFail utGranary j n.toNat))) ∧
        (∀ j, r.u = .channel j → tqWrite r.req = false →
          let k := max n.toNat (t.badBlocks j).length
          exec (.testEnd u n failed) s = .next ((v.readChannel j).testRecord r.req (if k = 0 then tePass else teFail) utGranary j k))) ∧
      (s.testOver r = true → u = .full →
        let bad := t.fullFailed failed
        let read := (List.range 16).foldl (fun (s : State) j => if (s.channelBindings j).isEmpty then s else s.readChannel j) (t.coresChecked bad)
        let parts := bad.foldl (fun (s : State) x =>
          (match x with
          | .channel j => if (s.channelBindings j).isEmpty then s.writeFailed j else s
          | _ => s).testRecord r.req teFail (testUnit x).1 (testUnit x).2 0) read
        (bad ≠ [] → exec (.testEnd u n failed) s = .next ((parts.restoreUnit r).testRecord r.req teFail (testUnit r.u).1 (testUnit r.u).2 bad.length)) ∧
        (bad = [] → (parts.restoreUnit r).mode = stLaidUp → exec (.testEnd u n failed) s =
          .next (((parts.restoreUnit r).setFld Reg.WCH_ESC Fld.WCH_ESC_TESTED 1).testRecord r.req tePass (testUnit r.u).1 (testUnit r.u).2 0)) ∧
        (bad = [] → (parts.restoreUnit r).mode ≠ stLaidUp → exec (.testEnd u n failed) s =
          .next ((parts.restoreUnit r).testRecord r.req tePass (testUnit r.u).1 (testUnit r.u).2 0))))) ∧
  (∀ (s : State) (r : TestRun), s.testOver r = true ↔
    s.awake = true ∧ (tqTest r.req = tcLoopback → s.since r.startAt (msTicks (tqDuration r.req)) = true)) ∧
  (∀ (s : State) (failed : List TestUnit) (x : TestUnit), x ∈ s.fullFailed failed ↔
    x ∈ failed ∨ ∃ j, x = .channel j ∧ s.channelBindings j ≠ [] ∧ s.badBlocks j ≠ []) ∧
  (∀ (s : State) (u : TestUnit), s.test.runs.find? (fun r => r.u == u) = none → exec (.remoteNoReturn u) s = .next s) ∧
  (∀ (s : State) (p : Fin 512) (r : TestRun), s.test.runs.find? (fun r => r.u == .site p) = some r →
    s.awake = false ∨ tqTest r.req ≠ tcLoopback ∨ tqDepth r.req ≠ 5 ∨ s.since r.startAt (msTicks 10) = false →
    exec (.remoteNoReturn (.site p)) s = .next s) ∧
  (∀ (s : State) (p : Fin 512) (r : TestRun), s.awake = true → s.test.runs.find? (fun r => r.u == .site p) = some r →
    tqTest r.req = tcLoopback → tqDepth r.req = 5 → s.since r.startAt (msTicks 10) = true →
    exec (.remoteNoReturn (.site p)) s = .next (((s.dropRun (.site p)).emit (.pattern p false)).testRecord r.req teFail utSite p 0xFFFF)) ∧
  (∀ (s : State) (ms : List Margin), s.awake = true → s.flag Reg.WCH_MGCTL Fld.WCH_MGCTL_ENABLE = true →
    s.since s.test.marginAt (secTicks (max 1 (s.fld Reg.WCH_MGCTL Fld.WCH_MGCTL_INTERVAL))) = true →
    exec (.marginMeasure ms) s = .next (ms.foldl (fun (s : State) x => s.margin x) (s.onTest (fun t => { t with marginAt := s.tick })))) ∧
  (∀ (s : State) (ms : List Margin), s.awake = false ∨ s.flag Reg.WCH_MGCTL Fld.WCH_MGCTL_ENABLE = false ∨
    s.since s.test.marginAt (secTicks (max 1 (s.fld Reg.WCH_MGCTL Fld.WCH_MGCTL_INTERVAL))) = false → exec (.marginMeasure ms) s = .next s) ∧
  (∀ (s : State) (x : Margin), 34 ≤ x.m.val → x.m.val < 64 → s.margin x = s) ∧
  (∀ (s : State) (x : Margin), x.m.val < 34 →
    let t := s.setReg (Reg.WCH_MG x.m) (pack [(Fld.WCH_MG_VALID, 1), (Fld.WCH_MG_LANE, x.lane.toNat),
      (Fld.WCH_MG_EYEH, x.hi.toNat), (Fld.WCH_MG_EYEW, x.lo.toNat % 256)])
    (x.hi.toNat < t.fld Reg.WCH_MGCTL Fld.WCH_MGCTL_EYEMIN → s.margin x = t.setBits Reg.WCH_TSTEVT 8) ∧
    (t.fld Reg.WCH_MGCTL Fld.WCH_MGCTL_EYEMIN ≤ x.hi.toNat → s.margin x = t)) ∧
  (∀ (s : State) (x : Margin), 64 ≤ x.m.val →
    let g := (x.m.val - 64) / 4
    let shown := fun (k : Nat) => s.setReg (Reg.WCH_MG x.m) (pack [(Fld.WCH_MG_VALID, 1), (Fld.WCH_MG_EYEH, x.hi.toNat), (Fld.WCH_MG_EYEW, k)])
    (s.laserFld g (x.m.val % 4) Fld.CL_OE_LASER_SPARE ≠ 0 ∨ s.prespareNow g (x.m.val % 4) = true → s.margin x = shown 0) ∧
    (s.laserFld g (x.m.val % 4) Fld.CL_OE_LASER_SPARE = 0 → s.prespareNow g (x.m.val % 4) = false → s.margin x = shown x.lo.toNat)) ∧
  (∀ (s : State) (i : TapInstr), exec (.tapInstruction i) s =
    .next (s.onWatch (fun w => { w with tap := tapCode (s.mode == stLaidUp) i }))) ∧
  (∀ i : TapInstr, tapCode false i ≤ 2 ∧ (i ≠ .idcode → i ≠ .sample → tapCode false i = 0) ∧ ∀ n b, tapCode b (.other n) = 0) ∧
  (∀ (s : State) (j : Fin 16) (a : Nat), addrChan a = j → (s.wipeChannel j).grn.mem.all (fun c => c.1 != a) = true) ∧
  (∀ (s : State) (j : Fin 16) (a : Nat), SMap.wf 0 s.grn.mem = true → addrChan a ≠ j → SMap.get 0 (s.wipeChannel j).grn.mem a = SMap.get 0 s.grn.mem a)

/-- A packet of a session: its SEQ and tag, BADPACKET, STATE and DENIED, for every KIND (R387, R409, R410, R411, R413, R415, R416, R435). -/
def Obligations.SessionPackets : Prop :=
  (∀ (s : State) (k : Fin 2) (p : Packet) (fw sig : SigPair) (x : SessionCmd),
    x ∈ sessionCmds k p fw sig → p.kind = x.kind →
    (s.uzoleyUsable k = false → exec x.cmd s = .next s) ∧
    (s.uzoleyUsable k = true → p.session = 0 ∨ 8 < p.session.toNat → exec x.cmd s = .next ((s.packetIn k).sendBad k p)) ∧
    (s.uzoleyUsable k = true → p.session ≠ 0 → p.session.toNat ≤ 8 → (s.session k (p.session.toNat - 1)).opened = false →
      exec x.cmd s = .next (s.packetIn k)) ∧
    (s.uzoleyUsable k = true → p.session ≠ 0 → p.session.toNat ≤ 8 →
      let i := p.session.toNat - 1
      let y := s.session k i
      let a := s.packetIn k
      let t := a.setSession k i { y with lastAt := a.tick }
      y.opened = true →
      (y.batch.isSome = true → exec x.cmd s = .next s) ∧
      (y.batch = none → p.gcmOk = false → exec x.cmd s = .next ((s.packetIn k).gcmFail k i)) ∧
      (y.batch = none → p.gcmOk = true →
        (p.seq ≠ y.seqIn + 1 →
          let again := p.seq ≠ 0 ∧ p.seq.toNat ≤ y.seqIn.toNat ∧ y.seqIn.toNat < p.seq.toNat + 64
          (again → ∀ c, y.cache.find? (fun c => argNat c 0 8 == p.seq.toNat) = some c →
            exec x.cmd s = .next ((t.bump (Reg.UZP_CNT k 3) 1).sendPacket k i c)) ∧
          (again → y.cache.find? (fun c => argNat c 0 8 == p.seq.toNat) = none → exec x.cmd s = .next (t.bump (Reg.UZP_CNT k 3) 1)) ∧
          (¬ again → exec x.cmd s = .next (t.bump (Reg.UZP_CNT k 4) 1))) ∧
        (p.seq = y.seqIn + 1 → ∃ u, s.inOrder k p i u ∧ u = t.setSession k i { t.session k i with seqIn := p.seq })))) ∧
  (∀ (s : State) (k : Fin 2) (p : Packet) (fw sig : SigPair) (x : SessionCmd) (i : Nat) (t : State),
    x ∈ sessionCmds k p fw sig → p.kind = x.kind → s.inOrder k p i t →
    (headerGood p = false ∨ x.form = false → exec x.cmd s = .next ((t.answered k i p psBadpacket []).closeWorn k i)) ∧
    (headerGood p = true → x.form = true →
      (x.core = false → t.bosunUp = false → exec x.cmd s = .next ((t.answered k i p psState []).closeWorn k i)) ∧
      (x.core = true ∨ t.bosunUp = true → (t.session k i).tenant = true → x.tenant = false →
        exec x.cmd s = .next ((t.answered k i p psDenied []).closeWorn k i)))) ∧
  (∀ (s : State) (k : Fin 2) (p : Packet) (i : Nat) (t : State), kindListed p.kind.toNat = false → s.inOrder k p i t →
    exec (.ping k p) s = .next ((t.answered k i p psBadpacket []).closeWorn k i))

/-- CLOSE, PING, REG_BATCH, CMD_APPEND, BULK_LOAD, MBX_POST, TEL_SUB and RESET: what each leaves, and its COMPLETION (R22, R226, R376, R382, R400, R405, R411, R416, R417, R418, R420, R421). -/
def Obligations.SessionCommands : Prop :=
  (∀ (s : State) (k : Fin 2) (p : Packet) (i : Nat) (t : State), s.inOrder k p i t → headerGood p = true → t.bosunUp = true →
    (p.kind = 0x02 → argEnds p 0 = true → p.payload = [] → exec (.close k p) s = .next ((t.closeSession k i).closeWorn k i)) ∧
    (p.kind = 0x03 → argEnds p 0 = true → p.payload = [] → exec (.ping k p) s = .next ((t.answered k i p psOk []).closeWorn k i)) ∧
    (p.kind = 0x10 → argEnds p 0 = true → ∀ n, p.payload.length = 16 * n → 1 ≤ n → n ≤ 4096 →
      let b : Batch := { seq := p.seq, tag := p.tag
                         entries := (List.range n).map (fun j => BitVec.ofNat 128 (natAt p.payload (16 * j) 16)), results := [] }
      exec (.regBatch k p) s = .next ((t.setSession k i { t.session k i with batch := some b }).closeWorn k i)) ∧
    (p.kind = 0x14 → argEnds p 0 = true → ∀ n, p.payload.length = 16 * n → 1 ≤ n →
      let r := (List.range n).foldl (fun (a : List Bool × State) j =>
        let b := a.2.subEntry k i (sliceBytes p.payload (16 * j) 16)
        (a.1 ++ [b.1], b.2)) ([], t)
      (false ∉ r.1 → exec (.telSub k p) s = .next ((r.2.answered k i p psOk []).closeWorn k i)) ∧
      (false ∈ r.1 → exec (.telSub k p) s =
        .next ((r.2.answered k i p psPartial (r.1.map (fun b => if b then 0 else 1))).closeWorn k i)))) ∧
  (∀ (s : State) (k : Fin 2) (p : Packet) (i : Nat) (t : State), s.operatorTakes k p i t →
    (p.kind = 0x11 → argEnds p 2 = true → argNat p 0 1 < 0x24 → argNat p 1 1 < 8 → ∀ n, p.payload.length = 64 * n → 1 ≤ n → n ≤ 1024 →
      let a := t.append (argNat p 0 1) (argNat p 1 1) (8 * k + i) ((List.range n).map (fun j => entryOfBytes (sliceBytes p.payload (64 * j) 64)))
      exec (.cmdAppend k p) s = .next ((a.2.answered k i p a.1 []).closeWorn k i)) ∧
    (p.kind = 0x12 → argEnds p 18 = true → argNat p 16 1 ≤ 2 →
      (argNat p 17 1 = 0 →
        let a := t.bulkLoad (8 * k + i) (argNat p 0 8) (argNat p 8 4) (argNat p 12 4) (argNat p 16 1) p.payload
        exec (.bulkLoad k p) s = .next ((a.2.answered k i p a.1 []).closeWorn k i)) ∧
      (argNat p 17 1 = 1 → p.payload = [] →
        let a := t.bulkFree (8 * k + i) (argNat p 0 8)
        exec (.bulkLoad k p) s = .next ((a.2.answered k i p a.1 []).closeWorn k i))) ∧
    (p.kind = 0x13 → argEnds p 1 = true → argNat p 0 1 < 64 → p.payload.length = 64 →
      let a := t.mbxPlace (argNat p 0 1) (if k = 0 then snUzoleyA else snUzoleyB) (i + 1)
        ((List.range 8).map (fun w => BitVec.ofNat 64 (natAt p.payload (8 * w) 8)))
      (a.1 = msOk → exec (.mbxPost k p) s = .next ((a.2.answered k i p psOk []).closeWorn k i)) ∧
      (a.1 ≠ msOk → exec (.mbxPost k p) s = .next ((a.2.answered k i p psRefused []).closeWorn k i))) ∧
    (p.kind = 0x16 → argEnds p 1 = true → p.payload = [] → argNat p 0 1 % 4 ≠ 0 → argNat p 0 1 / 4 % 4 = 0 →
      exec (.resetPacket k p) s =
        .next (((t.resetRequest (argNat p 0 1 % 4) (argNat p 0 1 / 16) rcOperator).answered k i p psOk []).closeWorn k i))) ∧
  (∀ (s : State) (eng q r : Nat) (l : List Entry),
    (s.mode = stDraining → q ≠ 7 → s.append eng q r l = (psState, s)) ∧
    (s.mode ≠ stDraining ∨ q = 7 →
      (4096 < (s.queue eng q).length + l.length → s.append eng q r l = (psQueuefull, s)) ∧
      ((s.queue eng q).length + l.length ≤ 4096 →
        (s.hold eng ≠ 2 → s.append eng q r l = (psOk, (s.place eng q r l).wakeFor eng)) ∧
        (s.hold eng = 2 → s.append eng q r l = (psOk, l.foldl (fun (s : State) e => s.refuseAppend eng e) s))))) ∧
  (∀ (s : State) (eng q r : Nat) (l : List Entry),
    let old := s.queue eng q
    let tail := s.freshTail eng q
    let placed := fun (front : Nat) (ranks : List Nat) => (s.setQueue eng q (old.take front ++ l ++ old.drop front)).onEng (fun x => { x with
      fresh := SMap.put (0, []) x.fresh (8 * eng + q) (s.tick + 1, ranks) })
    ((∀ x ∈ tail, x ≤ r) → s.place eng q r l = placed old.length (tail ++ List.replicate l.length r)) ∧
    ((∀ x ∈ tail, r < x) → s.place eng q r l = placed (old.length - tail.length) (List.replicate l.length r ++ tail)) ∧
    (eng < 16 → s.wakeFor eng = s.wakeCluster eng) ∧ (16 ≤ eng → s.wakeFor eng = s) ∧
    (∀ f, SMap.get (0, []) s.eng.fresh (8 * eng + q) = f → f.1 ≠ s.tick + 1 → s.freshTail eng q = []) ∧
    (∀ f, SMap.get (0, []) s.eng.fresh (8 * eng + q) = f → f.1 = s.tick + 1 → f.2.length ≤ old.length → s.freshTail eng q = f.2)) ∧
  (∀ (s : State) (me h off total type : Nat) (l : List Byte),
    let b := SMap.get {} s.uz.bulk h
    (b.held = true → b.owner ≠ me → s.bulkLoad me h off total type l = (psOwned, s)) ∧
    (b.held = true → b.owner = me → b.total ≠ total → s.bulkLoad me h off total type l = (psRefused, s)) ∧
    (b.held = false ∨ b.owner = me → total < off + l.length → s.bulkLoad me h off total type l = (psRefused, s)) ∧
    (b.held = false → type = 0 → 2 ^ 31 < s.bulkUsed + total → s.bulkLoad me h off total type l = (psRefused, s)) ∧
    (∀ x, (b.held = true ∧ b.owner = me ∧ b.total = total ∧ x = b.place off l) ∨
        (b.held = false ∧ (type = 0 → s.bulkUsed + total ≤ 2 ^ 31) ∧
          x = ({ held := true, owner := me, type := type, total := total } : Bulk).place off l) → off + l.length ≤ total →
      let u := s.onUz (fun u => { u with bulk := SMap.put {} u.bulk h x })
      (x.type = 0 → s.bulkLoad me h off total type l = (psOk, u)) ∧
      (x.type ≠ 0 → s.bulkLoad me h off total type l = (psOk, u.flashWrite x))) ∧
    (b.held = true → b.owner ≠ me → s.bulkFree me h = (psOwned, s)) ∧
    (b.held = false → s.bulkFree me h = (psRefused, s)) ∧
    (b.held = true → b.owner = me → s.bulkFree me h = (psOk, s.onUz (fun u => { u with bulk := SMap.put {} u.bulk h {} })))) ∧
  (∀ (s : State) (k i : Nat) (q : BitVec 64) (tag : BitVec 16) (status : Nat) (l : List Byte),
    ((s.session k i).opened = false → s.completion k i q tag status l = s) ∧
    ((s.session k i).opened = true →
      let c : Packet := { kind := 0x90, tag := tag, status := BitVec.ofNat 8 status, plen := BitVec.ofNat 32 l.length
                          arg := packetArg (beBytes 8 q.toNat), payload := l }
      s.completion k i q tag status l =
        (s.setSession k i { s.session k i with cache := (c :: (s.session k i).cache).take 64 }).sendPacket k i c ∧ argNat c 0 8 = q.toNat))

/-- The entries of a register batch: READ, WRITE, POLL, the limit of a POLL, and the end of a batch (R10, R51, R413, R418, R419, R503). -/
def Obligations.BatchEntries : Prop :=
  (∀ (s : State) (k : Fin 2) (i : Fin 8) (b : Batch) (e : BitVec 128) (rest : List (BitVec 128)),
    s.batchOf k i = some b → b.entries = e :: rest →
    (beOp e ≠ 2 → beOp e ≠ 3 →
      (beOp e = 1 → beFlags e = 0 →
        let c := s.latch b (beOffset e)
        let r := s.busRead (sessionSource k i) (beOffset e)
        (r.2.1 = 0 → exec (.batchRead k i) s = .next (r.2.2.batchResult k i c (c.shown (beOffset e) r.1) 0)) ∧
        (r.2.1 ≠ 0 → exec (.batchRead k i) s = .next (r.2.2.batchResult k i c r.1 r.2.1))) ∧
      (beOp e ≠ 1 ∨ beFlags e ≠ 0 → exec (.batchRead k i) s = .next (s.batchResult k i b 0 bsBadentry))) ∧
    (beOp e = 2 →
      (beFlags e ≠ 0 → exec (.batchWrite k i) s = .next (s.batchResult k i b 0 bsBadentry)) ∧
      (beFlags e = 0 → (s.session k i).tenant = true → exec (.batchWrite k i) s = .next (s.batchResult k i b 0 bsDenied)) ∧
      (beFlags e = 0 → (s.session k i).tenant = false →
        (s.writeWaits (sessionSource k i) (beOffset e) = false → exec (.batchWrite k i) s =
          .next ((s.busWrite (sessionSource k i) (beOffset e) (beData e)).batchResult k i b 0
            (if (regRow (beOffset e)).isSome then 0 else 1))) ∧
        (s.writeWaits (sessionSource k i) (beOffset e) = true →
          (b.waitAt = none → exec (.batchWrite k i) s = .next (s.setBatch k i (some { b with waitAt := some s.tick }))) ∧
          (∀ t, b.waitAt = some t → s.since t (msTicks 1) = true → exec (.batchWrite k i) s = .next (s.batchResult k i b 0 bsTimeout)) ∧
          (∀ t, b.waitAt = some t → s.since t (msTicks 1) = false → exec (.batchWrite k i) s = .next s)))) ∧
    (beOp e = 3 →
      (1 < beFlags e ∨ beWait e = 0 → exec (.batchPoll k i) s = .next (s.batchResult k i b 0 bsBadentry)) ∧
      (beFlags e ≤ 1 → 1 ≤ beWait e →
        let r := s.busRead (sessionSource k i) (beOffset e)
        let asked := if beFlags e = 1 then r.1 &&& beData e = beData e else r.1 &&& beData e = 0
        (r.2.1 ≠ 0 ∨ asked → exec (.batchPoll k i) s = .next (r.2.2.batchResult k i b r.1 r.2.1)) ∧
        (r.2.1 = 0 → ¬ asked → exec (.batchPoll k i) s = .next (r.2.2.setBatch k i (some { b with
          pollAt := some (b.pollAt.getD r.2.2.tick)
          pollLast := r.1 })))) ∧
      (∀ t, b.pollAt = some t → s.since t (msTicks (beWait e)) = true →
        exec (.pollTimeout k i) s = .next (s.batchResult k i b b.pollLast bsTimeout)) ∧
      (∀ t, b.pollAt = some t → s.since t (msTicks (beWait e)) = false → exec (.pollTimeout k i) s = .next s) ∧
      (b.pollAt = none → exec (.pollTimeout k i) s = .next s))) ∧
  (∀ (s : State) (k i : Nat) (b : Batch) (e : BitVec 128) (rest : List (BitVec 128)) (v : Word) (st : Nat), b.entries = e :: rest →
    let results := b.results ++ [(v, st)]
    ((s.session k i).opened = false → s.batchResult k i b v st = s) ∧
    ((s.session k i).opened = true →
      (st = bsTimeout ∨ st = bsBadentry →
        s.batchResult k i b v st = s.batchEnd k i b (results ++ List.replicate rest.length (0, bsSkipped))) ∧
      (st ≠ bsTimeout → st ≠ bsBadentry → rest = [] → s.batchResult k i b v st = s.batchEnd k i b results) ∧
      (st ≠ bsTimeout → st ≠ bsBadentry → rest ≠ [] → s.batchResult k i b v st = s.setBatch k i
        (some { seq := b.seq, tag := b.tag, entries := rest, results := results, latched := b.latched })))) ∧
  (∀ (s : State) (k i : Nat) (b : Batch) (l : List (Word × Nat)),
    let payload := l.flatMap (fun r => beBytes 8 r.1.toNat ++ [BitVec.ofNat 8 r.2, 0, 0, 0, 0, 0, 0, 0])
    payload.length = 16 * l.length ∧
    ((∀ r ∈ l, r.2 = bsOk) → s.batchEnd k i b l = (s.setBatch k i none).completion k i b.seq b.tag psOk payload) ∧
    ((∃ r ∈ l, r.2 ≠ bsOk) → s.batchEnd k i b l = (s.setBatch k i none).completion k i b.seq b.tag psPartial payload)) ∧
  (∀ (s : State) (b : Batch) (off : Nat) (v : Word),
    (captPlace off = none → s.latch b off = b ∧ b.shown off v = v) ∧
    (∀ n j, captPlace off = some (n, j) → b.shown off v = (SMap.get [] b.latched n).getD j v ∧
      (SMap.get [] b.latched n = [] → s.latch b off = { b with latched := SMap.put [] b.latched n (s.captWords n) }) ∧
      (SMap.get [] b.latched n ≠ [] → s.latch b off = b))) ∧
  (∀ (s : State) (k : Fin 2) (i : Fin 8), s.batchOf k i = none → exec (.batchRead k i) s = .next s ∧ exec (.batchWrite k i) s = .next s ∧
    exec (.batchPoll k i) s = .next s ∧ exec (.pollTimeout k i) s = .next s) ∧
  (∀ (s : State) (k : Fin 2) (i : Fin 8) (b : Batch) (e : BitVec 128) (rest : List (BitVec 128)), s.batchOf k i = some b → b.entries = e :: rest →
    (beOp e = 2 ∨ beOp e = 3 → exec (.batchRead k i) s = .next s) ∧ (beOp e ≠ 2 → exec (.batchWrite k i) s = .next s) ∧
    (beOp e ≠ 3 → exec (.batchPoll k i) s = .next s ∧ exec (.pollTimeout k i) s = .next s)) ∧
  (∀ (s : State) (src : Source) (off : Nat), s.tenantSource src = false → regRow off = none → s.busRead src off = (0, 1, s))

/-- HELLO, ATTEST and quotes that wait, BROADCAST, FW_STAGE and FW_ACTIVATE, and sessions that time out (R345, R347, R409, R412, R414, R417, R425, R426, R432, R434). -/
def Obligations.SecurityAndFirmwarePackets : Prop :=
  (∀ (s : State) (k : Fin 2) (p : Packet) (c : Chain), p.kind = 0x01 → p.session = 0 → s.uzoleyUsable k = true → headerGood p = true →
    argEnds p 0 = true → p.gcmOk = true →
    let t := s.packetIn k
    (∀ (role : Nat) (i : Fin 8), t.helloRole c = some role → (t.session k i).opened = false → (∀ j : Fin 8, j < i → (t.session k j).opened = true) →
      exec (.hello k p c) s = .next (t.helloAccepted k i p role)) ∧
    (t.helloRole c = none ∨ (∀ j : Fin 8, (t.session k j).opened = true) →
      exec (.hello k p c) s = .next (((t.sendPlain k { kind := 0x81, tag := p.tag }).bump (Reg.UZP_CNT k 5) 1).raise
        (Reg.UZP_EVT k) 2 11 srcUzoley))) ∧
  (∀ (s : State) (c : Chain) (role : Nat), s.helloRole c = some role →
    c.derOk = true ∧ c.certs.length ≤ 3 ∧ (∀ x ∈ c.certs, x.sigOk = true ∧ x.serial ∉ s.watch.record.deny) ∧
    c.rootHash = s.watch.record.oproot ∧ (role ≠ 0 → s.jobState role = 1) ∧ ∃ leaf rest, c.certs = leaf :: rest ∧ ∃ v, leaf.ous = [(true, v)] ∧
      (role = 0 → v = ouOperator) ∧ (role ≠ 0 → ∃ d, v = ouTenant ++ d ∧ hexJob d = some role)) ∧
  (∀ (s : State) (k : Fin 2) (p : Packet) (i : Nat) (t : State), s.inOrder k p i t → headerGood p = true →
    (p.kind = 0x15 → argEnds p 0 = true → p.payload.length = 40 → natAt p.payload 32 8 < 32768 → bitsOf (natAt p.payload 32 8) 7 3 = 0 →
      (t.sec.quoteQ = [] → t.quoteTurn = true → exec (.attest k p) s = .next ((t.signQuote k i p).closeWorn k i)) ∧
      (t.sec.quoteQ ≠ [] ∨ t.quoteTurn = false → exec (.attest k p) s =
        .next ((t.onSec (fun x => { x with quoteQ := x.quoteQ ++ [(8 * k.val + i, p)] })).closeWorn k i)))) ∧
  (∀ (s : State) (n : Nat) (p : Packet) (rest : List (Nat × Packet)), s.awake = true → s.sec.quoteQ = (n, p) :: rest →
    (s.quoteTurn = true → exec .queuedQuoteSigned s = .next ((s.onSec (fun y => { y with quoteQ := rest })).signQuote (n / 8) (n % 8) p)) ∧
    (s.quoteTurn = false → exec .queuedQuoteSigned s = .next s)) ∧
  (∀ (s : State) (k : Fin 2) (p : Packet) (i : Nat) (t : State), s.operatorTakes k p i t → argEnds p 0 = true →
    (∀ (q : Packet) (msg : List Byte), p = { q with payload := q.payload ++ msg } → p.kind = 0x17 → 3 ≤ p.payload.length → 0x21 ≤ natAt p.payload 2 1 → natAt p.payload 2 1 ≤ 0x23 →
      (t.mode = stDraining → natAt p.payload 2 1 = 0x21 →
        exec (.broadcastPacket k q msg) s = .next ((t.answered k i p psState []).closeWorn k i)) ∧
      (t.mode ≠ stDraining ∨ natAt p.payload 2 1 ≠ 0x21 →
        let r := t.broadcast (BitVec.ofNat 8 (natAt p.payload 2 1)) (BitVec.ofNat 16 (natAt p.payload 0 2)) (p.payload.drop 3)
        (r.1 = true → exec (.broadcastPacket k q msg) s = .next ((r.2.answered k i p psOk []).closeWorn k i)) ∧
        (r.1 = false → exec (.broadcastPacket k q msg) s = .next ((r.2.answered k i p psRefused []).closeWorn k i)))) ∧
    (∀ fw sig, p.kind = 0x18 → p.payload = [] →
      let old := SMap.get {} t.watch.slots t.otherSlot
      let x := old.noted t.tick
      let a := t.verified 3 fw x.hadImage
      let b := a.2.verified 4 sig x.hadRecord
      (old.loadedAt = t.tick + 1 → exec (.fwStage k p fw sig) s = .next (((b.2.onWatch (fun w => { w with
        slots := SMap.put {} w.slots t.otherSlot x })).answered k i p (if a.1 && b.1 then psOk else psVerify) []).closeWorn k i)) ∧
      (old.loadedAt ≠ t.tick + 1 → a.1 = true → b.1 = true → exec (.fwStage k p fw sig) s = .next (((b.2.onWatch (fun w => { w with
        slots := SMap.put {} w.slots t.otherSlot { x with staged := true } })).answered k i p psOk []).closeWorn k i)) ∧
      (old.loadedAt ≠ t.tick + 1 → a.1 = false ∨ b.1 = false → exec (.fwStage k p fw sig) s = .next (((b.2.onWatch (fun w => { w with
        slots := SMap.put {} w.slots t.otherSlot {} })).answered k i p psVerify []).closeWorn k i))) ∧
    (p.kind = 0x19 → p.payload = [] →
      ((t.mode ≠ stStandby ∧ t.mode ≠ stLaidUp) ∨ t.inTransition = true ∨ t.admitFirst (8 * k.val + i) = true →
        exec (.fwActivate k p) s = .next ((t.answered k i p psState []).closeWorn k i)) ∧
      (t.mode = stStandby ∨ t.mode = stLaidUp → t.inTransition = false → t.admitFirst (8 * k.val + i) = false →
        (t.staged? = false → exec (.fwActivate k p) s = .next ((t.answered k i p psRefused []).closeWorn k i)) ∧
        (t.staged? = true → exec (.fwActivate k p) s =
          .next ((((t.onWatch (fun w => { w with slots := SMap.put {} w.slots t.otherSlot { SMap.get {} w.slots t.otherSlot with
            staged := false } })).setFld Reg.WCH_BOOT Fld.WCH_BOOT_SLOT t.otherSlot).decideReset 3 rcActivate).closeWorn k i))))) ∧
  (∀ (s : State) (k : Fin 2) (i : Fin 8), s.awake = true → (s.session k i).opened = true →
    (s.since (s.session k i).lastAt (secTicks 10) = true → exec (.sessionIdleTimeout k i) s = .next (s.closeSession k i)) ∧
    (s.since (s.session k i).lastAt (secTicks 10) = false → exec (.sessionIdleTimeout k i) s = .next s)) ∧
  (∀ (x : FlashSlot) (n : Nat), (x.loadedAt = n + 1 → x.noted n = x) ∧
    (x.loadedAt ≠ n + 1 → (x.noted n).hadImage = (x.factory || !x.image.isEmpty) ∧ (x.noted n).hadRecord = x.configRec.isSome ∧
      (x.noted n).image = x.image ∧ (x.noted n).staged = x.staged)) ∧
  (∀ (s : State) (k : Fin 2) (i : Fin 8), s.awake = false ∨ (s.session k i).opened = false → exec (.sessionIdleTimeout k i) s = .next s) ∧
  (∀ (s : State) (k : Fin 2), s.awake = false → exec (.uzoleyLinkTimeout k) s = .next s) ∧
  (∀ s : State, s.awake = false ∨ s.sec.quoteQ = [] → exec .queuedQuoteSigned s = .next s) ∧
  (∀ (s : State) (k : Fin 2) (p : Packet) (c : Chain), p.kind ≠ 0x01 ∨ (p.session = 0 ∧ s.uzoleyUsable k = false) → exec (.hello k p c) s = .next s) ∧
  (∀ (s : State) (k : Fin 2) (p : Packet) (c : Chain), p.kind = 0x01 → p.session = 0 → s.uzoleyUsable k = true →
    headerGood p = false ∨ argEnds p 0 = false ∨ p.gcmOk = false → exec (.hello k p c) s = .next ((s.packetIn k).sendBad k p)) ∧
  (∀ (s : State) (k : Fin 2), s.awake = true →
    exec (.uzoleyLinkTimeout k) s = .next ((List.range 8).foldl (fun (s : State) i => s.closeSession k i) (s.uzoleyDown k)))

/-- A write to LFT_PART takes effect where all four conditions of R102 hold, and else sets PARTREJ (R102). -/
def Obligations.LoftPartition : Prop :=
  ∀ (s : State) (val : Word), s.awake = true →
    let old := s.reg Reg.LFT_PART
    let takes := Fld.LFT_PART_DUMP.get val + Fld.LFT_PART_CAPT.get val + Fld.LFT_PART_HOLD.get val + Fld.LFT_PART_SPILL.get val = 1111 ∧
      (32 ≤ Fld.LFT_PART_HOLD.get val ∧ Fld.LFT_PART_CAPT.get val ≤ 16 ∧ 16 ≤ Fld.LFT_PART_DUMP.get val) ∧
      (∀ r ∈ [(1, Fld.LFT_PART_HOLD), (2, Fld.LFT_PART_SPILL), (3, Fld.LFT_PART_CAPT), (4, Fld.LFT_PART_DUMP)],
        r.2.get val < r.2.get old → s.loftUse r.1 = 0) ∧
      (Fld.LFT_PART_HOLD.get val ≠ Fld.LFT_PART_HOLD.get old → ∀ x : Fin 32, s.portState (spanPort x) = pDark)
    (takes → exec (.lftPartWrite val) s = .next (s.setReg Reg.LFT_PART (pack [(Fld.LFT_PART_DUMP, Fld.LFT_PART_DUMP.get val),
      (Fld.LFT_PART_CAPT, Fld.LFT_PART_CAPT.get val), (Fld.LFT_PART_HOLD, Fld.LFT_PART_HOLD.get val),
      (Fld.LFT_PART_SPILL, Fld.LFT_PART_SPILL.get val), (Fld.LFT_PART_RETRY, 41)]))) ∧
    (¬ takes → exec (.lftPartWrite val) s = .next (s.raise Reg.LFT_EVT 0 11 srcLoft))

/-- A command-list append is placed whole or not at all; a full queue answers QUEUEFULL and is unchanged (R21). -/
def Obligations.CommandListAppend : Prop :=
  ∀ (s : State) (k : Fin 2) (p : Packet) (i : Nat) (t : State) (n : Nat), s.operatorTakes k p i t → p.kind = 0x11 → argEnds p 2 = true →
    argNat p 0 1 < 0x24 → argNat p 1 1 < 8 → p.payload.length = 64 * n → 1 ≤ n → n ≤ 1024 → t.mode ≠ stDraining ∨ argNat p 1 1 = 7 →
    let eng := argNat p 0 1
    let q := argNat p 1 1
    ((t.queue eng q).length + n ≤ 4096 → t.hold eng ≠ 2 → exec (.cmdAppend k p) s =
      .next ((((t.place eng q (8 * k + i) ((List.range n).map (fun j => entryOfBytes (sliceBytes p.payload (64 * j) 64)))).wakeFor eng).answered
        k i p psOk []).closeWorn k i)) ∧
    (SMap.wf [] t.eng.queued = true → ∀ (r : Nat) (l : List Entry), ∃ a b, t.queue eng q = a ++ b ∧
      ((t.place eng q r l).wakeFor eng).queue eng q = a ++ l ++ b) ∧
    (4096 < (t.queue eng q).length + n →
      exec (.cmdAppend k p) s = .next ((t.answered k i p psQueuefull []).closeWorn k i) ∧
      ((t.answered k i p psQueuefull []).closeWorn k i).queue eng q = t.queue eng q)

/-- A write of SEC_SLOT.CONF takes effect from an OPERATOR session on a FREE slot where OPTIONS allow it, and else sets CONFREJ (R448). -/
def Obligations.ConfidentialMode : Prop :=
  (∀ (s : State) (src : Source) (k : Fin 64) (on : Bool), s.mayWrite src = true →
    let takes := (sourceSession src).isSome = true ∧ s.fld (Reg.SEC_SLOT k) Fld.SEC_SLOT_STATE = 0 ∧ s.bindNow k = false ∧ s.watch.record.options.getLsbD 0 = true
    (takes → exec (.confWrite src k on) s = .next (s.setFld (Reg.SEC_SLOT k) Fld.SEC_SLOT_CONF (if on then 1 else 0))) ∧
    (¬ takes → exec (.confWrite src k on) s = .next (s.raise Reg.SEC_EVT 8 11 srcSecurity))) ∧
  (∀ (s : State) (i : Nat) (old : BitVec 512), s.regsOk → tblBits old 0 63 62 = 2 → tblBits (s.entry 1 i).data 0 63 62 = 0 →
    let k := tblBits old 0 5 0
    (s.afterEntry 1 i old).fld (Reg.SEC_SLOT k) Fld.SEC_SLOT_STATE = 0 ∧ (s.afterEntry 1 i old).fld (Reg.SEC_SLOT k) Fld.SEC_SLOT_CONF = 0 ∧
    (∀ j, j ≠ Reg.SEC_SLOT k → (s.afterEntry 1 i old).reg j = s.reg j))

/-- ADMIT is refused with GENMISMATCH where the running image's generation differs from PLANEGEN of its record (R427). -/
def Obligations.GenerationMismatch : Prop :=
  ∀ s : State, s.inTransition = false → s.mode = stStandby ∨ s.mode = stDraining → s.imageGeneration ≠ s.watch.record.planegen →
    exec .admitModule s = .next ((s.setFld Reg.WCH_BOOT Fld.WCH_BOOT_GENMISMATCH 1).setFld Reg.WCH_STATE Fld.WCH_STATE_CMDSTAT 1)

/-- An event sets its bit, counts in its class and writes one log record; a full log overwrites its oldest and sets EVLOGOVF (R382, R384). -/
def Obligations.EventsLogged : Prop :=
  (∀ (s : State) (k bit cls src : Nat), s.regsOk → 1 ≤ cls → cls ≤ 11 → k ≠ Reg.WCH_EVHEAD → k ≠ Reg.WCH_EVCNT cls → k ≠ Reg.WCH_EVT →
    (∀ i, i < 4096 → k ≠ Reg.WCH_EVLOG i) →
    let t := s.raise k bit cls src
    let h := s.fld Reg.WCH_EVHEAD ⟨0, 12⟩
    let before := fun (n : Nat) => s.reg (Reg.WCH_EVLOG ((h + 4096 - n) % 4096))
    let w := pack [(Fld.WCH_EVLOG_TICK, s.tick), (Fld.WCH_EVLOG_CLASS, cls), (Fld.WCH_EVLOG_CANCELLED, 0), (Fld.WCH_EVLOG_SOURCE, src)]
    t.reg k = s.reg k ||| BitVec.ofNat 64 (2 ^ bit) ∧
    t.reg (Reg.WCH_EVCNT cls) = BitVec.ofNat 64 (min ((s.reg (Reg.WCH_EVCNT cls)).toNat + 1) 0xFFFFFFFFFFFF) ∧
    (logLater (before 1) w = false → t.reg (Reg.WCH_EVLOG h) = w ∧ ∀ i, i < 4096 → i ≠ h → t.reg (Reg.WCH_EVLOG i) = s.reg (Reg.WCH_EVLOG i)) ∧
    (logLater (before 1) w = true → logLater (before 2) w = false →
      t.reg (Reg.WCH_EVLOG h) = before 1 ∧ t.reg (Reg.WCH_EVLOG ((h + 4095) % 4096)) = w ∧
      ∀ i, i < 4096 → i ≠ h → i ≠ (h + 4095) % 4096 → t.reg (Reg.WCH_EVLOG i) = s.reg (Reg.WCH_EVLOG i)) ∧
    t.reg Reg.WCH_EVHEAD = BitVec.ofNat 64 ((h + 1) % 4096) ∧
    (s.watch.evUnread < 4096 → t.watch.evUnread = s.watch.evUnread + 1 ∧ t.reg Reg.WCH_EVT = s.reg Reg.WCH_EVT) ∧
    (4096 ≤ s.watch.evUnread → t.watch = s.watch ∧ t.reg Reg.WCH_EVT = s.reg Reg.WCH_EVT ||| Fld.WCH_EVT_EVLOGOVF.word 1) ∧
    (∀ j, j ≠ k → j ≠ Reg.WCH_EVCNT cls → (∀ i, i < 4096 → j ≠ Reg.WCH_EVLOG i) → j ≠ Reg.WCH_EVHEAD → j ≠ Reg.WCH_EVT → t.reg j = s.reg j) ∧
    t = { s with
      regs := t.regs
      watch := { s.watch with evUnread := t.watch.evUnread } } ∧ t.regsOk) ∧
  (∀ a b : Word, logLater a b = true ↔ Fld.WCH_EVLOG_TICK.get a = Fld.WCH_EVLOG_TICK.get b ∧
    (Fld.WCH_EVLOG_CLASS.get b < Fld.WCH_EVLOG_CLASS.get a ∨
      Fld.WCH_EVLOG_CLASS.get a = Fld.WCH_EVLOG_CLASS.get b ∧ Fld.WCH_EVLOG_SOURCE.get b < Fld.WCH_EVLOG_SOURCE.get a))

/-- A completion record lies at CRHEAD, which advances; a full ring gives up its oldest record and sets CROVF (R117, R477). -/
def Obligations.CompletionRings : Prop :=
  (∀ (s : State) (ring : Ring) (w : Word) (refused : Bool), s.regsOk →
    let r := ringRegs ring
    let h := s.fld r.head ⟨0, 8⟩
    let tail := s.fld r.tail ⟨0, 8⟩
    let t := s.ringWrite ring w refused
    t.reg (r.records + 8 * h) = w ∧ t.fld r.head ⟨0, 8⟩ = (h + 1) % 256 ∧
    ((h + 256 - tail) % 256 ≠ 255 → t.reg r.tail = s.reg r.tail) ∧
    ((h + 256 - tail) % 256 = 255 → t.fld r.tail ⟨0, 8⟩ = (tail + 1) % 256 ∧ (t.reg r.evt).getLsbD r.crovf = true) ∧
    (t.reg r.evt).getLsbD r.done = true ∧ (refused = true → (t.reg r.evt).getLsbD r.refused = true) ∧
    (∀ i, i < 256 → i ≠ h → t.reg (r.records + 8 * i) = s.reg (r.records + 8 * i)) ∧ t.regsOk) ∧
  (∀ (s : State) (ring : Ring) (i : Nat), i < 256 →
    let r := ringRegs ring
    let unread := (s.fld r.head ⟨0, 8⟩ + 256 - s.fld r.tail ⟨0, 8⟩) % 256
    let ahead := (i + 256 - s.fld r.tail ⟨0, 8⟩) % 256
    (ahead ≤ unread → s.ringTail ring i = s.setReg r.tail (BitVec.ofNat 64 i)) ∧ (unread < ahead → s.ringTail ring i = s))

/-- A fault record lies at WCH_FRHEAD in R452's layout and goes to every OPERATOR session; within 1 ms of the last it is withheld (R451, R452, R453). -/
def Obligations.FaultRecords : Prop :=
  ∀ (s : State) (r : FaultInfo),
    let key := ((r.unitType * 65536 + r.unit) * 256 + r.register) * 256 + r.cause
    let q := SMap.get {} s.watch.frKeys key
    (q.seen = true → s.since q.lastAt (msTicks 1) = false → s.faultRecord r =
      s.onWatch (fun w => { w with frKeys := SMap.put {} w.frKeys key { q with withheld := q.withheld + 1 } })) ∧
    (q.seen = false ∨ s.since q.lastAt (msTicks 1) = true →
      let h := s.fld Reg.WCH_FRHEAD ⟨0, 10⟩
      let rec0 := beBytes 1 r.cls ++ beBytes 1 r.unitType ++ beBytes 2 r.unit ++ beBytes 1 r.register ++ beBytes 1 r.cause ++
        beBytes 1 r.action ++ beBytes 1 r.flags ++ beBytes 8 s.tick ++ beBytes 8 r.detail.toNat ++
        beBytes 4 s.watch.frSeq.toNat ++ beBytes 1 r.slot ++ beBytes 3 q.withheld
      let placed := ((List.range 4).foldl (fun (s : State) i =>
        s.setReg (Reg.WCH_FR h i) (BitVec.ofNat 64 (beNat (sliceBytes rec0 (8 * i) 8)))) s).setReg Reg.WCH_FRHEAD (BitVec.ofNat 64 ((h + 1) % 1024))
      let full := s.watch.frUnread = 1024
      let counted := if full then placed.bump Reg.WCH_FRLOST 1 else placed
      rec0.length = 32 ∧ s.faultRecord r = (counted.onWatch (fun w => { w with
        frSeq := w.frSeq + 1
        frUnread := if full then 1024 else w.frUnread + 1
        frKeys := SMap.put {} w.frKeys key { lastAt := s.tick, withheld := 0, seen := true } })).pushOperators
          { kind := 0x93, plen := 32, payload := rec0 })

/-- Granary bytes: a write is read back, leaves every other byte and its version, and keeps the memory's canonical form (R284, R285, R287, R314). -/
def Obligations.GranaryMemory : Prop :=
  (∀ (s : State) (a : Nat) (l : List Byte) (v : BitVec 32),
    SMap.wf 0 s.grn.mem = true → SMap.wf 0 s.grn.ver = true → SMap.wf 0 s.grn.bad = true →
    let t := s.gWrite a l v
    (∀ i, i < l.length → t.gByte (a + i) = l.getD i 0) ∧
    (∀ b, b < a ∨ a + l.length ≤ b → t.gByte b = s.gByte b) ∧
    (∀ b, l ≠ [] → blockOf a ≤ b → b ≤ blockOf (a + l.length - 1) → SMap.get 0 t.grn.ver b = v.toNat ∧ SMap.get 0 t.grn.bad b = 0) ∧
    (∀ b, l = [] ∨ b < blockOf a ∨ blockOf (a + l.length - 1) < b →
      SMap.get 0 t.grn.ver b = SMap.get 0 s.grn.ver b ∧ SMap.get 0 t.grn.bad b = SMap.get 0 s.grn.bad b) ∧
    SMap.wf 0 t.grn.mem = true ∧ SMap.wf 0 t.grn.ver = true ∧ SMap.wf 0 t.grn.bad = true ∧
    t = { s with grn := { s.grn with
      mem := t.grn.mem
      ver := t.grn.ver
      bad := t.grn.bad } }) ∧
  (∀ (s : State) (a : Nat), s.grn.mem = [] → s.gByte a = 0)

/-- After reset every store is in canonical form, and an idle module in OFF stays as it is (R285, R385). -/
def Obligations.ResetCanonical : Prop :=
  State.reset.regsOk ∧ SMap.wf 0 State.reset.grn.mem = true ∧ SMap.wf 0 State.reset.grn.ver = true ∧ SMap.wf {} State.reset.tbl.entries = true ∧
  State.reset.pending = [] ∧
  (∀ s : State, s.pending = [] → s.mode = 0 → step s = .next s) ∧
  (∀ s : State, s.pending = [] → s.mode = stWatch → ∃ t, step s = .next t ∧ t.tick = s.tick + 1 ∧
    t = { s with
      tick := t.tick
      clock := { s.clock with
        fine := t.clock.fine
        slewLeft := t.clock.slewLeft } })

/-- In WATCH and OFF no command but those of the Watch domain has any effect, and a module stays there under all others (R385, R388). -/
def Obligations.WatchIsQuiet : Prop :=
  (∀ (s : State) (c : Instr), s.awake = false → (∀ u, s.isCut u = false) → c.ofWatch = false → exec c s = .next s) ∧
  (∀ s t : State, s.awake = false → (∀ u, SMap.get 0 s.watch.cutAt u ≤ s.tick) → (∀ c ∈ s.pending, c.ofWatch = false) →
    step s = .next t →
      t.awake = false ∧ (∀ u, SMap.get 0 t.watch.cutAt u ≤ t.tick) ∧ (∀ c ∈ t.pending, c.ofWatch = false) ∧
      t.pending = s.pending.tail ∧
      t = { s with
        pending := t.pending
        tick := t.tick
        clock := t.clock })

/-- Every command has an effect, be it none, in every state: no command ends in a fault or a refusal (R10, R21, R50, R100, R287). -/
def Obligations.ExecTotal : Prop :=
  (∀ (c : Instr) (s : State), ∃ t, exec c s = .next t) ∧ ∀ s : State, ∃ t, step s = .next t
end

