-- ==== Sys2Proof/Laws/Mill.lean ====
section
/-! SUPPORT. Mill rows: the major opcode of a decoded word, and that a row whose instruction issues runs it. -/

namespace Sys2Proof.Machine

/-- The opcode of an instruction. -/
def MInstr.row : MInstr → Nat
  | .br _ _ _ _ => 0x01
  | .loop _ _ _ => 0x02
  | .wait _ _ _ => 0x03
  | .sig _ _ _ => 0x04
  | .halt _ _ _ => 0x05
  | .frx _ _ _ _ _ => 0x10
  | .ftx _ _ _ _ => 0x11
  | .alu op _ _ _ _ _ _ _ _ _ _ => op.major.toNat
  | .vmxd _ _ _ _ _ _ => 0x30
  | .vmxe _ _ _ _ _ _ => 0x31
  | .vtkm _ _ _ => 0x38
  | .tally _ _ => 0x40
  | .ldb _ _ _ _ => 0x48
  | .stb _ _ _ _ => 0x49
  | .shb _ => 0x50
  | .shc _ _ => 0x51
  | .sha _ _ => 0x52

theorem aluOf_major (m : BitVec 8) (h : 0x20 ≤ m ∧ m ≤ 0x26) : (aluOf m).major = m := by
  revert m; decide

theorem ite_some {α : Type} {c : Prop} [Decidable c] {a i : α} {b : Option α} (h : (if c then some a else b) = some i) :
    (c ∧ a = i) ∨ b = some i := by
  by_cases hc : c
  · rw [if_pos hc] at h; exact .inl ⟨hc, by cases h; rfl⟩
  · rw [if_neg hc] at h; exact .inr h

/-- The fields of a word are those of the opcode in its top byte. -/
theorem millFields_row {w : Word} {i : MInstr} (h : millFields w = some i) : w.toNat / 2 ^ 56 = i.row := by
  have e : w.toNat / 2 ^ 56 = (w.extractLsb' 56 8).toNat := by
    rw [BitVec.extractLsb'_toNat, Nat.shiftRight_eq_div_pow]
    have := w.isLt
    omega
  rw [e]
  simp only [millFields] at h
  generalize w.extractLsb' 56 8 = m at h ⊢
  rcases ite_some h with ⟨hm, rfl⟩ | h
  · rw [hm]; rfl
  rcases ite_some h with ⟨hm, rfl⟩ | h
  · rw [hm]; rfl
  rcases ite_some h with ⟨hm, rfl⟩ | h
  · rw [hm]; rfl
  rcases ite_some h with ⟨hm, rfl⟩ | h
  · rw [hm]; rfl
  rcases ite_some h with ⟨hm, rfl⟩ | h
  · rw [hm]; rfl
  rcases ite_some h with ⟨hm, rfl⟩ | h
  · rw [hm]; rfl
  rcases ite_some h with ⟨hm, rfl⟩ | h
  · rw [hm]; rfl
  rcases ite_some h with ⟨hm, rfl⟩ | h
  · simp only [MInstr.row, aluOf_major _ hm]
  rcases ite_some h with ⟨hm, rfl⟩ | h
  · rw [hm]; rfl
  rcases ite_some h with ⟨hm, rfl⟩ | h
  · rw [hm]; rfl
  rcases ite_some h with ⟨hm, rfl⟩ | h
  · rw [hm]; rfl
  rcases ite_some h with ⟨hm, rfl⟩ | h
  · rw [hm]; rfl
  rcases ite_some h with ⟨hm, rfl⟩ | h
  · rw [hm]; rfl
  rcases ite_some h with ⟨hm, rfl⟩ | h
  · rw [hm]; rfl
  rcases ite_some h with ⟨hm, rfl⟩ | h
  · rw [hm]; rfl
  rcases ite_some h with ⟨hm, rfl⟩ | h
  · rw [hm]; rfl
  rcases ite_some h with ⟨hm, rfl⟩ | h
  · rw [hm]; rfl
  cases h

theorem decodeMill_some {w : Word} {i : MInstr} (h : decodeMill w = some i) :
    millFields w = some i ∧ encodeMill i = w ∧ i.good = true := by
  simp only [decodeMill] at h
  split at h
  · split at h
    · cases h; exact ⟨by assumption, by simp_all, by simp_all⟩
    · cases h
  · cases h

/-- An instruction in time passes the watchdog's two checks. -/
theorem Prep.inTime_spec {p : Prep} (h : p.inTime = true) :
    (p.early < watchdogCycles ∨ (p.early ≤ watchdogCycles ∧ p.i.row = 5)) ∧ (p.at < watchdogCycles ∨ p.i.row = 5) := by
  have h' := h; simp only [Prep.inTime] at h'
  split at h'
  · rename_i hi
    simp only [decide_eq_true_eq] at h'
    exact ⟨.inr ⟨h', by rw [hi]; rfl⟩, .inr (by rw [hi]; rfl)⟩
  · simp only [decide_eq_true_eq] at h'
    exact ⟨.inl h'.1, .inl h'.2⟩

/-- A row whose core issues its instruction runs it. -/
theorem State.millRow_issues {s : State} {n : Fin 16} {c : Fin 96} {i : MInstr} {p : Prep} (h : s.issues n c i p)
    (run : Prep → State → State) : s.millRow n c p.e i.row run = run p s := by
  obtain ⟨d, w, e, ⟨h1, h2, h3, h4, h5⟩, hd, hse, hre, hinj, hp, hs, hi, hf, hw⟩ := h
  obtain ⟨hm, henc, -⟩ := decodeMill_some hd
  have hrow := millFields_row hm
  have hres : reservedMajor w = false := by simp [reservedMajor, hm]
  have hpe : p.e = e := by rw [hp]; rfl
  have hpi : p.i = i := by rw [hp]; rfl
  have hearly : max (s.core n.val c.val).tm.issue ((s.core n.val c.val).tm.retired - 1) = p.early := by rw [hp]; rfl
  obtain ⟨w1, w2⟩ := Prep.inTime_spec hw
  rw [hpi] at w1 w2
  have hinj' : ¬ ((s.core n.val c.val).inject = true ∧ i.checked = true) := by
    rcases hinj with h | h <;> simp [h]
  rw [hpe]
  simp only [State.millRow, h4, h5]
  rw [if_pos ⟨h1, h2, by simp [h3]⟩]
  simp only [hres, Bool.false_eq_true, if_false, hrow, ne_eq, not_true_eq_false, hearly]
  rw [if_neg (by omega), if_neg hse]
  simp only [hs, Bool.false_eq_true, if_false, hd, State.takeInject, if_neg hinj', ← hp]
  have re : (e == MillErr.regEcc) = false := by simpa using hre
  simp only [hi, hf, re, Bool.false_and, Bool.false_eq_true, if_false, or_false]
  rw [if_neg (by omega)]

end Sys2Proof.Machine
end

