-- ==== Sys2Proof/Laws/Data.lean ====
section
/-! SUPPORT. The laws of the sparse map: what `put` makes `get` answer, and that `put` keeps the
canonical form, so that equal contents are equal data. -/

namespace Sys2Proof

variable {α : Type}

theorem SMap.get_cons (d : α) (k : Nat) (v : α) (m : SMap α) (i : Nat) :
    SMap.get d ((k, v) :: m) i = if i = k then v else if i < k then d else SMap.get d m i := rfl

/-- What was put is what is read. -/
@[simp] theorem SMap.get_put_self [DecidableEq α] (d : α) (m : SMap α) (i : Nat) (x : α)
    (h : SMap.wf d m = true) : SMap.get d (SMap.put d m i x) i = x := by
  suffices key : ∀ (m : SMap α) (b : Option Nat), SMap.wfFrom d b m = true →
      SMap.get d (SMap.put d m i x) i = x from key m none h
  intro m
  induction m with
  | nil => intro b _; by_cases hx : x = d <;> simp [SMap.put, SMap.get, hx]
  | cons p m ih =>
    obtain ⟨k, v⟩ := p
    intro b hb
    simp only [SMap.wfFrom, Bool.and_eq_true] at hb
    obtain ⟨⟨_, _⟩, hm⟩ := hb
    by_cases hik : i = k
    · subst hik
      by_cases hx : x = d
      · subst hx
        simp only [SMap.put, if_true]
        cases m with
        | nil => rfl
        | cons q m =>
          obtain ⟨l, w⟩ := q
          simp only [SMap.wfFrom, Bool.and_eq_true, decide_eq_true_eq] at hm
          have : i < l := hm.1.1
          rw [SMap.get_cons, if_neg (by omega), if_pos this]
      · simp [SMap.put, hx, SMap.get]
    · by_cases hlt : i < k
      · by_cases hx : x = d
        · simp [SMap.put, hik, hlt, hx, SMap.get]
        · simp [SMap.put, hik, hlt, hx, SMap.get]
      · simp only [SMap.put, hik, hlt, if_false, SMap.get_cons]
        exact ih _ hm

/-- Every other key reads as before. -/
theorem SMap.get_put_ne [DecidableEq α] (d : α) (m : SMap α) (i j : Nat) (x : α)
    (hij : j ≠ i) (h : SMap.wf d m = true) : SMap.get d (SMap.put d m i x) j = SMap.get d m j := by
  suffices key : ∀ (m : SMap α) (b : Option Nat), SMap.wfFrom d b m = true →
      SMap.get d (SMap.put d m i x) j = SMap.get d m j from key m none h
  intro m
  induction m with
  | nil =>
    intro b _
    by_cases hx : x = d
    · simp [SMap.put, hx]
    · simp [SMap.put, hx, SMap.get, hij]
  | cons p m ih =>
    obtain ⟨k, v⟩ := p
    intro b hb
    simp only [SMap.wfFrom, Bool.and_eq_true] at hb
    obtain ⟨⟨_, _⟩, hm⟩ := hb
    by_cases hik : i = k
    · subst hik
      by_cases hx : x = d
      · subst hx
        simp only [SMap.put, if_true, SMap.get_cons, if_neg hij]
        by_cases hlt : j < i
        · rw [if_pos hlt]
          cases m with
          | nil => rfl
          | cons q m =>
            obtain ⟨l, w⟩ := q
            simp only [SMap.wfFrom, Bool.and_eq_true, decide_eq_true_eq] at hm
            have : i < l := hm.1.1
            rw [SMap.get_cons, if_neg (by omega), if_pos (by omega)]
        · rw [if_neg hlt]
      · simp [SMap.put, hx, SMap.get, hij]
    · by_cases hlt : i < k
      · by_cases hx : x = d
        · simp [SMap.put, hik, hlt, hx]
        · simp only [SMap.put, hik, hlt, hx, if_false, if_true, SMap.get_cons, if_neg hij]
          by_cases hji : j < i
          · rw [if_pos hji, if_neg (by omega), if_pos (by omega)]
          · rw [if_neg hji]
      · simp only [SMap.put, hik, hlt, if_false, SMap.get_cons, ih _ hm]

/-- `put` keeps the canonical form above a bound below the key. -/
theorem SMap.put_wfFrom [DecidableEq α] (d : α) (i : Nat) (x : α) (m : SMap α) (b : Option Nat)
    (h : SMap.wfFrom d b m = true) (hb : ∀ y, b = some y → y < i) :
    SMap.wfFrom d b (SMap.put d m i x) = true := by
  induction m generalizing b with
  | nil =>
    by_cases hx : x = d
    · simp [SMap.put, hx, SMap.wfFrom]
    · cases b with
      | none => simp [SMap.put, hx, SMap.wfFrom]
      | some y => simp [SMap.put, hx, SMap.wfFrom, hb y rfl]
  | cons p m ih =>
    obtain ⟨k, v⟩ := p
    simp only [SMap.wfFrom, Bool.and_eq_true, decide_eq_true_eq] at h
    obtain ⟨⟨hk, hv⟩, hm⟩ := h
    have hbk : ∀ y, b = some y → y < k := by
      intro y hy
      subst hy
      simpa using hk
    by_cases hik : i = k
    · subst hik
      by_cases hx : x = d
      · simp only [SMap.put, hx, if_true]
        cases m with
        | nil => rfl
        | cons q m =>
          obtain ⟨l, w⟩ := q
          simp only [SMap.wfFrom, Bool.and_eq_true, decide_eq_true_eq] at hm ⊢
          have hl : i < l := hm.1.1
          refine ⟨⟨?_, hm.1.2⟩, hm.2⟩
          cases b with
          | none => rfl
          | some y => simp [lt_trans (hbk y rfl) hl]
      · simp only [SMap.put, hx, if_true, if_false, SMap.wfFrom, Bool.and_eq_true, decide_eq_true_eq]
        exact ⟨⟨hk, hx⟩, hm⟩
    · by_cases hlt : i < k
      · by_cases hx : x = d
        · simp only [SMap.put, hik, hlt, hx, if_true, if_false, SMap.wfFrom, Bool.and_eq_true, decide_eq_true_eq]
          exact ⟨⟨hk, hv⟩, hm⟩
        · simp only [SMap.put, hik, hlt, hx, if_true, if_false, SMap.wfFrom, Bool.and_eq_true, decide_eq_true_eq]
          refine ⟨⟨?_, hx⟩, ⟨⟨?_, hv⟩, hm⟩⟩
          · cases b with
            | none => rfl
            | some y => simpa using hb y rfl
          · simpa using hlt
      · simp only [SMap.put, hik, hlt, if_false, SMap.wfFrom, Bool.and_eq_true, decide_eq_true_eq]
        refine ⟨⟨hk, hv⟩, ih (some k) hm ?_⟩
        intro y hy
        cases hy
        omega

/-- `put` keeps the canonical form. -/
theorem SMap.put_wf [DecidableEq α] (d : α) (m : SMap α) (i : Nat) (x : α)
    (h : SMap.wf d m = true) : SMap.wf d (SMap.put d m i x) = true :=
  SMap.put_wfFrom d i x m none h (fun _ hy => by cases hy)

/-- An unlisted map reads as the default. -/
@[simp] theorem SMap.get_nil (d : α) (i : Nat) : SMap.get d ([] : SMap α) i = d := rfl

@[simp] theorem SMap.wf_nil [DecidableEq α] (d : α) : SMap.wf d ([] : SMap α) = true := rfl

end Sys2Proof
end

