-- ==== Sys2Proof/Laws/State.lean ====
section
/-! SUPPORT. One lemma per field per update of the state: every one holds by unfolding, so that no later
proof unfolds a record update. -/

namespace Sys2Proof.Machine

variable (s : State)

/-! ### `State.onClock` -/

@[simp] theorem State.onClock_pending (f : Clock → Clock) : (s.onClock f).pending = s.pending := rfl
@[simp] theorem State.onClock_freeCtr (f : Clock → Clock) : (s.onClock f).freeCtr = s.freeCtr := rfl
@[simp] theorem State.onClock_tick (f : Clock → Clock) : (s.onClock f).tick = s.tick := rfl
@[simp] theorem State.onClock_regs (f : Clock → Clock) : (s.onClock f).regs = s.regs := rfl
@[simp] theorem State.onClock_readData (f : Clock → Clock) : (s.onClock f).readData = s.readData := rfl
@[simp] theorem State.onClock_accessStatus (f : Clock → Clock) : (s.onClock f).accessStatus = s.accessStatus := rfl
@[simp] theorem State.onClock_out (f : Clock → Clock) : (s.onClock f).out = s.out := rfl
@[simp] theorem State.onClock_clock (f : Clock → Clock) : (s.onClock f).clock = f s.clock := rfl
@[simp] theorem State.onClock_port (f : Clock → Clock) : (s.onClock f).port = s.port := rfl
@[simp] theorem State.onClock_sw (f : Clock → Clock) : (s.onClock f).sw = s.sw := rfl
@[simp] theorem State.onClock_tbl (f : Clock → Clock) : (s.onClock f).tbl = s.tbl := rfl
@[simp] theorem State.onClock_eng (f : Clock → Clock) : (s.onClock f).eng = s.eng := rfl
@[simp] theorem State.onClock_red (f : Clock → Clock) : (s.onClock f).red = s.red := rfl
@[simp] theorem State.onClock_mill (f : Clock → Clock) : (s.onClock f).mill = s.mill := rfl
@[simp] theorem State.onClock_grn (f : Clock → Clock) : (s.onClock f).grn = s.grn := rfl
@[simp] theorem State.onClock_ma (f : Clock → Clock) : (s.onClock f).ma = s.ma := rfl
@[simp] theorem State.onClock_tele (f : Clock → Clock) : (s.onClock f).tele = s.tele := rfl
@[simp] theorem State.onClock_uz (f : Clock → Clock) : (s.onClock f).uz = s.uz := rfl
@[simp] theorem State.onClock_watch (f : Clock → Clock) : (s.onClock f).watch = s.watch := rfl
@[simp] theorem State.onClock_bic (f : Clock → Clock) : (s.onClock f).bic = s.bic := rfl
@[simp] theorem State.onClock_sec (f : Clock → Clock) : (s.onClock f).sec = s.sec := rfl
@[simp] theorem State.onClock_test (f : Clock → Clock) : (s.onClock f).test = s.test := rfl

/-! ### `State.onPort` -/

@[simp] theorem State.onPort_pending (f : Ports → Ports) : (s.onPort f).pending = s.pending := rfl
@[simp] theorem State.onPort_freeCtr (f : Ports → Ports) : (s.onPort f).freeCtr = s.freeCtr := rfl
@[simp] theorem State.onPort_tick (f : Ports → Ports) : (s.onPort f).tick = s.tick := rfl
@[simp] theorem State.onPort_regs (f : Ports → Ports) : (s.onPort f).regs = s.regs := rfl
@[simp] theorem State.onPort_readData (f : Ports → Ports) : (s.onPort f).readData = s.readData := rfl
@[simp] theorem State.onPort_accessStatus (f : Ports → Ports) : (s.onPort f).accessStatus = s.accessStatus := rfl
@[simp] theorem State.onPort_out (f : Ports → Ports) : (s.onPort f).out = s.out := rfl
@[simp] theorem State.onPort_clock (f : Ports → Ports) : (s.onPort f).clock = s.clock := rfl
@[simp] theorem State.onPort_port (f : Ports → Ports) : (s.onPort f).port = f s.port := rfl
@[simp] theorem State.onPort_sw (f : Ports → Ports) : (s.onPort f).sw = s.sw := rfl
@[simp] theorem State.onPort_tbl (f : Ports → Ports) : (s.onPort f).tbl = s.tbl := rfl
@[simp] theorem State.onPort_eng (f : Ports → Ports) : (s.onPort f).eng = s.eng := rfl
@[simp] theorem State.onPort_red (f : Ports → Ports) : (s.onPort f).red = s.red := rfl
@[simp] theorem State.onPort_mill (f : Ports → Ports) : (s.onPort f).mill = s.mill := rfl
@[simp] theorem State.onPort_grn (f : Ports → Ports) : (s.onPort f).grn = s.grn := rfl
@[simp] theorem State.onPort_ma (f : Ports → Ports) : (s.onPort f).ma = s.ma := rfl
@[simp] theorem State.onPort_tele (f : Ports → Ports) : (s.onPort f).tele = s.tele := rfl
@[simp] theorem State.onPort_uz (f : Ports → Ports) : (s.onPort f).uz = s.uz := rfl
@[simp] theorem State.onPort_watch (f : Ports → Ports) : (s.onPort f).watch = s.watch := rfl
@[simp] theorem State.onPort_bic (f : Ports → Ports) : (s.onPort f).bic = s.bic := rfl
@[simp] theorem State.onPort_sec (f : Ports → Ports) : (s.onPort f).sec = s.sec := rfl
@[simp] theorem State.onPort_test (f : Ports → Ports) : (s.onPort f).test = s.test := rfl

/-! ### `State.onSw` -/

@[simp] theorem State.onSw_pending (f : Switch → Switch) : (s.onSw f).pending = s.pending := rfl
@[simp] theorem State.onSw_freeCtr (f : Switch → Switch) : (s.onSw f).freeCtr = s.freeCtr := rfl
@[simp] theorem State.onSw_tick (f : Switch → Switch) : (s.onSw f).tick = s.tick := rfl
@[simp] theorem State.onSw_regs (f : Switch → Switch) : (s.onSw f).regs = s.regs := rfl
@[simp] theorem State.onSw_readData (f : Switch → Switch) : (s.onSw f).readData = s.readData := rfl
@[simp] theorem State.onSw_accessStatus (f : Switch → Switch) : (s.onSw f).accessStatus = s.accessStatus := rfl
@[simp] theorem State.onSw_out (f : Switch → Switch) : (s.onSw f).out = s.out := rfl
@[simp] theorem State.onSw_clock (f : Switch → Switch) : (s.onSw f).clock = s.clock := rfl
@[simp] theorem State.onSw_port (f : Switch → Switch) : (s.onSw f).port = s.port := rfl
@[simp] theorem State.onSw_sw (f : Switch → Switch) : (s.onSw f).sw = f s.sw := rfl
@[simp] theorem State.onSw_tbl (f : Switch → Switch) : (s.onSw f).tbl = s.tbl := rfl
@[simp] theorem State.onSw_eng (f : Switch → Switch) : (s.onSw f).eng = s.eng := rfl
@[simp] theorem State.onSw_red (f : Switch → Switch) : (s.onSw f).red = s.red := rfl
@[simp] theorem State.onSw_mill (f : Switch → Switch) : (s.onSw f).mill = s.mill := rfl
@[simp] theorem State.onSw_grn (f : Switch → Switch) : (s.onSw f).grn = s.grn := rfl
@[simp] theorem State.onSw_ma (f : Switch → Switch) : (s.onSw f).ma = s.ma := rfl
@[simp] theorem State.onSw_tele (f : Switch → Switch) : (s.onSw f).tele = s.tele := rfl
@[simp] theorem State.onSw_uz (f : Switch → Switch) : (s.onSw f).uz = s.uz := rfl
@[simp] theorem State.onSw_watch (f : Switch → Switch) : (s.onSw f).watch = s.watch := rfl
@[simp] theorem State.onSw_bic (f : Switch → Switch) : (s.onSw f).bic = s.bic := rfl
@[simp] theorem State.onSw_sec (f : Switch → Switch) : (s.onSw f).sec = s.sec := rfl
@[simp] theorem State.onSw_test (f : Switch → Switch) : (s.onSw f).test = s.test := rfl

/-! ### `State.onTbl` -/

@[simp] theorem State.onTbl_pending (f : Tables → Tables) : (s.onTbl f).pending = s.pending := rfl
@[simp] theorem State.onTbl_freeCtr (f : Tables → Tables) : (s.onTbl f).freeCtr = s.freeCtr := rfl
@[simp] theorem State.onTbl_tick (f : Tables → Tables) : (s.onTbl f).tick = s.tick := rfl
@[simp] theorem State.onTbl_regs (f : Tables → Tables) : (s.onTbl f).regs = s.regs := rfl
@[simp] theorem State.onTbl_readData (f : Tables → Tables) : (s.onTbl f).readData = s.readData := rfl
@[simp] theorem State.onTbl_accessStatus (f : Tables → Tables) : (s.onTbl f).accessStatus = s.accessStatus := rfl
@[simp] theorem State.onTbl_out (f : Tables → Tables) : (s.onTbl f).out = s.out := rfl
@[simp] theorem State.onTbl_clock (f : Tables → Tables) : (s.onTbl f).clock = s.clock := rfl
@[simp] theorem State.onTbl_port (f : Tables → Tables) : (s.onTbl f).port = s.port := rfl
@[simp] theorem State.onTbl_sw (f : Tables → Tables) : (s.onTbl f).sw = s.sw := rfl
@[simp] theorem State.onTbl_tbl (f : Tables → Tables) : (s.onTbl f).tbl = f s.tbl := rfl
@[simp] theorem State.onTbl_eng (f : Tables → Tables) : (s.onTbl f).eng = s.eng := rfl
@[simp] theorem State.onTbl_red (f : Tables → Tables) : (s.onTbl f).red = s.red := rfl
@[simp] theorem State.onTbl_mill (f : Tables → Tables) : (s.onTbl f).mill = s.mill := rfl
@[simp] theorem State.onTbl_grn (f : Tables → Tables) : (s.onTbl f).grn = s.grn := rfl
@[simp] theorem State.onTbl_ma (f : Tables → Tables) : (s.onTbl f).ma = s.ma := rfl
@[simp] theorem State.onTbl_tele (f : Tables → Tables) : (s.onTbl f).tele = s.tele := rfl
@[simp] theorem State.onTbl_uz (f : Tables → Tables) : (s.onTbl f).uz = s.uz := rfl
@[simp] theorem State.onTbl_watch (f : Tables → Tables) : (s.onTbl f).watch = s.watch := rfl
@[simp] theorem State.onTbl_bic (f : Tables → Tables) : (s.onTbl f).bic = s.bic := rfl
@[simp] theorem State.onTbl_sec (f : Tables → Tables) : (s.onTbl f).sec = s.sec := rfl
@[simp] theorem State.onTbl_test (f : Tables → Tables) : (s.onTbl f).test = s.test := rfl

/-! ### `State.onEng` -/

@[simp] theorem State.onEng_pending (f : Engines → Engines) : (s.onEng f).pending = s.pending := rfl
@[simp] theorem State.onEng_freeCtr (f : Engines → Engines) : (s.onEng f).freeCtr = s.freeCtr := rfl
@[simp] theorem State.onEng_tick (f : Engines → Engines) : (s.onEng f).tick = s.tick := rfl
@[simp] theorem State.onEng_regs (f : Engines → Engines) : (s.onEng f).regs = s.regs := rfl
@[simp] theorem State.onEng_readData (f : Engines → Engines) : (s.onEng f).readData = s.readData := rfl
@[simp] theorem State.onEng_accessStatus (f : Engines → Engines) : (s.onEng f).accessStatus = s.accessStatus := rfl
@[simp] theorem State.onEng_out (f : Engines → Engines) : (s.onEng f).out = s.out := rfl
@[simp] theorem State.onEng_clock (f : Engines → Engines) : (s.onEng f).clock = s.clock := rfl
@[simp] theorem State.onEng_port (f : Engines → Engines) : (s.onEng f).port = s.port := rfl
@[simp] theorem State.onEng_sw (f : Engines → Engines) : (s.onEng f).sw = s.sw := rfl
@[simp] theorem State.onEng_tbl (f : Engines → Engines) : (s.onEng f).tbl = s.tbl := rfl
@[simp] theorem State.onEng_eng (f : Engines → Engines) : (s.onEng f).eng = f s.eng := rfl
@[simp] theorem State.onEng_red (f : Engines → Engines) : (s.onEng f).red = s.red := rfl
@[simp] theorem State.onEng_mill (f : Engines → Engines) : (s.onEng f).mill = s.mill := rfl
@[simp] theorem State.onEng_grn (f : Engines → Engines) : (s.onEng f).grn = s.grn := rfl
@[simp] theorem State.onEng_ma (f : Engines → Engines) : (s.onEng f).ma = s.ma := rfl
@[simp] theorem State.onEng_tele (f : Engines → Engines) : (s.onEng f).tele = s.tele := rfl
@[simp] theorem State.onEng_uz (f : Engines → Engines) : (s.onEng f).uz = s.uz := rfl
@[simp] theorem State.onEng_watch (f : Engines → Engines) : (s.onEng f).watch = s.watch := rfl
@[simp] theorem State.onEng_bic (f : Engines → Engines) : (s.onEng f).bic = s.bic := rfl
@[simp] theorem State.onEng_sec (f : Engines → Engines) : (s.onEng f).sec = s.sec := rfl
@[simp] theorem State.onEng_test (f : Engines → Engines) : (s.onEng f).test = s.test := rfl

/-! ### `State.onRed` -/

@[simp] theorem State.onRed_pending (f : Reduction → Reduction) : (s.onRed f).pending = s.pending := rfl
@[simp] theorem State.onRed_freeCtr (f : Reduction → Reduction) : (s.onRed f).freeCtr = s.freeCtr := rfl
@[simp] theorem State.onRed_tick (f : Reduction → Reduction) : (s.onRed f).tick = s.tick := rfl
@[simp] theorem State.onRed_regs (f : Reduction → Reduction) : (s.onRed f).regs = s.regs := rfl
@[simp] theorem State.onRed_readData (f : Reduction → Reduction) : (s.onRed f).readData = s.readData := rfl
@[simp] theorem State.onRed_accessStatus (f : Reduction → Reduction) : (s.onRed f).accessStatus = s.accessStatus := rfl
@[simp] theorem State.onRed_out (f : Reduction → Reduction) : (s.onRed f).out = s.out := rfl
@[simp] theorem State.onRed_clock (f : Reduction → Reduction) : (s.onRed f).clock = s.clock := rfl
@[simp] theorem State.onRed_port (f : Reduction → Reduction) : (s.onRed f).port = s.port := rfl
@[simp] theorem State.onRed_sw (f : Reduction → Reduction) : (s.onRed f).sw = s.sw := rfl
@[simp] theorem State.onRed_tbl (f : Reduction → Reduction) : (s.onRed f).tbl = s.tbl := rfl
@[simp] theorem State.onRed_eng (f : Reduction → Reduction) : (s.onRed f).eng = s.eng := rfl
@[simp] theorem State.onRed_red (f : Reduction → Reduction) : (s.onRed f).red = f s.red := rfl
@[simp] theorem State.onRed_mill (f : Reduction → Reduction) : (s.onRed f).mill = s.mill := rfl
@[simp] theorem State.onRed_grn (f : Reduction → Reduction) : (s.onRed f).grn = s.grn := rfl
@[simp] theorem State.onRed_ma (f : Reduction → Reduction) : (s.onRed f).ma = s.ma := rfl
@[simp] theorem State.onRed_tele (f : Reduction → Reduction) : (s.onRed f).tele = s.tele := rfl
@[simp] theorem State.onRed_uz (f : Reduction → Reduction) : (s.onRed f).uz = s.uz := rfl
@[simp] theorem State.onRed_watch (f : Reduction → Reduction) : (s.onRed f).watch = s.watch := rfl
@[simp] theorem State.onRed_bic (f : Reduction → Reduction) : (s.onRed f).bic = s.bic := rfl
@[simp] theorem State.onRed_sec (f : Reduction → Reduction) : (s.onRed f).sec = s.sec := rfl
@[simp] theorem State.onRed_test (f : Reduction → Reduction) : (s.onRed f).test = s.test := rfl

/-! ### `State.onMill` -/

@[simp] theorem State.onMill_pending (f : Mill → Mill) : (s.onMill f).pending = s.pending := rfl
@[simp] theorem State.onMill_freeCtr (f : Mill → Mill) : (s.onMill f).freeCtr = s.freeCtr := rfl
@[simp] theorem State.onMill_tick (f : Mill → Mill) : (s.onMill f).tick = s.tick := rfl
@[simp] theorem State.onMill_regs (f : Mill → Mill) : (s.onMill f).regs = s.regs := rfl
@[simp] theorem State.onMill_readData (f : Mill → Mill) : (s.onMill f).readData = s.readData := rfl
@[simp] theorem State.onMill_accessStatus (f : Mill → Mill) : (s.onMill f).accessStatus = s.accessStatus := rfl
@[simp] theorem State.onMill_out (f : Mill → Mill) : (s.onMill f).out = s.out := rfl
@[simp] theorem State.onMill_clock (f : Mill → Mill) : (s.onMill f).clock = s.clock := rfl
@[simp] theorem State.onMill_port (f : Mill → Mill) : (s.onMill f).port = s.port := rfl
@[simp] theorem State.onMill_sw (f : Mill → Mill) : (s.onMill f).sw = s.sw := rfl
@[simp] theorem State.onMill_tbl (f : Mill → Mill) : (s.onMill f).tbl = s.tbl := rfl
@[simp] theorem State.onMill_eng (f : Mill → Mill) : (s.onMill f).eng = s.eng := rfl
@[simp] theorem State.onMill_red (f : Mill → Mill) : (s.onMill f).red = s.red := rfl
@[simp] theorem State.onMill_mill (f : Mill → Mill) : (s.onMill f).mill = f s.mill := rfl
@[simp] theorem State.onMill_grn (f : Mill → Mill) : (s.onMill f).grn = s.grn := rfl
@[simp] theorem State.onMill_ma (f : Mill → Mill) : (s.onMill f).ma = s.ma := rfl
@[simp] theorem State.onMill_tele (f : Mill → Mill) : (s.onMill f).tele = s.tele := rfl
@[simp] theorem State.onMill_uz (f : Mill → Mill) : (s.onMill f).uz = s.uz := rfl
@[simp] theorem State.onMill_watch (f : Mill → Mill) : (s.onMill f).watch = s.watch := rfl
@[simp] theorem State.onMill_bic (f : Mill → Mill) : (s.onMill f).bic = s.bic := rfl
@[simp] theorem State.onMill_sec (f : Mill → Mill) : (s.onMill f).sec = s.sec := rfl
@[simp] theorem State.onMill_test (f : Mill → Mill) : (s.onMill f).test = s.test := rfl

/-! ### `State.onGrn` -/

@[simp] theorem State.onGrn_pending (f : Granary → Granary) : (s.onGrn f).pending = s.pending := rfl
@[simp] theorem State.onGrn_freeCtr (f : Granary → Granary) : (s.onGrn f).freeCtr = s.freeCtr := rfl
@[simp] theorem State.onGrn_tick (f : Granary → Granary) : (s.onGrn f).tick = s.tick := rfl
@[simp] theorem State.onGrn_regs (f : Granary → Granary) : (s.onGrn f).regs = s.regs := rfl
@[simp] theorem State.onGrn_readData (f : Granary → Granary) : (s.onGrn f).readData = s.readData := rfl
@[simp] theorem State.onGrn_accessStatus (f : Granary → Granary) : (s.onGrn f).accessStatus = s.accessStatus := rfl
@[simp] theorem State.onGrn_out (f : Granary → Granary) : (s.onGrn f).out = s.out := rfl
@[simp] theorem State.onGrn_clock (f : Granary → Granary) : (s.onGrn f).clock = s.clock := rfl
@[simp] theorem State.onGrn_port (f : Granary → Granary) : (s.onGrn f).port = s.port := rfl
@[simp] theorem State.onGrn_sw (f : Granary → Granary) : (s.onGrn f).sw = s.sw := rfl
@[simp] theorem State.onGrn_tbl (f : Granary → Granary) : (s.onGrn f).tbl = s.tbl := rfl
@[simp] theorem State.onGrn_eng (f : Granary → Granary) : (s.onGrn f).eng = s.eng := rfl
@[simp] theorem State.onGrn_red (f : Granary → Granary) : (s.onGrn f).red = s.red := rfl
@[simp] theorem State.onGrn_mill (f : Granary → Granary) : (s.onGrn f).mill = s.mill := rfl
@[simp] theorem State.onGrn_grn (f : Granary → Granary) : (s.onGrn f).grn = f s.grn := rfl
@[simp] theorem State.onGrn_ma (f : Granary → Granary) : (s.onGrn f).ma = s.ma := rfl
@[simp] theorem State.onGrn_tele (f : Granary → Granary) : (s.onGrn f).tele = s.tele := rfl
@[simp] theorem State.onGrn_uz (f : Granary → Granary) : (s.onGrn f).uz = s.uz := rfl
@[simp] theorem State.onGrn_watch (f : Granary → Granary) : (s.onGrn f).watch = s.watch := rfl
@[simp] theorem State.onGrn_bic (f : Granary → Granary) : (s.onGrn f).bic = s.bic := rfl
@[simp] theorem State.onGrn_sec (f : Granary → Granary) : (s.onGrn f).sec = s.sec := rfl
@[simp] theorem State.onGrn_test (f : Granary → Granary) : (s.onGrn f).test = s.test := rfl

/-! ### `State.onMa` -/

@[simp] theorem State.onMa_pending (f : Access → Access) : (s.onMa f).pending = s.pending := rfl
@[simp] theorem State.onMa_freeCtr (f : Access → Access) : (s.onMa f).freeCtr = s.freeCtr := rfl
@[simp] theorem State.onMa_tick (f : Access → Access) : (s.onMa f).tick = s.tick := rfl
@[simp] theorem State.onMa_regs (f : Access → Access) : (s.onMa f).regs = s.regs := rfl
@[simp] theorem State.onMa_readData (f : Access → Access) : (s.onMa f).readData = s.readData := rfl
@[simp] theorem State.onMa_accessStatus (f : Access → Access) : (s.onMa f).accessStatus = s.accessStatus := rfl
@[simp] theorem State.onMa_out (f : Access → Access) : (s.onMa f).out = s.out := rfl
@[simp] theorem State.onMa_clock (f : Access → Access) : (s.onMa f).clock = s.clock := rfl
@[simp] theorem State.onMa_port (f : Access → Access) : (s.onMa f).port = s.port := rfl
@[simp] theorem State.onMa_sw (f : Access → Access) : (s.onMa f).sw = s.sw := rfl
@[simp] theorem State.onMa_tbl (f : Access → Access) : (s.onMa f).tbl = s.tbl := rfl
@[simp] theorem State.onMa_eng (f : Access → Access) : (s.onMa f).eng = s.eng := rfl
@[simp] theorem State.onMa_red (f : Access → Access) : (s.onMa f).red = s.red := rfl
@[simp] theorem State.onMa_mill (f : Access → Access) : (s.onMa f).mill = s.mill := rfl
@[simp] theorem State.onMa_grn (f : Access → Access) : (s.onMa f).grn = s.grn := rfl
@[simp] theorem State.onMa_ma (f : Access → Access) : (s.onMa f).ma = f s.ma := rfl
@[simp] theorem State.onMa_tele (f : Access → Access) : (s.onMa f).tele = s.tele := rfl
@[simp] theorem State.onMa_uz (f : Access → Access) : (s.onMa f).uz = s.uz := rfl
@[simp] theorem State.onMa_watch (f : Access → Access) : (s.onMa f).watch = s.watch := rfl
@[simp] theorem State.onMa_bic (f : Access → Access) : (s.onMa f).bic = s.bic := rfl
@[simp] theorem State.onMa_sec (f : Access → Access) : (s.onMa f).sec = s.sec := rfl
@[simp] theorem State.onMa_test (f : Access → Access) : (s.onMa f).test = s.test := rfl

/-! ### `State.onTele` -/

@[simp] theorem State.onTele_pending (f : Tele → Tele) : (s.onTele f).pending = s.pending := rfl
@[simp] theorem State.onTele_freeCtr (f : Tele → Tele) : (s.onTele f).freeCtr = s.freeCtr := rfl
@[simp] theorem State.onTele_tick (f : Tele → Tele) : (s.onTele f).tick = s.tick := rfl
@[simp] theorem State.onTele_regs (f : Tele → Tele) : (s.onTele f).regs = s.regs := rfl
@[simp] theorem State.onTele_readData (f : Tele → Tele) : (s.onTele f).readData = s.readData := rfl
@[simp] theorem State.onTele_accessStatus (f : Tele → Tele) : (s.onTele f).accessStatus = s.accessStatus := rfl
@[simp] theorem State.onTele_out (f : Tele → Tele) : (s.onTele f).out = s.out := rfl
@[simp] theorem State.onTele_clock (f : Tele → Tele) : (s.onTele f).clock = s.clock := rfl
@[simp] theorem State.onTele_port (f : Tele → Tele) : (s.onTele f).port = s.port := rfl
@[simp] theorem State.onTele_sw (f : Tele → Tele) : (s.onTele f).sw = s.sw := rfl
@[simp] theorem State.onTele_tbl (f : Tele → Tele) : (s.onTele f).tbl = s.tbl := rfl
@[simp] theorem State.onTele_eng (f : Tele → Tele) : (s.onTele f).eng = s.eng := rfl
@[simp] theorem State.onTele_red (f : Tele → Tele) : (s.onTele f).red = s.red := rfl
@[simp] theorem State.onTele_mill (f : Tele → Tele) : (s.onTele f).mill = s.mill := rfl
@[simp] theorem State.onTele_grn (f : Tele → Tele) : (s.onTele f).grn = s.grn := rfl
@[simp] theorem State.onTele_ma (f : Tele → Tele) : (s.onTele f).ma = s.ma := rfl
@[simp] theorem State.onTele_tele (f : Tele → Tele) : (s.onTele f).tele = f s.tele := rfl
@[simp] theorem State.onTele_uz (f : Tele → Tele) : (s.onTele f).uz = s.uz := rfl
@[simp] theorem State.onTele_watch (f : Tele → Tele) : (s.onTele f).watch = s.watch := rfl
@[simp] theorem State.onTele_bic (f : Tele → Tele) : (s.onTele f).bic = s.bic := rfl
@[simp] theorem State.onTele_sec (f : Tele → Tele) : (s.onTele f).sec = s.sec := rfl
@[simp] theorem State.onTele_test (f : Tele → Tele) : (s.onTele f).test = s.test := rfl

/-! ### `State.onUz` -/

@[simp] theorem State.onUz_pending (f : Uzoley → Uzoley) : (s.onUz f).pending = s.pending := rfl
@[simp] theorem State.onUz_freeCtr (f : Uzoley → Uzoley) : (s.onUz f).freeCtr = s.freeCtr := rfl
@[simp] theorem State.onUz_tick (f : Uzoley → Uzoley) : (s.onUz f).tick = s.tick := rfl
@[simp] theorem State.onUz_regs (f : Uzoley → Uzoley) : (s.onUz f).regs = s.regs := rfl
@[simp] theorem State.onUz_readData (f : Uzoley → Uzoley) : (s.onUz f).readData = s.readData := rfl
@[simp] theorem State.onUz_accessStatus (f : Uzoley → Uzoley) : (s.onUz f).accessStatus = s.accessStatus := rfl
@[simp] theorem State.onUz_out (f : Uzoley → Uzoley) : (s.onUz f).out = s.out := rfl
@[simp] theorem State.onUz_clock (f : Uzoley → Uzoley) : (s.onUz f).clock = s.clock := rfl
@[simp] theorem State.onUz_port (f : Uzoley → Uzoley) : (s.onUz f).port = s.port := rfl
@[simp] theorem State.onUz_sw (f : Uzoley → Uzoley) : (s.onUz f).sw = s.sw := rfl
@[simp] theorem State.onUz_tbl (f : Uzoley → Uzoley) : (s.onUz f).tbl = s.tbl := rfl
@[simp] theorem State.onUz_eng (f : Uzoley → Uzoley) : (s.onUz f).eng = s.eng := rfl
@[simp] theorem State.onUz_red (f : Uzoley → Uzoley) : (s.onUz f).red = s.red := rfl
@[simp] theorem State.onUz_mill (f : Uzoley → Uzoley) : (s.onUz f).mill = s.mill := rfl
@[simp] theorem State.onUz_grn (f : Uzoley → Uzoley) : (s.onUz f).grn = s.grn := rfl
@[simp] theorem State.onUz_ma (f : Uzoley → Uzoley) : (s.onUz f).ma = s.ma := rfl
@[simp] theorem State.onUz_tele (f : Uzoley → Uzoley) : (s.onUz f).tele = s.tele := rfl
@[simp] theorem State.onUz_uz (f : Uzoley → Uzoley) : (s.onUz f).uz = f s.uz := rfl
@[simp] theorem State.onUz_watch (f : Uzoley → Uzoley) : (s.onUz f).watch = s.watch := rfl
@[simp] theorem State.onUz_bic (f : Uzoley → Uzoley) : (s.onUz f).bic = s.bic := rfl
@[simp] theorem State.onUz_sec (f : Uzoley → Uzoley) : (s.onUz f).sec = s.sec := rfl
@[simp] theorem State.onUz_test (f : Uzoley → Uzoley) : (s.onUz f).test = s.test := rfl

/-! ### `State.onWatch` -/

@[simp] theorem State.onWatch_pending (f : Watch → Watch) : (s.onWatch f).pending = s.pending := rfl
@[simp] theorem State.onWatch_freeCtr (f : Watch → Watch) : (s.onWatch f).freeCtr = s.freeCtr := rfl
@[simp] theorem State.onWatch_tick (f : Watch → Watch) : (s.onWatch f).tick = s.tick := rfl
@[simp] theorem State.onWatch_regs (f : Watch → Watch) : (s.onWatch f).regs = s.regs := rfl
@[simp] theorem State.onWatch_readData (f : Watch → Watch) : (s.onWatch f).readData = s.readData := rfl
@[simp] theorem State.onWatch_accessStatus (f : Watch → Watch) : (s.onWatch f).accessStatus = s.accessStatus := rfl
@[simp] theorem State.onWatch_out (f : Watch → Watch) : (s.onWatch f).out = s.out := rfl
@[simp] theorem State.onWatch_clock (f : Watch → Watch) : (s.onWatch f).clock = s.clock := rfl
@[simp] theorem State.onWatch_port (f : Watch → Watch) : (s.onWatch f).port = s.port := rfl
@[simp] theorem State.onWatch_sw (f : Watch → Watch) : (s.onWatch f).sw = s.sw := rfl
@[simp] theorem State.onWatch_tbl (f : Watch → Watch) : (s.onWatch f).tbl = s.tbl := rfl
@[simp] theorem State.onWatch_eng (f : Watch → Watch) : (s.onWatch f).eng = s.eng := rfl
@[simp] theorem State.onWatch_red (f : Watch → Watch) : (s.onWatch f).red = s.red := rfl
@[simp] theorem State.onWatch_mill (f : Watch → Watch) : (s.onWatch f).mill = s.mill := rfl
@[simp] theorem State.onWatch_grn (f : Watch → Watch) : (s.onWatch f).grn = s.grn := rfl
@[simp] theorem State.onWatch_ma (f : Watch → Watch) : (s.onWatch f).ma = s.ma := rfl
@[simp] theorem State.onWatch_tele (f : Watch → Watch) : (s.onWatch f).tele = s.tele := rfl
@[simp] theorem State.onWatch_uz (f : Watch → Watch) : (s.onWatch f).uz = s.uz := rfl
@[simp] theorem State.onWatch_watch (f : Watch → Watch) : (s.onWatch f).watch = f s.watch := rfl
@[simp] theorem State.onWatch_bic (f : Watch → Watch) : (s.onWatch f).bic = s.bic := rfl
@[simp] theorem State.onWatch_sec (f : Watch → Watch) : (s.onWatch f).sec = s.sec := rfl
@[simp] theorem State.onWatch_test (f : Watch → Watch) : (s.onWatch f).test = s.test := rfl

/-! ### `State.onBic` -/

@[simp] theorem State.onBic_pending (f : Bic → Bic) : (s.onBic f).pending = s.pending := rfl
@[simp] theorem State.onBic_freeCtr (f : Bic → Bic) : (s.onBic f).freeCtr = s.freeCtr := rfl
@[simp] theorem State.onBic_tick (f : Bic → Bic) : (s.onBic f).tick = s.tick := rfl
@[simp] theorem State.onBic_regs (f : Bic → Bic) : (s.onBic f).regs = s.regs := rfl
@[simp] theorem State.onBic_readData (f : Bic → Bic) : (s.onBic f).readData = s.readData := rfl
@[simp] theorem State.onBic_accessStatus (f : Bic → Bic) : (s.onBic f).accessStatus = s.accessStatus := rfl
@[simp] theorem State.onBic_out (f : Bic → Bic) : (s.onBic f).out = s.out := rfl
@[simp] theorem State.onBic_clock (f : Bic → Bic) : (s.onBic f).clock = s.clock := rfl
@[simp] theorem State.onBic_port (f : Bic → Bic) : (s.onBic f).port = s.port := rfl
@[simp] theorem State.onBic_sw (f : Bic → Bic) : (s.onBic f).sw = s.sw := rfl
@[simp] theorem State.onBic_tbl (f : Bic → Bic) : (s.onBic f).tbl = s.tbl := rfl
@[simp] theorem State.onBic_eng (f : Bic → Bic) : (s.onBic f).eng = s.eng := rfl
@[simp] theorem State.onBic_red (f : Bic → Bic) : (s.onBic f).red = s.red := rfl
@[simp] theorem State.onBic_mill (f : Bic → Bic) : (s.onBic f).mill = s.mill := rfl
@[simp] theorem State.onBic_grn (f : Bic → Bic) : (s.onBic f).grn = s.grn := rfl
@[simp] theorem State.onBic_ma (f : Bic → Bic) : (s.onBic f).ma = s.ma := rfl
@[simp] theorem State.onBic_tele (f : Bic → Bic) : (s.onBic f).tele = s.tele := rfl
@[simp] theorem State.onBic_uz (f : Bic → Bic) : (s.onBic f).uz = s.uz := rfl
@[simp] theorem State.onBic_watch (f : Bic → Bic) : (s.onBic f).watch = s.watch := rfl
@[simp] theorem State.onBic_bic (f : Bic → Bic) : (s.onBic f).bic = f s.bic := rfl
@[simp] theorem State.onBic_sec (f : Bic → Bic) : (s.onBic f).sec = s.sec := rfl
@[simp] theorem State.onBic_test (f : Bic → Bic) : (s.onBic f).test = s.test := rfl

/-! ### `State.onSec` -/

@[simp] theorem State.onSec_pending (f : Sec → Sec) : (s.onSec f).pending = s.pending := rfl
@[simp] theorem State.onSec_freeCtr (f : Sec → Sec) : (s.onSec f).freeCtr = s.freeCtr := rfl
@[simp] theorem State.onSec_tick (f : Sec → Sec) : (s.onSec f).tick = s.tick := rfl
@[simp] theorem State.onSec_regs (f : Sec → Sec) : (s.onSec f).regs = s.regs := rfl
@[simp] theorem State.onSec_readData (f : Sec → Sec) : (s.onSec f).readData = s.readData := rfl
@[simp] theorem State.onSec_accessStatus (f : Sec → Sec) : (s.onSec f).accessStatus = s.accessStatus := rfl
@[simp] theorem State.onSec_out (f : Sec → Sec) : (s.onSec f).out = s.out := rfl
@[simp] theorem State.onSec_clock (f : Sec → Sec) : (s.onSec f).clock = s.clock := rfl
@[simp] theorem State.onSec_port (f : Sec → Sec) : (s.onSec f).port = s.port := rfl
@[simp] theorem State.onSec_sw (f : Sec → Sec) : (s.onSec f).sw = s.sw := rfl
@[simp] theorem State.onSec_tbl (f : Sec → Sec) : (s.onSec f).tbl = s.tbl := rfl
@[simp] theorem State.onSec_eng (f : Sec → Sec) : (s.onSec f).eng = s.eng := rfl
@[simp] theorem State.onSec_red (f : Sec → Sec) : (s.onSec f).red = s.red := rfl
@[simp] theorem State.onSec_mill (f : Sec → Sec) : (s.onSec f).mill = s.mill := rfl
@[simp] theorem State.onSec_grn (f : Sec → Sec) : (s.onSec f).grn = s.grn := rfl
@[simp] theorem State.onSec_ma (f : Sec → Sec) : (s.onSec f).ma = s.ma := rfl
@[simp] theorem State.onSec_tele (f : Sec → Sec) : (s.onSec f).tele = s.tele := rfl
@[simp] theorem State.onSec_uz (f : Sec → Sec) : (s.onSec f).uz = s.uz := rfl
@[simp] theorem State.onSec_watch (f : Sec → Sec) : (s.onSec f).watch = s.watch := rfl
@[simp] theorem State.onSec_bic (f : Sec → Sec) : (s.onSec f).bic = s.bic := rfl
@[simp] theorem State.onSec_sec (f : Sec → Sec) : (s.onSec f).sec = f s.sec := rfl
@[simp] theorem State.onSec_test (f : Sec → Sec) : (s.onSec f).test = s.test := rfl

/-! ### `State.onTest` -/

@[simp] theorem State.onTest_pending (f : Tests → Tests) : (s.onTest f).pending = s.pending := rfl
@[simp] theorem State.onTest_freeCtr (f : Tests → Tests) : (s.onTest f).freeCtr = s.freeCtr := rfl
@[simp] theorem State.onTest_tick (f : Tests → Tests) : (s.onTest f).tick = s.tick := rfl
@[simp] theorem State.onTest_regs (f : Tests → Tests) : (s.onTest f).regs = s.regs := rfl
@[simp] theorem State.onTest_readData (f : Tests → Tests) : (s.onTest f).readData = s.readData := rfl
@[simp] theorem State.onTest_accessStatus (f : Tests → Tests) : (s.onTest f).accessStatus = s.accessStatus := rfl
@[simp] theorem State.onTest_out (f : Tests → Tests) : (s.onTest f).out = s.out := rfl
@[simp] theorem State.onTest_clock (f : Tests → Tests) : (s.onTest f).clock = s.clock := rfl
@[simp] theorem State.onTest_port (f : Tests → Tests) : (s.onTest f).port = s.port := rfl
@[simp] theorem State.onTest_sw (f : Tests → Tests) : (s.onTest f).sw = s.sw := rfl
@[simp] theorem State.onTest_tbl (f : Tests → Tests) : (s.onTest f).tbl = s.tbl := rfl
@[simp] theorem State.onTest_eng (f : Tests → Tests) : (s.onTest f).eng = s.eng := rfl
@[simp] theorem State.onTest_red (f : Tests → Tests) : (s.onTest f).red = s.red := rfl
@[simp] theorem State.onTest_mill (f : Tests → Tests) : (s.onTest f).mill = s.mill := rfl
@[simp] theorem State.onTest_grn (f : Tests → Tests) : (s.onTest f).grn = s.grn := rfl
@[simp] theorem State.onTest_ma (f : Tests → Tests) : (s.onTest f).ma = s.ma := rfl
@[simp] theorem State.onTest_tele (f : Tests → Tests) : (s.onTest f).tele = s.tele := rfl
@[simp] theorem State.onTest_uz (f : Tests → Tests) : (s.onTest f).uz = s.uz := rfl
@[simp] theorem State.onTest_watch (f : Tests → Tests) : (s.onTest f).watch = s.watch := rfl
@[simp] theorem State.onTest_bic (f : Tests → Tests) : (s.onTest f).bic = s.bic := rfl
@[simp] theorem State.onTest_sec (f : Tests → Tests) : (s.onTest f).sec = s.sec := rfl
@[simp] theorem State.onTest_test (f : Tests → Tests) : (s.onTest f).test = f s.test := rfl

/-! ### `State.setReg` -/

@[simp] theorem State.setReg_pending (k : Nat) (v : Word) : (s.setReg k v).pending = s.pending := rfl
@[simp] theorem State.setReg_freeCtr (k : Nat) (v : Word) : (s.setReg k v).freeCtr = s.freeCtr := rfl
@[simp] theorem State.setReg_tick (k : Nat) (v : Word) : (s.setReg k v).tick = s.tick := rfl
@[simp] theorem State.setReg_readData (k : Nat) (v : Word) : (s.setReg k v).readData = s.readData := rfl
@[simp] theorem State.setReg_accessStatus (k : Nat) (v : Word) : (s.setReg k v).accessStatus = s.accessStatus := rfl
@[simp] theorem State.setReg_out (k : Nat) (v : Word) : (s.setReg k v).out = s.out := rfl
@[simp] theorem State.setReg_clock (k : Nat) (v : Word) : (s.setReg k v).clock = s.clock := rfl
@[simp] theorem State.setReg_port (k : Nat) (v : Word) : (s.setReg k v).port = s.port := rfl
@[simp] theorem State.setReg_sw (k : Nat) (v : Word) : (s.setReg k v).sw = s.sw := rfl
@[simp] theorem State.setReg_tbl (k : Nat) (v : Word) : (s.setReg k v).tbl = s.tbl := rfl
@[simp] theorem State.setReg_eng (k : Nat) (v : Word) : (s.setReg k v).eng = s.eng := rfl
@[simp] theorem State.setReg_red (k : Nat) (v : Word) : (s.setReg k v).red = s.red := rfl
@[simp] theorem State.setReg_mill (k : Nat) (v : Word) : (s.setReg k v).mill = s.mill := rfl
@[simp] theorem State.setReg_grn (k : Nat) (v : Word) : (s.setReg k v).grn = s.grn := rfl
@[simp] theorem State.setReg_ma (k : Nat) (v : Word) : (s.setReg k v).ma = s.ma := rfl
@[simp] theorem State.setReg_tele (k : Nat) (v : Word) : (s.setReg k v).tele = s.tele := rfl
@[simp] theorem State.setReg_uz (k : Nat) (v : Word) : (s.setReg k v).uz = s.uz := rfl
@[simp] theorem State.setReg_watch (k : Nat) (v : Word) : (s.setReg k v).watch = s.watch := rfl
@[simp] theorem State.setReg_bic (k : Nat) (v : Word) : (s.setReg k v).bic = s.bic := rfl
@[simp] theorem State.setReg_sec (k : Nat) (v : Word) : (s.setReg k v).sec = s.sec := rfl
@[simp] theorem State.setReg_test (k : Nat) (v : Word) : (s.setReg k v).test = s.test := rfl

/-! ### `State.setFld` -/

@[simp] theorem State.setFld_pending (k : Nat) (f : Fld) (v : Nat) : (s.setFld k f v).pending = s.pending := rfl
@[simp] theorem State.setFld_freeCtr (k : Nat) (f : Fld) (v : Nat) : (s.setFld k f v).freeCtr = s.freeCtr := rfl
@[simp] theorem State.setFld_tick (k : Nat) (f : Fld) (v : Nat) : (s.setFld k f v).tick = s.tick := rfl
@[simp] theorem State.setFld_readData (k : Nat) (f : Fld) (v : Nat) : (s.setFld k f v).readData = s.readData := rfl
@[simp] theorem State.setFld_accessStatus (k : Nat) (f : Fld) (v : Nat) : (s.setFld k f v).accessStatus = s.accessStatus := rfl
@[simp] theorem State.setFld_out (k : Nat) (f : Fld) (v : Nat) : (s.setFld k f v).out = s.out := rfl
@[simp] theorem State.setFld_clock (k : Nat) (f : Fld) (v : Nat) : (s.setFld k f v).clock = s.clock := rfl
@[simp] theorem State.setFld_port (k : Nat) (f : Fld) (v : Nat) : (s.setFld k f v).port = s.port := rfl
@[simp] theorem State.setFld_sw (k : Nat) (f : Fld) (v : Nat) : (s.setFld k f v).sw = s.sw := rfl
@[simp] theorem State.setFld_tbl (k : Nat) (f : Fld) (v : Nat) : (s.setFld k f v).tbl = s.tbl := rfl
@[simp] theorem State.setFld_eng (k : Nat) (f : Fld) (v : Nat) : (s.setFld k f v).eng = s.eng := rfl
@[simp] theorem State.setFld_red (k : Nat) (f : Fld) (v : Nat) : (s.setFld k f v).red = s.red := rfl
@[simp] theorem State.setFld_mill (k : Nat) (f : Fld) (v : Nat) : (s.setFld k f v).mill = s.mill := rfl
@[simp] theorem State.setFld_grn (k : Nat) (f : Fld) (v : Nat) : (s.setFld k f v).grn = s.grn := rfl
@[simp] theorem State.setFld_ma (k : Nat) (f : Fld) (v : Nat) : (s.setFld k f v).ma = s.ma := rfl
@[simp] theorem State.setFld_tele (k : Nat) (f : Fld) (v : Nat) : (s.setFld k f v).tele = s.tele := rfl
@[simp] theorem State.setFld_uz (k : Nat) (f : Fld) (v : Nat) : (s.setFld k f v).uz = s.uz := rfl
@[simp] theorem State.setFld_watch (k : Nat) (f : Fld) (v : Nat) : (s.setFld k f v).watch = s.watch := rfl
@[simp] theorem State.setFld_bic (k : Nat) (f : Fld) (v : Nat) : (s.setFld k f v).bic = s.bic := rfl
@[simp] theorem State.setFld_sec (k : Nat) (f : Fld) (v : Nat) : (s.setFld k f v).sec = s.sec := rfl
@[simp] theorem State.setFld_test (k : Nat) (f : Fld) (v : Nat) : (s.setFld k f v).test = s.test := rfl

/-! ### `State.setBits` -/

@[simp] theorem State.setBits_pending (k : Nat) (m : Word) : (s.setBits k m).pending = s.pending := rfl
@[simp] theorem State.setBits_freeCtr (k : Nat) (m : Word) : (s.setBits k m).freeCtr = s.freeCtr := rfl
@[simp] theorem State.setBits_tick (k : Nat) (m : Word) : (s.setBits k m).tick = s.tick := rfl
@[simp] theorem State.setBits_readData (k : Nat) (m : Word) : (s.setBits k m).readData = s.readData := rfl
@[simp] theorem State.setBits_accessStatus (k : Nat) (m : Word) : (s.setBits k m).accessStatus = s.accessStatus := rfl
@[simp] theorem State.setBits_out (k : Nat) (m : Word) : (s.setBits k m).out = s.out := rfl
@[simp] theorem State.setBits_clock (k : Nat) (m : Word) : (s.setBits k m).clock = s.clock := rfl
@[simp] theorem State.setBits_port (k : Nat) (m : Word) : (s.setBits k m).port = s.port := rfl
@[simp] theorem State.setBits_sw (k : Nat) (m : Word) : (s.setBits k m).sw = s.sw := rfl
@[simp] theorem State.setBits_tbl (k : Nat) (m : Word) : (s.setBits k m).tbl = s.tbl := rfl
@[simp] theorem State.setBits_eng (k : Nat) (m : Word) : (s.setBits k m).eng = s.eng := rfl
@[simp] theorem State.setBits_red (k : Nat) (m : Word) : (s.setBits k m).red = s.red := rfl
@[simp] theorem State.setBits_mill (k : Nat) (m : Word) : (s.setBits k m).mill = s.mill := rfl
@[simp] theorem State.setBits_grn (k : Nat) (m : Word) : (s.setBits k m).grn = s.grn := rfl
@[simp] theorem State.setBits_ma (k : Nat) (m : Word) : (s.setBits k m).ma = s.ma := rfl
@[simp] theorem State.setBits_tele (k : Nat) (m : Word) : (s.setBits k m).tele = s.tele := rfl
@[simp] theorem State.setBits_uz (k : Nat) (m : Word) : (s.setBits k m).uz = s.uz := rfl
@[simp] theorem State.setBits_watch (k : Nat) (m : Word) : (s.setBits k m).watch = s.watch := rfl
@[simp] theorem State.setBits_bic (k : Nat) (m : Word) : (s.setBits k m).bic = s.bic := rfl
@[simp] theorem State.setBits_sec (k : Nat) (m : Word) : (s.setBits k m).sec = s.sec := rfl
@[simp] theorem State.setBits_test (k : Nat) (m : Word) : (s.setBits k m).test = s.test := rfl

/-! ### `State.bump` -/

@[simp] theorem State.bump_pending (k : Nat) (n : Nat) : (s.bump k n).pending = s.pending := rfl
@[simp] theorem State.bump_freeCtr (k : Nat) (n : Nat) : (s.bump k n).freeCtr = s.freeCtr := rfl
@[simp] theorem State.bump_tick (k : Nat) (n : Nat) : (s.bump k n).tick = s.tick := rfl
@[simp] theorem State.bump_readData (k : Nat) (n : Nat) : (s.bump k n).readData = s.readData := rfl
@[simp] theorem State.bump_accessStatus (k : Nat) (n : Nat) : (s.bump k n).accessStatus = s.accessStatus := rfl
@[simp] theorem State.bump_out (k : Nat) (n : Nat) : (s.bump k n).out = s.out := rfl
@[simp] theorem State.bump_clock (k : Nat) (n : Nat) : (s.bump k n).clock = s.clock := rfl
@[simp] theorem State.bump_port (k : Nat) (n : Nat) : (s.bump k n).port = s.port := rfl
@[simp] theorem State.bump_sw (k : Nat) (n : Nat) : (s.bump k n).sw = s.sw := rfl
@[simp] theorem State.bump_tbl (k : Nat) (n : Nat) : (s.bump k n).tbl = s.tbl := rfl
@[simp] theorem State.bump_eng (k : Nat) (n : Nat) : (s.bump k n).eng = s.eng := rfl
@[simp] theorem State.bump_red (k : Nat) (n : Nat) : (s.bump k n).red = s.red := rfl
@[simp] theorem State.bump_mill (k : Nat) (n : Nat) : (s.bump k n).mill = s.mill := rfl
@[simp] theorem State.bump_grn (k : Nat) (n : Nat) : (s.bump k n).grn = s.grn := rfl
@[simp] theorem State.bump_ma (k : Nat) (n : Nat) : (s.bump k n).ma = s.ma := rfl
@[simp] theorem State.bump_tele (k : Nat) (n : Nat) : (s.bump k n).tele = s.tele := rfl
@[simp] theorem State.bump_uz (k : Nat) (n : Nat) : (s.bump k n).uz = s.uz := rfl
@[simp] theorem State.bump_watch (k : Nat) (n : Nat) : (s.bump k n).watch = s.watch := rfl
@[simp] theorem State.bump_bic (k : Nat) (n : Nat) : (s.bump k n).bic = s.bic := rfl
@[simp] theorem State.bump_sec (k : Nat) (n : Nat) : (s.bump k n).sec = s.sec := rfl
@[simp] theorem State.bump_test (k : Nat) (n : Nat) : (s.bump k n).test = s.test := rfl

/-! ### `State.emit` -/

@[simp] theorem State.emit_pending (e : Emission) : (s.emit e).pending = s.pending := rfl
@[simp] theorem State.emit_freeCtr (e : Emission) : (s.emit e).freeCtr = s.freeCtr := rfl
@[simp] theorem State.emit_tick (e : Emission) : (s.emit e).tick = s.tick := rfl
@[simp] theorem State.emit_regs (e : Emission) : (s.emit e).regs = s.regs := rfl
@[simp] theorem State.emit_readData (e : Emission) : (s.emit e).readData = s.readData := rfl
@[simp] theorem State.emit_accessStatus (e : Emission) : (s.emit e).accessStatus = s.accessStatus := rfl
@[simp] theorem State.emit_out (e : Emission) : (s.emit e).out = e :: s.out := rfl
@[simp] theorem State.emit_clock (e : Emission) : (s.emit e).clock = s.clock := rfl
@[simp] theorem State.emit_port (e : Emission) : (s.emit e).port = s.port := rfl
@[simp] theorem State.emit_sw (e : Emission) : (s.emit e).sw = s.sw := rfl
@[simp] theorem State.emit_tbl (e : Emission) : (s.emit e).tbl = s.tbl := rfl
@[simp] theorem State.emit_eng (e : Emission) : (s.emit e).eng = s.eng := rfl
@[simp] theorem State.emit_red (e : Emission) : (s.emit e).red = s.red := rfl
@[simp] theorem State.emit_mill (e : Emission) : (s.emit e).mill = s.mill := rfl
@[simp] theorem State.emit_grn (e : Emission) : (s.emit e).grn = s.grn := rfl
@[simp] theorem State.emit_ma (e : Emission) : (s.emit e).ma = s.ma := rfl
@[simp] theorem State.emit_tele (e : Emission) : (s.emit e).tele = s.tele := rfl
@[simp] theorem State.emit_uz (e : Emission) : (s.emit e).uz = s.uz := rfl
@[simp] theorem State.emit_watch (e : Emission) : (s.emit e).watch = s.watch := rfl
@[simp] theorem State.emit_bic (e : Emission) : (s.emit e).bic = s.bic := rfl
@[simp] theorem State.emit_sec (e : Emission) : (s.emit e).sec = s.sec := rfl
@[simp] theorem State.emit_test (e : Emission) : (s.emit e).test = s.test := rfl

/-! ### `State.answer` -/

@[simp] theorem State.answer_pending (v : Word) (st : Nat) : (s.answer v st).pending = s.pending := rfl
@[simp] theorem State.answer_freeCtr (v : Word) (st : Nat) : (s.answer v st).freeCtr = s.freeCtr := rfl
@[simp] theorem State.answer_tick (v : Word) (st : Nat) : (s.answer v st).tick = s.tick := rfl
@[simp] theorem State.answer_regs (v : Word) (st : Nat) : (s.answer v st).regs = s.regs := rfl
@[simp] theorem State.answer_readData (v : Word) (st : Nat) : (s.answer v st).readData = v := rfl
@[simp] theorem State.answer_accessStatus (v : Word) (st : Nat) : (s.answer v st).accessStatus = st := rfl
@[simp] theorem State.answer_out (v : Word) (st : Nat) : (s.answer v st).out = s.out := rfl
@[simp] theorem State.answer_clock (v : Word) (st : Nat) : (s.answer v st).clock = s.clock := rfl
@[simp] theorem State.answer_port (v : Word) (st : Nat) : (s.answer v st).port = s.port := rfl
@[simp] theorem State.answer_sw (v : Word) (st : Nat) : (s.answer v st).sw = s.sw := rfl
@[simp] theorem State.answer_tbl (v : Word) (st : Nat) : (s.answer v st).tbl = s.tbl := rfl
@[simp] theorem State.answer_eng (v : Word) (st : Nat) : (s.answer v st).eng = s.eng := rfl
@[simp] theorem State.answer_red (v : Word) (st : Nat) : (s.answer v st).red = s.red := rfl
@[simp] theorem State.answer_mill (v : Word) (st : Nat) : (s.answer v st).mill = s.mill := rfl
@[simp] theorem State.answer_grn (v : Word) (st : Nat) : (s.answer v st).grn = s.grn := rfl
@[simp] theorem State.answer_ma (v : Word) (st : Nat) : (s.answer v st).ma = s.ma := rfl
@[simp] theorem State.answer_tele (v : Word) (st : Nat) : (s.answer v st).tele = s.tele := rfl
@[simp] theorem State.answer_uz (v : Word) (st : Nat) : (s.answer v st).uz = s.uz := rfl
@[simp] theorem State.answer_watch (v : Word) (st : Nat) : (s.answer v st).watch = s.watch := rfl
@[simp] theorem State.answer_bic (v : Word) (st : Nat) : (s.answer v st).bic = s.bic := rfl
@[simp] theorem State.answer_sec (v : Word) (st : Nat) : (s.answer v st).sec = s.sec := rfl
@[simp] theorem State.answer_test (v : Word) (st : Nat) : (s.answer v st).test = s.test := rfl

/-! ### `State.free` -/

@[simp] theorem State.free_pending : s.free.2.pending = s.pending := rfl
@[simp] theorem State.free_freeCtr : s.free.2.freeCtr = s.freeCtr + 1 := rfl
@[simp] theorem State.free_tick : s.free.2.tick = s.tick := rfl
@[simp] theorem State.free_regs : s.free.2.regs = s.regs := rfl
@[simp] theorem State.free_readData : s.free.2.readData = s.readData := rfl
@[simp] theorem State.free_accessStatus : s.free.2.accessStatus = s.accessStatus := rfl
@[simp] theorem State.free_out : s.free.2.out = s.out := rfl
@[simp] theorem State.free_clock : s.free.2.clock = s.clock := rfl
@[simp] theorem State.free_port : s.free.2.port = s.port := rfl
@[simp] theorem State.free_sw : s.free.2.sw = s.sw := rfl
@[simp] theorem State.free_tbl : s.free.2.tbl = s.tbl := rfl
@[simp] theorem State.free_eng : s.free.2.eng = s.eng := rfl
@[simp] theorem State.free_red : s.free.2.red = s.red := rfl
@[simp] theorem State.free_mill : s.free.2.mill = s.mill := rfl
@[simp] theorem State.free_grn : s.free.2.grn = s.grn := rfl
@[simp] theorem State.free_ma : s.free.2.ma = s.ma := rfl
@[simp] theorem State.free_tele : s.free.2.tele = s.tele := rfl
@[simp] theorem State.free_uz : s.free.2.uz = s.uz := rfl
@[simp] theorem State.free_watch : s.free.2.watch = s.watch := rfl
@[simp] theorem State.free_bic : s.free.2.bic = s.bic := rfl
@[simp] theorem State.free_sec : s.free.2.sec = s.sec := rfl
@[simp] theorem State.free_test : s.free.2.test = s.test := rfl


end Sys2Proof.Machine
end

