-- ==== Sys2Proof/Laws/Regs.lean ====
section
/-! SUPPORT. The register file: what a write leaves in the register written and in every other one, and
that each operation keeps the canonical form. -/

namespace Sys2Proof.Machine

theorem State.setReg_regsOk {s : State} (h : s.regsOk) (k : Nat) (v : Word) : (s.setReg k v).regsOk :=
  SMap.put_wf none s.regs k _ h

theorem State.setFld_regsOk {s : State} (h : s.regsOk) (k : Nat) (f : Fld) (v : Nat) : (s.setFld k f v).regsOk :=
  State.setReg_regsOk h k _

theorem State.setBits_regsOk {s : State} (h : s.regsOk) (k : Nat) (m : Word) : (s.setBits k m).regsOk :=
  State.setReg_regsOk h k _

theorem State.bump_regsOk {s : State} (h : s.regsOk) (k n : Nat) : (s.bump k n).regsOk :=
  State.setReg_regsOk h k _

/-- A register written holds what was written. -/
theorem State.reg_setReg_self {s : State} (h : s.regsOk) (k : Nat) (v : Word) : (s.setReg k v).reg k = v := by
  simp only [State.reg, State.setReg, SMap.get_put_self none s.regs k _ h]
  by_cases hv : v = regReset k <;> simp [hv]

/-- Every other register holds what it held. -/
theorem State.reg_setReg_ne {s : State} (h : s.regsOk) {k j : Nat} (v : Word) (hj : j ≠ k) :
    (s.setReg k v).reg j = s.reg j := by
  simp only [State.reg, State.setReg, SMap.get_put_ne none s.regs k j _ hj h]

theorem State.reg_setReg {s : State} (h : s.regsOk) (k j : Nat) (v : Word) :
    (s.setReg k v).reg j = if j = k then v else s.reg j := by
  by_cases hj : j = k
  · subst hj; simp [State.reg_setReg_self h]
  · simp [State.reg_setReg_ne h v hj, hj]

/-- What a register holds depends on the register file alone. -/
theorem State.reg_congr {s t : State} (h : t.regs = s.regs) (k : Nat) : t.reg k = s.reg k := by
  simp [State.reg, h]

/-- Bit `i` of a word's field. -/
theorem Fld.testBit_get (f : Fld) (w : Word) (i : Nat) : (f.get w).testBit i = (decide (i < f.width) && w.getLsbD (f.lo + i)) := by
  simp only [Fld.get, Nat.testBit_mod_two_pow, Nat.testBit_div_two_pow, BitVec.getLsbD, Nat.add_comm]

/-- Bit `i` of a word with a field put in it. -/
theorem Fld.getLsbD_put (f : Fld) (v : Nat) (w : Word) (i : Nat) (hi : i < 64) :
    (f.put v w).getLsbD i = if f.lo ≤ i ∧ i < f.lo + f.width then v.testBit (i - f.lo) else w.getLsbD i := by
  have hw : ∀ x : Nat, (f.word x).getLsbD i = (decide (f.lo ≤ i ∧ i < f.lo + f.width) && x.testBit (i - f.lo)) := by
    intro x
    simp only [Fld.word, BitVec.getLsbD_ofNat, hi, decide_true, Bool.true_and, Nat.testBit_mul_two_pow, Nat.testBit_mod_two_pow]
    by_cases h1 : f.lo ≤ i
    · have : i - f.lo < f.width ↔ i < f.lo + f.width := by omega
      simp [h1, this]
    · simp [h1]
  simp only [Fld.put, BitVec.getLsbD_or, BitVec.getLsbD_and, BitVec.getLsbD_not, hw, hi, decide_true, Bool.true_and]
  by_cases h : f.lo ≤ i ∧ i < f.lo + f.width
  · have : i - f.lo < f.width := by omega
    simp [h, Nat.testBit_two_pow_sub_one, this]
  · simp [h]

/-- A field put in a word reads back. -/
theorem Fld.get_put (f : Fld) (v : Nat) (w : Word) (h : f.lo + f.width ≤ 64) (hv : v < 2 ^ f.width) : f.get (f.put v w) = v := by
  apply Nat.eq_of_testBit_eq
  intro i
  rw [Fld.testBit_get]
  by_cases hi : i < f.width
  · rw [Fld.getLsbD_put f v w _ (by omega)]
    simp [hi]
  · rw [Nat.testBit_lt_two_pow (Nat.lt_of_lt_of_le hv (Nat.pow_le_pow_right (by decide) (by omega)))]
    simp [hi]

/-- A field put in a word leaves the fields that it does not overlap. -/
theorem Fld.get_put_ne (f g : Fld) (v : Nat) (w : Word) (hg : g.lo + g.width ≤ 64)
    (h : f.lo + f.width ≤ g.lo ∨ g.lo + g.width ≤ f.lo) : g.get (f.put v w) = g.get w := by
  apply Nat.eq_of_testBit_eq
  intro i
  rw [Fld.testBit_get, Fld.testBit_get]
  by_cases hi : i < g.width
  · rw [Fld.getLsbD_put f v w _ (by omega), if_neg (by omega)]
  · simp [hi]

end Sys2Proof.Machine
end

