-- ==== Sys2Proof/Laws/Ops.lean ====
section
/-! SUPPORT. What the shared operations can change: for each of them the fields of the state that it leaves,
that it keeps the register file in canonical form, and that a write of Granary bytes keeps the memory's. -/

namespace Sys2Proof.Machine

variable (s : State)

/-! ### `State.logRecord` -/

@[simp] theorem State.logRecord_pending (h : Nat) (w : Word) : (s.logRecord h w).pending = s.pending := by
  rfl
@[simp] theorem State.logRecord_freeCtr (h : Nat) (w : Word) : (s.logRecord h w).freeCtr = s.freeCtr := by
  rfl
@[simp] theorem State.logRecord_tick (h : Nat) (w : Word) : (s.logRecord h w).tick = s.tick := by
  rfl
@[simp] theorem State.logRecord_readData (h : Nat) (w : Word) : (s.logRecord h w).readData = s.readData := by
  rfl
@[simp] theorem State.logRecord_accessStatus (h : Nat) (w : Word) : (s.logRecord h w).accessStatus = s.accessStatus := by
  rfl
@[simp] theorem State.logRecord_out (h : Nat) (w : Word) : (s.logRecord h w).out = s.out := by
  rfl
@[simp] theorem State.logRecord_clock (h : Nat) (w : Word) : (s.logRecord h w).clock = s.clock := by
  rfl
@[simp] theorem State.logRecord_port (h : Nat) (w : Word) : (s.logRecord h w).port = s.port := by
  rfl
@[simp] theorem State.logRecord_sw (h : Nat) (w : Word) : (s.logRecord h w).sw = s.sw := by
  rfl
@[simp] theorem State.logRecord_tbl (h : Nat) (w : Word) : (s.logRecord h w).tbl = s.tbl := by
  rfl
@[simp] theorem State.logRecord_eng (h : Nat) (w : Word) : (s.logRecord h w).eng = s.eng := by
  rfl
@[simp] theorem State.logRecord_red (h : Nat) (w : Word) : (s.logRecord h w).red = s.red := by
  rfl
@[simp] theorem State.logRecord_mill (h : Nat) (w : Word) : (s.logRecord h w).mill = s.mill := by
  rfl
@[simp] theorem State.logRecord_grn (h : Nat) (w : Word) : (s.logRecord h w).grn = s.grn := by
  rfl
@[simp] theorem State.logRecord_ma (h : Nat) (w : Word) : (s.logRecord h w).ma = s.ma := by
  rfl
@[simp] theorem State.logRecord_tele (h : Nat) (w : Word) : (s.logRecord h w).tele = s.tele := by
  rfl
@[simp] theorem State.logRecord_uz (h : Nat) (w : Word) : (s.logRecord h w).uz = s.uz := by
  rfl
@[simp] theorem State.logRecord_watch (h : Nat) (w : Word) : (s.logRecord h w).watch = s.watch := by
  rfl
@[simp] theorem State.logRecord_bic (h : Nat) (w : Word) : (s.logRecord h w).bic = s.bic := by
  rfl
@[simp] theorem State.logRecord_sec (h : Nat) (w : Word) : (s.logRecord h w).sec = s.sec := by
  rfl
@[simp] theorem State.logRecord_test (h : Nat) (w : Word) : (s.logRecord h w).test = s.test := by
  rfl

/-! ### `State.logEvent` -/

@[simp] theorem State.logEvent_pending (c k : Nat) (b : Bool) : (s.logEvent c k b).pending = s.pending := by
  simp only [State.logEvent]; split <;> simp
@[simp] theorem State.logEvent_freeCtr (c k : Nat) (b : Bool) : (s.logEvent c k b).freeCtr = s.freeCtr := by
  simp only [State.logEvent]; split <;> simp
@[simp] theorem State.logEvent_tick (c k : Nat) (b : Bool) : (s.logEvent c k b).tick = s.tick := by
  simp only [State.logEvent]; split <;> simp
@[simp] theorem State.logEvent_readData (c k : Nat) (b : Bool) : (s.logEvent c k b).readData = s.readData := by
  simp only [State.logEvent]; split <;> simp
@[simp] theorem State.logEvent_accessStatus (c k : Nat) (b : Bool) : (s.logEvent c k b).accessStatus = s.accessStatus := by
  simp only [State.logEvent]; split <;> simp
@[simp] theorem State.logEvent_out (c k : Nat) (b : Bool) : (s.logEvent c k b).out = s.out := by
  simp only [State.logEvent]; split <;> simp
@[simp] theorem State.logEvent_clock (c k : Nat) (b : Bool) : (s.logEvent c k b).clock = s.clock := by
  simp only [State.logEvent]; split <;> simp
@[simp] theorem State.logEvent_port (c k : Nat) (b : Bool) : (s.logEvent c k b).port = s.port := by
  simp only [State.logEvent]; split <;> simp
@[simp] theorem State.logEvent_sw (c k : Nat) (b : Bool) : (s.logEvent c k b).sw = s.sw := by
  simp only [State.logEvent]; split <;> simp
@[simp] theorem State.logEvent_tbl (c k : Nat) (b : Bool) : (s.logEvent c k b).tbl = s.tbl := by
  simp only [State.logEvent]; split <;> simp
@[simp] theorem State.logEvent_eng (c k : Nat) (b : Bool) : (s.logEvent c k b).eng = s.eng := by
  simp only [State.logEvent]; split <;> simp
@[simp] theorem State.logEvent_red (c k : Nat) (b : Bool) : (s.logEvent c k b).red = s.red := by
  simp only [State.logEvent]; split <;> simp
@[simp] theorem State.logEvent_mill (c k : Nat) (b : Bool) : (s.logEvent c k b).mill = s.mill := by
  simp only [State.logEvent]; split <;> simp
@[simp] theorem State.logEvent_grn (c k : Nat) (b : Bool) : (s.logEvent c k b).grn = s.grn := by
  simp only [State.logEvent]; split <;> simp
@[simp] theorem State.logEvent_ma (c k : Nat) (b : Bool) : (s.logEvent c k b).ma = s.ma := by
  simp only [State.logEvent]; split <;> simp
@[simp] theorem State.logEvent_tele (c k : Nat) (b : Bool) : (s.logEvent c k b).tele = s.tele := by
  simp only [State.logEvent]; split <;> simp
@[simp] theorem State.logEvent_uz (c k : Nat) (b : Bool) : (s.logEvent c k b).uz = s.uz := by
  simp only [State.logEvent]; split <;> simp
@[simp] theorem State.logEvent_bic (c k : Nat) (b : Bool) : (s.logEvent c k b).bic = s.bic := by
  simp only [State.logEvent]; split <;> simp
@[simp] theorem State.logEvent_sec (c k : Nat) (b : Bool) : (s.logEvent c k b).sec = s.sec := by
  simp only [State.logEvent]; split <;> simp
@[simp] theorem State.logEvent_test (c k : Nat) (b : Bool) : (s.logEvent c k b).test = s.test := by
  simp only [State.logEvent]; split <;> simp

/-! ### `State.raise` -/

@[simp] theorem State.raise_pending (k b c n : Nat) : (s.raise k b c n).pending = s.pending := by
  simp [State.raise]
@[simp] theorem State.raise_freeCtr (k b c n : Nat) : (s.raise k b c n).freeCtr = s.freeCtr := by
  simp [State.raise]
@[simp] theorem State.raise_tick (k b c n : Nat) : (s.raise k b c n).tick = s.tick := by
  simp [State.raise]
@[simp] theorem State.raise_readData (k b c n : Nat) : (s.raise k b c n).readData = s.readData := by
  simp [State.raise]
@[simp] theorem State.raise_accessStatus (k b c n : Nat) : (s.raise k b c n).accessStatus = s.accessStatus := by
  simp [State.raise]
@[simp] theorem State.raise_out (k b c n : Nat) : (s.raise k b c n).out = s.out := by
  simp [State.raise]
@[simp] theorem State.raise_clock (k b c n : Nat) : (s.raise k b c n).clock = s.clock := by
  simp [State.raise]
@[simp] theorem State.raise_port (k b c n : Nat) : (s.raise k b c n).port = s.port := by
  simp [State.raise]
@[simp] theorem State.raise_sw (k b c n : Nat) : (s.raise k b c n).sw = s.sw := by
  simp [State.raise]
@[simp] theorem State.raise_tbl (k b c n : Nat) : (s.raise k b c n).tbl = s.tbl := by
  simp [State.raise]
@[simp] theorem State.raise_eng (k b c n : Nat) : (s.raise k b c n).eng = s.eng := by
  simp [State.raise]
@[simp] theorem State.raise_red (k b c n : Nat) : (s.raise k b c n).red = s.red := by
  simp [State.raise]
@[simp] theorem State.raise_mill (k b c n : Nat) : (s.raise k b c n).mill = s.mill := by
  simp [State.raise]
@[simp] theorem State.raise_grn (k b c n : Nat) : (s.raise k b c n).grn = s.grn := by
  simp [State.raise]
@[simp] theorem State.raise_ma (k b c n : Nat) : (s.raise k b c n).ma = s.ma := by
  simp [State.raise]
@[simp] theorem State.raise_tele (k b c n : Nat) : (s.raise k b c n).tele = s.tele := by
  simp [State.raise]
@[simp] theorem State.raise_uz (k b c n : Nat) : (s.raise k b c n).uz = s.uz := by
  simp [State.raise]
@[simp] theorem State.raise_bic (k b c n : Nat) : (s.raise k b c n).bic = s.bic := by
  simp [State.raise]
@[simp] theorem State.raise_sec (k b c n : Nat) : (s.raise k b c n).sec = s.sec := by
  simp [State.raise]
@[simp] theorem State.raise_test (k b c n : Nat) : (s.raise k b c n).test = s.test := by
  simp [State.raise]

/-! ### `State.score` -/

@[simp] theorem State.score_pending (u w : Nat) : (s.score u w).pending = s.pending := by
  rfl
@[simp] theorem State.score_freeCtr (u w : Nat) : (s.score u w).freeCtr = s.freeCtr := by
  rfl
@[simp] theorem State.score_tick (u w : Nat) : (s.score u w).tick = s.tick := by
  rfl
@[simp] theorem State.score_readData (u w : Nat) : (s.score u w).readData = s.readData := by
  rfl
@[simp] theorem State.score_accessStatus (u w : Nat) : (s.score u w).accessStatus = s.accessStatus := by
  rfl
@[simp] theorem State.score_out (u w : Nat) : (s.score u w).out = s.out := by
  rfl
@[simp] theorem State.score_clock (u w : Nat) : (s.score u w).clock = s.clock := by
  rfl
@[simp] theorem State.score_port (u w : Nat) : (s.score u w).port = s.port := by
  rfl
@[simp] theorem State.score_sw (u w : Nat) : (s.score u w).sw = s.sw := by
  rfl
@[simp] theorem State.score_tbl (u w : Nat) : (s.score u w).tbl = s.tbl := by
  rfl
@[simp] theorem State.score_eng (u w : Nat) : (s.score u w).eng = s.eng := by
  rfl
@[simp] theorem State.score_red (u w : Nat) : (s.score u w).red = s.red := by
  rfl
@[simp] theorem State.score_mill (u w : Nat) : (s.score u w).mill = s.mill := by
  rfl
@[simp] theorem State.score_grn (u w : Nat) : (s.score u w).grn = s.grn := by
  rfl
@[simp] theorem State.score_ma (u w : Nat) : (s.score u w).ma = s.ma := by
  rfl
@[simp] theorem State.score_tele (u w : Nat) : (s.score u w).tele = s.tele := by
  rfl
@[simp] theorem State.score_uz (u w : Nat) : (s.score u w).uz = s.uz := by
  rfl
@[simp] theorem State.score_bic (u w : Nat) : (s.score u w).bic = s.bic := by
  rfl
@[simp] theorem State.score_sec (u w : Nat) : (s.score u w).sec = s.sec := by
  rfl
@[simp] theorem State.score_test (u w : Nat) : (s.score u w).test = s.test := by
  rfl

/-! ### `State.ringEvent` -/

@[simp] theorem State.ringEvent_pending (r : RingRegs) (b : Nat) : (s.ringEvent r b).pending = s.pending := by
  simp only [State.ringEvent]; split <;> simp
@[simp] theorem State.ringEvent_freeCtr (r : RingRegs) (b : Nat) : (s.ringEvent r b).freeCtr = s.freeCtr := by
  simp only [State.ringEvent]; split <;> simp
@[simp] theorem State.ringEvent_tick (r : RingRegs) (b : Nat) : (s.ringEvent r b).tick = s.tick := by
  simp only [State.ringEvent]; split <;> simp
@[simp] theorem State.ringEvent_readData (r : RingRegs) (b : Nat) : (s.ringEvent r b).readData = s.readData := by
  simp only [State.ringEvent]; split <;> simp
@[simp] theorem State.ringEvent_accessStatus (r : RingRegs) (b : Nat) : (s.ringEvent r b).accessStatus = s.accessStatus := by
  simp only [State.ringEvent]; split <;> simp
@[simp] theorem State.ringEvent_out (r : RingRegs) (b : Nat) : (s.ringEvent r b).out = s.out := by
  simp only [State.ringEvent]; split <;> simp
@[simp] theorem State.ringEvent_clock (r : RingRegs) (b : Nat) : (s.ringEvent r b).clock = s.clock := by
  simp only [State.ringEvent]; split <;> simp
@[simp] theorem State.ringEvent_port (r : RingRegs) (b : Nat) : (s.ringEvent r b).port = s.port := by
  simp only [State.ringEvent]; split <;> simp
@[simp] theorem State.ringEvent_sw (r : RingRegs) (b : Nat) : (s.ringEvent r b).sw = s.sw := by
  simp only [State.ringEvent]; split <;> simp
@[simp] theorem State.ringEvent_tbl (r : RingRegs) (b : Nat) : (s.ringEvent r b).tbl = s.tbl := by
  simp only [State.ringEvent]; split <;> simp
@[simp] theorem State.ringEvent_eng (r : RingRegs) (b : Nat) : (s.ringEvent r b).eng = s.eng := by
  simp only [State.ringEvent]; split <;> simp
@[simp] theorem State.ringEvent_red (r : RingRegs) (b : Nat) : (s.ringEvent r b).red = s.red := by
  simp only [State.ringEvent]; split <;> simp
@[simp] theorem State.ringEvent_mill (r : RingRegs) (b : Nat) : (s.ringEvent r b).mill = s.mill := by
  simp only [State.ringEvent]; split <;> simp
@[simp] theorem State.ringEvent_grn (r : RingRegs) (b : Nat) : (s.ringEvent r b).grn = s.grn := by
  simp only [State.ringEvent]; split <;> simp
@[simp] theorem State.ringEvent_ma (r : RingRegs) (b : Nat) : (s.ringEvent r b).ma = s.ma := by
  simp only [State.ringEvent]; split <;> simp
@[simp] theorem State.ringEvent_tele (r : RingRegs) (b : Nat) : (s.ringEvent r b).tele = s.tele := by
  simp only [State.ringEvent]; split <;> simp
@[simp] theorem State.ringEvent_uz (r : RingRegs) (b : Nat) : (s.ringEvent r b).uz = s.uz := by
  simp only [State.ringEvent]; split <;> simp
@[simp] theorem State.ringEvent_bic (r : RingRegs) (b : Nat) : (s.ringEvent r b).bic = s.bic := by
  simp only [State.ringEvent]; split <;> simp
@[simp] theorem State.ringEvent_sec (r : RingRegs) (b : Nat) : (s.ringEvent r b).sec = s.sec := by
  simp only [State.ringEvent]; split <;> simp
@[simp] theorem State.ringEvent_test (r : RingRegs) (b : Nat) : (s.ringEvent r b).test = s.test := by
  simp only [State.ringEvent]; split <;> simp

/-! ### `State.ringWrite` -/

@[simp] theorem State.ringWrite_pending (r : Ring) (w : Word) (b : Bool) : (s.ringWrite r w b).pending = s.pending := by
  simp only [State.ringWrite]; split <;> split <;> simp
@[simp] theorem State.ringWrite_freeCtr (r : Ring) (w : Word) (b : Bool) : (s.ringWrite r w b).freeCtr = s.freeCtr := by
  simp only [State.ringWrite]; split <;> split <;> simp
@[simp] theorem State.ringWrite_tick (r : Ring) (w : Word) (b : Bool) : (s.ringWrite r w b).tick = s.tick := by
  simp only [State.ringWrite]; split <;> split <;> simp
@[simp] theorem State.ringWrite_readData (r : Ring) (w : Word) (b : Bool) : (s.ringWrite r w b).readData = s.readData := by
  simp only [State.ringWrite]; split <;> split <;> simp
@[simp] theorem State.ringWrite_accessStatus (r : Ring) (w : Word) (b : Bool) : (s.ringWrite r w b).accessStatus = s.accessStatus := by
  simp only [State.ringWrite]; split <;> split <;> simp
@[simp] theorem State.ringWrite_out (r : Ring) (w : Word) (b : Bool) : (s.ringWrite r w b).out = s.out := by
  simp only [State.ringWrite]; split <;> split <;> simp
@[simp] theorem State.ringWrite_clock (r : Ring) (w : Word) (b : Bool) : (s.ringWrite r w b).clock = s.clock := by
  simp only [State.ringWrite]; split <;> split <;> simp
@[simp] theorem State.ringWrite_port (r : Ring) (w : Word) (b : Bool) : (s.ringWrite r w b).port = s.port := by
  simp only [State.ringWrite]; split <;> split <;> simp
@[simp] theorem State.ringWrite_sw (r : Ring) (w : Word) (b : Bool) : (s.ringWrite r w b).sw = s.sw := by
  simp only [State.ringWrite]; split <;> split <;> simp
@[simp] theorem State.ringWrite_tbl (r : Ring) (w : Word) (b : Bool) : (s.ringWrite r w b).tbl = s.tbl := by
  simp only [State.ringWrite]; split <;> split <;> simp
@[simp] theorem State.ringWrite_eng (r : Ring) (w : Word) (b : Bool) : (s.ringWrite r w b).eng = s.eng := by
  simp only [State.ringWrite]; split <;> split <;> simp
@[simp] theorem State.ringWrite_red (r : Ring) (w : Word) (b : Bool) : (s.ringWrite r w b).red = s.red := by
  simp only [State.ringWrite]; split <;> split <;> simp
@[simp] theorem State.ringWrite_mill (r : Ring) (w : Word) (b : Bool) : (s.ringWrite r w b).mill = s.mill := by
  simp only [State.ringWrite]; split <;> split <;> simp
@[simp] theorem State.ringWrite_grn (r : Ring) (w : Word) (b : Bool) : (s.ringWrite r w b).grn = s.grn := by
  simp only [State.ringWrite]; split <;> split <;> simp
@[simp] theorem State.ringWrite_ma (r : Ring) (w : Word) (b : Bool) : (s.ringWrite r w b).ma = s.ma := by
  simp only [State.ringWrite]; split <;> split <;> simp
@[simp] theorem State.ringWrite_tele (r : Ring) (w : Word) (b : Bool) : (s.ringWrite r w b).tele = s.tele := by
  simp only [State.ringWrite]; split <;> split <;> simp
@[simp] theorem State.ringWrite_uz (r : Ring) (w : Word) (b : Bool) : (s.ringWrite r w b).uz = s.uz := by
  simp only [State.ringWrite]; split <;> split <;> simp
@[simp] theorem State.ringWrite_bic (r : Ring) (w : Word) (b : Bool) : (s.ringWrite r w b).bic = s.bic := by
  simp only [State.ringWrite]; split <;> split <;> simp
@[simp] theorem State.ringWrite_sec (r : Ring) (w : Word) (b : Bool) : (s.ringWrite r w b).sec = s.sec := by
  simp only [State.ringWrite]; split <;> split <;> simp
@[simp] theorem State.ringWrite_test (r : Ring) (w : Word) (b : Bool) : (s.ringWrite r w b).test = s.test := by
  simp only [State.ringWrite]; split <;> split <;> simp

/-! ### `State.ringTail` -/

@[simp] theorem State.ringTail_pending (r : Ring) (i : Nat) : (s.ringTail r i).pending = s.pending := by
  simp only [State.ringTail]; split <;> simp
@[simp] theorem State.ringTail_freeCtr (r : Ring) (i : Nat) : (s.ringTail r i).freeCtr = s.freeCtr := by
  simp only [State.ringTail]; split <;> simp
@[simp] theorem State.ringTail_tick (r : Ring) (i : Nat) : (s.ringTail r i).tick = s.tick := by
  simp only [State.ringTail]; split <;> simp
@[simp] theorem State.ringTail_readData (r : Ring) (i : Nat) : (s.ringTail r i).readData = s.readData := by
  simp only [State.ringTail]; split <;> simp
@[simp] theorem State.ringTail_accessStatus (r : Ring) (i : Nat) : (s.ringTail r i).accessStatus = s.accessStatus := by
  simp only [State.ringTail]; split <;> simp
@[simp] theorem State.ringTail_out (r : Ring) (i : Nat) : (s.ringTail r i).out = s.out := by
  simp only [State.ringTail]; split <;> simp
@[simp] theorem State.ringTail_clock (r : Ring) (i : Nat) : (s.ringTail r i).clock = s.clock := by
  simp only [State.ringTail]; split <;> simp
@[simp] theorem State.ringTail_port (r : Ring) (i : Nat) : (s.ringTail r i).port = s.port := by
  simp only [State.ringTail]; split <;> simp
@[simp] theorem State.ringTail_sw (r : Ring) (i : Nat) : (s.ringTail r i).sw = s.sw := by
  simp only [State.ringTail]; split <;> simp
@[simp] theorem State.ringTail_tbl (r : Ring) (i : Nat) : (s.ringTail r i).tbl = s.tbl := by
  simp only [State.ringTail]; split <;> simp
@[simp] theorem State.ringTail_eng (r : Ring) (i : Nat) : (s.ringTail r i).eng = s.eng := by
  simp only [State.ringTail]; split <;> simp
@[simp] theorem State.ringTail_red (r : Ring) (i : Nat) : (s.ringTail r i).red = s.red := by
  simp only [State.ringTail]; split <;> simp
@[simp] theorem State.ringTail_mill (r : Ring) (i : Nat) : (s.ringTail r i).mill = s.mill := by
  simp only [State.ringTail]; split <;> simp
@[simp] theorem State.ringTail_grn (r : Ring) (i : Nat) : (s.ringTail r i).grn = s.grn := by
  simp only [State.ringTail]; split <;> simp
@[simp] theorem State.ringTail_ma (r : Ring) (i : Nat) : (s.ringTail r i).ma = s.ma := by
  simp only [State.ringTail]; split <;> simp
@[simp] theorem State.ringTail_tele (r : Ring) (i : Nat) : (s.ringTail r i).tele = s.tele := by
  simp only [State.ringTail]; split <;> simp
@[simp] theorem State.ringTail_uz (r : Ring) (i : Nat) : (s.ringTail r i).uz = s.uz := by
  simp only [State.ringTail]; split <;> simp
@[simp] theorem State.ringTail_watch (r : Ring) (i : Nat) : (s.ringTail r i).watch = s.watch := by
  simp only [State.ringTail]; split <;> simp
@[simp] theorem State.ringTail_bic (r : Ring) (i : Nat) : (s.ringTail r i).bic = s.bic := by
  simp only [State.ringTail]; split <;> simp
@[simp] theorem State.ringTail_sec (r : Ring) (i : Nat) : (s.ringTail r i).sec = s.sec := by
  simp only [State.ringTail]; split <;> simp
@[simp] theorem State.ringTail_test (r : Ring) (i : Nat) : (s.ringTail r i).test = s.test := by
  simp only [State.ringTail]; split <;> simp

/-! ### `State.setSession` -/

@[simp] theorem State.setSession_pending (k i : Nat) (x : Session) : (s.setSession k i x).pending = s.pending := by
  rfl
@[simp] theorem State.setSession_freeCtr (k i : Nat) (x : Session) : (s.setSession k i x).freeCtr = s.freeCtr := by
  rfl
@[simp] theorem State.setSession_tick (k i : Nat) (x : Session) : (s.setSession k i x).tick = s.tick := by
  rfl
@[simp] theorem State.setSession_readData (k i : Nat) (x : Session) : (s.setSession k i x).readData = s.readData := by
  rfl
@[simp] theorem State.setSession_accessStatus (k i : Nat) (x : Session) : (s.setSession k i x).accessStatus = s.accessStatus := by
  rfl
@[simp] theorem State.setSession_out (k i : Nat) (x : Session) : (s.setSession k i x).out = s.out := by
  rfl
@[simp] theorem State.setSession_clock (k i : Nat) (x : Session) : (s.setSession k i x).clock = s.clock := by
  rfl
@[simp] theorem State.setSession_port (k i : Nat) (x : Session) : (s.setSession k i x).port = s.port := by
  rfl
@[simp] theorem State.setSession_sw (k i : Nat) (x : Session) : (s.setSession k i x).sw = s.sw := by
  rfl
@[simp] theorem State.setSession_tbl (k i : Nat) (x : Session) : (s.setSession k i x).tbl = s.tbl := by
  rfl
@[simp] theorem State.setSession_eng (k i : Nat) (x : Session) : (s.setSession k i x).eng = s.eng := by
  rfl
@[simp] theorem State.setSession_red (k i : Nat) (x : Session) : (s.setSession k i x).red = s.red := by
  rfl
@[simp] theorem State.setSession_mill (k i : Nat) (x : Session) : (s.setSession k i x).mill = s.mill := by
  rfl
@[simp] theorem State.setSession_grn (k i : Nat) (x : Session) : (s.setSession k i x).grn = s.grn := by
  rfl
@[simp] theorem State.setSession_ma (k i : Nat) (x : Session) : (s.setSession k i x).ma = s.ma := by
  rfl
@[simp] theorem State.setSession_tele (k i : Nat) (x : Session) : (s.setSession k i x).tele = s.tele := by
  rfl
@[simp] theorem State.setSession_watch (k i : Nat) (x : Session) : (s.setSession k i x).watch = s.watch := by
  rfl
@[simp] theorem State.setSession_bic (k i : Nat) (x : Session) : (s.setSession k i x).bic = s.bic := by
  rfl
@[simp] theorem State.setSession_sec (k i : Nat) (x : Session) : (s.setSession k i x).sec = s.sec := by
  rfl
@[simp] theorem State.setSession_test (k i : Nat) (x : Session) : (s.setSession k i x).test = s.test := by
  rfl

/-! ### `State.closeSession` -/

@[simp] theorem State.closeSession_pending (k i : Nat) : (s.closeSession k i).pending = s.pending := by
  simp only [State.closeSession]; split <;> simp
@[simp] theorem State.closeSession_freeCtr (k i : Nat) : (s.closeSession k i).freeCtr = s.freeCtr := by
  simp only [State.closeSession]; split <;> simp
@[simp] theorem State.closeSession_tick (k i : Nat) : (s.closeSession k i).tick = s.tick := by
  simp only [State.closeSession]; split <;> simp
@[simp] theorem State.closeSession_readData (k i : Nat) : (s.closeSession k i).readData = s.readData := by
  simp only [State.closeSession]; split <;> simp
@[simp] theorem State.closeSession_accessStatus (k i : Nat) : (s.closeSession k i).accessStatus = s.accessStatus := by
  simp only [State.closeSession]; split <;> simp
@[simp] theorem State.closeSession_out (k i : Nat) : (s.closeSession k i).out = s.out := by
  simp only [State.closeSession]; split <;> simp
@[simp] theorem State.closeSession_clock (k i : Nat) : (s.closeSession k i).clock = s.clock := by
  simp only [State.closeSession]; split <;> simp
@[simp] theorem State.closeSession_port (k i : Nat) : (s.closeSession k i).port = s.port := by
  simp only [State.closeSession]; split <;> simp
@[simp] theorem State.closeSession_sw (k i : Nat) : (s.closeSession k i).sw = s.sw := by
  simp only [State.closeSession]; split <;> simp
@[simp] theorem State.closeSession_tbl (k i : Nat) : (s.closeSession k i).tbl = s.tbl := by
  simp only [State.closeSession]; split <;> simp
@[simp] theorem State.closeSession_eng (k i : Nat) : (s.closeSession k i).eng = s.eng := by
  simp only [State.closeSession]; split <;> simp
@[simp] theorem State.closeSession_red (k i : Nat) : (s.closeSession k i).red = s.red := by
  simp only [State.closeSession]; split <;> simp
@[simp] theorem State.closeSession_mill (k i : Nat) : (s.closeSession k i).mill = s.mill := by
  simp only [State.closeSession]; split <;> simp
@[simp] theorem State.closeSession_grn (k i : Nat) : (s.closeSession k i).grn = s.grn := by
  simp only [State.closeSession]; split <;> simp
@[simp] theorem State.closeSession_ma (k i : Nat) : (s.closeSession k i).ma = s.ma := by
  simp only [State.closeSession]; split <;> simp
@[simp] theorem State.closeSession_tele (k i : Nat) : (s.closeSession k i).tele = s.tele := by
  simp only [State.closeSession]; split <;> simp
@[simp] theorem State.closeSession_bic (k i : Nat) : (s.closeSession k i).bic = s.bic := by
  simp only [State.closeSession]; split <;> simp
@[simp] theorem State.closeSession_test (k i : Nat) : (s.closeSession k i).test = s.test := by
  simp only [State.closeSession]; split <;> simp

/-! ### `State.sendPacket` -/

@[simp] theorem State.sendPacket_pending (k i : Nat) (p : Packet) : (s.sendPacket k i p).pending = s.pending := by
  simp only [State.sendPacket, State.emit]; split <;> [split; skip] <;> simp
@[simp] theorem State.sendPacket_freeCtr (k i : Nat) (p : Packet) : (s.sendPacket k i p).freeCtr = s.freeCtr := by
  simp only [State.sendPacket, State.emit]; split <;> [split; skip] <;> simp
@[simp] theorem State.sendPacket_tick (k i : Nat) (p : Packet) : (s.sendPacket k i p).tick = s.tick := by
  simp only [State.sendPacket, State.emit]; split <;> [split; skip] <;> simp
@[simp] theorem State.sendPacket_readData (k i : Nat) (p : Packet) : (s.sendPacket k i p).readData = s.readData := by
  simp only [State.sendPacket, State.emit]; split <;> [split; skip] <;> simp
@[simp] theorem State.sendPacket_accessStatus (k i : Nat) (p : Packet) : (s.sendPacket k i p).accessStatus = s.accessStatus := by
  simp only [State.sendPacket, State.emit]; split <;> [split; skip] <;> simp
@[simp] theorem State.sendPacket_clock (k i : Nat) (p : Packet) : (s.sendPacket k i p).clock = s.clock := by
  simp only [State.sendPacket, State.emit]; split <;> [split; skip] <;> simp
@[simp] theorem State.sendPacket_port (k i : Nat) (p : Packet) : (s.sendPacket k i p).port = s.port := by
  simp only [State.sendPacket, State.emit]; split <;> [split; skip] <;> simp
@[simp] theorem State.sendPacket_sw (k i : Nat) (p : Packet) : (s.sendPacket k i p).sw = s.sw := by
  simp only [State.sendPacket, State.emit]; split <;> [split; skip] <;> simp
@[simp] theorem State.sendPacket_tbl (k i : Nat) (p : Packet) : (s.sendPacket k i p).tbl = s.tbl := by
  simp only [State.sendPacket, State.emit]; split <;> [split; skip] <;> simp
@[simp] theorem State.sendPacket_eng (k i : Nat) (p : Packet) : (s.sendPacket k i p).eng = s.eng := by
  simp only [State.sendPacket, State.emit]; split <;> [split; skip] <;> simp
@[simp] theorem State.sendPacket_red (k i : Nat) (p : Packet) : (s.sendPacket k i p).red = s.red := by
  simp only [State.sendPacket, State.emit]; split <;> [split; skip] <;> simp
@[simp] theorem State.sendPacket_mill (k i : Nat) (p : Packet) : (s.sendPacket k i p).mill = s.mill := by
  simp only [State.sendPacket, State.emit]; split <;> [split; skip] <;> simp
@[simp] theorem State.sendPacket_grn (k i : Nat) (p : Packet) : (s.sendPacket k i p).grn = s.grn := by
  simp only [State.sendPacket, State.emit]; split <;> [split; skip] <;> simp
@[simp] theorem State.sendPacket_ma (k i : Nat) (p : Packet) : (s.sendPacket k i p).ma = s.ma := by
  simp only [State.sendPacket, State.emit]; split <;> [split; skip] <;> simp
@[simp] theorem State.sendPacket_tele (k i : Nat) (p : Packet) : (s.sendPacket k i p).tele = s.tele := by
  simp only [State.sendPacket, State.emit]; split <;> [split; skip] <;> simp
@[simp] theorem State.sendPacket_bic (k i : Nat) (p : Packet) : (s.sendPacket k i p).bic = s.bic := by
  simp only [State.sendPacket, State.emit]; split <;> [split; skip] <;> simp
@[simp] theorem State.sendPacket_test (k i : Nat) (p : Packet) : (s.sendPacket k i p).test = s.test := by
  simp only [State.sendPacket, State.emit]; split <;> [split; skip] <;> simp

/-- A fold of operations that each leave a part of the state leaves it. -/
theorem State.foldl_keeps {α β : Type} (g : State → β) (f : State → α → State) (h : ∀ s a, g (f s a) = g s) (l : List α) (s : State) :
    g (l.foldl f s) = g s := by
  induction l generalizing s with
  | nil => rfl
  | cons a l ih => rw [List.foldl_cons, ih, h]

/-- A fold of operations that each keep a property keeps it. -/
theorem State.foldl_inv {α : Type} (P : State → Prop) (f : State → α → State) (h : ∀ s a, P s → P (f s a)) (l : List α) (s : State)
    (hs : P s) : P (l.foldl f s) := by
  induction l generalizing s with
  | nil => exact hs
  | cons a l ih => exact ih _ (h s a hs)

/-! ### `State.pushOperators` -/

@[simp] theorem State.pushOperators_pending (p : Packet) : (s.pushOperators p).pending = s.pending := by
  exact State.foldl_keeps (fun s => s.pending) _ (fun s a => by split <;> simp) _ s
@[simp] theorem State.pushOperators_freeCtr (p : Packet) : (s.pushOperators p).freeCtr = s.freeCtr := by
  exact State.foldl_keeps (fun s => s.freeCtr) _ (fun s a => by split <;> simp) _ s
@[simp] theorem State.pushOperators_tick (p : Packet) : (s.pushOperators p).tick = s.tick := by
  exact State.foldl_keeps (fun s => s.tick) _ (fun s a => by split <;> simp) _ s
@[simp] theorem State.pushOperators_readData (p : Packet) : (s.pushOperators p).readData = s.readData := by
  exact State.foldl_keeps (fun s => s.readData) _ (fun s a => by split <;> simp) _ s
@[simp] theorem State.pushOperators_accessStatus (p : Packet) : (s.pushOperators p).accessStatus = s.accessStatus := by
  exact State.foldl_keeps (fun s => s.accessStatus) _ (fun s a => by split <;> simp) _ s
@[simp] theorem State.pushOperators_clock (p : Packet) : (s.pushOperators p).clock = s.clock := by
  exact State.foldl_keeps (fun s => s.clock) _ (fun s a => by split <;> simp) _ s
@[simp] theorem State.pushOperators_port (p : Packet) : (s.pushOperators p).port = s.port := by
  exact State.foldl_keeps (fun s => s.port) _ (fun s a => by split <;> simp) _ s
@[simp] theorem State.pushOperators_sw (p : Packet) : (s.pushOperators p).sw = s.sw := by
  exact State.foldl_keeps (fun s => s.sw) _ (fun s a => by split <;> simp) _ s
@[simp] theorem State.pushOperators_tbl (p : Packet) : (s.pushOperators p).tbl = s.tbl := by
  exact State.foldl_keeps (fun s => s.tbl) _ (fun s a => by split <;> simp) _ s
@[simp] theorem State.pushOperators_eng (p : Packet) : (s.pushOperators p).eng = s.eng := by
  exact State.foldl_keeps (fun s => s.eng) _ (fun s a => by split <;> simp) _ s
@[simp] theorem State.pushOperators_red (p : Packet) : (s.pushOperators p).red = s.red := by
  exact State.foldl_keeps (fun s => s.red) _ (fun s a => by split <;> simp) _ s
@[simp] theorem State.pushOperators_mill (p : Packet) : (s.pushOperators p).mill = s.mill := by
  exact State.foldl_keeps (fun s => s.mill) _ (fun s a => by split <;> simp) _ s
@[simp] theorem State.pushOperators_grn (p : Packet) : (s.pushOperators p).grn = s.grn := by
  exact State.foldl_keeps (fun s => s.grn) _ (fun s a => by split <;> simp) _ s
@[simp] theorem State.pushOperators_ma (p : Packet) : (s.pushOperators p).ma = s.ma := by
  exact State.foldl_keeps (fun s => s.ma) _ (fun s a => by split <;> simp) _ s
@[simp] theorem State.pushOperators_tele (p : Packet) : (s.pushOperators p).tele = s.tele := by
  exact State.foldl_keeps (fun s => s.tele) _ (fun s a => by split <;> simp) _ s
@[simp] theorem State.pushOperators_bic (p : Packet) : (s.pushOperators p).bic = s.bic := by
  exact State.foldl_keeps (fun s => s.bic) _ (fun s a => by split <;> simp) _ s
@[simp] theorem State.pushOperators_test (p : Packet) : (s.pushOperators p).test = s.test := by
  exact State.foldl_keeps (fun s => s.test) _ (fun s a => by split <;> simp) _ s

/-! ### `State.faultRecord` -/

@[simp] theorem State.faultRecord_pending (r : FaultInfo) : (s.faultRecord r).pending = s.pending := by
  simp only [State.faultRecord]; split <;> [skip; split] <;> simp
@[simp] theorem State.faultRecord_freeCtr (r : FaultInfo) : (s.faultRecord r).freeCtr = s.freeCtr := by
  simp only [State.faultRecord]; split <;> [skip; split] <;> simp
@[simp] theorem State.faultRecord_tick (r : FaultInfo) : (s.faultRecord r).tick = s.tick := by
  simp only [State.faultRecord]; split <;> [skip; split] <;> simp
@[simp] theorem State.faultRecord_readData (r : FaultInfo) : (s.faultRecord r).readData = s.readData := by
  simp only [State.faultRecord]; split <;> [skip; split] <;> simp
@[simp] theorem State.faultRecord_accessStatus (r : FaultInfo) : (s.faultRecord r).accessStatus = s.accessStatus := by
  simp only [State.faultRecord]; split <;> [skip; split] <;> simp
@[simp] theorem State.faultRecord_clock (r : FaultInfo) : (s.faultRecord r).clock = s.clock := by
  simp only [State.faultRecord]; split <;> [skip; split] <;> simp
@[simp] theorem State.faultRecord_port (r : FaultInfo) : (s.faultRecord r).port = s.port := by
  simp only [State.faultRecord]; split <;> [skip; split] <;> simp
@[simp] theorem State.faultRecord_sw (r : FaultInfo) : (s.faultRecord r).sw = s.sw := by
  simp only [State.faultRecord]; split <;> [skip; split] <;> simp
@[simp] theorem State.faultRecord_tbl (r : FaultInfo) : (s.faultRecord r).tbl = s.tbl := by
  simp only [State.faultRecord]; split <;> [skip; split] <;> simp
@[simp] theorem State.faultRecord_eng (r : FaultInfo) : (s.faultRecord r).eng = s.eng := by
  simp only [State.faultRecord]; split <;> [skip; split] <;> simp
@[simp] theorem State.faultRecord_red (r : FaultInfo) : (s.faultRecord r).red = s.red := by
  simp only [State.faultRecord]; split <;> [skip; split] <;> simp
@[simp] theorem State.faultRecord_mill (r : FaultInfo) : (s.faultRecord r).mill = s.mill := by
  simp only [State.faultRecord]; split <;> [skip; split] <;> simp
@[simp] theorem State.faultRecord_grn (r : FaultInfo) : (s.faultRecord r).grn = s.grn := by
  simp only [State.faultRecord]; split <;> [skip; split] <;> simp
@[simp] theorem State.faultRecord_ma (r : FaultInfo) : (s.faultRecord r).ma = s.ma := by
  simp only [State.faultRecord]; split <;> [skip; split] <;> simp
@[simp] theorem State.faultRecord_tele (r : FaultInfo) : (s.faultRecord r).tele = s.tele := by
  simp only [State.faultRecord]; split <;> [skip; split] <;> simp
@[simp] theorem State.faultRecord_bic (r : FaultInfo) : (s.faultRecord r).bic = s.bic := by
  simp only [State.faultRecord]; split <;> [skip; split] <;> simp
@[simp] theorem State.faultRecord_test (r : FaultInfo) : (s.faultRecord r).test = s.test := by
  simp only [State.faultRecord]; split <;> [skip; split] <;> simp

/-! ### The register file stays in canonical form -/

variable {s}

/-- The form depends on the register file alone. -/
theorem State.regsOk_congr {t : State} (h : t.regs = s.regs) : t.regsOk ↔ s.regsOk := by
  simp only [State.regsOk, h]

@[simp] theorem State.onWatch_regsOk (f : Watch → Watch) : (s.onWatch f).regsOk ↔ s.regsOk := State.regsOk_congr rfl

@[simp] theorem State.onUz_regsOk (f : Uzoley → Uzoley) : (s.onUz f).regsOk ↔ s.regsOk := State.regsOk_congr rfl

@[simp] theorem State.onSec_regsOk (f : Sec → Sec) : (s.onSec f).regsOk ↔ s.regsOk := State.regsOk_congr rfl

@[simp] theorem State.setSession_regsOk (k i : Nat) (x : Session) : (s.setSession k i x).regsOk ↔ s.regsOk := State.regsOk_congr rfl

@[simp] theorem State.emit_regsOk (e : Emission) : (s.emit e).regsOk ↔ s.regsOk := State.regsOk_congr rfl

theorem State.slideLog_regsOk (n : Nat) : ∀ (h : Nat) (s : State), s.regsOk → (State.slideLog n h s).regsOk := by
  induction n with
  | zero => exact fun _ _ hs => hs
  | succ n ih =>
    intro h s hs
    simp only [State.slideLog]
    split
    · exact ih _ _ (State.setReg_regsOk (State.setReg_regsOk hs _ _) _ _)
    · exact hs

theorem State.logRecord_regsOk (h : s.regsOk) (k : Nat) (w : Word) : (s.logRecord k w).regsOk :=
  State.slideLog_regsOk _ _ _ (State.setReg_regsOk h _ _)

/-- The log's order changes no register outside it. -/
theorem State.slideLog_reg (n : Nat) : ∀ (h : Nat) (s : State) (j : Nat), s.regsOk → h < 4096 → (∀ i, i < 4096 → j ≠ Reg.WCH_EVLOG i) →
    (State.slideLog n h s).reg j = s.reg j := by
  induction n with
  | zero => exact fun _ _ _ _ _ _ => rfl
  | succ n ih =>
    intro h s j hs hh hj
    simp only [State.slideLog]
    split
    · have h1 := State.setReg_regsOk hs (Reg.WCH_EVLOG h) (s.reg (Reg.WCH_EVLOG ((h + 4095) % 4096)))
      have hp : (h + 4095) % 4096 < 4096 := Nat.mod_lt _ (by decide)
      rw [ih _ _ _ (State.setReg_regsOk h1 _ _) hp hj, State.reg_setReg_ne h1 _ (hj _ hp), State.reg_setReg_ne hs _ (hj _ hh)]
    · rfl

/-- A record that no earlier one of its tick follows in R382 stays where it is written. -/
theorem State.logRecord_last (k : Nat) (w : Word)
    (h : logLater ((s.setReg (Reg.WCH_EVLOG k) w).reg (Reg.WCH_EVLOG ((k + 4095) % 4096)))
      ((s.setReg (Reg.WCH_EVLOG k) w).reg (Reg.WCH_EVLOG k)) = false) :
    s.logRecord k w = s.setReg (Reg.WCH_EVLOG k) w := by
  rw [State.logRecord, State.slideLog]
  simp only [h, Bool.false_eq_true, if_false]
  rfl

theorem State.logEvent_regsOk (h : s.regsOk) (c k : Nat) (b : Bool) : (s.logEvent c k b).regsOk := by
  simp only [State.logEvent]
  split
  · rw [State.onWatch_regsOk]
    exact State.setReg_regsOk (State.logRecord_regsOk (State.bump_regsOk h _ _) _ _) _ _
  · exact State.setBits_regsOk (State.setReg_regsOk (State.logRecord_regsOk (State.bump_regsOk h _ _) _ _) _ _) _ _

theorem State.raise_regsOk (h : s.regsOk) (k b c n : Nat) : (s.raise k b c n).regsOk := by
  simp only [State.raise]
  exact State.logEvent_regsOk (State.setBits_regsOk h _ _) _ _ _

theorem State.ringEvent_regsOk (h : s.regsOk) (r : RingRegs) (b : Nat) : (s.ringEvent r b).regsOk := by
  simp only [State.ringEvent]
  split
  · exact State.setBits_regsOk h _ _
  · exact State.raise_regsOk h _ _ _ _

theorem State.ringWrite_regsOk (h : s.regsOk) (r : Ring) (w : Word) (b : Bool) : (s.ringWrite r w b).regsOk := by
  simp only [State.ringWrite]
  split
  · apply State.ringEvent_regsOk
    apply State.ringEvent_regsOk
    split
    · apply State.ringEvent_regsOk
      exact State.setReg_regsOk (State.setReg_regsOk (State.setReg_regsOk h _ _) _ _) _ _
    · exact State.setReg_regsOk (State.setReg_regsOk h _ _) _ _
  · apply State.ringEvent_regsOk
    split
    · apply State.ringEvent_regsOk
      exact State.setReg_regsOk (State.setReg_regsOk (State.setReg_regsOk h _ _) _ _) _ _
    · exact State.setReg_regsOk (State.setReg_regsOk h _ _) _ _

theorem State.ringTail_regsOk (h : s.regsOk) (r : Ring) (i : Nat) : (s.ringTail r i).regsOk := by
  simp only [State.ringTail]
  split
  · exact State.setReg_regsOk h _ _
  · exact h

theorem State.closeSession_regsOk (h : s.regsOk) (k i : Nat) : (s.closeSession k i).regsOk := by
  simp only [State.closeSession]
  split
  · apply State.raise_regsOk
    simpa using h
  · exact h

theorem State.sendPacket_regsOk (h : s.regsOk) (k i : Nat) (p : Packet) : (s.sendPacket k i p).regsOk := by
  simp only [State.sendPacket]
  split
  · split
    · apply State.closeSession_regsOk
      apply State.bump_regsOk
      simpa using h
    · apply State.bump_regsOk
      simpa using h
  · exact h

theorem State.pushOperators_regsOk (h : s.regsOk) (p : Packet) : (s.pushOperators p).regsOk := by
  simp only [State.pushOperators]
  refine State.foldl_inv State.regsOk _ (fun s a hs => ?_) _ s h
  split
  · exact State.sendPacket_regsOk hs _ _ _
  · exact hs

theorem State.faultRecord_regsOk (h : s.regsOk) (r : FaultInfo) : (s.faultRecord r).regsOk := by
  simp only [State.faultRecord]
  split
  · simpa using h
  · apply State.pushOperators_regsOk
    rw [State.onWatch_regsOk]
    split
    · apply State.bump_regsOk
      repeat apply State.setReg_regsOk
      exact h
    · repeat apply State.setReg_regsOk
      exact h

/-! ### Engine queues -/

/-- A queue set is the queue read. -/
theorem State.queue_setQueue_self (h : SMap.wf [] s.eng.queued = true) (e q : Nat) (l : List Entry) :
    (s.setQueue e q l).queue e q = l :=
  SMap.get_put_self [] s.eng.queued _ l h

/-! ### Granary memory -/

/-- A fold of puts keeps the canonical form. -/
theorem SMap.foldl_put_wf {α β : Type} [DecidableEq α] (d : α) (k : β → Nat) (v : β → α) (l : List β) (m : SMap α)
    (h : SMap.wf d m = true) : SMap.wf d (l.foldl (fun m p => SMap.put d m (k p) (v p)) m) = true := by
  induction l generalizing m with
  | nil => exact h
  | cons a l ih => exact ih _ (SMap.put_wf d m _ _ h)

/-- What a key reads after a fold of puts at other keys. -/
theorem SMap.get_foldl_put_ne {α β : Type} [DecidableEq α] (d : α) (k : β → Nat) (v : β → α) (l : List β) (m : SMap α) (i : Nat)
    (hi : ∀ p ∈ l, k p ≠ i) (h : SMap.wf d m = true) :
    SMap.get d (l.foldl (fun m p => SMap.put d m (k p) (v p)) m) i = SMap.get d m i := by
  induction l generalizing m with
  | nil => rfl
  | cons a l ih =>
    rw [List.foldl_cons, ih _ (fun p hp => hi p (List.mem_cons_of_mem _ hp)) (SMap.put_wf d m _ _ h),
      SMap.get_put_ne d m _ _ _ (hi a List.mem_cons_self).symm h]

/-- The canonical form of the Granary's memory. -/
abbrev Memory.wf (m : SMap Byte) : Prop := SMap.wf (0 : Byte) m = true

/-- A write of Granary bytes keeps the canonical form. -/
theorem State.gWrite_wf (h : Memory.wf s.grn.mem) (a : Nat) (l : List Byte) (v : BitVec 32) : Memory.wf (s.gWrite a l v).grn.mem :=
  SMap.foldl_put_wf 0 (fun p : Nat × Byte => p.1) (fun p => p.2) _ _ h

/-- A byte outside the bytes written reads as before. -/
theorem State.gWrite_gByte_ne (h : Memory.wf s.grn.mem) (a : Nat) (l : List Byte) (v : BitVec 32) (b : Nat)
    (hb : b < a ∨ a + l.length ≤ b) : (s.gWrite a l v).gByte b = s.gByte b := by
  refine SMap.get_foldl_put_ne 0 (fun p : Nat × Byte => p.1) (fun p => p.2) _ _ b ?_ h
  intro p hp
  simp only [List.mem_mapIdx] at hp
  obtain ⟨i, hi, rfl⟩ := hp
  dsimp only
  omega

/-- The memory of the state after reset is in canonical form. -/
theorem State.reset_mem_wf : Memory.wf State.reset.grn.mem := rfl

/-- So is its register file. -/
theorem State.reset_regsOk : State.reset.regsOk := rfl

end Sys2Proof.Machine
end

