-- ==== Sys2Proof/Laws/All.lean ====
section
/-! SUPPORT. All the laws. -/
end

