-- ==== Sys2Proof/Tests/Slice0.lean ====
section
/-! SUPPORT. Tests of one step each, the well-formedness smoke tests, and for every statement with
hypotheses a state and operands that meet them. -/

set_option Elab.async false

namespace Sys2Proof.Tests

open Sys2Proof Sys2Proof.Machine

/-- A module in the module state `m` of R385, all else as after reset. -/
def inMode (m : Nat) : State := State.reset.setReg Reg.WCH_STATE (pack [(Fld.WCH_STATE_STATE, m)])

/-- A module in SERVICE. -/
def up : State := inMode stService

/-- A module in SERVICE with an open OPERATOR session in slot 0 of port A. -/
def upOp : State := up.setSession 0 0 { opened := true }

/-- A module in the module state `m`, 4,000 s after power-on. -/
def late4000 (m : Nat) : State := { inMode m with tick := 100000000000 }

/-- A module in SERVICE with port `p` in link state `st`. -/
def linkAt (p st : Nat) : State := up.setPortState p st

/-- A block of a type with its CRC. -/
def block (type : Nat) (b : Lcb) : Lcb := { b with crc := BitVec.ofNat 16 (crc16 (lcbBytes type b)) }

/-- Port 5 in LOOP with nothing on its wire. -/
def looping : State := (linkAt 5 pUp).setReg (Reg.SVB_PORT 5) (pack [(Fld.SVB_PORT_STATE, 2)])

/-- A DATA frame to endpoint 9, staged at port 7 on VC 5. -/
def staged7 : State := up.setStaged 7 5 [{ f := { kind := kData, vc := 5, dst := 9 } }]
def ref7 : StageRef := ⟨7, 5, 0⟩

/-- Source 281 enabled at PRIO 3 for core 1, its line high. -/
def lined : State :=
  (up.setReg (Reg.BIC_SRC 281) (pack [(Fld.BIC_SRC_ENABLE, 1), (Fld.BIC_SRC_PRIO, 3), (Fld.BIC_SRC_TARGET, 1)])).setReg Reg.WCH_EVT 1

/-- A contribution of chunk 18 of collective 1, round 1, for this module, from port 0, at the head of VC 3. -/
def contrib18 : Held := { f := { kind := kContrib, vc := 3, flags := flDstmod, coll := 1, round := 1, chunk := 18 } }

/-- A Collective Context of 200 chunks of 64 elements homed here, whose contributors are group 1: port 0. -/
def tables18 : SMap TEntry :=
  [(2 * 65536 + 1, { data := entryOfBytes ([0x80] ++ List.replicate 4 0 ++ beBytes 3 200 ++ beBytes 2 64 ++ List.replicate 16 0 ++
      [0, 0x10] ++ List.replicate 4 0 ++ [0, 0x7F, 0xFF, 0xFF, 0xFF, 0xFF, 0xFF, 0xFF, 0xFF, 0xFF] ++ List.replicate 22 0) }),
    (4 * 65536 + 1, { data := BitVec.ofNat 512 (2 ^ 511 + 2 ^ 384) })]

/-- Record 259 holds round 1 of collective 1 in a state; cluster 2 binds core 5 to the collective; the contribution waits. -/
def ready18 (st : BitVec 4) (core : Core) : State :=
  (((((late4000 stService).setRound 259 { state := st, coll := 1, round := 1 }).onMill (fun m => { m with
    binds := [(2048, some { core := 5, coll := 1, first := 0, last := 100 })] })).setCore 2 5 core).setStaged 0 3 [contrib18]).onTbl
      (fun t => { t with entries := tables18 })

/-- The contribution's descriptor. -/
def desc18 : Desc :=
  { first := true, spill := false, cbit := 0, coll := 1, round := 1, port := 0, chunk := 18, slot := 1, h := contrib18 }

/-- Core (2, 5) runs an invocation of `desc18` at store index 40 of a program of 64 from index 32, the word there being `w`. -/
def runs (w : Word) (x : Core) : State :=
  (ready18 rsOpen { x with
    st := coRun
    desc := some desc18
    pc := 40
    progBase := 32 }).onMill (fun m => { m with
      pdir := [(512, some { owner := 0, len := 64, base := 32, measure := 0 })]
      pstore := [(65576, w)] })

/-- The instruction there, about to act. -/
def prepAt (s : State) (i : MInstr) (e : MillErr := .none) : Prep := s.prep 2 5 desc18 i e

theorem issues_of {s : State} {i : MInstr} {p : Prep} (w : Word) (e : MillErr) (h : s.coreCmd 2 = true ∧ (s.core 2 5).st = coRun ∧
    (s.core 2 5).ftxGrn = false ∧ (s.core 2 5).desc = some desc18 ∧ s.fetch 2 (s.core 2 5).pc = w ∧ decodeMill w = some i ∧
    (e = .none ∨ e = .residue ∨ e = .loftUe) ∧ (s.core 2 5).inject = false ∧ p = s.prep 2 5 desc18 i e ∧
    s.pstoreWord 2 (s.core 2 5) w = false ∧ p.illegal = false ∧ p.format = false ∧ p.inTime = true) :
    s.issues 2 5 i p :=
  ⟨desc18, w, e, ⟨h.1, h.2.1, h.2.2.1, h.2.2.2.1, h.2.2.2.2.1⟩, h.2.2.2.2.2.1, by rcases h.2.2.2.2.2.2.1 with h | h | h <;> simp [h],
    by rcases h.2.2.2.2.2.2.1 with h | h | h <;> simp [h], .inl h.2.2.2.2.2.2.2.1, h.2.2.2.2.2.2.2.2⟩

/-- What a patrol finding says of a place beyond the end of the Loft, or of a channel, has no effect. -/
theorem test_loft_patrol_address : exec (.loftPatrol [.corrected 309237645312]) up = .next up := by
  rfl

theorem test_grn_patrol_block : exec (.grnPatrol 15 [.tagBad 536870912]) up = .next up := by
  rfl

theorem witness_StepRunsFrontCommand : ({ up with pending := [.wake, .syncSend] } : State).pending = .wake :: [.syncSend] := by
  decide +kernel

theorem witness_RegisterAccess_plain : upOp.mayWrite (.uzA 0) = true ∧
    ∃ r, regRow (BitVec.ofNat 32 Reg.WCH_EVT).toNat = some r ∧ r.base ∉ actionRegs :=
  ⟨by decide +kernel, { base := 0x58, dims := [], w1c := 0x1FF }, by decide +kernel, by decide +kernel⟩

theorem witness_RegisterAccess_command : up.mayWrite (.bosun 0) = true ∧
    writeCommand (.bosun 0) (BitVec.ofNat 32 (Reg.CL_EG_SHAPE 543 7)).toNat 5 (.shaperWrite 543 7 5) := by
  refine ⟨by decide +kernel, (regRow (BitVec.ofNat 32 (Reg.CL_EG_SHAPE 543 7)).toNat).get (by decide +kernel), by decide +kernel, ?_⟩
  exact .inl (.inr (.inr (.inr (.inl (by decide +kernel)))))

theorem witness_RegisterAccess_absent : up.mayWrite (.bosun 0) = true ∧ regRow (0xFFFFFFF8 : BitVec 32).toNat = none := by
  decide +kernel

theorem witness_RegisterAccess_rc : up.mayRead (.bosun 3) = true ∧ up.tenantSource (.bosun 3) = false ∧
    ∃ r, regRow (BitVec.ofNat 32 (Reg.WCH_EVCNT 11)).toNat = some r ∧ r.rc = true ∧ r.base ∉ computedRc :=
  ⟨by decide +kernel, by decide +kernel, (regRow (BitVec.ofNat 32 (Reg.WCH_EVCNT 11)).toNat).get (by decide +kernel), by decide +kernel,
    by decide +kernel, by decide +kernel⟩

theorem witness_RegisterAccess_fec : up.mayRead (.bosun 0) = true ∧
    ∃ r, regRow (BitVec.ofNat 32 (Reg.CL_SX_FECU 31 7)).toNat = some r ∧ r.rc = true ∧ isFecCounter r.base = true :=
  ⟨by decide +kernel, (regRow (BitVec.ofNat 32 (Reg.CL_SX_FECU 31 7)).toNat).get (by decide +kernel), by decide +kernel,
    by decide +kernel, by decide +kernel⟩

theorem witness_RegisterAccess_qmax : up.mayRead (.bosun 0) = true ∧
    ∃ r, regRow (BitVec.ofNat 32 (Reg.CL_QMAX 15 0)).toNat = some r ∧ r.rc = true ∧ r.base = Reg.CL_QMAX 0 0 :=
  ⟨by decide +kernel, (regRow (BitVec.ofNat 32 (Reg.CL_QMAX 15 0)).toNat).get (by decide +kernel), by decide +kernel,
    by decide +kernel, by decide +kernel⟩

theorem witness_RegisterAccess_context : up.mayRead (.bosun 0) = true ∧ (up.ctxKey 0 3).isSome = true ∧
    ∃ r, regRow (BitVec.ofNat 32 (Reg.CL_AR_CNT 0 3)).toNat = some r ∧ r.rc = true ∧ r.base = Reg.CL_AR_CNT 0 0 :=
  ⟨by decide +kernel, by decide +kernel, (regRow (BitVec.ofNat 32 (Reg.CL_AR_CNT 0 3)).toNat).get (by decide +kernel), by decide +kernel,
    by decide +kernel, by decide +kernel⟩

theorem witness_RegisterAccess_tenant : let s := up.setSession 1 7 { opened := true, tenant := true, job := 5 }
    s.mayRead (.uzB 7) = true ∧ sourceSession (.uzB 7) = some (1, 7) ∧ (s.session 1 7).tenant = true := by
  decide +kernel

theorem witness_RegisterAccess_tail : up.awake = true := by decide +kernel

theorem witness_MailboxCommands_send : (up.setReg (Reg.MBX_CFG 63) 4).mayWrite (.bosun 0) = true ∧
    ((up.setReg (Reg.MBX_CFG 63) 4).reg (Reg.MBX_CFG (63 : Fin 64))).toNat.testBit (mbxSender (.bosun 0)).1 = true := by
  decide +kernel

theorem witness_MailboxCommands_denied : (up.setReg (Reg.MBX_CFG 0) 0).mayWrite (.bosun 0) = true ∧
    ((up.setReg (Reg.MBX_CFG 0) 0).reg (Reg.MBX_CFG (0 : Fin 64))).toNat.testBit (mbxSender (.bosun 0)).1 = false := by
  decide +kernel

theorem witness_MailboxCommands_ack : up.mayWrite (.bosun 0) = true ∧
    up.fld (Reg.MBX_STAT (5 : Fin 64)) Fld.MBX_STAT_SEQ = (0 : BitVec 16).toNat ∧ up.mbxReceiver (5 : Fin 64) = none ∧
    up.alsoNow (up.sendsTo (5 : Fin 64)) = false := by
  decide +kernel

theorem witness_Interrupt_edge : let s := lined.setFld (Reg.BIC_SRC 281) Fld.BIC_SRC_SENSE 2
    s.awake = true ∧ sourceExists (281 : Fin 1024) = true ∧ s.line (281 : Fin 1024) = decide (Edge.rising = .rising) ∧
    s.sense (281 : Fin 1024) = 2 := by
  decide +kernel

theorem witness_Interrupt_deliverable : lined.modintPassed 281 = true ∧ lined.flag (Reg.BIC_SRC 281) Fld.BIC_SRC_ENABLE = true ∧
    lined.fld (Reg.BIC_SRC 281) Fld.BIC_SRC_TARGET = 1 ∧ lined.isPending 281 = true ∧ lined.isActive 281 = false ∧
    lined.curPri 1 < lined.prio 281 := by
  decide +kernel

theorem witness_Interrupt_presented : lined.awake = true ∧ lined.presented (1 : Fin 4) = some 281 := by
  decide +kernel

theorem witness_Interrupt_none : up.awake = true ∧ (up.setReg Reg.BIC_CTL 1).presented (0 : Fin 4) = none := by
  decide +kernel

theorem witness_Interrupt_done : let s := up.onBic (fun b => { b with nest := [(2, [(281, 3)])] })
    s.awake = true ∧ s.stack (2 : Fin 4) = ((281 : BitVec 10).toNat, 3) :: [] := by
  decide +kernel

theorem witness_Interrupt_maps : SMap.wf false up.bic.edges = true ∧ SMap.wf none up.regs = true := by
  decide +kernel

theorem witness_ModuleState_sleep : (inMode stStandby).awake = true ∧ (inMode stStandby).inTransition = false ∧
    (inMode stStandby).mode = stStandby ∧ SMap.wf none (inMode stStandby).regs = true ∧ (inMode stStandby).bellNow = false := by
  decide +kernel

theorem witness_ModuleState_drain : up.awake = true ∧ up.inTransition = false ∧ up.mode = stService := by
  decide +kernel

theorem witness_ModuleState_layup : (inMode stDraining).awake = true ∧ (inMode stDraining).inTransition = false ∧
    (inMode stDraining).mode = stDraining := by
  decide +kernel

/-- A module in LAID_UP with TESTED set and an open OPERATOR session. -/
def laid : State := ((inMode stLaidUp).setFld Reg.WCH_ESC Fld.WCH_ESC_TESTED 1).setSession 0 0 { opened := true }

theorem witness_ModuleState_unlay : laid.mayWrite (.uzA 0) = true ∧ laid.inTransition = false ∧ laid.mode = stLaidUp ∧
    (sourceSession (.uzA 0)).isSome = true ∧ laid.flag Reg.WCH_ESC Fld.WCH_ESC_TESTED = true ∧ laid.watch.moduleFault = false ∧
    laid.thirdResetNow = false := by
  decide +kernel

theorem witness_ModuleState_admit : (inMode stDraining).inTransition = false ∧ (inMode stDraining).mode = stDraining ∧
    (inMode stDraining).imageGeneration = (inMode stDraining).watch.record.planegen := by
  refine ⟨by decide +kernel, by decide +kernel, ?_⟩
  have h : (inMode stDraining).runningSlot.factory = true := by decide +kernel
  simp [State.imageGeneration, h]

theorem witness_ModuleState_admitStandby : let s := (inMode stStandby).setFld Reg.WCH_BOOT Fld.WCH_BOOT_READY 1
    s.inTransition = false ∧ s.mode = stStandby ∧ s.flag Reg.WCH_BOOT Fld.WCH_BOOT_READY = true ∧ s.runningSlot.factory = true := by
  decide +kernel

theorem witness_ModuleState_busy : let s := up.onWatch (fun w => { w with after := some { domain := 2, cause := 1, startAt := 0 } })
    s.awake = true ∧ s.inTransition = true := by
  decide +kernel

theorem witness_ModuleState_bell : let s := { (inMode stStandby).setReg (Reg.MBX_CFG 3) 4 with pending := [.mbxSend (.bosun 0) 3] }
    s.awake = true ∧ s.bellNow = true := by
  decide +kernel

theorem witness_ModuleState_refused : up.mode ≠ stStandby ∧ up.bellNow = false ∧ laid.mode ≠ stService ∧ laid.mode = stLaidUp ∧
    up.mode ≠ stDraining ∧ (inMode stStandby).flag Reg.WCH_BOOT Fld.WCH_BOOT_READY = false ∧ upOp.mayWrite (.uzA 0) = true ∧
    upOp.thirdResetNow = false ∧ upOp.inTransition = false ∧ upOp.mode ≠ stLaidUp := by
  decide +kernel

theorem witness_Drained : (inMode stDraining).mode = stDraining ∧ (inMode stDraining).isDrained = true := by
  decide +kernel

theorem witness_Drainwait : (late4000 stDraining).mode = stDraining ∧ (late4000 stDraining).since (late4000 stDraining).watch.drainAt
    (secTicks (min 3600 (max 1 ((late4000 stDraining).fld Reg.WCH_CTL ⟨0, 16⟩)))) = true ∧ (late4000 stDraining).admitNow = false := by
  refine ⟨by decide +kernel, by decide +kernel, ?_⟩
  unfold State.admitNow
  rw [Bool.and_eq_false_iff]
  exact .inr rfl

theorem witness_DrainwaitAdmit : let s := { late4000 stDraining with pending := [.registerWrite (.bosun 0) 0x10 3] }
    ({ s with watch := { s.watch with record := { s.watch.record with planegen := s.imageGeneration } } } : State).admitNow = true := by
  have h : ({ late4000 stDraining with pending := [.registerWrite (.bosun 0) 0x10 3] } : State).runningSlot.factory = true := by decide +kernel
  simp [State.admitNow, State.imageGeneration, State.runningSlot]
  decide +kernel

theorem witness_Pet : up.awake = true ∧ Fld.WCH_WDOG_KEY.get (Fld.WCH_WDOG_KEY.word 0x5A5A) = 0x5A5A := by
  decide +kernel

theorem witness_WatchdogWarn : (late4000 stService).bosunUp = true ∧ 3 ∈ (late4000 stService).checkedCores ∧
    (late4000 stService).since (SMap.get 0 (late4000 stService).watch.pets 3) (secTicks 1) = true := by
  decide +kernel

theorem witness_WatchdogPetted : let s := (late4000 stService).setFld Reg.WCH_WDOG Fld.WCH_WDOG_PETTED 15
    s.bosunUp = true ∧ s.since s.watch.wdogAt (secTicks 2) = true ∧
    s.checkedCores.filter (fun c => !(s.fld Reg.WCH_WDOG Fld.WCH_WDOG_PETTED).testBit c && !s.petsNow c) = [] := by
  decide +kernel

theorem witness_WatchdogLate : let s := late4000 stService
    s.checkedCores.filter (fun c => !(s.fld Reg.WCH_WDOG Fld.WCH_WDOG_PETTED).testBit c && !s.petsNow c) = 0 :: [1, 2, 3] ∧
    s.supplyNow = false ∧ s.tripNow = false := by
  decide +kernel

theorem witness_WatchdogCancelled : let s := { late4000 stService with pending := [.supplyFault] }
    s.checkedCores.filter (fun c => !(s.fld Reg.WCH_WDOG Fld.WCH_WDOG_PETTED).testBit c && !s.petsNow c) = 0 :: [1, 2, 3] ∧
    s.supplyNow = true := by
  decide +kernel

theorem witness_Wakes : State.reset.mode = stWatch ∧ State.reset.watch.run = none ∧ State.reset.watch.after = none ∧
    (State.reset.fld Reg.WCH_WAKE ⟨0, 4⟩).testBit 0 = true ∧ (State.reset.fld Reg.WCH_WAKE ⟨0, 4⟩).testBit 2 = true := by
  decide +kernel

theorem witness_WakeTimer : let s := State.reset.setReg Reg.WCH_WAKE 15
    s.mode = stWatch ∧ s.watch.run = none ∧ s.watch.after = none ∧ (s.fld Reg.WCH_WAKE ⟨0, 4⟩).testBit 1 = true ∧
    s.tick = (s.reg Reg.WCH_WAKETIME).toNat := by
  decide +kernel

theorem witness_WakeSource : let s := (lined.setReg (Reg.BIC_WMASK 4) 0x2000000)
    (s.reg (Reg.BIC_WMASK ((281 : Fin 1024).val / 64))).getLsbD ((281 : Fin 1024).val % 64) = true ∧ s.isPending (281 : Fin 1024) = true ∧
    (s.bospwr ((s.reg Reg.WCH_BOSPWR).toNat ||| 2 ^ s.fld (Reg.BIC_SRC 281) Fld.BIC_SRC_TARGET)).mode ≠ stWatch := by
  decide +kernel

theorem witness_Thermal : up.awake = true ∧ 16 * (up.fld Reg.WCH_THERM Fld.WCH_THERM_HOT : Int) ≤ (2000 : BitVec 16).toInt ∧
    16 * (up.fld Reg.WCH_THERM Fld.WCH_THERM_TRIP : Int) ≤ (2000 : BitVec 16).toInt ∧
    (up.fld Reg.WCH_THSTAT Fld.WCH_THSTAT_HOT).testBit (15 : Fin 16) = false ∧ up.supplyNow = false ∧
    ({ up with pending := [.latchOpen] } : State).supplyNow = true ∧
    up.fld Reg.WCH_THERM Fld.WCH_THERM_COOLHOT ≤ (200 : BitVec 8).toNat := by
  decide +kernel

theorem witness_ThermWrite : Fld.WCH_THERM_HOT.get 0x73695F2D0005 ≤ Fld.WCH_THERM_THROTTLE.get 0x73695F2D0005 ∧
    Fld.WCH_THERM_THROTTLE.get 0x73695F2D0005 ≤ Fld.WCH_THERM_TRIP.get 0x73695F2D0005 ∧ Fld.WCH_THERM_TRIP.get 0x73695F2D0005 = 115 ∧
    ¬ Fld.WCH_THERM_TRIP.get 0x74695F2D0005 ≤ 115 := by
  decide +kernel

theorem witness_PowerApplied : (State.reset.setReg Reg.WCH_STATE 0).mode = 0 := by decide +kernel

theorem witness_PowerOn : up.mode ≠ 0 ∧ (up.raise Reg.WCH_EVT 4 1 srcWatch).mode ≠ stWatch ∧
    State.reset.mode ≠ 0 ∧ (State.reset.raise Reg.WCH_EVT 4 1 srcWatch).mode = stWatch := by
  decide +kernel

theorem witness_PowerCap : up.awake = true ∧ 1000 * min 5800 (max 4000 (up.fld Reg.WCH_PCAP ⟨0, 16⟩)) < 5800001 := by
  decide +kernel

theorem witness_PowerLift : let s := (late4000 stService).onWatch (fun w => { w with pcap := true })
    s.awake = true ∧ s.watch.pcap = true ∧ 100 * 1000 ≤ 95 * (1000 * min 5800 (max 4000 (s.fld Reg.WCH_PCAP ⟨0, 16⟩))) ∧
    s.since s.watch.pcapAt (msTicks 10) = true := by
  decide +kernel

theorem witness_CageOvercurrent : let s := up.setReg Reg.WCH_CAGEPWR 0x80000000
    s.awake = true ∧ (s.reg Reg.WCH_CAGEPWR).getLsbD (31 : Fin 32) = true := by
  decide +kernel

theorem witness_LowFlow : up.mode ≠ 0 ∧ (54 : BitVec 16).toNat < 55 := by decide +kernel

theorem witness_ResetRequest : upOp.mayWrite (.uzA 0) = true ∧ (0xA55A0002 : Word).toNat / 2 ^ 16 % 2 ^ 16 = 0xA55A ∧
    (0xA55A0002 : Word).toNat % 4 = 2 := by
  decide +kernel

/-- A reset of domain `d` at boot step `n` in STANDBY. -/
def booting (d n : Nat) : State := ((inMode stStandby).setFld Reg.WCH_BOOT Fld.WCH_BOOT_STEP n).onWatch
  (fun w => { w with run := some { domain := d, cause := 0, startAt := 0 } })

theorem witness_BootSteps : (booting 3 2).watch.run = some { domain := 3, cause := 0, startAt := 0 } ∧ (booting 3 2).bootStep = 2 ∧
    (booting 2 1).bootStep = 1 ∧ (booting 2 6).bootStep = 6 := by
  decide +kernel

theorem witness_WarmReady : let s := (booting 2 8).setFld Reg.WCH_BOOT Fld.WCH_BOOT_READY 1
    s.watch.run = some { domain := 2, cause := 0, startAt := 0 } ∧ s.flag Reg.WCH_BOOT Fld.WCH_BOOT_READY = true ∧
    s.endsLaid { domain := 2, cause := 0, startAt := 0 } = false ∧ s.flag Reg.WCH_ESC Fld.WCH_ESC_AUTOADMIT = true := by
  decide +kernel

theorem witness_WarmLaid : let s := ((booting 2 8).setFld Reg.WCH_BOOT Fld.WCH_BOOT_READY 1).onWatch (fun w => { w with laid := true })
    s.endsLaid { domain := 2, cause := 0, startAt := 0 } = true := by
  decide +kernel

theorem witness_ClusterBack : (up.setCluster 15 2).awake = true ∧ (up.setCluster 15 2).clusterState (15 : Fin 16) = 2 ∧
    (up.setCluster 15 2).watch.run = none := by
  decide +kernel

theorem witness_TableHang : (up.setQueue engTable 7 [0]).awake = true ∧
    (up.setQueue engTable 7 [0]).nextEntry engTable = some (7, 0) ∧ up.mayWrite (.bosun 1) = true ∧
    (up.setQueue engTable 7 [0]).tbl.image = none := by
  decide +kernel

theorem witness_ScoreUpdate : (late4000 stService).since (late4000 stService).watch.scoreAt (secTicks 1) = true ∧
    (late4000 stService).flag Reg.WCH_FSCTL ⟨8, 1⟩ = true ∧
    ((late4000 stService).setReg Reg.WCH_FSCTL 0).flag Reg.WCH_FSCTL ⟨8, 1⟩ = false := by
  decide +kernel

theorem witness_ScoreUnit : SMap.wf none up.regs = true ∧ 2559 < 2560 := by decide +kernel

theorem witness_ScoreClear : up.awake = true ∧ (0x8000000000000000 : Word).getLsbD 63 = true ∧ (2559 : Word).getLsbD 63 = false ∧
    (2559 : Word).toNat % 4096 < 2560 := by
  decide +kernel

theorem witness_Blocks_up : let s := linkAt 543 pUp
    s.blockReaches 543 lcbNakSelType true (block lcbNakSelType { vc := 7 }) s ∧ lcbGood lcbNakSelType true (block lcbNakSelType { vc := 7 }) = true ∧
    s.blockReaches 543 lcbReefType false (block lcbReefType { arg := 1 }) s ∧ lcbGood lcbReefType false (block lcbReefType { arg := 1 }) = true ∧
    isSpan (543 : Fin 544) = true := by
  decide +kernel

theorem witness_Blocks_ack : let s := (linkAt 0 pUp).setVc 0 7 { sent := 2, unacked := [{ seq := 1, h := { f := {} }, sentAt := 0 }] }
    let b := block lcbAckType { vc := 7, seq := 1 }
    s.blockReaches 0 lcbAckType true b s ∧ lcbGood lcbAckType true b = true ∧ (s.vc 0 b.vc.toNat).wasSent b.seq = true ∧
    (s.vc 0 b.vc.toNat).wasSent 2 = false := by
  decide +kernel

theorem witness_Blocks_credit : let s := (linkAt 0 pUp).setVc 0 7 { credit := 3, creditGot := 5 }
    let b := block lcbCreditType { vc := 7, arg := 2 }
    s.blockReaches 0 lcbCreditType true b s ∧ lcbGood lcbCreditType true b = true ∧ (s.vc 0 7).creditGot ≠ 0 ∧
    (s.vc 0 7).credit + b.arg.toNat % 65536 ≤ (s.vc 0 7).creditGot ∧ ¬ (s.vc 0 7).credit + 3 ≤ (s.vc 0 7).creditGot ∧
    (s.vc 0 6).creditGot = 0 := by
  decide +kernel

theorem witness_Blocks_site : let s := linkAt 511 pUp
    let b := block lcbReefType { arg := 8 }
    s.blockReaches 511 lcbReefType false b s ∧ lcbGood lcbReefType false b = true ∧ isSpan (511 : Fin 544) = false ∧
    (b.arg.setWidth 4 : BitVec 4) ≠ 0 ∧ (s.link (511 : Fin 544)).reefRx = [] ∧
    lcbGood lcbLaneReportType false (block lcbLaneReportType { arg := 0x1F }) = true := by
  decide +kernel

theorem witness_Blocks_reply : let s := (linkAt 512 pParam).setLink 512 { echo := some 9 }
    let b := block lcbEchoReplyType { arg := 9 }
    s.blockReaches 512 lcbEchoReplyType false b s ∧ lcbGood lcbEchoReplyType false b = true ∧ s.portState (512 : Fin 544) = pParam ∧
    (s.link (512 : Fin 544)).echo = some b.arg := by
  decide +kernel

theorem witness_Blocks_resync : let s := linkAt 5 pUp
    let r := linkAt 6 pResync
    s.blockReaches 5 lcbResyncType true (block lcbResyncType { vc := 7 }) s ∧ lcbGood lcbResyncType true (block lcbResyncType { vc := 7 }) = true ∧
    r.blockReaches 6 lcbResyncType true (block lcbResyncType { vc := 7, flags := 1 }) r ∧
    lcbGood lcbResyncType true (block lcbResyncType { vc := 7, flags := 1 }) = true ∧ r.portState (6 : Fin 544) = pResync ∧
    (linkAt 6 pParam).blockReaches 6 lcbResyncType true (block lcbResyncType {}) (linkAt 6 pParam) := by
  decide +kernel

theorem witness_Blocks_none : looping.arrives 5 (lcbFrom 5 lcbAckType false {}) = none ∧
    (linkAt 5 pDark).arrives 5 (lcbFrom 5 lcbAckType false {}) = some (linkAt 5 pDark) ∧ (linkAt 5 pDark).linked (5 : Fin 544) = false := by
  decide +kernel

theorem witness_Blocks_bad : let s := linkAt 5 pUp
    s.blockReaches 5 lcbAckType true { vc := 8 } s ∧ lcbGood lcbAckType true { vc := 8 } = false ∧
    lcbGood lcbResyncType true { crc := 1 } = false ∧ lcbGood lcbCreditType true { tail := 1 } = false ∧
    lcbGood lcbAckType true (block lcbAckType { reserved := some 0 }) = false ∧ lcbGood lcbEchoType false (block lcbEchoType { btype := 0x4D }) = false := by
  decide +kernel

theorem witness_LinkState : (linkAt 511 pDetect).portState (511 : Fin 512) = pDetect ∧ (linkAt 511 pLock).portState (511 : Fin 512) = pLock ∧
    (linkAt 511 pLock).awake = true ∧ (linkAt 543 pAlign).portState (543 : Fin 544) = pAlign ∧ (linkAt 1 pUp).awake = true := by
  decide +kernel

theorem witness_LinkState_plug : let s := (linkAt 543 pHold).setReg (Reg.CL_SX_CMIS_STAT 31) 0x8000000000000000
    s.awake = true ∧ s.portState (543 : Fin 544) = pHold ∧ isSpan (543 : Fin 544) = true ∧
    (SMap.get {} s.port.cmis ((543 : Fin 544).val - 512)).step = 0 ∧ (s.reg (Reg.CL_SX_CMIS_STAT ((543 : Fin 544).val - 512))).getLsbD 63 = true ∧
    (linkAt 543 pUp).portState (543 : Fin 544) ≠ pAlign ∧ (linkAt 543 pUp).portState (543 : Fin 544) ≠ pHold := by
  decide +kernel

theorem witness_Lanes : (linkAt 511 pUp).awake = true ∧ (linkAt 511 pUp).portState (511 : Fin 512) = pUp ∧
    ((linkAt 511 pUp).setFld (Reg.CL_SP_CTL (511 : Fin 512)) Fld.CL_SP_CTL_TXALLOW 7).furled (511 : Fin 512) = false ∧
    (((linkAt 511 pUp).setReg (Reg.SVB_PORT 511) (pack [(Fld.SVB_PORT_STATE, 3)])).setFld (Reg.CL_SP_CTL (511 : Fin 512)) Fld.CL_SP_CTL_TXALLOW 7).furled
      (511 : Fin 512) = true := by
  decide +kernel

theorem witness_Lanes_fec : let s := (late4000 stService).setLink 511 { fecBack := [(3, 100000000000)] }
    let up := s.setPortState 511 pUp
    up.awake = true ∧ up.portState (511 : Fin 512) ≠ pDark ∧ 0 < SMap.get 0 (up.link (511 : Fin 512)).fecBack (3 : Fin 4) ∧
    up.tick < SMap.get 0 (up.link (511 : Fin 512)).fecBack (3 : Fin 4) - 1 + secTicks 1 ∧ SMap.get 0 (up.link (511 : Fin 512)).fecBack (2 : Fin 4) = 0 ∧
    s.portState (511 : Fin 512) = pDark := by
  decide +kernel

theorem witness_Reef : let s := (linkAt 3 pUp).setLink 3 { reefTx := [(3, 0)], reefRx := [(1, 0)] }
    s.awake = true ∧ s.portState (3 : Fin 512) = pUp ∧ seqLe 0 (s.stripe (3 : Fin 512)) = true ∧
    (s.link (3 : Fin 512)).reefTx = (3, 0) :: [] ∧ (s.link (3 : Fin 512)).reefRx = (1, 0) :: [] ∧ ((linkAt 3 pUp).link (3 : Fin 512)).reefTx = [] ∧
    ((linkAt 3 pUp).link (3 : Fin 512)).reefRx = [] := by
  decide +kernel

theorem witness_Swap : let s := up.setLaser 63 3 Fld.CL_OE_LASER_SPARE 2
    s.swapWaits 63 3 = true ∧ (s.reg (Reg.CL_OE_CTL 63)).getLsbD 0 = false ∧ (∀ p ∈ enginePorts 63, s.portState p = pDark) ∧
    ¬ (s.laserPower 63 3 ≤ -300) ∧ s.laserFld 63 3 Fld.CL_OE_LASER_STATE ≠ 3 ∧
    (let h := s.setFld (Reg.CL_OE_CTL 63) Fld.CL_OE_CTL_SWAPHELD 1
     h.swapWaits 63 3 = true ∧ ¬ (h.laserPower 63 3 ≤ -300) ∧ h.laserFld 63 3 Fld.CL_OE_LASER_STATE ≠ 3 ∧
     (h.reg (Reg.CL_OE_CTL 63)).getLsbD 0 = true ∧ (h.reg (Reg.CL_OE_CTL 63)).getLsbD 4 = false) := by
  decide +kernel

theorem witness_Laser : up.awake = true ∧ up.laserFld (63 : Fin 64) (3 : Fin 4) Fld.CL_OE_LASER_SOURCE = 0 ∧
    up.laserFld (63 : Fin 64) (3 : Fin 4) Fld.CL_OE_LASER_STATE = 0 ∧ (0xFF6A : BitVec 16).toInt ≤ -150 ∧ (0xFED4 : BitVec 16).toInt ≤ -300 := by
  decide +kernel

theorem witness_Span : (linkAt 543 pUp).awake = true ∧ ((linkAt 543 pUp).cmis (31 : Fin 32)).access = none := by
  decide +kernel

theorem witness_Span_access : let s := (linkAt 543 pUp).setCmis 31 { access := some (Fld.CL_SX_CMIS_CMD_WRITE.word 1) }
    s.awake = true ∧ (s.cmis (31 : Fin 32)).access = some (Fld.CL_SX_CMIS_CMD_WRITE.word 1) := by
  decide +kernel

/-- A bypass entry: OP, ports, TAG, instant. -/
def bypEntry (op a b tag t : Nat) : Entry :=
  entryOfBytes ([BitVec.ofNat 8 op, 0] ++ beBytes 2 a ++ beBytes 2 b ++ beBytes 2 tag ++ beBytes 8 t)

theorem witness_Bypass_take : let s := up.setQueue engBypass 7 [bypEntry 1 3 63 9 20000]
    s.awake = true ∧ s.nextEntry engBypass = some (7, bypEntry 1 3 63 9 20000) ∧ s.eng.bypass.length < 256 ∧
    entryOp (bypEntry 1 3 63 9 20000) = opConnect ∧ (s.popQueue engBypass 7).bypassCheck (bypEntry 1 3 63 9 20000) = bcOk ∧
    entryOp (bypEntry 2 3 63 9 20000) = opRelease ∧ entryOp (bypEntry 3 3 3 9 20000) = opLoop := by
  decide +kernel

theorem witness_Bypass_instant : let s := (up.setFld Reg.TIM_STAT Fld.TIM_STAT_STATE 2).onEng (fun x => { x with bypass := [bypEntry 1 3 63 9 0] })
    s.awake = true ∧ earliest s.eng.bypass = some 0 ∧ 0 ≤ s.nowNs ∧ s.bypassJudge (bypEntry 1 3 63 9 0) = bcOk ∧
    entryOp (bypEntry 1 3 63 9 0) = opConnect ∧ s.bypassJudge (bypEntry 3 3 3 9 0) = bcOk ∧
    (s.setPath 3 2 3).bypassJudge (bypEntry 2 3 3 9 0) = bcOk ∧ up.bypassJudge (bypEntry 2 3 63 9 0) ≠ bcOk ∧
    earliest up.eng.bypass = none ∧ up.nextEntry engBypass = none := by
  decide +kernel

theorem witness_Bypass_path : let s := up.onEng (fun x => { x with moving := [(3, 63, bypEntry 1 3 63 9 0, 0)] })
    s.awake = true ∧ s.movingAt (63 : Fin 512) = some (3, 63, bypEntry 1 3 63 9 0, 0) ∧ (4000 : BitVec 14).toNat ≤ 4000 ∧ s.nowNs ≤ 0 + 4000 ∧
    s.movingAt (62 : Fin 512) = none := by
  decide +kernel

theorem witness_LoftPart : up.awake = true ∧ up.partOk (up.reg Reg.LFT_PART) = true ∧ up.partOk 0 = false := by decide +kernel

theorem witness_LoftPatrol : up.awake = true ∧ 288 * 2 ^ 30 - 1 < 288 * 2 ^ 30 ∧ up.pathCut = false ∧ (up.cut cutTrip).pathCut = true := by
  decide +kernel

theorem witness_Egress_send : let s := ((linkAt 7 pUp).setEqueue 7 5 [{ f := { kind := kData, vc := 5 } }]).setVc 7 5 { credit := 9, creditGot := 9 }
    let h : Held := { f := { kind := kData, vc := 5 } }
    s.awake = true ∧ s.portState (7 : Fin 544) = pUp ∧ ((s.noteWaits (7 : Fin 544)).pickVc (7 : Fin 544)).map (fun x => x.1) = some 5 ∧
    (s.noteWaits (7 : Fin 544)).head? (7 : Fin 544) 5 = some (.new h) := by
  decide +kernel

theorem witness_Egress_again : let h : Held := { f := { kind := kData, vc := 5 } }
    let s := (linkAt 7 pUp).setVc 7 5 { credit := 9, creditGot := 9, sent := 1, unacked := [{ seq := 0, h := h, sentAt := 0 }], resend := [0] }
    ((s.noteWaits (7 : Fin 544)).pickVc (7 : Fin 544)).map (fun x => x.1) = some 5 ∧
    (s.noteWaits (7 : Fin 544)).head? (7 : Fin 544) 5 = some (.again { seq := 0, h := h, sentAt := 0 }) := by
  decide +kernel

/-- Port 7 gated with an administrative list of one entry of 1,000 ns. -/
def gated7 : State := ((up.setReg (Reg.CL_EG_GCL 7 0) (0xFF00000000 + 1000)).setFld (Reg.CL_EG_CTL 7) Fld.CL_EG_CTL_ADMINLEN 1).setFld
  (Reg.CL_EG_CTL 7) Fld.CL_EG_CTL_GATEEN 1

theorem witness_Egress_gcl : gated7.awake = true ∧ gated7.flag (Reg.CL_EG_CTL (7 : Fin 544)) Fld.CL_EG_CTL_COMMIT = false ∧
    adminGood (gated7.adminList (7 : Fin 544)) = true ∧ adminGood (up.adminList (7 : Fin 544)) = false ∧
    ((gated7.setEgPort 7 { swapAt := some 0 }).egPort (7 : Fin 544)).swapAt = some 0 ∧ (gated7.egPort (7 : Fin 544)).swapAt = none ∧
    (gated7.setFld (Reg.CL_EG_CTL 7) Fld.CL_EG_CTL_COMMIT 1).flag (Reg.CL_EG_CTL (7 : Fin 544)) Fld.CL_EG_CTL_COMMIT = true := by
  decide +kernel

theorem witness_Egress_idle : (linkAt 7 pUp).portState (7 : Fin 544) = pUp ∧ (((linkAt 7 pUp).noteWaits (7 : Fin 544)).pickVc (7 : Fin 544)).isNone = true ∧
    up.portState (7 : Fin 544) ≠ pUp := by
  decide +kernel

theorem witness_Forward_noRoute : staged7.awake = true ∧ staged7.stagedAt ref7 = some { f := { kind := kData, vc := 5, dst := 9 } } ∧
    staged7.ownFrame { kind := kData, vc := 5, dst := 9 } = false ∧ staged7.target { kind := kData, vc := 5, dst := 9 } = none := by
  decide +kernel

/-- The same with a Destination entry in port form for port 8, which is in UP or not. -/
def routed7 (st : Nat) : State := ((staged7.setPortState 8 st).setLanes 8 15 15).onTbl (fun t => { t with
  entries := [(0, { data := BitVec.ofNat 512 ((2 * 2 ^ 62 + 8 * 2 ^ 48) * 2 ^ 448) })] })

theorem witness_Forward_member : ∃ g, (routed7 pUp).target { kind := kData, vc := 5, dst := 9 } = some g ∧
    (routed7 pUp).routeBroken (7 : Fin 544) { kind := kData, vc := 5, dst := 9 } = false ∧
    (routed7 pUp).choose (clusterOf (7 : Fin 544)) g { kind := kData, vc := 5, dst := 9 } = .member 8 ∧ (routed7 pUp).behind ref7 { f := { kind := kData, vc := 5, dst := 9 } } 8 = false :=
  ⟨((routed7 pUp).target { kind := kData, vc := 5, dst := 9 }).get (by decide +kernel), by decide +kernel, by decide +kernel, by decide +kernel, by decide +kernel⟩

theorem witness_Forward_noElig : ∃ g, (routed7 pDark).target { kind := kData, vc := 5, dst := 9 } = some g ∧
    (routed7 pDark).choose (clusterOf (7 : Fin 544)) g { kind := kData, vc := 5, dst := 9 } = .noElig :=
  ⟨((routed7 pDark).target { kind := kData, vc := 5, dst := 9 }).get (by decide +kernel), by decide +kernel, by decide +kernel⟩

theorem witness_Forward_source : let s := (routed7 pUp).setSource qBosun [{ f := { kind := kData, vc := 5, dst := 9 }, aims := [.route] }]
    s.awake = true ∧ (s.admitSource (sourceKey .bosun) 0).1 = some { f := { kind := kData, vc := 5, dst := 9 }, aims := [.route] } := by
  decide +kernel

theorem witness_Forward_commit : let s := (routed7 pUp).setSource qBosun [{ f := { kind := kData, vc := 5, dst := 9 }, aims := [.route], note := .commit 1 2 }]
    (s.admitSource (sourceKey .bosun) 0).1 = some { f := { kind := kData, vc := 5, dst := 9 }, aims := [.route], note := .commit 1 2 } := by
  decide +kernel

theorem witness_Forward_own : let s := up.setStaged 7 3 [contrib18]
    s.awake = true ∧ s.stagedAt ⟨7, 3, 0⟩ = some contrib18 ∧ s.ownFrame contrib18.f = true ∧ s.stagedAt ⟨7, 3, 1⟩ = none := by
  decide +kernel

theorem witness_Forward_nrwait : let s := { staged7.setStaged 7 5 [{ f := { kind := kData, vc := 5, dst := 9 }, m := { noElig := some 0 } }] with tick := 10000000 }
    s.awake = true ∧ s.alsoNow (fun i => i == .memberEligible (.staged ref7)) = false ∧
    s.since 0 (usTicks (s.nrwait (clusterOf ref7.port))) = true ∧ s.stagedNoElig { kind := kData, vc := 5, dst := 9 } = true ∧
    s.alsoNow (fun i => i == .memberEligible (.handedBack 15 0)) = false ∧ (s.handedAt (15 : Fin 16))[0]? = none ∧
    (({ s with pending := [.memberEligible (.staged ref7)] } : State).alsoNow (fun i => i == .memberEligible (.staged ref7))) = true := by
  decide +kernel

theorem witness_Forward_handed : let b : HandedBack := { port := 7, vc := 5, h := { f := { kind := kData, vc := 5, dst := 9 } } }
    let s := { up.setHanded 15 [b] with tick := 10000000 }
    (s.handedAt (15 : Fin 16))[0]? = some b ∧ s.since b.h.m.since (usTicks (s.nrwait (15 : Fin 16))) = true ∧ s.noEligible b.h.f b.h.m.aim = true := by
  decide +kernel

theorem witness_Forward_told : let x : SrcFrame := { f := { kind := kData, vc := 5, dst := 9 }, aims := [.route] }
    let s := { (routed7 pDark).setSource qBosun [x] with tick := 10000000 }
    s.awake = true ∧ s.alsoNow (fun i => i == .memberEligible (.atSource .bosun 0)) = false ∧ (s.source (sourceKey .bosun))[0]? = some x ∧
    x.faulted = false ∧ (∃ a ∈ x.aims, (∀ gs, a ≠ .mcast gs) ∧ (s.aimGroup x.f a).isSome = true ∧ s.noEligible x.f a = true) ∧
    s.since x.since (usTicks (s.nrwait (sourceCluster (sourceKey .bosun)))) = true ∧ (up.source (sourceKey .bosun))[0]? = none := by
  refine ⟨by decide +kernel, by decide +kernel, by decide +kernel, by decide +kernel, ⟨.route, by decide +kernel, ?_, by decide +kernel, by decide +kernel⟩, by decide +kernel, by decide +kernel⟩
  intro gs; exact fun h => Aim.noConfusion h

theorem witness_Forward_late : let s := { up.setStaged 7 0 [{ f := { kind := kMgmt, dst := 9 } }] with tick := 10000000 }
    s.awake = true ∧ s.stagedAt ⟨7, 0, 0⟩ = some { f := { kind := kMgmt, dst := 9 } } ∧
    s.ownFrame { kind := kMgmt, dst := 9 } = false ∧ s.since 0 (usTicks (s.late (clusterOf (7 : Fin 544)))) = true := by
  decide +kernel

theorem witness_FrameReceive : let s := linkAt 543 pUp
    s.awake = true ∧ s.arrives (543 : Fin 544) (frameFrom 543 (frameCrc {} == 0) {} 0) = some s ∧ s.portState (543 : Fin 544) = pUp ∧
    s.carries = true ∧ frameCrc { kind := kMgmt } ≠ (0 : BitVec 32).toNat ∧
    frameCrc { kind := kMgmt } = (BitVec.ofNat 32 (frameCrc { kind := kMgmt })).toNat ∧
    looping.arrives (5 : Fin 544) (frameFrom 5 true {} 0) = none ∧ (linkAt 5 pDark).portState (5 : Fin 544) ≠ pUp := by
  decide +kernel

/-- A DATA frame of job 5 for another module, which has a route to it. -/
def stray : Frame := { kind := kData, vc := 5, job := 5, dst := 9, payload := [0, 0, 0, 0], plen := 4 }

theorem witness_FrameReceive_stray : let s := ((inMode stStandby).setPortState 7 pUp).onTbl (fun t => { t with
      entries := [(0, { data := BitVec.ofNat 512 ((2 * 2 ^ 62 + 8 * 2 ^ 48) * 2 ^ 448) })] })
    s.awake = true ∧ s.portState (7 : Fin 544) = pUp ∧ stray.job ≠ 0 ∧ s.carries = false ∧
    s.ingressCheck 7 { f := stray, m := { pin := 7, badJob := false } } = none := by
  decide +kernel

theorem witness_FrameReceive_hop : let s := (linkAt 3 pUp).setVc 3 0 { rxNext := 5, rxHold := [(7, { f := { hopseq := 7 } })] }
    (s.vc (3 : Fin 544) 0).rxNext = 5 ∧ seqLe (s.vc (3 : Fin 544) 0).rxNext 4 = false ∧ seqLe (s.vc (3 : Fin 544) 0).rxNext 6 = true ∧
    (∀ x ∈ (s.vc (3 : Fin 544) 0).rxHold, x.1 ≠ 6) ∧
    (s.vc (3 : Fin 544) 0).overflowed = false ∧ s.holdUse (3 : Fin 544) 0 + 64 + 0 ≤ holdSize (3 : Fin 544) ∧
    ¬ s.holdUse (3 : Fin 544) 0 + 64 + (65535 : BitVec 16).toNat ≤ holdSize (3 : Fin 544) := by
  decide +kernel

theorem witness_Table_range : indexBad 0 8191 = false ∧ indexBad 0 8192 = true ∧ up.mayWrite (.bosun 0) = true := by
  decide +kernel

theorem witness_Table_write : let d : BitVec 512 := BitVec.ofNat 512 ((2 * 2 ^ 62 + 8 * 2 ^ 48) * 2 ^ 448)
    formStatus 0 5 (tblNarrow 0 d) = tsOk ∧ up.directStatus 0 5 1 0 (tblNarrow 0 d) = tsOk ∧
    up.directStatus 0 5 2 9 (tblNarrow 0 d) = tsCasfail := by
  decide +kernel

theorem witness_Table_engine : (up.setQueue engTable 7 [entryOfBytes [3]]).nextEntry engTable = some (7, entryOfBytes [3]) ∧
    entryOp (entryOfBytes [3]) = 3 ∧ entryOp (entryOfBytes [2]) = 2 ∧ entryOp (entryOfBytes [1]) = 1 ∧
    (up.setQueue engTable 7 [entryOfBytes [3]]).tbl.image = none ∧ up.nextEntry engTable = none := by
  decide +kernel

theorem witness_Crow : up.awake = true ∧ (0x500000001#64).getLsbD 0 = true ∧ (up.reg Reg.LFT_CN_CTL).getLsbD 0 = false ∧
    (2#64).getLsbD 0 = false := by
  decide +kernel

/-- A module in SERVICE, 4,000 s after power-on, whose record 259 = 256 · 1 + 3 holds round 1 of collective 1 in a state. -/
def roundAt (st : BitVec 4) : State := (late4000 stService).setRound 259 { state := st, coll := 1, round := 1 }

theorem witness_Round_timers : (roundAt rsOpen).awake = true ∧ ((roundAt rsOpen).round (256 * 1 + 3)).state = rsOpen ∧
    (roundAt rsOpen).since 0 (cxTimeout ((roundAt rsOpen).cx 1)) = true ∧
    (roundAt rsFaulted).mayFree ((roundAt rsFaulted).round 259) = true ∧ ((roundAt rsFaulted).round 259).faultAt = 0 := by
  decide +kernel

/-- Home of collective 1: a map of two homes, 0 and 5, so that home 5 is another module's, reached over span port 543. -/
def twoHomes : State := (roundAt rsTallied).onTbl (fun t => { t with
  entries := [(5, { data := BitVec.ofNat 512 ((2 ^ 31 + 543 * 2 ^ 16) * 2 ^ 448) }), (2 * 65536 + 1, { data := entryOfBytes ([0x80] ++ List.replicate 4 0 ++
    beBytes 3 8 ++ List.replicate 18 0 ++ [0, 0x20, 0, 0x50] ++ List.replicate 34 0) })] })

theorem witness_Round_nocommit : ((twoHomes.round 259).state = rsTallied) ∧
    (twoHomes.otherHomes (twoHomes.cx (twoHomes.round 259).coll.toNat)).all (fun h => (twoHomes.round 259).commits.contains h) = false ∧
    twoHomes.since (twoHomes.round 259).talliedAt (4 * cxTimeout (twoHomes.cx 1)) = true := by
  decide +kernel

/-- A RESULT or COMMIT of home 5 for collective 1, round 1. -/
def downFrom5 (k : BitVec 6) : Frame :=
  { kind := k, vc := 4, flags := flEpoch ||| flSrcmod ||| flDstmod, plen := 4, src := 5, coll := 1, round := 1,
    payload := [0, 0, 0, 4] }

/-- The same with a RESULT or COMMIT of home 5 from span port 512 at the head of VC 4. -/
def downAt (k : BitVec 6) : State := twoHomes.setStaged 512 4 [{ f := downFrom5 k }]

theorem witness_Round_down : (downAt kResult).awake = true ∧ (∃ h, (downAt kResult).stagedAt ⟨512, 4, 0⟩ = some h ∧ (downAt kResult).ownFrame h.f = true ∧
    h.f.kind = kResult) ∧ (∃ h, (downAt kCommit).stagedAt ⟨512, 4, 0⟩ = some h ∧ (downAt kCommit).ownFrame h.f = true ∧ h.f.kind = kCommit) ∧
    (downAt kCommit).findRound 1 1 = some 259 := by
  refine ⟨by decide +kernel, ⟨((downAt kResult).stagedAt ⟨512, 4, 0⟩).get (by decide +kernel), by decide +kernel, by decide +kernel, by decide +kernel⟩,
    ⟨((downAt kCommit).stagedAt ⟨512, 4, 0⟩).get (by decide +kernel), by decide +kernel, by decide +kernel, by decide +kernel⟩, by decide +kernel⟩

/-- A dispatcher entry of cluster 2: OP, core and TAG, all else zero. -/
def dspEntry (op core tag : Nat) : Entry := entryOfBytes ([BitVec.ofNat 8 op, 0] ++ beBytes 2 core ++ beBytes 2 0 ++ beBytes 2 tag)

/-- A module in SERVICE with that entry next in the dispatcher of cluster 2. -/
def dspNext (op core tag : Nat) : State := up.setQueue (engDsp 2) 7 [dspEntry op core tag]

theorem witness_Dispatcher_good : (dspNext 2 0 9).awake = true ∧ (dspNext 2 0 9).clusterState 2 = 0 ∧
    (dspNext 2 0 9).nextEntry (engDsp 2) = some (7, dspEntry 2 0 9) ∧ deGood (dspEntry 1 0 9) = true ∧ deGood (dspEntry 2 0 9) = true ∧
    deGood (dspEntry 3 95 9) = true ∧ deGood (dspEntry 4 95 9) = true ∧
    entryOp (dspEntry 1 0 9) = 1 ∧ entryOp (dspEntry 2 0 9) = 2 ∧ entryOp (dspEntry 3 95 9) = 3 ∧ entryOp (dspEntry 4 95 9) = 4 := by
  decide +kernel

theorem witness_Dispatcher_none : up.nextEntry (engDsp 2) = none ∧ (up.setCluster 2 1).clusterState 2 ≠ 0 := by
  decide +kernel

theorem witness_Dispatcher_bad : deGood (dspEntry 5 0 9) = false ∧ entryOp (dspEntry 5 0 9) = 5 ∧ deGood (dspEntry 2 1 9) = false ∧
    deGood (dspEntry 3 128 9) = false ∧ deGood (dspEntry 4 128 9) = false ∧ deGood (dspEntry 0 0 9) = false := by
  decide +kernel

theorem witness_Dispatcher_psdata : upOp.mayRead (.uzA 0) = true ∧ upOp.tenantSource (.uzA 0) = false ∧
    (up.setSession 0 0 { opened := true, tenant := true, job := 9 }).tenantSource (.uzA 0) = true ∧
    (up.setSession 0 0 { opened := true, tenant := true, job := 9 }).mayRead (.uzA 0) = true := by
  decide +kernel

/-- Chunk 18's slot before the contribution: ACCUM, HELD, or with the contributor counted. -/
def slotted (st bits : Nat) : State := (ready18 rsOpen {}).setSlot (slotKey 1 1 18) { state := st, runs := [(1, 3)], bitmap := BitVec.ofNat 520 bits }

theorem witness_Descriptor_found : let s := ready18 rsOpen {}
    s.awake = true ∧ s.stagedAt ⟨0, 3, 0⟩ = some contrib18 ∧ s.ownFrame contrib18.f = true ∧ s.findRound 1 1 = some 259 ∧
    s.boundCore 2 1 18 = some 5 ∧ s.contribBit (s.cx 1) 0 = some 0 ∧ (s.core 2 5).st = coGated ∧ s.clusterState 2 = 0 ∧
    (s.slot (slotKey 1 1 18)).state = 0 ∧ (s.takeSlot 2 5 (s.cx 1)).map (fun p => p.1.spill) = some false := by
  decide +kernel

theorem witness_Descriptor_dropped : ((ready18 rsOpen {}).setRound 259 {}).findRound 1 1 = none ∧
    ((ready18 rsFaulted {}).round 259).state = rsFaulted ∧ ((ready18 rsOpen {}).onMill (fun m => { m with binds := [] })).boundCore 2 1 18 = none ∧
    ((ready18 rsOpen { st := coDisabled }).core 2 5).st = coDisabled ∧ ((ready18 rsOpen { st := coReset }).core 2 5).st = coReset := by
  decide +kernel

theorem witness_Descriptor_slot : ((slotted 1 2).slot (slotKey 1 1 18)).state ≠ 0 ∧ ((slotted 1 2).slot (slotKey 1 1 18)).bitmap.getLsbD 0 = false ∧
    ((slotted 1 1).slot (slotKey 1 1 18)).bitmap.getLsbD 0 = true ∧ ((slotted 3 2).slot (slotKey 1 1 18)).state == 3 := by
  decide +kernel

/-- The accumulator region of cluster 2 has no room. -/
def fullBank : State := (ready18 rsOpen {}).setReg (Reg.CL_BUF_CTL 2) 0

theorem witness_Descriptor_spill : (fullBank.takeSlot 2 5 (fullBank.cx 1)).map (fun p => p.1.spill) = some true ∧
    ((fullBank.setFld Reg.LFT_PART Fld.LFT_PART_SPILL 0).takeSlot 2 5 (fullBank.cx 1)).isNone = true := by
  decide +kernel

theorem witness_Invocation : let s := ready18 rsOpen { st := coIdle, dq := [desc18] }
    s.coreCmd 2 = true ∧ (s.core 2 5).st = coIdle ∧ (s.core 2 5).dq = [desc18] := by
  decide +kernel

theorem witness_Invocation_back : let s := ((ready18 rsOpen { st := coIdle, dq := [desc18], winKey := some (slotKey 1 1 34), dirty := [(0, true)] }).setSlot
      (slotKey 1 1 34) { state := 1, spill := true, runs := [(1, 3)] })
    s.coreCmd 2 = true ∧ (s.core 2 5).winKey ≠ some desc18.key ∧ (s.backFails 2 5 true).isSome = true ∧ (s.backFails 2 5 false).isSome = false ∧
    ((ready18 rsOpen {}).core 2 5).dq = [] ∧ ((ready18 rsOpen {}).core 2 5).st ≠ coIdle ∧ ((ready18 rsOpen {}).core 2 5).st ≠ coRun := by
  decide +kernel

theorem witness_Descriptor_other : staged7.stagedAt ref7 = some { f := { kind := kData, vc := 5, dst := 9 } } ∧ kData ≠ kContrib ∧
    up.stagedAt ref7 = none := by
  decide +kernel

/-- Core (2, 5) in state `x`, in SERVICE, 4,000 s after power-on. -/
def coreIs (x : Core) : State := (late4000 stService).setCore 2 5 x

theorem witness_Core_states : (coreIs {}).coreCmd 2 = true ∧ ((coreIs {}).core 2 5).st ≠ coDisabled ∧
    ((coreIs { st := coDisabled, wakeAt := some 0 }).core 2 5).st = coDisabled ∧
    ((coreIs { st := coDisabled, wakeAt := some 0 }).core 2 5).wakeAt.isSome = true ∧
    ((coreIs { st := coReset }).core 2 5).st = coReset ∧ ((coreIs { wakeAt := some 0 }).core 2 5).wakeAt.isSome = true ∧
    ((coreIs { st := coIdle }).core 2 5).dq = [] ∧ ((coreIs { st := coIdle }).coreBinds 2 5).isEmpty = true := by
  decide +kernel

theorem witness_Core_running : let s := coreIs { st := coRun, desc := some desc18 }
    s.coreCmd 2 = true ∧ (s.core 2 5).st ≠ coReset ∧ (s.core 2 5).st ≠ coDisabled := by
  decide +kernel

theorem witness_Cluster_power : (late4000 stService).awake = true := by
  decide +kernel

theorem witness_MillEncoding : (MInstr.alu .vfma 63 0 1 0 1 0 0 1 7 8192).good = true ∧
    decodeMill (0x213F00010107A000#64) = some (.alu .vfma 63 0 1 0 1 0 0 1 7 8192) := by
  decide +kernel

/-- Words written out from the instruction tables of the spec. -/
theorem test_mill_words :
    decodeMill 0x01C0C0C000000005#64 = some (.br 0xC0 0 0 5) ∧
    decodeMill 0x02C041C000000003#64 = some (.loop 0x41 0 3) ∧
    decodeMill 0x0342C0C0000000FF#64 = some (.wait 0x42 0 0xFF) ∧
    decodeMill 0x04C0C0C000000511#64 = some (.sig 0xC0 5 0x11) ∧
    decodeMill 0x05C0C0C000000000#64 = some (.halt 0xC0 0 0) ∧
    decodeMill 0x1000C0C000000000#64 = some (.frx 0 0 0 0 0) ∧
    decodeMill 0x11C000C000000040#64 = some (.ftx 0 0 0 64) ∧
    decodeMill 0x2002000100000040#64 = some (.alu .vadd 2 0 1 0 0 0 0 0 0 64) ∧
    decodeMill 0x3002000005000000#64 = none ∧ decodeMill 0x300200C005000040#64 = some (.vmxd 2 0 0 5 0 64) ∧
    decodeMill 0x4081C0C000000000#64 = some (.tally 0x81 0xC0) ∧
    decodeMill 0x4800C0C000000001#64 = some (.ldb 0 0xC0 0 1) ∧
    decodeMill 0x49C000C000000001#64 = some (.stb 0 0xC0 0 1) ∧
    decodeMill 0x5045C0C000000000#64 = some (.shb 0x45) ∧
    decodeMill 0x06C0C0C000000000#64 = none := by
  decide +kernel

theorem witness_Mill_br : (runs 0x01C0C0C000000028#64 {}).issues 2 5 (.br 0xC0 0 0 40) (prepAt (runs 0x01C0C0C000000028#64 {}) (.br 0xC0 0 0 40)) ∧
    ({} : Core).cond 0 0xC0 0 = true ∧ ({} : Core).cond 4 0x41 0 = false :=
  ⟨issues_of 0x01C0C0C000000028#64 .none (by decide +kernel), by decide +kernel, by decide +kernel⟩

theorem witness_Mill_br_not : (runs 0x01C041C040000028#64 {}).issues 2 5 (.br 0x41 4 0 40) (prepAt (runs 0x01C041C040000028#64 {}) (.br 0x41 4 0 40)) :=
  issues_of 0x01C041C040000028#64 .none (by decide +kernel)

theorem witness_Mill_loop : (runs 0x02C0C0C0000FF003#64 {}).issues 2 5 (.loop 0xC0 255 3) (prepAt (runs 0x02C0C0C0000FF003#64 {}) (.loop 0xC0 255 3)) :=
  issues_of 0x02C0C0C0000FF003#64 .none (by decide +kernel)

theorem witness_Mill_loop_none : (runs 0x02C041C000000003#64 {}).issues 2 5 (.loop 0x41 0 3) (prepAt (runs 0x02C041C000000003#64 {}) (.loop 0x41 0 3)) :=
  issues_of 0x02C041C000000003#64 .none (by decide +kernel)

theorem witness_Mill_wait : (runs 0x0342C0C0000000FF#64 { flags := 3 }).issues 2 5 (.wait 0x42 0 0xFF)
    (prepAt (runs 0x0342C0C0000000FF#64 { flags := 3 }) (.wait 0x42 0 0xFF)) ∧
    (runs 0x0342C0C0000000FF#64 { flags := 3 }).waitMet 2 5 0 0xFF = true ∧ (runs 0x0342C0C0000000FF#64 {}).waitMet 2 5 0 0xFF = false :=
  ⟨issues_of 0x0342C0C0000000FF#64 .none (by decide +kernel), by decide +kernel, by decide +kernel⟩

theorem witness_Mill_wait_not : (runs 0x0342C0C0000000FF#64 {}).issues 2 5 (.wait 0x42 0 0xFF) (prepAt (runs 0x0342C0C0000000FF#64 {}) (.wait 0x42 0 0xFF)) :=
  issues_of 0x0342C0C0000000FF#64 .none (by decide +kernel)

/-- The core waits, its invocation begun at tick `t`. -/
def waiting (t : Nat) : State :=
  let s := runs 0x0342C0C0000000FF#64 {}
  s.setCore 2 5 { s.core 2 5 with
    st := coWait
    flags := 1
    startAt := t }

theorem witness_Mill_waitSatisfied : let s := waiting 100000000000
    (s.core 2 5).desc = some desc18 ∧ decodeMill (s.fetch 2 (s.core 2 5).pc) = some (.wait 0x42 0 0xFF) ∧ s.coreCmd 2 = true ∧
    (s.core 2 5).st = coWait ∧ s.waitMet 2 5 0 0xFF = true ∧
    max ((s.prep 2 5 desc18 (.wait 0x42 0 0xFF) .none).start + 1) ((s.core 2 5).flagCycle 0xFF) < watchdogCycles ∧
    (up.core 2 5).st ≠ coWait ∧ decodeMill ((runs 0x0342C0C0000000FF#64 {}).fetch 2 ((runs 0x0342C0C0000000FF#64 {}).core 2 5).pc) = some (.wait 0x42 0 0xFF) ∧
    (runs 0x0342C0C0000000FF#64 {}).waitMet 2 5 0 0xFF = false := by
  decide +kernel

theorem witness_Mill_wait_late : let s := (waiting 0).setCore 2 5 { (waiting 0).core 2 5 with flagAt := [(0, 2000000)] }
    watchdogCycles ≤ max ((s.prep 2 5 desc18 (.wait 0x42 0 0xFF) .none).start + 1) ((s.core 2 5).flagCycle 0xFF) := by
  decide +kernel

theorem witness_Mill_sig : (runs 0x04C0C0C000000511#64 {}).issues 2 5 (.sig 0xC0 5 0x11) (prepAt (runs 0x04C0C0C000000511#64 {}) (.sig 0xC0 5 0x11)) :=
  issues_of 0x04C0C0C000000511#64 .none (by decide +kernel)

theorem witness_Mill_sigArrive : let f : Flight := { n := 2, core := 5, mask := 3, slot := 0, due := 7 }
    let s := (ready18 rsOpen { st := coIdle }).onMill (fun m => { m with flights := [f] })
    s.awake = true ∧ s.nextFlight 2 = some f ∧ s.coreCmd 2 = true ∧
    (s.core 2 5).st = coIdle ∧ (s.coreBinds 2 5).any (fun b => s.collSlot b.coll == 0) = true ∧ (s.core 2 5).desc.isSome = false ∧
    (s.core 2 95).st = coGated ∧ up.nextFlight 2 = none := by
  decide +kernel

theorem witness_Mill_halt : (runs 0x05C0C0C000000000#64 {}).issues 2 5 (.halt 0xC0 0 0) (prepAt (runs 0x05C0C0C000000000#64 {}) (.halt 0xC0 0 0)) ∧
    ({} : Core).cond 0 0xC0 0 = true ∧ (prepAt (runs 0x05C0C0C000000000#64 {}) (.halt 0xC0 0 0)).start ≤ watchdogCycles :=
  ⟨issues_of 0x05C0C0C000000000#64 .none (by decide +kernel), by decide +kernel, by decide +kernel⟩

theorem witness_Mill_halt_not : (runs 0x05C041C040000000#64 {}).issues 2 5 (.halt 0x41 4 0) (prepAt (runs 0x05C041C040000000#64 {}) (.halt 0x41 4 0)) :=
  issues_of 0x05C041C040000000#64 .none (by decide +kernel)

/-- A HALT whose producer retires after the watchdog's cycle. -/
def lateHalt : State := runs 0x05C0C0C000000000#64 { tm := { retired := 2000001 } }

theorem witness_Mill_halt_late : lateHalt.issues 2 5 (.halt 0xC0 0 0) (prepAt lateHalt (.halt 0xC0 0 0)) ∧
    watchdogCycles < (prepAt lateHalt (.halt 0xC0 0 0)).last + 1 :=
  ⟨issues_of 0x05C0C0C000000000#64 .none (by decide +kernel), by decide +kernel⟩

theorem witness_Mill_vadd : (runs 0x2002000100000040#64 {}).issues 2 5 (.alu .vadd 2 0 1 0 0 0 0 0 0 64)
    (prepAt (runs 0x2002000100000040#64 {}) (.alu .vadd 2 0 1 0 0 0 0 0 0 64)) ∧
    (prepAt (runs 0x2002000100000040#64 {}) (.alu .vadd 2 0 1 0 0 0 0 0 0 64)).residue = false ∧
    (prepAt (runs 0x2002000100000040#64 {}) (.alu .vadd 2 0 1 0 0 0 0 0 0 64)).overlaps = false :=
  ⟨issues_of 0x2002000100000040#64 .none (by decide +kernel), by decide +kernel, by decide +kernel⟩

theorem witness_Mill_residue : (runs 0x2002000100000040#64 {}).issues 2 5 (.alu .vadd 2 0 1 0 0 0 0 0 0 64)
    (prepAt (runs 0x2002000100000040#64 {}) (.alu .vadd 2 0 1 0 0 0 0 0 0 64) .residue) ∧
    (prepAt (runs 0x2002000100000040#64 {}) (.alu .vadd 2 0 1 0 0 0 0 0 0 64) .residue).residue = true :=
  ⟨issues_of 0x2002000100000040#64 .residue (by decide +kernel), by decide +kernel⟩

/-- A context that names the formats bf16, MXFP8 and E5M2. -/
def formats : State → State := fun s => s.onTbl (fun t => { t with
  entries := SMap.put {} t.entries (2 * 65536 + 1) { data := entryOfBytes ([0x80, 0, 0, 0x15, 0x40] ++ beBytes 3 200 ++ beBytes 2 64 ++ List.replicate 54 0) } })

/-- VCAST of 128 bf16 elements at v0 to fp32 at v0: the groups overlap. -/
def castOver : State := formats (runs 0x250000C001000080#64 {})

theorem witness_Mill_overlap : castOver.issues 2 5 (.alu .vcast 0 0 0xC0 0 1 0 0 0 0 128) (prepAt castOver (.alu .vcast 0 0 0xC0 0 1 0 0 0 0 128)) ∧
    (prepAt castOver (.alu .vcast 0 0 0xC0 0 1 0 0 0 0 128)).overlaps = true :=
  ⟨issues_of 0x250000C001000080#64 .none (by decide +kernel), by decide +kernel⟩

/-- MXFP8 decoded to fp32, over itself or not, and encoded again. -/
def mxd (d : BitVec 8) : State := formats (runs (0x300000C005000040#64 ||| (d.setWidth 64 <<< 48)) {})

theorem witness_Mill_vmxd : (mxd 2).issues 2 5 (.vmxd 2 0 0 5 0 64) (prepAt (mxd 2) (.vmxd 2 0 0 5 0 64)) ∧
    (prepAt (mxd 2) (.vmxd 2 0 0 5 0 64)).overlaps = false ∧
    (mxd 0).issues 2 5 (.vmxd 0 0 0 5 0 64) (prepAt (mxd 0) (.vmxd 0 0 0 5 0 64)) ∧
    (prepAt (mxd 0) (.vmxd 0 0 0 5 0 64)).overlaps = true :=
  ⟨issues_of 0x300200C005000040#64 .none (by decide +kernel), by decide +kernel, issues_of 0x300000C005000040#64 .none (by decide +kernel), by decide +kernel⟩

def mxe (d : BitVec 8) : State := formats (runs (0x310000C050400040#64 ||| (d.setWidth 64 <<< 48)) {})

theorem witness_Mill_vmxe : (mxe 2).issues 2 5 (.vmxe 2 0 5 0 1 64) (prepAt (mxe 2) (.vmxe 2 0 5 0 1 64)) ∧
    (prepAt (mxe 2) (.vmxe 2 0 5 0 1 64)).overlaps = false ∧
    (mxe 0).issues 2 5 (.vmxe 0 0 5 0 1 64) (prepAt (mxe 0) (.vmxe 0 0 5 0 1 64)) ∧
    (prepAt (mxe 0) (.vmxe 0 0 5 0 1 64)).overlaps = true :=
  ⟨issues_of 0x310200C050400040#64 .none (by decide +kernel), by decide +kernel, issues_of 0x310000C050400040#64 .none (by decide +kernel), by decide +kernel⟩

theorem witness_Mill_vtkm : (runs 0x3804000100000000#64 {}).issues 2 5 (.vtkm 4 0 1) (prepAt (runs 0x3804000100000000#64 {}) (.vtkm 4 0 1)) ∧
    (runs 0x3804000100000000#64 {}).issues 2 5 (.vtkm 4 0 1) (prepAt (runs 0x3804000100000000#64 {}) (.vtkm 4 0 1) .residue) :=
  ⟨issues_of 0x3804000100000000#64 .none (by decide +kernel), issues_of 0x3804000100000000#64 .residue (by decide +kernel)⟩

theorem witness_Mill_frx : (runs 0x1000C0C000100000#64 {}).issues 2 5 (.frx 0 0 1 0 0) (prepAt (runs 0x1000C0C000100000#64 {}) (.frx 0 0 1 0 0)) ∧
    (runs 0x10C0C0C001100001#64 {}).issues 2 5 (.frx 0xC0 1 1 0 1) (prepAt (runs 0x10C0C0C001100001#64 {}) (.frx 0xC0 1 1 0 1)) ∧
    slotCells ((runs 0x10C0C0C001100001#64 {}).cx 1) = 3 ∧
    (runs 0x10C0C0C001100002#64 {}).issues 2 5 (.frx 0xC0 1 1 0 2) (prepAt (runs 0x10C0C0C001100002#64 {}) (.frx 0xC0 1 1 0 2)) :=
  ⟨issues_of 0x1000C0C000100000#64 .none (by decide +kernel), issues_of 0x10C0C0C001100001#64 .none (by decide +kernel), by decide +kernel,
    issues_of 0x10C0C0C001100002#64 .none (by decide +kernel)⟩

theorem witness_Mill_stb : (runs 0x49C000C000000001#64 {}).issues 2 5 (.stb 0 0xC0 0 1) (prepAt (runs 0x49C000C000000001#64 {}) (.stb 0 0xC0 0 1)) ∧
    (prepAt (runs 0x49C000C000000001#64 {}) (.stb 0 0xC0 0 1)).cells 0xC0 1 = 1 ∧
    (runs 0x49C000C000000002#64 {}).issues 2 5 (.stb 0 0xC0 0 2) (prepAt (runs 0x49C000C000000002#64 {}) (.stb 0 0xC0 0 2)) :=
  ⟨issues_of 0x49C000C000000001#64 .none (by decide +kernel), by decide +kernel, issues_of 0x49C000C000000002#64 .none (by decide +kernel)⟩

theorem witness_Mill_ldb : (runs 0x4800C0C000000001#64 { winFirst := true }).issues 2 5 (.ldb 0 0xC0 0 1)
    (prepAt (runs 0x4800C0C000000001#64 { winFirst := true }) (.ldb 0 0xC0 0 1)) ∧
    (List.range 2).all (fun i => (prepAt (runs 0x4800C0C000000001#64 { winFirst := true }) (.ldb 0 0xC0 0 1)).x.hasCell (1 + i)) = true ∧
    (runs 0x4800C0C000000002#64 {}).issues 2 5 (.ldb 0 0xC0 0 2) (prepAt (runs 0x4800C0C000000002#64 {}) (.ldb 0 0xC0 0 2)) :=
  ⟨issues_of 0x4800C0C000000001#64 .none (by decide +kernel), by decide +kernel, issues_of 0x4800C0C000000002#64 .none (by decide +kernel)⟩

theorem witness_Mill_tally : (runs 0x4081C0C000000000#64 {}).issues 2 5 (.tally 0x81 0xC0) (prepAt (runs 0x4081C0C000000000#64 {}) (.tally 0x81 0xC0)) ∧
    (prepAt (runs 0x4081C0C000000000#64 {}) (.tally 0x81 0xC0)).allTaken = true ∧
    (runs 0x4081C0C000000000#64 { tallied := true }).issues 2 5 (.tally 0x81 0xC0) (prepAt (runs 0x4081C0C000000000#64 { tallied := true }) (.tally 0x81 0xC0)) ∧
    (prepAt (runs 0x4081C0C000000000#64 {}) (.tally 0x81 0xC0) .residue).residue = true :=
  ⟨issues_of 0x4081C0C000000000#64 .none (by decide +kernel), by decide +kernel, issues_of 0x4081C0C000000000#64 .none (by decide +kernel), by decide +kernel⟩

/-- FTX of 64 elements in format `fmt`, the tally complete. -/
def ftxOf (fmt tgt : Nat) : State := runs (BitVec.ofNat 64 (0x11C000C000000040 + fmt * 2 ^ 28 + tgt * 2 ^ 24)) { complete := true }

theorem witness_Mill_ftx : (ftxOf 0 0).issues 2 5 (.ftx 0 0 0 64) (prepAt (ftxOf 0 0) (.ftx 0 0 0 64)) ∧
    (ftxOf 0 0).ftxRow ((ftxOf 0 0).cx 1) 18 = 0 ∧ ftxFormat ((ftxOf 0 0).cx 1) 0 = 0 ∧
    (prepAt (ftxOf 0 0) (.ftx 0 0 0 64)).emitBad 0 0 = false ∧ (prepAt (ftxOf 0 0) (.ftx 0 0 1 64)).emitBad 0 1 = true ∧
    (ftxOf 0 0).emissionsWaiting (qMill 2 5) = 0 ∧ (prepAt (ftxOf 0 0) (.ftx 0 0 0 64)).ftxCycle (ftxOf 0 0) < watchdogCycles ∧
    (ftxOf 0 0).findRound 1 1 = some 259 ∧ ((ftxOf 0 0).round 259).state ≠ rsFaulted :=
  ⟨issues_of 0x11C000C000000040#64 .none (by decide +kernel), by decide +kernel, by decide +kernel, by decide +kernel, by decide +kernel,
    by decide +kernel, by decide +kernel, by decide +kernel, by decide +kernel⟩

/-- The same where the chunk is homed at module 5, or its context's DEST is 1. -/
def ftxTo (home dest : Nat) : State := (ftxOf 0 0).onTbl (fun t => { t with
  entries := SMap.put {} t.entries (2 * 65536 + 1) { data := ((ftxOf 0 0).cx 1) ||| BitVec.ofNat 512 (dest * 2 ^ 506 + home * 2 ^ 308) } })

theorem witness_Mill_ftx_rows : (ftxTo 5 0).ftxRow ((ftxTo 5 0).cx 1) 18 = 2 ∧ (ftxTo 0 1).ftxRow ((ftxTo 0 1).cx 1) 18 = 1 ∧
    ftxFormat ((ftxTo 5 0).cx 1) 2 = 0 ∧ ftxFormat ((ftxTo 0 1).cx 1) 1 = 0 := by
  decide +kernel

theorem witness_Mill_shb : (runs 0x5045C0C000000000#64 {}).issues 2 5 (.shb 0x45) (prepAt (runs 0x5045C0C000000000#64 {}) (.shb 0x45)) :=
  issues_of 0x5045C0C000000000#64 .none (by decide +kernel)

/-- Core (2, 5) runs `w`, s1 naming the epoch-switch sheaf of record 259, which is in state `st`. -/
def sheafRuns (w : Word) (st : BitVec 2) : State :=
  (runs w { sreg := [(1, 0xF000 + 259)] }).setSheaf 0xF103 { state := st, coll := 1, round := 1 }

theorem witness_Mill_shc : (sheafRuns 0x5145C1C000000000#64 shOpen).sheafVisible 1 0xF103 = true ∧ up.sheafVisible 1 0xF103 = false ∧
    (sheafRuns 0x514541C000000000#64 shOpen).issues 2 5 (.shc 0x45 0x41) (prepAt (sheafRuns 0x514541C000000000#64 shOpen) (.shc 0x45 0x41)) ∧
    (prepAt (sheafRuns 0x514541C000000000#64 shOpen) (.shc 0x45 0x41)).x.s 0x41 = 0xF103 :=
  ⟨by decide +kernel, by decide +kernel, issues_of 0x514541C000000000#64 .none (by decide +kernel), by decide +kernel⟩

theorem witness_Mill_sha : (sheafRuns 0x524541C000000000#64 shOpen).issues 2 5 (.sha 0x45 0x41) (prepAt (sheafRuns 0x524541C000000000#64 shOpen) (.sha 0x45 0x41)) ∧
    ((sheafRuns 0x524541C000000000#64 shOpen).sheaf 0xF103).state = shOpen ∧ ((sheafRuns 0x524541C000000000#64 shAborted).sheaf 0xF103).state ≠ shOpen :=
  ⟨issues_of 0x524541C000000000#64 .none (by decide +kernel), by decide +kernel, by decide +kernel⟩

theorem witness_Mill_rows : let s := runs 0x01C0C0C000000028#64 {}
    s.coreCmd 2 = true ∧ (s.core 2 5).st = coRun ∧ (s.core 2 5).ftxGrn = false ∧ (s.core 2 5).desc = some desc18 ∧
    s.fetch 2 40 = 0x01C0C0C000000028#64 ∧ s.pstoreWord 2 (s.core 2 5) 0x01C0C0C000000028#64 = false ∧
    s.pstoreWord 2 (s.core 2 5) 0x01C0C0C000000060#64 = true ∧ s.fetch 2 96 = 0 ∧ reservedMajor 0x01C0C0C000000028#64 = false ∧
    reservedMajor 0x06C0C0C000000000#64 = true ∧ decodeMill 0x06C0C0C000000000#64 = none ∧ reservedMajor 0 = true ∧
    max (s.core 2 5).tm.issue ((s.core 2 5).tm.retired - 1) < watchdogCycles ∧ (s.core 2 6).desc.isSome = false := by
  decide +kernel

theorem witness_Mill_illegal : (prepAt (runs 0x2002000100000000#64 {}) (.alu .vadd 2 0 1 0 0 0 0 0 0 0)).illegal = true ∧
    ((MInstr.alu .vadd 2 0 1 0 0 0 0 0 0 64).reads { ne := 64, plen := 0, k := 0 }).isEmpty = false ∧
    (prepAt (runs 0x2500000100000040#64 {}) (.alu .vcast 0 0 0xC0 1 0 0 0 0 0 64)).format = true := by
  decide +kernel

/-- A Granary entry of channel 3: OP, BIX and TAG, all else zero. -/
def grnEntry (op bix tag : Nat) : Entry := entryOfBytes ([BitVec.ofNat 8 op, BitVec.ofNat 8 bix] ++ List.replicate 4 0 ++ beBytes 2 tag)

/-- A module in SERVICE whose Granary engine 3 runs, with that entry next. -/
def grnNext (op bix tag : Nat) : State := (up.setEngine 3 { up.engine 3 with st := 1 }).setQueue (engGrn 3) 7 [grnEntry op bix tag]

theorem witness_Granary_entries : (grnNext 2 5 9).awake = true ∧ ((grnNext 2 5 9).engine 3).st = 1 ∧ ((grnNext 2 5 9).engine 3).resilver = none ∧
    (grnNext 2 5 9).nextEntry (engGrn 3) = some (7, grnEntry 2 5 9) ∧ entryOp (grnEntry 1 5 9) = 1 ∧ entryOp (grnEntry 2 5 9) = 2 ∧
    entryOp (grnEntry 3 5 9) = 3 ∧ entryOp (grnEntry 4 0 9) = 4 ∧ entryOp (grnEntry 5 5 9) = 5 ∧ entryOp (grnEntry 6 0 9) = 6 ∧
    (((grnNext 2 5 9).setBinding 3 5 { valid := true }).unbindGrnStatus 3 (grnEntry 2 5 9)) = gsOk ∧
    (((grnNext 3 5 9).setBinding 3 5 { valid := true }).sethpStatus 3 (grnEntry 3 5 9)) = gsOk := by
  decide +kernel

/-- RESILVER of binding 5, one chunk from chunk 0. -/
def resilverEntry : Entry := entryOfBytes ([5, 5] ++ List.replicate 10 0 ++ beBytes 4 1)

theorem witness_Granary_resilver : let s := (up.setEngine 3 { up.engine 3 with
        st := 1
        resilver := some (resilverEntry, 0) }).setBinding 3 5 { valid := true, nchunk := 4, peerState := 1 }
    (s.engine 3).resilver = some (resilverEntry, 0) ∧ s.engineRuns 3 = true ∧ s.resilverStatus 3 resilverEntry = gsOk ∧
    (s.binding 3 5).peerState ≠ 0 := by
  decide +kernel

/-- A module in SERVICE, 4,000 s after power-on, whose Granary engine 3 is `e`. -/
def engineIs (e : Engine) : State := (late4000 stService).setEngine 3 e

/-- Record 259 holds round 1 of collective 1; chunk 3 of it. -/
def gchunk (phase : Nat) (grads : List (BitVec 32)) : GChunk :=
  { bix := 5, chunk := 3, h := 0, rrec := 259, coll := 1, round := 1, phase := phase, grads := grads }

def engineWith (phase : Nat) (grads : List (BitVec 32)) : State :=
  ((engineIs { st := 1, chunks := [gchunk phase grads] }).setRound 259 { state := rsTallied, coll := 1, round := 1 }).setBinding 3 5
    { valid := true, elems := 1, nchunk := 1, nanabort := true }

theorem witness_Granary_passes : (engineWith 0 [0x3F800000]).engineRuns 3 = true ∧
    ((engineWith 0 [0x3F800000]).engine 3).chunks = [gchunk 0 [0x3F800000]] ∧ (engineWith 0 [0x3F800000]).chunkLive (gchunk 0 [0x3F800000]) = true ∧
    badGrads [0x3F800000] = 0 ∧ badGrads [0x7F800000] = 1 ∧ ((engineWith 0 []).binding 3 5).nanabort = true ∧
    ((engineWith 0 []).setRound 259 {}).chunkLive (gchunk 0 []) = false ∧
    (engineWith 1 []).planeBusy 3 5 ((engineWith 1 []).binding 3 5) = false ∧
    ((engineWith 1 []).onMa (fun a => { a with reads := [{ gid := 1, j := 3, job := 1, addr := 0, len := 8, epoch := none, phys := 0, ver := some (197, 1), closeAt := 0, opened := false, members := [] }] })).planeBusy 3 5 {} = true := by
  decide +kernel

theorem witness_Granary_stall : let s := (engineIs { st := 1, chunks := [gchunk 0 [], gchunk 0 []] }).setBinding 3 5 { valid := true, fullAt := some 0 }
    s.awake = true ∧ (s.binding 3 5).fullAt = some 0 ∧ 2 ≤ (s.engine 3).places 5 ∧ s.since 0 (usTicks 500) = true ∧ s.placeFrees 3 5 = false := by
  decide +kernel

theorem witness_Granary_hang : let s := engineIs { st := 1, chunks := [gchunk 0 []] }
    s.awake = true ∧ (s.engine 3).st = 1 ∧ s.granaryHung 3 = true := by
  decide +kernel

theorem witness_Granary_gate : ((engineIs { st := 1 }).engineWork 3) = false ∧ (engineIs { st := 1 }).since 0 (usTicks 65535) = true ∧
    ((engineIs { st := 0, chunks := [gchunk 0 []] }).engineWork 3) = true := by
  decide +kernel

theorem witness_Granary_reset : let r := (engineIs { st := 1, resets := [99999999999, 99999999998] })
    let gone := ((r.endResilver 3).dropChunks 3 rfEngine).cut (cutChannel 3)
    (r.engine 3).st ≠ 4 ∧ r.isCut (cutChannel 3) = false ∧ r.hangNow 3 = false ∧ (gone.window (gone.engine 3).resets (secTicks 3600)).length = 3 := by
  decide +kernel

theorem witness_Granary_patrol : let s := up.setReg (Reg.GRN_ECTL 3) 0x10000
    s.reg (Reg.GRN_ECTL 3) &&& 0x10000 ≠ 0 ∧ s.pathCut = false ∧ s.awake = true ∧ State.reset.awake = false ∧
    (GrnFinding.corrected 0).wf = true ∧ (GrnFinding.corrected 536870912).wf = false ∧
    (up.setReg (Reg.GRN_ECTL 3) 0).reg (Reg.GRN_ECTL 3) &&& 0x10000 = 0 := by
  decide +kernel

/-- Region 3, owned by job 1 for every source, and Granary engine 3 in state `st`. -/
def region3 (st : Nat) : State := ((late4000 stService).setEngine 3 { (late4000 stService).engine 3 with st := st }).onTbl (fun t => { t with
  entries := [(3 * 65536 + 3, { data := BitVec.ofNat 512 ((2 ^ 63 + 2 * 2 ^ 61 + 2 ^ 32) * 2 ^ 448) })] })

/-- A request of a kind and SUBK for 64 (or, an atomic, 8) bytes of region 3. -/
def request (kind : BitVec 6) (subk : Byte) : Held :=
  { f := { kind := kind, vc := 2, flags := flDstmod ||| flFence, plen := if kind = kWrReq then 64 else 0, job := 1, src := 9, subk := subk,
           addr := 0x18000000, len := if kind = kAtReq then 8 else 64, count := if kind = kWrReq then 1 else 0,
           payload := List.replicate (if kind = kWrReq then 64 else 0) 0xA5 } }

theorem witness_Access_checks :
    ((region3 1).requestError (request kRdReq 0).f) = none ∧ ((region3 1).requestError (request kAtReq 2).f) = none ∧
    ((region3 1).requestError (request kWrReq 0).f) = none ∧ (up.requestError (request kRdReq 0).f).isSome = true ∧
    (up.requestError (request kAtReq 2).f).isSome = true ∧ (up.requestError (request kWrReq 0).f).isSome = true ∧
    (region3 1).ownFrame (request kRdReq 0).f = true ∧ (region3 1).serving (reqChan (request kRdReq 0).f) = true ∧
    ((region3 1).engine 3).st ≠ 0 ∧ (region3 1).mode ≠ stDraining ∧
    ((region3 1).setStaged 7 2 [request kRdReq 0]).stagedAt ⟨7, 2, 0⟩ = some (request kRdReq 0) ∧
    (region3 1).joinable (request kRdReq 0).f = none ∧ 64 ≤ (region3 1).replyRoom 3 := by
  decide +kernel

/-- A read group open in channel 3, read or not. -/
def readGroup3 (data : Option (List Byte)) : ReadGroup :=
  { gid := 4, j := 3, job := 1, addr := 0x18000000, len := 64, epoch := none, phys := 0x18000000, ver := none, closeAt := 0, opened := true,
    members := [requesterOf (request kRdReq 0).f], data := data }

def reading (data : Option (List Byte)) : State := (region3 1).onMa (fun a => { a with reads := [readGroup3 data] })

theorem witness_Access_read : (reading none).readGroup 4 = some (readGroup3 none) ∧ (reading none).since 0 0 = true ∧
    ((reading none).verify 3 (addrOff 0x18000000) 64 0).1 = true ∧
    (((reading none).onGrn (fun g => { g with bad := [(blockOf 0x18000000, 1)] })).verify 3 (addrOff 0x18000000) 64 0).1 = false ∧
    (({ (reading none) with tick := 0 } : State).onMa (fun a => { a with reads := [{ readGroup3 none with closeAt := 5 }] })).joinable
      (request kRdReq 0).f = some { readGroup3 none with closeAt := 5 } := by
  decide +kernel

/-- Atomic group 4 of channel 3, and a write tracker. -/
def atoms3 : AtomGroup := { gid := 4, j := 3, job := 1, addr := 0x18000000, subk := 2, closeAt := 0, members := [requesterOf (request kAtReq 2).f] }
def tracker3 (ended : Bool) : Tracker :=
  { j := 3, src := 9, tag := 0, job := 1, addr := 0x18000000, len := 64, pieces := [], got := 0, count := none, openAt := 0, blocks := [], ended := ended }

theorem witness_Access_atoms : let s := (region3 1).onMa (fun a => { a with
        atoms := [atoms3]
        trackers := [tracker3 false] })
    s.atomGroup 4 = some atoms3 ∧ s.since 0 0 = true ∧ s.serving 3 = true ∧ s.blockOk (blockOf (reqAddr 0x18000000)) = true ∧
    s.tracker 3 9 0 = some (tracker3 false) ∧ s.since 0 (msTicks s.wrWait) = true ∧
    ((region3 1).onMa (fun a => { a with trackers := [tracker3 true] })).tracker 3 9 0 = some (tracker3 true) := by
  decide +kernel

theorem witness_Access_journal : let s := (region3 1).setJournal 3 [{ src := 9, tag := 0, addr := 0x18000000, subk := 2, value := 0, committed := true, job := 1 }]
    ((s.journal 3).find? (journalMatch (requesterOf (request kAtReq 2).f))).isSome = true := by
  decide +kernel

theorem witness_Access_dead : (region3 3).serving 3 = false ∧ isRequest (request kRdReq 0).f = true ∧
    ((region3 3).requestError (request kRdReq 0).f) = none ∧ (region3 3).since 0 (usTicks (region3 3).deadWait) = true ∧ ((region3 3).engine 3).st = 3 := by
  decide +kernel

/-- A module in SERVICE, 4,000 s after power-on, whose sheaf `id` is OPEN with LIFE 100 ms. -/
def sheafOpen (id : Nat) : State := (late4000 stService).setSheaf id { state := shOpen, life := 100 }

theorem witness_Sheaf_commands : upOp.mayWrite (.uzA 0) = true ∧ upOp.opBusy (banked (.uzA 0) Reg.TBL_SH_CMD) = false ∧
    (upOp.startOp (banked (.uzA 0) Reg.TBL_SH_CMD)).opBusy (banked (.uzA 0) Reg.TBL_SH_CMD) = true ∧ State.reset.mayWrite (.uzA 0) = false ∧
    upOp.beginStatus 5 = ssOk ∧ upOp.beginStatus 0xF000 ≠ ssOk ∧
    Fld.TBL_SH_CMD_SHEAF.get ((Fld.TBL_SH_CMD_SHEAF.word 5) &&& 0x0300FFFFFFFFFFFF) = 5 ∧ softId 5 = true ∧ softId 0 = false ∧ softId 0xF103 = false ∧
    ((sheafOpen 5).sheaf 5).state = shOpen ∧ ((sheafOpen 5).sheaf 6).state ≠ shOpen ∧ ((sheafOpen 0xF103).sheaf 0xF103).state = shOpen ∧
    cmdMember (Fld.TBL_SH_CMD_MEMBER.word 1) = some (.promote 0) ∧ cmdMember (Fld.TBL_SH_CMD_MEMBER.word 3) = none ∧
    (((sheafOpen 5).setSession 0 0 { opened := true }).mayWrite (.uzA 0)) = true ∧
    (sheafOpen 5).since 0 (msTicks 100) = true ∧ (sheafOpen 5).outranked (.uzA 0) 5 = false := by
  decide +kernel

theorem witness_Sheaf_full : ((up.setSheaf 5 { state := shOpen, members := List.replicate 16 (.promote 9) }).sheaf 5).members.length = 16 := by
  decide +kernel

theorem witness_Sheaf_commit : ((sheafOpen 5).sheaf 5).staged = [] ∧ (sheafOpen 5).membersVerdict [] = 0 ∧ (sheafOpen 5).membersVerdict [.promote 9] ≠ 0 ∧
    (sheafOpen 5).stagedVerdict (sheafOpen 5) [{ t := 1, idx := 1, data := BitVec.ofNat 512 (3 * 2 ^ 510) }] ≠ tsOk := by
  decide +kernel

/-- A frame for this module at the head of VC `v` of port 7. -/
def stagedOwn (v : Fin 8) (f : Frame) : State := (late4000 stService).setStaged 7 v [{ f := { f with flags := f.flags ||| flDstmod } }]

def ackFrame (subk : Byte) : Frame := { kind := kStateAck, vc := 2, flags := flDstmod, src := 9, tag := 3, subk := subk }
def stateFrame (subk : Byte) (fence : Bool) : Frame :=
  { kind := kState, vc := 6, flags := if fence then flDstmod ||| flFence else flDstmod, src := 9, tag := 3, subk := subk, count := 1, plen := 12,
    payload := List.replicate 12 0 }
def mgmtFrame (subk : Byte) : Frame := { kind := kMgmt, vc := 0, flags := flDstmod, subk := subk }

def copy3 : Copy := { dest := 9, tag := 3, kind := .resilver 3 5 0, frames := [], sentAt := 0 }
def copying : State := (late4000 stService).onMa (fun a => { a with copies := [(4, some copy3)] })

theorem witness_Copies : (copying.setStaged 7 2 [{ f := ackFrame 1 }]).stagedAt ⟨7, 2, 0⟩ = some { f := ackFrame 1 } ∧
    copying.ownFrame (ackFrame 1) = true ∧
    (((copying.setStaged 7 2 [{ f := ackFrame 1 }]).consume ⟨7, 2, 0⟩ { f := ackFrame 1 }).copyFor 9 3) = some (4, copy3) ∧
    ((late4000 stService).copyFor 9 3) = none ∧ SMap.get none copying.ma.copies 4 = some copy3 ∧ copying.since 0 (msTicks 4) = true ∧
    copying.noteAtSource (.copy 4) = false ∧ copying.ownFrame (stateFrame 1 true) = true ∧ frameFence (stateFrame 4 true) = true ∧
    frameFence (stateFrame 4 false) = false ∧ copying.ownFrame (mgmtFrame 0x21) = true ∧ copying.mode ≠ stDraining ∧
    copying.resetNow = false ∧ copying.keyLoads = false ∧ frameSrcmod (mgmtFrame 0x21) = false ∧
    frameSrcmod { mgmtFrame 0x21 with flags := flDstmod ||| flSrcmod } = true ∧ copying.unboundNow (stateFrame 1 true) = false ∧
    (inMode stDraining).awake = true ∧ (inMode stDraining).ownFrame (mgmtFrame 0x21) = true := by
  decide +kernel

theorem witness_Time_sync : let s := ((late4000 stService).setFld Reg.TIM_CTL Fld.TIM_CTL_FANEN 1).setFld Reg.TIM_STAT Fld.TIM_STAT_STATE 2
    s.awake = true ∧ s.flag Reg.TIM_CTL Fld.TIM_CTL_FANEN = true ∧ s.timeLocked = true ∧ s.since s.clock.syncAt s.syncTicks = true ∧
    s.servo = tsLocked ∧ s.holdtoDue = true ∧ (s.judgeSyncs 0).holdtoDue = true ∧ up.holdtoDue = false := by
  decide +kernel

theorem witness_Time_pdelay : let s := (late4000 stService).setPortState 543 pUp
    s.awake = true ∧ s.portState (543 : Fin 544) = pUp ∧ s.since (s.peerDelay (543 : Fin 544)).askedAt s.pdTicks = true := by
  decide +kernel

/-- A TIME frame of a PTP type, `n` bytes long, at the head of VC 0 of port 7. -/
def timeAt (subk type : Byte) (n : Nat) : Held := { f := { kind := kTime, vc := 0, flags := flDstmod ||| flSrcmod, subk := subk, payload := type :: List.replicate (n - 1) 0 } }

def timeStaged (subk type : Byte) (n : Nat) (sent : Option (BitVec 16 × Nat)) : State :=
  (up.setStaged 7 0 [timeAt subk type n]).setPeerDelay 7 { seen := 16, sent := sent }

theorem witness_Time_receive : (timeStaged 1 2 54 none).stagedAt ⟨7, 0, 0⟩ = some (timeAt 1 2 54) ∧
    (timeStaged 1 2 54 none).ownFrame (timeAt 1 2 54).f = true ∧ ptpType (timeAt 1 2 54).f.payload = ptpReq ∧
    ptpType (timeAt 1 3 54).f.payload = ptpResp ∧ ptpTwoStep (timeAt 1 3 54).f.payload = false ∧
    (((timeStaged 1 3 54 (some (0, 5))).consume ⟨7, 0, 0⟩ (timeAt 1 3 54)).peerDelay 7).sent = some (0, 5) ∧
    (((timeStaged 1 3 54 none).consume ⟨7, 0, 0⟩ (timeAt 1 3 54)).peerDelay 7).sent = none ∧
    (0 : BitVec 16).toNat = natAt (timeAt 1 3 54).f.payload 30 2 ∧ (1 : BitVec 16).toNat ≠ natAt (timeAt 1 3 54).f.payload 30 2 := by
  decide +kernel

/-- A Sync that keeps the lock waits when HOLDTO is due. -/
def syncWaits : State := (((late4000 stService).setStaged 7 0 [timeAt 0 0 44]).setPeerDelay 7 { seen := 16 }).setFld Reg.TIM_STAT Fld.TIM_STAT_STATE 2

theorem witness_Time_judged : syncWaits.holdtoDue = true ∧ syncWaits.waitingSync = some ⟨7, 0, 0⟩ ∧
    (syncWaits.sw.staging.map (fun p => p.2.length)).sum = 1 ∧ (syncWaits.judgeSyncs 1).holdtoDue = false := by
  decide +kernel

theorem witness_Time_accepted : let h := timeAt 0 0 44
    let t := (timeStaged 0 0 44 none).consume ⟨7, 0, 0⟩ h
    ptpType h.f.payload = 0 ∧ frameSrcmod h.f = true ∧ h.f.src.toNat = t.fld Reg.TIM_CTL Fld.TIM_CTL_SRCMOD ∧
    natAt h.f.payload 4 1 = t.fld Reg.TIM_CTL Fld.TIM_CTL_DOMAIN ∧ seqNewer t.clock.lastSeq 0 = true ∧ (t.peerDelay 7).seen = 16 := by
  decide +kernel

theorem witness_Time_measure : ((up.setPeerDelay 7 { seen := 16 }).peerDelay 7).seen = 16 ∧
    50 * 131072 < ((6553601 : Int) - 8192 * toSigned 32 ((up.setPeerDelay 7 { seen := 16 }).reg (Reg.TIM_PD 7)).toNat).natAbs := by
  decide +kernel

theorem witness_Time_set : up.grandmaster = true ∧ (up.setFld Reg.TIM_CTL Fld.TIM_CTL_SRCMOD 5).grandmaster = false := by
  decide +kernel

theorem witness_Telemetry : up.awake = true ∧ setCounts 0 0x12 = true ∧ setCounts 1 0x11 = false ∧
    (up.setBits Reg.TEL_CTL 2).reg Reg.TEL_CTL = 2 ∧ (up.reg Reg.TEL_CTL).getLsbD 1 = false ∧
    Fld.TEL_TAG_CTL_ENABLE.get (Fld.TEL_TAG_CTL_ENABLE.word 1) = 1 ∧ up.flag Reg.TEL_TAG_CTL Fld.TEL_TAG_CTL_ENABLE = false := by
  decide +kernel

theorem witness_Telemetry_bounds : let s := ({ up with tick := 100000000 } : State).onClock (fun c => { c with
        bounds := []
        fine := 2 ^ 36 * 4000000000 })
    s.awake = true ∧ s.boundDue bkSnap 10000 = true ∧ s.boundDue bkTenant 10000000 = true ∧ s.boundDue bkPower 100000000 = true ∧
    s.boundDue bkBandwidth (1000 * s.bwMicros) = true := by
  decide +kernel

/-- A module with an open session that subscribes under ID 3 to a source. -/
def subscribed (source : Nat) : State := upOp.setSession 0 0 { opened := true, subs := [{ id := 3, source := source, index := 0, period := 100 }] }

theorem witness_Telemetry_sub : sourceSession (.uzA 0) = some (0, 0) ∧
    ((subscribed 4).session 0 0).sub 3 = some { id := 3, source := 4, index := 0, period := 100 } ∧
    ((subscribed 4).setReg Reg.TEL_SR_WPTR 1).srUnread ≠ 0 := by
  decide +kernel

theorem witness_Security_key : upOp.mayWrite (.uzA 0) = true ∧ (sourceSession (.uzA 0)).isSome = true ∧ up.mayWrite (.bosun 3) = true ∧
    (sourceSession (.bosun 3)).isSome = false ∧ upOp.slotState 5 = 0 ∧ upOp.watch.record.options.getLsbD 0 = false ∧
    (upOp.onWatch (fun w => { w with record := { w.record with options := 1 } })).watch.record.options.getLsbD 0 = true := by
  decide +kernel

theorem witness_Security_fence : let s := ((late4000 stService).setFld (Reg.SEC_SLOT 5) Fld.SEC_SLOT_FENCING 1).onSec (fun x => { x with tr := [(5, 1)] })
    s.awake = true ∧ s.fencing (5 : Fin 64) = true ∧ s.since (s.trOf (5 : Fin 64)) s.resmax = true ∧ s.jobFrames (s.slotJob (5 : Fin 64)) = false ∧
    (s.setStaged 7 3 [{ f := { kind := kData } }]).jobFrames (s.slotJob (5 : Fin 64)) = true := by
  decide +kernel

theorem witness_Security_frames : (up.setStaged 7 7 [{ f := { kind := kScrub, subk := 1 } }]).stagedAt ⟨7, 7, 0⟩ = some { f := { kind := kScrub, subk := 1 } } ∧
    up.ownFrame { kind := kScrub, subk := 1 } = true ∧ up.ownFrame { kind := kTest, subk := 2 } = true := by
  decide +kernel

/-- A scrub entry of slot 5, next in the engine of a module whose slot 5 is REVOKED or FREE. -/
def scrubEntry (op count : Nat) : Entry := entryOfBytes ([BitVec.ofNat 8 op, 5] ++ List.replicate 4 0 ++ beBytes 2 9 ++ beBytes 2 0 ++ beBytes 2 count)
def scrubNext (st : Nat) (op count : Nat) : State :=
  ((up.setFld (Reg.SEC_SLOT 5) Fld.SEC_SLOT_STATE st).onSec (fun x => { x with
    tr := [(5, 1)]
    slotDone := [(5, 1)] })).setQueue engScrub 7 [scrubEntry op count]

theorem witness_Security_scrub : (scrubNext 2 1 0).sec.scrub = none ∧ SMap.wf 0 up.grn.ver = true ∧ up.bindNow 5 = false ∧
    ((up.onSec (fun x => { x with scrub := some { e := scrubEntry 2 1 } })).sec.scrub) = some { e := scrubEntry 2 1 } ∧
    8192 * seCount (scrubEntry 2 1) ≤ 8191 + 1 ∧ (scrubNext 2 1 0).nextEntry engScrub = some (7, scrubEntry 1 0) ∧
    ((scrubNext 2 1 0).popQueue engScrub 7).scrubStatus (scrubEntry 1 0) = scOk ∧ ((scrubNext 2 2 1).popQueue engScrub 7).scrubStatus (scrubEntry 2 1) = scOk ∧
    ((scrubNext 2 3 0).popQueue engScrub 7).scrubStatus (scrubEntry 3 0) = scOk ∧ ((scrubNext 0 1 0).popQueue engScrub 7).scrubStatus (scrubEntry 1 0) ≠ scOk ∧
    ((scrubNext 0 2 1).popQueue engScrub 7).scrubStatus (scrubEntry 2 1) ≠ scOk ∧ ((scrubNext 0 3 0).popQueue engScrub 7).scrubStatus (scrubEntry 3 0) ≠ scOk ∧
    entryOp (scrubEntry 1 0) = 1 ∧ entryOp (scrubEntry 2 1) = 2 ∧ entryOp (scrubEntry 3 0) = 3 ∧
    ((scrubNext 0 4 0).popQueue engScrub 7).scrubStatus (scrubEntry 4 0) ≠ scOk ∧ SMap.wf 0 up.grn.mem = true := by
  decide +kernel

/-- A dump entry of OP `op`, naming DUMPID 0, next in queue 7 of an idle dump engine. -/
def dumpEntry (op : Nat) : Entry := entryOfBytes ([BitVec.ofNat 8 op, 0x1F, 1, 0] ++ List.replicate 60 0)
def dumpNext (op : Nat) (st : Bool) : State :=
  (((upOp.setQueue engDump 7 [dumpEntry op]).setFld Reg.LFT_PART Fld.LFT_PART_DUMP 100).onTest (fun x => { x with dump := { x.dump with staged := st } }))

theorem witness_Dump_take : (dumpNext 1 false).awake = true ∧ (dumpNext 1 false).dumpIdle = true ∧
    (dumpNext 1 false).nextEntry engDump = some (7, dumpEntry 1) ∧ entryOp (dumpEntry 1) = 1 ∧ entryOp (dumpEntry 2) = 2 ∧ entryOp (dumpEntry 3) = 3 ∧
    ((dumpNext 1 false).popQueue engDump 7).dumpStatus (dumpEntry 1) = duOk ∧
    ((dumpNext 2 true).popQueue engDump 7).dumpStatus (dumpEntry 2) = duOk ∧
    ((dumpNext 3 true).popQueue engDump 7).dumpStatus (dumpEntry 3) = duOk ∧
    ((dumpNext 2 false).popQueue engDump 7).dumpStatus (dumpEntry 2) ≠ duOk ∧
    ((dumpNext 3 false).popQueue engDump 7).dumpStatus (dumpEntry 3) ≠ duOk ∧
    ((dumpNext 4 false).popQueue engDump 7).dumpStatus (dumpEntry 4) ≠ duOk := by
  decide +kernel

/-- A DUMP, or a SEND, runs since power-on, 4,000 s ago; register 0x10 of unit (1, 0) did not answer. -/
def dumping : State := (late4000 stService).onTest (fun x => { x with dump := { x.dump with
  running := some (dumpEntry 1, 0)
  hung := [(1, 0, 16)] } })
def sending : State := (late4000 stService).onTest (fun x => { x with dump := { x.dump with sending := some (dumpEntry 2, 0) } })

theorem witness_Dump_runs : dumping.awake = true ∧ sending.awake = true ∧ dumping.test.dump.running = some (dumpEntry 1, 0) ∧ dumping.since 0 (secTicks 2) = true ∧
    dumping.since 0 (secTicks 4) = true ∧ dumping.test.dump.predump = none ∧
    dumping.test.dump.hung.any (fun h => h.1 == (1 : Byte).toNat && h.2.1 == (0 : BitVec 16).toNat) = true ∧
    dumping.test.dump.hung.any (fun h => h.1 == (2 : Byte).toNat && h.2.1 == (0 : BitVec 16).toNat) = false ∧
    sending.test.dump.sending = some (dumpEntry 2, 0) ∧ sending.since 0 (msTicks 500) = true := by
  decide +kernel

theorem witness_Dump_hung : dumping.test.dump.hung.find? (fun h => h.1 == 2 && h.2.1 == 0) = none ∧
    dumping.test.dump.hung.find? (fun h => h.1 == 1 && h.2.1 == 0) = some (1, 0, 16) ∧ (16 : Nat) < 8 + 16 := by
  decide +kernel

/-- An awake module whose dump engine is forced with nothing, a DUMP or a SEND in progress. -/
def forced (s : State) : State := ((((s.waitingEntries engDump).foldl (fun (s : State) e => s.dumpDone e duAborted (s.dumpIdOf e) 0)
    (s.clearQueues engDump)).setHold engDump 2).forcedDisable engDump 0)

theorem witness_Dump_force : (forced up).test.dump.running = none ∧ (forced up).test.dump.sending = none ∧
    (forced sending).test.dump.running = none ∧ (forced sending).test.dump.sending = some (dumpEntry 2, 0) ∧
    (forced sending).alsoNow (fun i => i == Instr.dumpSend) = false ∧
    (((forced sending).onTest (fun x => { x with dump := { x.dump with sending := none } })).dumpDone (dumpEntry 2) duAborted
      ((forced sending).dumpIdOf (dumpEntry 2)) 0).test.dump.running = none ∧
    (forced dumping).test.dump.running = some (dumpEntry 1, 0) ∧ (forced dumping).test.dump.sending = none ∧
    (forced dumping).alsoNow (fun i => i == Instr.dump) = false ∧
    ({ sending with pending := [.dumpSend] } : State).alsoNow (fun i => i == Instr.dumpSend) = true ∧
    ({ dumping with pending := [.dump] } : State).alsoNow (fun i => i == Instr.dump) = true := by
  decide +kernel

theorem witness_Dump_engine : up.awake = true ∧ up.sec.scrub = none ∧ State.reset.awake = false ∧ up.test.dump.running = none ∧ sending.since 0 (secTicks 1) = true ∧
    sending.test.dump.predump = none ∧
    (up.setQueue engScrub 7 [dumpEntry 1]).nextEntry engScrub = some (7, dumpEntry 1) := by
  decide +kernel

/-- A test request. -/
def testReq (test ut depth unit mode dur : Nat) : Word :=
  pack [(Fld.WCH_TSTREQ_TEST, test), (Fld.WCH_TSTREQ_UNITTYPE, ut), (Fld.WCH_TSTREQ_DEPTH, depth), (Fld.WCH_TSTREQ_UNIT, unit),
    (Fld.WCH_TSTREQ_MODE, mode), (Fld.WCH_TSTREQ_DURATION, dur)]

def testing (w : Word) (u : TestUnit) (m : Nat) : State :=
  (inMode m).onTest (fun t => { t with runs := [{ u := u, req := w, startAt := 0 }] })

theorem witness_Test_request : upOp.mayWrite (.uzA 0) = true ∧ tqTest (testReq 1 utSite 4 9 0 5) = tcLoopback ∧
    tqTest (testReq 2 utGranary 0 3 1 0) = tcMembist ∧ tqTest (testReq 3 0 0 0 0 0) = tcFull ∧ tqTest (testReq 4 utSpan 1 2 0 1) = tcCancel ∧
    requestUnit (testReq 1 utSite 6 9 0 5) = none ∧ requestUnit (testReq 2 utSite 0 3 1 0) = none ∧
    requestUnit (testReq 1 utSite 4 9 0 0) = none ∧ requestUnit (testReq 2 utGranary 0 16 0 0) = none ∧ requestUnit (testReq 4 utLoft 0 8 0 0) = none ∧
    requestUnit (testReq 1 utSite 4 511 0 5) = some (.site 511) ∧ requestUnit (testReq 2 utGranary 0 3 1 0) = some (.channel 3) ∧
    requestUnit (testReq 3 0 0 0 0 0) = some .full ∧ requestUnit (testReq 4 utSpan 1 2 0 1) = some (.span 2) := by
  decide +kernel

theorem witness_Test_status : up.testState (.uzA 0) (testReq 3 0 0 0 0 0) .full = true ∧ (inMode stLaidUp).testState (.uzA 0) (testReq 3 0 0 0 0 0) .full = false ∧
    (testing 0 (.stack 1) stStandby).test.runs.any (fun r => sharesUnit r.u .full) = true ∧
    (testing 0 (.uzoley 1) stStandby).test.runs.any (fun r => sharesUnit r.u .full) = false ∧
    up.carries = true ∧ (inMode stStandby).carries = false ∧
    (testing 0 (.span 2) stStandby).test.runs.find? (fun r => r.u == .span 2) = some { u := .span 2, req := 0, startAt := 0 } ∧
    (testing 0 (.span 2) stStandby).endsNow { u := .span 2, req := 0, startAt := 0 } = false ∧
    ({ testing 0 (.span 2) stStandby with pending := [.testEnd (.span 2) 0 []] } : State).endsNow { u := .span 2, req := 0, startAt := 0 } = true ∧
    up.test.runs.find? (fun r => r.u == .span 2) = none ∧ up.soonTables.isolated (.stack 7) = false ∧ up.soonTables.isolated (.channel 3) = true := by
  decide +kernel

theorem witness_Test_loop : tqDepth (testReq 1 utSite 3 9 0 5) ≤ 3 ∧ (linkAt 9 pUp).portState (9 : Fin 512) ≠ pDark ∧
    tqDepth (testReq 1 utSite 5 9 0 5) = 5 := by
  decide +kernel

theorem witness_Test_end : up.awake = true ∧ up.test.runs.find? (fun r => r.u == .site 9) = none ∧
    (let w := testReq 1 utSite 5 9 0 20
     let s := ({ testing w (.site 9) stStandby with tick := 100 } : State)
     s.awake = true ∧ s.test.runs.find? (fun r => r.u == .site 9) = some { u := .site 9, req := w, startAt := 0 } ∧ tqTest w = tcLoopback ∧ tqDepth w = 5 ∧
     s.since 0 (msTicks (tqDuration w)) = false ∧ ({ s with tick := 100000000 } : State).since 0 (msTicks (tqDuration w)) = true ∧
     ({ s with tick := 100000000 } : State).since 0 (msTicks 10) = true) := by
  decide +kernel

theorem witness_Test_channel : let w := testReq 2 utGranary 0 3 1 0
    (testing w (.channel 3) stStandby).awake = true ∧ (testing w (.channel 3) stStandby).test.runs.find? (fun r => r.u == .channel 3) = some { u := .channel 3, req := w, startAt := 0 } ∧
    (testing w (.channel 3) stStandby).testOver { u := .channel 3, req := w, startAt := 0 } = true ∧ tqTest w ≠ tcLoopback ∧ tqWrite w = true ∧ tqWrite (testReq 2 utGranary 0 3 0 0) = false ∧ (7 : BitVec 16) ≠ 0 := by
  decide +kernel

theorem witness_Test_full : let w := testReq 3 0 0 0 0 0
    let s := testing w .full stLaidUp
    let r : TestRun := { u := .full, req := w, startAt := 0 }
    s.awake = true ∧ s.test.runs.find? (fun r => r.u == .full) = some r ∧ tqTest w ≠ tcLoopback ∧
    s.testOver r = true ∧ (s.dropRun .full).fullFailed [] = [] ∧ (((s.dropRun .full).coresChecked []).restoreUnit r).mode = stLaidUp ∧
    ((((testing w .full stStandby).dropRun .full).coresChecked []).restoreUnit r).mode ≠ stLaidUp := by
  decide +kernel

theorem witness_Test_margin : let s := (late4000 stService).setFld Reg.WCH_MGCTL Fld.WCH_MGCTL_ENABLE 1
    s.awake = true ∧ s.flag Reg.WCH_MGCTL Fld.WCH_MGCTL_ENABLE = true ∧
    s.since s.test.marginAt (secTicks (max 1 (s.fld Reg.WCH_MGCTL Fld.WCH_MGCTL_INTERVAL))) = true ∧
    (s.setFld (Reg.CL_OE_LASER 63 3) Fld.CL_OE_LASER_SPARE 1).laserFld ((319 - 64) / 4) (319 % 4) Fld.CL_OE_LASER_SPARE ≠ 0 ∧
    ({ s with pending := [.prespare 63 3 (-200)] } : State).prespareNow 63 3 = true ∧ SMap.wf 0 s.grn.mem = true ∧ addrChan (2 ^ 31 + 5) = 0 := by
  decide +kernel

/-- A PING with the next SEQ of session 1 of port A. -/
def ping1 : Packet := { kind := 0x03, session := 1, seq := 1 }
def ping1cmd : SessionCmd := { kind := 0x03, form := true, tenant := true, cmd := .ping 0 ping1 }

theorem witness_Session_kind : ping1cmd.cmd = .ping 0 ping1 ∧ ping1.kind = ping1cmd.kind ∧
    ((sessionCmds 0 ping1 ⟨true, true⟩ ⟨true, true⟩).any (fun x => x.cmd == .ping 0 ping1 && x.kind == 3 && x.form && x.tenant && !x.core)) = true := by
  decide +kernel

theorem witness_Session_arrival : State.reset.uzoleyUsable 0 = false ∧ upOp.uzoleyUsable 0 = true ∧ (ping1.session ≠ 0) ∧ ping1.session.toNat ≤ 8 ∧
    (up.session (0 : Fin 2) (ping1.session.toNat - 1)).opened = false ∧ (upOp.session (0 : Fin 2) 0).opened = true ∧
    (upOp.session (0 : Fin 2) 0).batch = none ∧ ping1.gcmOk = true ∧ ping1.seq = (upOp.session (0 : Fin 2) 0).seqIn + 1 := by
  decide +kernel

theorem witness_Session_repeat : let p : Packet := { ping1 with seq := 5 }
    p.seq ≠ (68 : BitVec 64) + 1 ∧ (p.seq ≠ 0 ∧ p.seq.toNat ≤ (68 : BitVec 64).toNat ∧ (68 : BitVec 64).toNat < p.seq.toNat + 64) ∧
    ¬ (p.seq ≠ 0 ∧ p.seq.toNat ≤ (69 : BitVec 64).toNat ∧ (69 : BitVec 64).toNat < p.seq.toNat + 64) ∧
    [({ kind := 0x90, arg := packetArg (beBytes 8 5) } : Packet)].find? (fun c => argNat c 0 8 == p.seq.toNat) =
      some { kind := 0x90, arg := packetArg (beBytes 8 5) } := by
  decide +kernel

theorem witness_Session_judged : upOp.inOrder 0 ping1 0 (upOp.arrive 0 ping1).2 ∧ headerGood ping1 = true ∧
    headerGood { ping1 with ver := 2 } = false ∧ (upOp.arrive 0 ping1).2.bosunUp = true ∧
    ((upOp.onWatch (fun w => { w with run := some { domain := 3, cause := 0, startAt := 0 } })).setFld Reg.WCH_BOOT Fld.WCH_BOOT_STEP 1).bosunUp = false ∧
    kindListed 0x04 = false := by
  refine ⟨?_, ?_⟩
  · unfold State.inOrder; decide +kernel
  · decide +kernel

/-- A packet of KIND `kind` with the next SEQ of session 1 of port A. -/
def packet1 (kind : Byte) (arg : List Byte) (payload : List Byte) : Packet :=
  { kind := kind, session := 1, seq := 1, plen := BitVec.ofNat 32 payload.length, arg := packetArg arg, payload := payload }

def takenBy (s : State) (p : Packet) : Bool :=
  (s.arrive 0 p).1 == some 0 && headerGood p && (s.arrive 0 p).2.bosunUp && !((s.arrive 0 p).2.session 0 0).tenant

theorem witness_SessionCommands : takenBy upOp (packet1 2 [] []) = true ∧ takenBy upOp (packet1 3 [] []) = true ∧
    takenBy upOp (packet1 0x10 [] (List.replicate 16 0)) = true ∧ takenBy upOp (packet1 0x11 [0x23, 7] (List.replicate 64 0)) = true ∧
    takenBy upOp (packet1 0x12 (List.replicate 28 0) [1, 2]) = true ∧ takenBy upOp (packet1 0x13 [5] (List.replicate 64 0)) = true ∧
    takenBy upOp (packet1 0x14 [] (List.replicate 16 0)) = true ∧ takenBy upOp (packet1 0x16 [1] []) = true ∧
    argEnds (packet1 0x11 [0x23, 7] []) 2 = true ∧ argNat (packet1 0x11 [0x23, 7] []) 0 1 = 0x23 ∧ argNat (packet1 0x11 [0x23, 7] []) 1 1 = 7 ∧
    argNat (packet1 0x16 [1] []) 0 1 % 4 ≠ 0 ∧ argEnds (packet1 0x13 [5] []) 1 = true ∧ argNat (packet1 0x12 (List.replicate 17 0 ++ [1]) []) 17 1 = 1 := by
  decide +kernel

theorem witness_SessionCommands_append : (inMode stDraining).mode = stDraining ∧ up.mode ≠ stDraining ∧
    (up.setQueue engScrub 3 [0, 1]).queue engScrub 3 = [0, 1] ∧ up.freshTail 3 7 = [] ∧
    ((up.append 3 7 5 [0, 1]).2.append 3 7 2 [2]).2.freshTail 3 7 = [2, 5, 5] ∧ ((up.append 3 7 5 [0, 1]).2.append 3 7 2 [2]).2.queue 3 7 = [2, 0, 1] ∧ up.hold engScrub ≠ 2 ∧
    (up.setHold engScrub 2).hold engScrub = 2 := by
  decide +kernel

theorem witness_SessionCommands_bulk : let s := up.onUz (fun u => { u with bulk := [(9, { held := true, owner := 8, total := 100 })] })
    let b := SMap.get {} s.uz.bulk 9
    b.held = true ∧ b.owner = 8 ∧ b.total = 100 ∧ b.type = 0 ∧ (SMap.get {} s.uz.bulk 8).held = false := by
  decide +kernel

/-- Session 1 of port A, its batch having entry `e` in front, 4,000 s after power-on. -/
def inBatch (e : BitVec 128) (b : Batch) (tenant : Bool) : State :=
  (late4000 stService).setSession 0 0 { opened := true, tenant := tenant, batch := some { b with entries := [e, 0] } }

def entry (op flags wait off : Nat) (data : Word) : BitVec 128 :=
  BitVec.ofNat 128 (op * 2 ^ 120 + flags * 2 ^ 112 + wait * 2 ^ 96 + off * 2 ^ 64 + data.toNat)

def batch1 : Batch := { seq := 1, tag := 0, entries := [], results := [] }

theorem witness_Batch_front : (inBatch (entry 1 0 0 8 0) batch1 false).batchOf (0 : Fin 2) (0 : Fin 8) = some { batch1 with entries := [entry 1 0 0 8 0, 0] } ∧
    beOp (entry 1 0 0 8 0) = 1 ∧ beFlags (entry 1 0 0 8 0) = 0 ∧ beOp (entry 2 0 0 16 3) = 2 ∧ beOp (entry 3 1 1000 8 5) = 3 ∧
    beFlags (entry 3 1 1000 8 5) = 1 ∧ beWait (entry 3 1 1000 8 5) = 1000 ∧ beOffset (entry 3 1 1000 8 5) = 8 ∧ beData (entry 3 1 1000 8 5) = 5 ∧
    ((inBatch (entry 2 0 0 16 3) batch1 true).session (0 : Fin 2) (0 : Fin 8)).tenant = true ∧ (inBatch 0 batch1 false).writeWaits (.uzA 0) 16 = false ∧
    ((inBatch 0 batch1 false).setReg (Reg.CL_SX_CMIS_CMD 31) (2 ^ 63)).writeWaits (.uzA 0) (Reg.CL_SX_CMIS_CMD 31) = true := by
  decide +kernel

theorem witness_Batch_times : let b : Batch := { batch1 with waitAt := some 0, pollAt := some 0 }
    b.waitAt = some 0 ∧ b.pollAt = some 0 ∧ captPlace (Reg.CL_FCHK_LAST 3 2) = some (3, 2) ∧ captPlace (Reg.CL_FCHK_LASTSRC 3) = some (3, 8) ∧ captPlace 8 = none ∧
    up.batchOf (0 : Fin 2) (0 : Fin 8) = none ∧ (inBatch 0 b false).since 0 (msTicks 1) = true ∧ (inBatch 0 b false).since 0 (msTicks 65535) = true ∧
    upOp.since 0 (msTicks 1) = false ∧ batch1.waitAt = none ∧ batch1.pollAt = none := by
  decide +kernel

theorem witness_Batch_poll : ((inBatch (entry 3 1 1000 8 0) batch1 false).busRead (.uzA 0) 8).2.1 = 0 ∧
    ((inBatch (entry 3 0 1000 8 0) batch1 false).busRead (.uzA 0) 8).1 &&& (2 ^ 60 : Word) ≠ 0 ∧
    ((inBatch (entry 3 0 1000 8 0) batch1 false).busRead (.uzA 0) 0xFFFFFFF8).2.1 ≠ 0 ∧
    upOp.tenantSource (.uzA 0) = false ∧ regRow 0xFFFFFFF8 = none := by
  decide +kernel

/-- An operator's chain, and that of a tenant of job 0x02A. -/
def chainOf (ou : List Byte) : Chain := { derOk := true, certs := [{ serial := 7, sigOk := true, ous := [(true, ou)] }], rootHash := 0 }

def hello0 : Packet := { kind := 0x01, tag := 9 }

theorem witness_Hello : hello0.kind = 0x01 ∧ hello0.session = 0 ∧ up.uzoleyUsable 1 = true ∧ headerGood hello0 = true ∧ argEnds hello0 0 = true ∧ hello0.gcmOk = true ∧ headerGood { hello0 with ver := 3 } = false ∧ State.reset.uzoleyUsable 1 = false ∧
    (up.packetIn 1).helloRole (chainOf ouOperator) = some 0 ∧ ((up.packetIn 1).session (1 : Fin 2) (0 : Fin 8)).opened = false ∧
    (up.packetIn 1).helloRole (chainOf (ouTenant ++ [0x30, 0x32, 0x41])) = none ∧ hexJob [0x30, 0x32, 0x41] = some 0x2A := by
  decide +kernel

theorem witness_Attest : takenBy upOp (packet1 0x15 [] (List.replicate 40 0)) = true ∧ upOp.sec.quoteQ = [] ∧ upOp.quoteTurn = true ∧
    (upOp.onSec (fun x => { x with quotesAt := List.replicate 100 0 })).quoteTurn = false ∧
    (upOp.onSec (fun x => { x with quoteQ := [(3, {})] })).sec.quoteQ = [(3, {})] := by
  decide +kernel

theorem witness_Firmware : takenBy upOp (packet1 0x17 [] [0, 0, 0x21]) = true ∧ takenBy upOp (packet1 0x18 [] []) = true ∧
    takenBy upOp (packet1 0x19 [] []) = true ∧ (inMode stDraining).mode = stDraining ∧ (inMode stStandby).mode = stStandby ∧
    (inMode stStandby).inTransition = false ∧ (inMode stStandby).admitFirst 3 = false ∧ (SMap.get {} upOp.watch.slots upOp.otherSlot).loadedAt ≠ upOp.tick + 1 ∧
    ((upOp.bulkLoad 0 1 0 2 1 [1, 2]).2.watch.slots.any (fun x => x.2.loadedAt == upOp.tick + 1)) = true ∧ up.mode ≠ stStandby ∧ up.staged? = false ∧
    (up.onWatch (fun w => { w with slots := SMap.put {} w.slots 1 { staged := true } })).staged? = true ∧
    (up.verified 3 ⟨true, true⟩ true).1 = true ∧ (up.verified 3 ⟨true, false⟩ true).1 = false := by
  decide +kernel

theorem witness_Sessions_timeout : let s := (late4000 stService).setSession 0 0 { opened := true }
    s.awake = true ∧ (s.session (0 : Fin 2) (0 : Fin 8)).opened = true ∧ s.since (s.session (0 : Fin 2) (0 : Fin 8)).lastAt (secTicks 10) = true ∧
    upOp.since (upOp.session (0 : Fin 2) (0 : Fin 8)).lastAt (secTicks 10) = false := by
  decide +kernel

theorem witness_LoftPartition : up.awake = true := by
  decide +kernel

theorem witness_CommandListAppend : takenBy upOp (packet1 0x11 [0x22, 7] (List.replicate 64 1)) = true ∧ argEnds (packet1 0x11 [0x22, 7] []) 2 = true ∧
    (inMode stDraining).mode = stDraining ∧ up.mode ≠ stDraining ∧ (upOp.arrive 0 (packet1 0x11 [0x22, 7] (List.replicate 64 1))).2.hold 0x22 ≠ 2 ∧ SMap.wf [] up.eng.queued = true := by
  decide +kernel

theorem witness_ConfidentialMode : upOp.mayWrite (.uzA 0) = true ∧ (sourceSession (.uzA 0)).isSome = true ∧
    upOp.fld (Reg.SEC_SLOT (63 : Fin 64)) Fld.SEC_SLOT_STATE = 0 ∧ upOp.watch.record.options.getLsbD 0 = false ∧ upOp.bindNow (63 : Fin 64) = false ∧
    (upOp.onWatch (fun w => { w with record := { w.record with options := 1 } })).watch.record.options.getLsbD 0 = true ∧
    SMap.wf none up.regs = true ∧ tblBits (BitVec.ofNat 512 (2 ^ 511 + 5 * 2 ^ 448)) 0 63 62 = 2 ∧ tblBits (up.entry 1 9).data 0 63 62 = 0 := by
  decide +kernel

/-- A module in STANDBY whose running slot holds no factory image and a record of generation 1. -/
def mismatched : State := ((inMode stStandby).onWatch (fun w => { w with
  slots := []
  record := { w.record with planegen := 1 } }))

theorem witness_GenerationMismatch : mismatched.inTransition = false ∧ mismatched.mode = stStandby ∧
    mismatched.runningSlot.factory = false ∧ mismatched.watch.record.planegen = 1 := by
  decide +kernel

theorem witness_EventsLogged : SMap.wf none up.regs = true ∧ Reg.LFT_EVT ≠ Reg.WCH_EVHEAD ∧ Reg.LFT_EVT ≠ Reg.WCH_EVCNT 11 ∧ Reg.LFT_EVT ≠ Reg.WCH_EVT ∧
    up.watch.evUnread < 4096 ∧ 4096 ≤ (up.onWatch (fun w => { w with evUnread := 4096 })).watch.evUnread ∧
    logLater (pack [(Fld.WCH_EVLOG_TICK, 7), (Fld.WCH_EVLOG_CLASS, 11), (Fld.WCH_EVLOG_SOURCE, 5)])
      (pack [(Fld.WCH_EVLOG_TICK, 7), (Fld.WCH_EVLOG_CLASS, 11), (Fld.WCH_EVLOG_SOURCE, 4)]) = true ∧
    logLater (up.reg (Reg.WCH_EVLOG 4095)) (pack [(Fld.WCH_EVLOG_TICK, up.tick), (Fld.WCH_EVLOG_CLASS, 11), (Fld.WCH_EVLOG_SOURCE, 4)]) = false := by
  decide +kernel

theorem witness_EventsLogged_log (i : Nat) (h : i < 4096) : Reg.LFT_EVT ≠ Reg.WCH_EVLOG i := by
  show (0x7000010 : Nat) ≠ 0x1000 + 0x8 * i; omega

theorem witness_CompletionRings : let s := up.setReg Reg.SVB_CRHEAD 255
    let r := ringRegs .svb
    SMap.wf none s.regs = true ∧ (s.fld r.head ⟨0, 8⟩ + 256 - s.fld r.tail ⟨0, 8⟩) % 256 = 255 ∧
    (up.fld r.head ⟨0, 8⟩ + 256 - up.fld r.tail ⟨0, 8⟩) % 256 ≠ 255 ∧ (3 + 256 - s.fld r.tail ⟨0, 8⟩) % 256 ≤ 255 ∧
    (up.fld r.head ⟨0, 8⟩ + 256 - up.fld r.tail ⟨0, 8⟩) % 256 < (1 + 256 - up.fld r.tail ⟨0, 8⟩) % 256 := by
  decide +kernel

theorem witness_FaultRecords : (SMap.get {} up.watch.frKeys 0).seen = false ∧
    (let s := up.onWatch (fun w => { w with frKeys := [(0, { seen := true })] })
     (SMap.get {} s.watch.frKeys 0).seen = true ∧ s.since (SMap.get {} s.watch.frKeys 0).lastAt (msTicks 1) = false) := by
  decide +kernel

theorem witness_GranaryMemory : SMap.wf 0 up.grn.mem = true ∧ SMap.wf 0 up.grn.ver = true ∧ SMap.wf 0 up.grn.bad = true ∧
    (up.gWrite 254 [1, 0, 3] 7).grn.mem = [(254, 1), (256, 3)] ∧ up.grn.mem = [] := by
  decide +kernel

theorem witness_ResetCanonical : (inMode 0).pending = [] ∧ (inMode 0).mode = 0 ∧ State.reset.pending = [] ∧ State.reset.mode = stWatch := by
  decide +kernel

theorem witness_WatchIsQuiet : State.reset.awake = false ∧ (∀ u, State.reset.isCut u = false) ∧
    (∀ u, SMap.get 0 State.reset.watch.cutAt u ≤ State.reset.tick) ∧ (Instr.syncSend).ofWatch = false ∧
    (inMode 0).awake = false ∧ (Instr.wakeTimer).ofWatch = true := by
  refine ⟨by decide +kernel, fun u => rfl, fun u => Nat.le_refl _, by decide +kernel, by decide +kernel, by decide +kernel⟩

end Sys2Proof.Tests
end

section
/-! Every command, and every step, answers a next state. -/

namespace Sys2Proof.Machine

/-! ### Outcomes that are a next state -/

/-- The outcome is a next state. -/
def Answers (o : Out) : Prop := ∃ t, o = .next t

theorem answers_next (t : State) : Answers (.next t) := ⟨t, rfl⟩

theorem answers_ite {c : Prop} [Decidable c] {a b : Out} (ha : Answers a) (hb : Answers b) :
    Answers (if c then a else b) := by
  split <;> assumption

/-- The commonest shape of a command: one effect where a guard holds, and another, mostly none, where it does not. -/
theorem answers_guard {c : Prop} [Decidable c] {t u : State} : Answers (if c then .next t else .next u) :=
  answers_ite (answers_next t) (answers_next u)

theorem answers_packet (s : State) (k : Fin 2) (p : Packet) (rule : KindRule) (run : Nat → State → State) :
    Answers (s.packet k p rule run) := by
  unfold State.packet
  split <;> exact answers_next _

theorem answers_takeFrame (s : State) (r : StageRef) (p : Frame → Bool) (run : Frame → State → State) :
    Answers (s.takeFrame r p run) := by
  unfold State.takeFrame
  split
  exacts [answers_next _, answers_guard]

/-! ### Commands that look at what the state holds -/

section

variable (s : State)

theorem execFrameReceive_answers (port : Fin 544) (f : Frame) (trailer : BitVec 32) (ago : BitVec 16) :
    Answers (execFrameReceive port f trailer ago s) := by
  refine answers_ite (answers_next _) ?_
  split
  exacts [answers_next _, answers_ite (answers_next _) (answers_ite (answers_next _) answers_guard)]

theorem execFrameLeaveStaging_answers (x : Leaving) : Answers (execFrameLeaveStaging x s) := by
  refine answers_ite (answers_next _) (answers_ite ?_ (answers_next _))
  split <;> exact answers_next _

theorem execFrameTransmit_answers (x : Transmission) : Answers (execFrameTransmit x s) := by
  refine answers_ite ?_ (answers_next _)
  split
  · exact answers_next _
  · split
    · exact answers_next _
    · refine answers_ite (answers_next _) ?_
      split <;> exact answers_next _

theorem execReefTakesEffect_answers (p : Fin 512) (transmit : Bool) : Answers (execReefTakesEffect p transmit s) := by
  simp only [execReefTakesEffect]
  split
  exacts [answers_next _, answers_ite (answers_ite (answers_next _) (answers_next _)) (answers_next _)]

theorem execCmisAccessComplete_answers (x : Fin 32) (timedOut : Bool) (data : Vector Word 16) :
    Answers (execCmisAccessComplete x timedOut data s) := by
  unfold execCmisAccessComplete
  split
  exacts [answers_next _, answers_ite (answers_ite (answers_next _) answers_guard) (answers_next _)]

theorem execNrwaitExpiry_answers (w : WaitRef) : Answers (execNrwaitExpiry w s) := by
  refine answers_ite (answers_next _) ?_
  cases w with
  | staged r =>
    dsimp only
    split
    · exact answers_next _
    · split
      exacts [answers_guard, answers_next _]
  | handedBack n idx =>
    dsimp only
    split
    exacts [answers_next _, answers_guard]
  | atSource q idx =>
    dsimp only
    split
    exacts [answers_next _, answers_guard]

theorem execMemberEligible_answers (w : WaitRef) : Answers (execMemberEligible w s) := by
  refine answers_ite (answers_next _) ?_
  cases w <;> exact answers_next _

theorem execTableEngineHang_answers (h : HungOp) : Answers (execTableEngineHang h s) := by
  cases h with
  | cmd src t w => exact answers_guard
  | entry =>
    refine answers_ite (answers_next _) (answers_ite (answers_next _) ?_)
    split <;> exact answers_next _

theorem execInvocationStart_answers (n : Fin 16) (w : WindowCore) : Answers (execInvocationStart n w s) := by
  refine answers_ite ?_ (answers_next _)
  split <;> exact answers_next _

theorem execSelfCheckDone_answers (n : Fin 16) (c : Fin 96) (pass : Bool) : Answers (execSelfCheckDone n c pass s) :=
  answers_ite (answers_next _) (answers_ite (answers_ite (answers_next _) answers_guard) (answers_next _))

theorem execWaitSatisfied_answers (n : Fin 16) (c : Fin 96) : Answers (execWaitSatisfied n c s) := by
  simp only [execWaitSatisfied]
  split
  · split
    exacts [answers_guard, answers_next _]
  · exact answers_next _

theorem execSigArrive_answers (n : Fin 16) : Answers (execSigArrive n s) := by
  unfold execSigArrive
  split
  exacts [answers_next _, answers_ite (answers_next _) answers_guard]

theorem execResilver_answers (j : Fin 16) : Answers (execResilver j s) := by
  unfold execResilver
  split
  exacts [answers_guard, answers_next _]

theorem execAllotmentStall_answers (j : Fin 16) (b : Fin 64) : Answers (execAllotmentStall j b s) := by
  simp only [execAllotmentStall]
  split
  exacts [answers_guard, answers_next _]

theorem execPass1Done_answers (j : Fin 16) : Answers (execPass1Done j s) := by
  unfold execPass1Done
  split
  · exact answers_next _
  · exact answers_ite (answers_next _) (answers_ite (answers_next _) (answers_ite (answers_next _) answers_guard))

theorem execPass2Done_answers (j : Fin 16) : Answers (execPass2Done j s) := by
  unfold execPass2Done
  split
  · exact answers_next _
  · exact answers_ite (answers_next _) (answers_ite (answers_next _) (answers_ite (answers_next _) answers_guard))

theorem execReadDataReady_answers (j : Fin 16) (gid : Nat) : Answers (execReadDataReady j gid s) := by
  unfold execReadDataReady
  split
  exacts [answers_next _, answers_ite answers_guard (answers_next _)]

theorem execWrReqFrame_answers (r : StageRef) : Answers (execWrReqFrame r s) := by
  unfold execWrReqFrame
  split
  · exact answers_next _
  · refine answers_ite (answers_ite (answers_next _) ?_) (answers_next _)
    split
    exacts [answers_next _, answers_guard]

theorem execWrwaitExpiry_answers (j : Fin 16) (src : BitVec 20) (tag : BitVec 32) : Answers (execWrwaitExpiry j src tag s) := by
  unfold execWrwaitExpiry
  split
  exacts [answers_next _, answers_ite answers_guard (answers_next _)]

theorem execSubReport_answers (src : Source) (id : BitVec 16) : Answers (execSubReport src id s) := by
  unfold execSubReport
  split
  · exact answers_next _
  · split
    exacts [answers_guard, answers_next _]

theorem execRingReport_answers (src : Source) (id : BitVec 16) : Answers (execRingReport src id s) := by
  unfold execRingReport
  split
  · exact answers_next _
  · split
    exacts [answers_next _, answers_guard]

theorem execWdogExpiry_answers : Answers (execWdogExpiry s) := by
  refine answers_ite ?_ (answers_next _)
  dsimp only
  split
  exacts [answers_next _, answers_guard]

theorem execThermalTrip_answers (n : Fin 16) (sensor : Fin 64) (t : BitVec 16) : Answers (execThermalTrip n sensor t s) :=
  answers_ite (answers_next _) (answers_ite (answers_next _) answers_guard)

theorem execBicPending_answers (i : Fin 1024) (e : Option Edge) : Answers (execBicPending i e s) := by
  cases e with
  | none => exact answers_next _
  | some e => exact answers_guard

theorem execHello_answers (k : Fin 2) (p : Packet) (chain : Chain) : Answers (execHello k p chain s) :=
  answers_ite (answers_next _) (answers_ite (answers_packet ..) (answers_ite (answers_next _) answers_guard))

theorem execBatchRead_answers (k : Fin 2) (i : Fin 8) : Answers (execBatchRead k i s) := by
  unfold execBatchRead
  split
  exacts [answers_next _, answers_guard]

theorem execBatchWrite_answers (k : Fin 2) (i : Fin 8) : Answers (execBatchWrite k i s) := by
  unfold execBatchWrite
  split
  · exact answers_next _
  · refine answers_ite (answers_next _) (answers_ite (answers_next _) (answers_ite ?_ (answers_next _)))
    split
    exacts [answers_next _, answers_guard]

theorem execBatchPoll_answers (k : Fin 2) (i : Fin 8) : Answers (execBatchPoll k i s) := by
  unfold execBatchPoll
  split
  exacts [answers_next _, answers_ite (answers_next _) answers_guard]

theorem execPollTimeout_answers (k : Fin 2) (i : Fin 8) : Answers (execPollTimeout k i s) := by
  unfold execPollTimeout
  split
  · exact answers_next _
  · split
    exacts [answers_guard, answers_next _]

theorem execEngineEntryHang_answers (e : BoundedEngine) : Answers (execEngineEntryHang e s) := by
  cases e with
  | scrub =>
    unfold execEngineEntryHang
    dsimp only
    split <;> exact answers_next _
  | dump =>
    refine answers_ite ?_ (answers_next _)
    split <;> exact answers_next _

theorem execDump_answers : Answers (execDump s) := by
  unfold execDump
  split
  exacts [answers_guard, answers_next _]

theorem execDumpSend_answers : Answers (execDumpSend s) := by
  unfold execDumpSend
  split
  exacts [answers_guard, answers_next _]

theorem execWarmResetReady_answers : Answers (execWarmResetReady s) := by
  unfold execWarmResetReady
  split
  exacts [answers_ite (answers_ite (answers_next _) answers_guard) (answers_next _), answers_next _]

theorem execTestEnd_answers (u : TestUnit) (errors : BitVec 16) (failed : List TestUnit) : Answers (execTestEnd u errors failed s) := by
  unfold execTestEnd
  split
  exacts [answers_next _, answers_ite (answers_next _) answers_guard]

theorem execRemoteNoReturn_answers (u : TestUnit) : Answers (execRemoteNoReturn u s) := by
  unfold execRemoteNoReturn
  split
  exacts [answers_guard, answers_next _]

theorem execBootStepDone_answers (ok : Bool) (fw sig : SigPair) : Answers (execBootStepDone ok fw sig s) := by
  unfold execBootStepDone
  split <;> exact answers_next _

end

/-! ### All commands -/

/-- Every command answers a next state. The cases are the shapes of the commands: an effect at once; one behind a guard, or behind
guards in a row; a packet of a session; a frame taken out of staging; and an effect on what the state may or may not hold. -/
theorem exec_answers (c : Instr) (s : State) : Answers (exec c s) := by
  cases c with
  | lcbAck | nakSel | nakGoback | credit | reef | laneReport | echo | echoReply | param | resync | bypassConnect
  | bypassRelease | bypassLoop | tblEntryWrite | tblEntryCas | tblImage | loadprog | freeprog | dspBind | dspUnbind | br
  | loop | wait | sig | halt | frx | ftx | vadd | vfma | vmax | vmin | vscl | vcast | vsrnd | vmxd | vmxe | vtkm | tally
  | ldb | stb | shb | shc | sha | grnBind | grnUnbind | sethp | load | rdReqTaken | pdelayReqReceive | pdelayRespReceive
  | syncReceive | modintExpiry | scrubSlot | scrubRegions | scrubDone | dumpFree | eventWindowAgeOut | tapInstruction =>
    exact answers_next _
  | registerWrite | rcFieldRead | crtailWrite | internalSourceAdmit | overflowMove | laneLocked | aligned
  | paramExchangeDone | lossOfSignal | fecAlignmentLost | lcbBadLimit | siteRetrain | siteHoldExpiry | txallowWrite
  | laneSignalLoss | laneFecClear | prespare | spareLocked | opticalSwitchMoved | swapgo | spareFail | thermfast
  | thermClear | cagePresence | moduleReady | dpActivated | cmisWaitTimeout | cmisTransactionTimeout | intl | cmisFlagPoll
  | spanRetrain | spanHoldmaxExpiry | loftCopyDone | svbDrain | svbForce | svbResume | gclCommit | gateBoundary
  | shaperRefill | shaperWrite | queueSample | cnEnable | cnRptrWrite | tblRead | tblWrite | tblCas | tblSwap | tblDrain
  | tblForce | tblResume | roundTimeout | nocommitTimeout | resultReceive | commitReceive | dspDrain | dspForce
  | dspResume | coreReset | coreEnable | coreInject | coreWake | idlegateExpiry | millHang | clusterDark | clusterAwake
  | grnDrain | grnForce | grnResume | grnReset | chunkEnterEngine | granaryHang | atReqTaken | channelServesAgain
  | epochReady | syncSend | pdelayReqSend | holdtoExpiry | timSet | telCntWrite | telSnap | snapCopy | telFreeze
  | tenantWindow | powerWindow | tagEnable | srRptrWrite | bwWindow | bwwinWrite | bospwrWrite | wdogPet | wdogWarn | wake
  | sleep | drain | layup | unlay | drained | wakeLight | wakeTimer | wakePin | thermalHot | thermalThrottle | coolantHot
  | wchThermWrite | bicClaim | bicDone | bicPendWrite | bicGdis | bicWmaskWrite | mbxSend | mbxAck | sessionIdleTimeout
  | uzoleyLinkTimeout | bkeyLoad | resmaxExpiry | fenceEnd | scrDrain | scrForce | scrResume | confWrite | dmpDrain
  | dmpForce | dmpResume | resetreqCluster | resetreqDatapathWarm | resetreqCold | fsclr | testLoopback | testMembist
  | testFull | testCancel | marginMeasure | powerApplied | watchSupplyLoss | supplyFault | vrange | railTimeout
  | pcapExceed | pcapLift | cageOvercurrent | lowFlow | latchOpen | faultedRoundRelease | grnEngineGate | grnEngineWake
  | laneRetrained | laneSignalRestored | clusterResetDone =>
    exact answers_guard
  | ackTimerExpiry | lightDetected | reefholdWrite | laneFecLimit | laserFailThreshold | laserStop | coreDisable
  | psdataRead | wakeSource | scoreUpdate =>
    exact answers_ite answers_guard (answers_next _)
  | lftPartWrite | loftPatrol | grnPatrol | shBegin | shStage | shCommit | shAbort | sheafLifeExpiry | admitModule
  | drainwaitExpiry | thermalClear =>
    exact answers_ite (answers_next _) answers_guard
  | sitePortEnable | spanPortEnable | cmisCmd | presenceDeassert =>
    exact answers_ite (answers_ite (answers_next _) answers_guard) (answers_next _)
  | close | ping | regBatch | cmdAppend | bulkLoad | mbxPost | telSub | attest | resetPacket | fwStage | fwActivate
  | broadcastPacket =>
    exact answers_ite (answers_next _) (answers_packet ..)
  | scrubMarkerReceive | loopreqReceive | stateReceive =>
    simp only [exec, execScrubMarkerReceive, execLoopreqReceive, execStateReceive]
    exact answers_takeFrame ..
  | broadcastStage | broadcastCommit | broadcastAbort | stateAckReceive | noticeReceive =>
    exact answers_ite (answers_next _) (answers_takeFrame ..)
  | svbPathEstablished | svbPathFault | gclSwap | bypassInstant | lateExpiry | atomicWindowExpiry | deadwaitExpiry
  | copyResend | readWindowExpiry | descriptorEnqueue | queuedQuoteSigned | dumpAccessTimeout | dumpTruncate
  | dumpSendTimeout =>
    simp only [exec, execSvbPathEstablished, execSvbPathFault, execGclSwap, execBypassInstant, execLateExpiry,
      execAtomicWindowExpiry, execDeadwaitExpiry, execCopyResend, execReadWindowExpiry, execDescriptorEnqueue,
      execQueuedQuoteSigned, execDumpAccessTimeout, execDumpTruncate, execDumpSendTimeout]
    split
    exacts [answers_next _, answers_guard]
  | frameReceive port f trailer ago => exact execFrameReceive_answers s port f trailer ago
  | frameLeaveStaging x => exact execFrameLeaveStaging_answers s x
  | frameTransmit x => exact execFrameTransmit_answers s x
  | reefTakesEffect port transmit => exact execReefTakesEffect_answers s port transmit
  | cmisAccessComplete x timedOut data => exact execCmisAccessComplete_answers s x timedOut data
  | nrwaitExpiry w => exact execNrwaitExpiry_answers s w
  | memberEligible w => exact execMemberEligible_answers s w
  | tableEngineHang h => exact execTableEngineHang_answers s h
  | invocationStart n w => exact execInvocationStart_answers s n w
  | selfCheckDone n c pass => exact execSelfCheckDone_answers s n c pass
  | waitSatisfied n c => exact execWaitSatisfied_answers s n c
  | sigArrive n => exact execSigArrive_answers s n
  | resilver j => exact execResilver_answers s j
  | allotmentStall j b => exact execAllotmentStall_answers s j b
  | pass1Done j => exact execPass1Done_answers s j
  | pass2Done j => exact execPass2Done_answers s j
  | readDataReady j gid => exact execReadDataReady_answers s j gid
  | wrReqFrame r => exact execWrReqFrame_answers s r
  | wrwaitExpiry j src tag => exact execWrwaitExpiry_answers s j src tag
  | subReport src id => exact execSubReport_answers s src id
  | ringReport src id => exact execRingReport_answers s src id
  | wdogExpiry => exact execWdogExpiry_answers s
  | thermalTrip n sensor t => exact execThermalTrip_answers s n sensor t
  | bicPending ix e => exact execBicPending_answers s ix e
  | hello k p chain => exact execHello_answers s k p chain
  | batchRead k sx => exact execBatchRead_answers s k sx
  | batchWrite k sx => exact execBatchWrite_answers s k sx
  | batchPoll k sx => exact execBatchPoll_answers s k sx
  | pollTimeout k sx => exact execPollTimeout_answers s k sx
  | engineEntryHang e => exact execEngineEntryHang_answers s e
  | dump => exact execDump_answers s
  | dumpSend => exact execDumpSend_answers s
  | warmResetReady => exact execWarmResetReady_answers s
  | testEnd u errors failed => exact execTestEnd_answers s u errors failed
  | remoteNoReturn u => exact execRemoteNoReturn_answers s u
  | bootStepDone ok fw rec => exact execBootStepDone_answers s ok fw rec

/-- A step answers a next state: the command in front does, and so does a tick that passes. -/
theorem step_answers (s : State) : Answers (step s) := by
  unfold step
  split
  · exact answers_next _
  · exact exec_answers _ _

/-- Settles O58: each command's effect ends in a next state, whatever branch it takes. -/
theorem execTotal : Obligations.ExecTotal :=
  ⟨exec_answers, step_answers⟩

end Sys2Proof.Machine
end

section
/-! Register accesses: what a write leaves, by its access code or as the command it is, and what a read leaves. -/

namespace Sys2Proof.Machine

/-! ### Rows of the register map -/

/-- The rows listed for the block of `off` have their bases in it, but for block 3, which lists the rows of block 2. -/
theorem regBlock_base (off : Nat) :
    ∀ r ∈ regBlock off, r.base / 0x1000000 = if off / 0x1000000 = 3 then 2 else off / 0x1000000 := by
  unfold regBlock
  split <;> rename_i hoff
  case h_13 => simp
  all_goals rw [hoff]; decide +kernel

/-- No register of the Uzoley ports lies in block 3. -/
theorem uzoleyRows_hit {off : Nat} : ∀ r ∈ uzoleyRows, r.hit off = true → off / 0x1000000 ≠ 3 := by
  simp [uzoleyRows, RegRow.hit, RegRow.hit.go]
  omega

theorem regRow_mem {off : Nat} {r : RegRow} (h : regRow off = some r) : r ∈ regBlock off ∧ r.hit off = true :=
  ⟨List.mem_of_find?_eq_some h, List.find?_some (p := fun r : RegRow => r.hit off) h⟩

/-- The register at an offset lies in the offset's block (R15). -/
theorem regRow_block {off : Nat} {r : RegRow} (h : regRow off = some r) : off / 0x1000000 = r.base / 0x1000000 := by
  obtain ⟨hmem, hhit⟩ := regRow_mem h
  have h3 : off / 0x1000000 ≠ 3 := by
    intro h3
    have : r ∈ uzoleyRows := by simpa [regBlock, h3] using hmem
    exact uzoleyRows_hit r this hhit h3
  rw [regBlock_base off r hmem, if_neg h3]

/-- The copy of one source stands at the register's own offset (R503). -/
theorem offsetOf_viewKey (src : Source) (r : RegRow) {off : Nat} (h : off < 0x100000000) : offsetOf (viewKey src r off) = off := by
  unfold viewKey banked offsetOf
  split <;> omega

/-! ### Writes by access code -/

/-- Bit `i` of a register after a write (R7, R8). -/
theorem RegRow.getLsbD_written (r : RegRow) (old val : Word) (i : Nat) : (r.written old val).getLsbD i =
    (if r.rw.getLsbD i then val.getLsbD i
    else if r.w1s.getLsbD i then val.getLsbD i || old.getLsbD i && !(r.w1c.getLsbD i && val.getLsbD i)
    else if r.w1c.getLsbD i then old.getLsbD i && !val.getLsbD i
    else old.getLsbD i) := by
  by_cases hi : i < 64
  · simp only [RegRow.written, BitVec.getLsbD_or, BitVec.getLsbD_and, BitVec.getLsbD_not, hi, decide_true, Bool.true_and]
    cases r.rw.getLsbD i <;> cases r.w1s.getLsbD i <;> cases r.w1c.getLsbD i <;> simp [Bool.or_comm]
  · simp [BitVec.getLsbD_of_ge _ i (Nat.le_of_not_lt hi)]

section

variable (s : State) (src : Source) {b : Nat} (off : Nat) (val : Word)

/-! A register that no branch of its block's write names is written by its access code. -/

theorem State.writeWatch_plain (hb : b ∉ actionRegs) : s.writeWatch src b off val = s.writeReg off val := by
  simp only [actionRegs, List.mem_append, List.mem_cons, not_or] at hb
  simp only [State.writeWatch, hb, if_false]

theorem State.writeBosun_plain (hb : b ∉ actionRegs) (i : Nat) : s.writeBosun src b off i val = s.writeReg off val := by
  simp only [actionRegs, List.mem_append, List.mem_cons, not_or] at hb
  simp only [State.writeBosun, hb, if_false]

theorem State.writeCluster_plain (hb : b ∉ actionRegs) (n i j : Nat) : s.writeCluster b off n i j val = s.writeReg off val := by
  simp only [actionRegs, List.mem_append, List.mem_cons, not_or] at hb
  simp only [State.writeCluster, hb, if_false]

theorem State.writeStores_plain (hb : b ∉ actionRegs) (i : Nat) : s.writeStores b off i val = s.writeReg off val := by
  simp only [actionRegs, List.mem_append, List.mem_cons, not_or] at hb
  simp only [State.writeStores, hb, if_false]

theorem State.writeTables_plain (hb : b ∉ actionRegs) (i j : Nat) : s.writeTables src b off i j val = s.writeReg off val := by
  simp only [actionRegs, List.mem_append, List.mem_cons, not_or] at hb
  simp only [State.writeTables, hb, if_false]

theorem State.writeRest_plain (hb : b ∉ actionRegs) (i j : Nat) : s.writeRest src b off i j val = s.writeReg off val := by
  simp only [actionRegs, List.mem_append, List.mem_cons, not_or] at hb
  simp only [State.writeRest, hb, if_false]

end

/-- The registers that each source has its own copy of and no action stands behind are the mailboxes' (R503). -/
theorem isBanked_plain {b : Nat} (hb : b ∉ actionRegs) (hk : b / 0x1000000 ≠ 1) : isBanked b = false := by
  rw [Bool.eq_false_iff]
  intro h
  simp only [isBanked, List.contains_eq_mem, List.mem_cons, List.not_mem_nil, or_false, decide_eq_true_eq] at h
  obtain rfl | rfl | rfl | rfl | rfl := h
  · exact hb (by decide)
  · exact hb (by decide)
  · exact hb (by decide)
  · exact hk (by decide)
  · exact hk (by decide)

theorem State.busWrite_plain (s : State) (src : Source) {off : Nat} (val : Word) {r : RegRow} (h : regRow off = some r)
    (hb : r.base ∉ actionRegs) : s.busWrite src off val = s.writeReg (viewKey src r off) val := by
  have hkey : off / 0x1000000 ≠ 1 → viewKey src r off = off := by
    intro hk
    rw [viewKey, isBanked_plain hb (regRow_block h ▸ hk)]
    rfl
  have huz : r.base ≠ Reg.UZP_CTL 0 := by
    intro e
    exact hb (e ▸ by decide)
  simp only [State.busWrite, h]
  split <;> rename_i hk
  case h_2 => rw [State.writeBosun_plain _ _ _ _ hb]
  all_goals rw [hkey (by omega)]
  · exact State.writeWatch_plain _ _ _ _ hb
  · rw [if_neg (fun e => huz e.1)]
  · exact State.writeCluster_plain _ _ _ hb ..
  · exact State.writeStores_plain _ _ _ hb ..
  · exact State.writeStores_plain _ _ _ hb ..
  · exact State.writeStores_plain _ _ _ hb ..
  · exact State.writeTables_plain _ _ _ _ hb ..
  · exact State.writeRest_plain _ _ _ _ hb ..

/-! ### Writes that are a command -/

theorem State.mayWrite_awake {s : State} {src : Source} (h : s.mayWrite src = true) : s.awake = true := by
  simp only [State.mayWrite, Bool.and_eq_true] at h
  exact h.1

/-- The state that a command answers is the one it runs to. -/
theorem exec_eq_run (c : Instr) (s : State) : exec c s = .next (s.run (exec c)) := by
  obtain ⟨t, ht⟩ := exec_answers c s
  simp only [State.run, ht]

/-- DRAIN, FORCE or RESUME written alone is its command. -/
theorem exec_engineCommand {val : Word} {d f r c : Instr} (h : engineCommand val d f r c) (s : State) :
    exec c s = .next (s.engineCmd val (exec d) (exec f) (exec r)) := by
  have low : ∀ i, i < 3 → val.getLsbD i = (val.toNat % 8).testBit i := by
    intro i hi
    rw [show 8 = 2 ^ 3 from rfl, Nat.testBit_mod_two_pow, decide_eq_true hi, Bool.true_and]
    rfl
  rw [exec_eq_run, State.engineCmd, low 0 (by decide), low 1 (by decide), low 2 (by decide)]
  obtain ⟨hv, rfl⟩ | ⟨hv, rfl⟩ | ⟨hv, rfl⟩ := h <;> rw [hv] <;> rfl

/-- A write of a CRTAIL register is the command that advances it. -/
theorem exec_crtailWrite {s : State} (ha : s.awake = true) (ring : Ring) (val : Word) :
    exec (.crtailWrite ring (val.setWidth 8)) s = .next (s.ringTail ring val.toNat) := by
  simp [exec, execCrtailWrite, ha, State.ringTail]

/-- A write of TBL_SH_CMD is the command that its OP names. -/
theorem exec_shCommand {src : Source} {val : Word} {c : Instr}
    (h : (Fld.TBL_SH_CMD_OP.get val = 0 ∧ c = .shBegin src val) ∨ (Fld.TBL_SH_CMD_OP.get val = 1 ∧ c = .shCommit src val) ∨
      (Fld.TBL_SH_CMD_OP.get val = 2 ∧ c = .shAbort src val) ∨ (Fld.TBL_SH_CMD_OP.get val = 3 ∧ c = .shStage src val))
    (s : State) (off i j : Nat) : exec c s = .next (s.writeTables src Reg.TBL_SH_CMD off i j val) := by
  have byOp : s.writeTables src Reg.TBL_SH_CMD off i j val = match Fld.TBL_SH_CMD_OP.get val with
      | 0 => s.run (exec (.shBegin src val))
      | 1 => s.run (exec (.shCommit src val))
      | 2 => s.run (exec (.shAbort src val))
      | _ => s.run (exec (.shStage src val)) := rfl
  rw [exec_eq_run, byOp]
  obtain ⟨hv, rfl⟩ | ⟨hv, rfl⟩ | ⟨hv, rfl⟩ | ⟨hv, rfl⟩ := h <;> rw [hv] <;> rfl

/-- A write of a cluster's register that one command stands for does what the command does. -/
theorem exec_clusterCommand {s : State} (ha : s.awake = true) {b n i j : Nat} {val : Word} {c : Instr}
    (h : clusterCommand b n i j val c) (off : Nat) : exec c s = .next (s.writeCluster b off n i j val) := by
  obtain ⟨rfl, hv, rfl⟩ | ⟨rfl, hv, rfl⟩ | ⟨rfl, rfl⟩ | ⟨rfl, rfl⟩ | ⟨rfl, h⟩ | ⟨rfl, rfl⟩ := h
  · exact (exec_eq_run _ s).trans (congrArg Host.Outcome.next (if_pos hv).symm)
  · exact (exec_eq_run _ s).trans (congrArg Host.Outcome.next (if_pos hv).symm)
  · exact exec_eq_run _ s
  · exact exec_eq_run _ s
  · exact exec_engineCommand h s
  · exact exec_crtailWrite ha _ val

/-- A write of a register outside the clusters that one command stands for does what the command does.The cases stand
in the order of `moduleCommand`: a register's write is the command's effect above WATCH, the command itself, DRAIN, FORCE or RESUME,
a CRTAIL index, or an OP of TBL_SH_CMD. -/
theorem exec_moduleCommand {s : State} {src : Source} (ha : s.awake = true) {r : RegRow} {off : Nat} (hr : regRow off = some r)
    {val : Word} {c : Instr} (h : moduleCommand src r.base ((r.place off).getD 0 0) val c) :
    exec c s = .next (s.busWrite src off val) := by
  have hblock := regRow_block hr
  simp only [State.busWrite, hr, hblock]
  generalize (r.place off).getD 0 0 = i at h ⊢
  generalize (r.place off).getD 1 0 = j at h ⊢
  generalize viewKey src r off = key
  generalize r.base = b at h ⊢
  obtain ⟨rfl, rfl⟩ | ⟨rfl, rfl⟩ | ⟨rfl, rfl⟩ | ⟨rfl, rfl⟩ | ⟨rfl, rfl⟩ | ⟨rfl, rfl⟩ | ⟨rfl, hv, h⟩ | ⟨rfl, rfl⟩ | ⟨rfl, rfl⟩ |
    ⟨rfl, rfl⟩ | ⟨rfl, h⟩ | ⟨rfl, rfl⟩ | ⟨rfl, h⟩ | ⟨rfl, rfl⟩ | ⟨rfl, h⟩ | ⟨rfl, rfl⟩ | ⟨rfl, hv, rfl⟩ | ⟨rfl, hv, rfl⟩ |
    ⟨rfl, hv, rfl⟩ | ⟨rfl, hv, rfl⟩ | ⟨rfl, rfl⟩ | ⟨rfl, rfl⟩ | ⟨rfl, rfl⟩ | ⟨rfl, h⟩ | ⟨rfl, rfl⟩ := h
  · exact if_pos ha
  · exact if_pos ha
  · exact if_pos ha
  · exact exec_crtailWrite ha _ val
  · exact exec_eq_run _ s
  · exact exec_eq_run _ s
  · exact (exec_engineCommand h s).trans (congrArg Host.Outcome.next (if_neg (by rw [hv]; decide)).symm)
  · exact exec_crtailWrite ha _ val
  · exact exec_eq_run _ s
  · exact if_pos ha
  · exact exec_engineCommand h s
  · exact exec_crtailWrite ha _ val
  · exact exec_engineCommand h s
  · exact exec_crtailWrite ha _ val
  · exact exec_engineCommand h s
  · exact exec_crtailWrite ha _ val
  · exact exec_shCommand (.inl ⟨hv, rfl⟩) s key i j
  · exact exec_shCommand (.inr (.inl ⟨hv, rfl⟩)) s key i j
  · exact exec_shCommand (.inr (.inr (.inl ⟨hv, rfl⟩))) s key i j
  · exact exec_shCommand (.inr (.inr (.inr ⟨hv, rfl⟩))) s key i j
  · exact exec_eq_run _ s
  · exact if_pos ha
  · exact if_pos ha
  · exact exec_engineCommand h s
  · exact exec_crtailWrite ha _ val

/-- A write that one command stands for does what the command does (R10). -/
theorem exec_writeCommand {s : State} {src : Source} (hw : s.mayWrite src = true) {off : Nat} {val : Word} {c : Instr}
    (h : writeCommand src off val c) : exec c s = .next (s.busWrite src off val) := by
  have ha := State.mayWrite_awake hw
  obtain ⟨r, hr, hc | hm⟩ := h
  · have hblock : off / 0x1000000 = 4 := by
      rw [regRow_block hr]
      obtain ⟨hb, -⟩ | ⟨hb, -⟩ | ⟨hb, -⟩ | ⟨hb, -⟩ | ⟨hb, -⟩ | ⟨hb, -⟩ := hc <;> rw [hb] <;> decide
    simp only [State.busWrite, hr, hblock]
    exact exec_clusterCommand ha hc off
  · exact exec_moduleCommand ha hr hm

/-! ### Reads -/

theorem State.tenantSource_congr {s t : State} (h : t.uz = s.uz) (src : Source) : t.tenantSource src = s.tenantSource src := by
  simp only [State.tenantSource, State.session, h]

section

variable {s : State} {src : Source} {off : Nat} {r : RegRow}

theorem State.busRead_row (ht : s.tenantSource src = false) (hr : regRow off = some r) :
    s.busRead src off = ((s.view src r off).1, 0, (s.view src r off).2.readEffect r off) := by
  simp only [State.busRead, ht, hr]
  cases sourceSession src <;> rfl

theorem State.busRead_none (ht : s.tenantSource src = false) (hr : regRow off = none) : s.busRead src off = (0, 1, s) := by
  simp only [State.busRead, ht, hr]
  cases sourceSession src <;> rfl

/-- A tenant session's read changes nothing (R370, R371). -/
theorem State.busRead_tenant {k i : Nat} (hs : sourceSession src = some (k, i)) (ht : (s.session k i).tenant = true) :
    s.busRead src off = ((s.tenantRead k i off).1, (s.tenantRead k i off).2, s) := by
  have ht' : s.tenantSource src = true := by simpa only [State.tenantSource, hs] using ht
  simp only [State.busRead, hs, ht']

end

/-- A read of a row's register by a source that is no tenant: its value, the effect of the read, then the event of its cycle (R9). -/
theorem exec_rcFieldRead {s : State} {src : Source} {off : BitVec 32} {r : RegRow} (hm : s.mayRead src = true)
    (ht : s.tenantSource src = false) (hr : regRow off.toNat = some r) {v : Word} (hview : s.view src r off.toNat = (v, s))
    {t : State} (heffect : s.readEffect r off.toNat = t) (huz : t.uz = s.uz) (event : Bool) :
    exec (.rcFieldRead src off event) s = .next ((if event then t.readEvent r off.toNat else t).answer v 0) := by
  have ht' : t.tenantSource src = false := (State.tenantSource_congr huz src).trans ht
  simp only [exec, execRcFieldRead, hm, State.busRead_row ht hr, hview, heffect, hr, ht', if_true, Bool.not_false, Bool.and_true]

/-- The registers that do not show the value stored for them alone, or that a read does more to than clear: sensors, the lanes'
counters, those computed from other state, and those of which each source has a copy. -/
def computedRegs : List Nat :=
  [Reg.CL_TS 0 0, Reg.CL_TS_SLOPE 0, Reg.WCH_THSTAT, Reg.WCH_PIN, Reg.WCH_COOL, Reg.TEL_PWR] ++
  [Reg.CL_SP_FECC 0 0, Reg.CL_SP_FECU 0 0, Reg.CL_SX_FECC 0 0, Reg.CL_SX_FECU 0 0] ++
  [Reg.CL_SX_WINUSE 0, Reg.CL_SX_HOLDUSE 0, Reg.CL_BUF_STAT 0, Reg.CL_QOCC 0 0, Reg.CL_RD_STAT 0, Reg.CL_RD_ROUND 0 0,
    Reg.CL_RD_CTXCNT 0 0, Reg.CL_AR_CNT 0 0, Reg.CL_EG_STAT 0, Reg.CL_EG_CREDIT 0 0, Reg.DSP_STAT 0, Reg.DSP_BIND 0 0,
    Reg.DSP_BINDL 0 0, Reg.DSP_PSDIR 0 0, Reg.DSP_PSDATA 0, Reg.MIL_STAT 0 0, Reg.MIL_FAULTS 0 0, Reg.MIL_DQHEAD0 0 0,
    Reg.MIL_DQHEAD1 0 0, Reg.DSP_QCTL 0 0] ++
  [Reg.WCH_ID, Reg.WCH_TICK, Reg.WCH_TSTSTAT, Reg.BIC_CLAIM 0, Reg.BIC_CORE 0, Reg.BIC_STACK 0 0, Reg.BIC_PEND 0, Reg.BIC_ACT 0,
    Reg.BIC_SRC 0, Reg.UZP_STAT 0, Reg.UZP_SESS 0 0, Reg.GRN_STAT, Reg.GRN_ESTAT 0, Reg.GRN_QCTL 0 0, Reg.GRN_BSTAT 0 0,
    Reg.GRN_BSTEP 0 0, Reg.GRN_BPEER 0 0, Reg.GRN_MA_STAT, Reg.LFT_STAT, Reg.LFT_USE 0, Reg.LFT_CN_STAT, Reg.LFT_DMP_STAT,
    Reg.LFT_DMP_QCTL 0, Reg.SVB_STAT, Reg.SVB_QCTL 0, Reg.SVB_PORT 0, Reg.TBL_QSTAT 0, Reg.TBL_CMD 0, Reg.TBL_SH_CMD,
    Reg.TBL_STAGED, Reg.TBL_SH_STATE 0, Reg.TIM_NOW, Reg.TIM_STAT, Reg.TEL_SUB 0, Reg.SEC_STAT, Reg.SEC_SCR_QCTL 0] ++
  [Reg.TBL_DATA 0 0, Reg.MBX_STAGE 0, Reg.MBX_SENDSTAT]

section

variable {b : Nat} (h : b ∉ computedRegs)
include h

theorem sensorBits_stored : sensorBits b = 0 := by
  simp only [computedRegs, List.mem_append, List.mem_cons, not_or] at h
  simp only [sensorBits, h, if_false]

theorem isFecCounter_stored : isFecCounter b = false := by
  simp only [computedRegs, List.mem_append, List.mem_cons, not_or] at h
  simp [isFecCounter, h]

theorem isBanked_stored : isBanked b = false := by
  simp only [computedRegs, List.mem_append, List.mem_cons, not_or] at h
  simp [isBanked, h]

theorem State.viewCluster_stored (s : State) (n i j : Nat) : s.viewCluster b n i j = none := by
  simp only [computedRegs, List.mem_append, List.mem_cons, not_or] at h
  simp only [State.viewCluster, h, if_false]

theorem State.viewRest_stored (s : State) (src : Source) (i j : Nat) : s.viewRest src b i j = none := by
  simp only [computedRegs, List.mem_append, List.mem_cons, not_or] at h
  simp only [State.viewRest, h, if_false]

end

/-- Any other register shows what is stored for it, but for its write-only bits. -/
theorem State.view_stored (s : State) (src : Source) {r : RegRow} (h : r.base ∉ computedRegs) (off : Nat) :
    s.view src r off = (s.reg off &&& ~~~ r.wo, s) := by
  simp only [State.view, sensorBits_stored h, isFecCounter_stored h, viewKey, isBanked_stored h, State.viewCluster_stored h,
    State.viewRest_stored h, ne_eq, not_true_eq_false, if_false, Bool.false_eq_true, Option.getD_none, ite_self]

/-- A read of such a register clears it where it is RC. -/
theorem State.readEffect_stored (s : State) {r : RegRow} (hrc : r.rc = true) (h : r.base ∉ computedRegs) (off : Nat) :
    s.readEffect r off = s.setReg off 0 := by
  have hfec := isFecCounter_stored h
  simp only [computedRegs, List.mem_append, List.mem_cons, not_or] at h
  simp only [State.readEffect, h, hfec, hrc, if_false, if_true, Bool.false_eq_true]

/-- An RC register has no write-only bits, and shows what is stored for it or is one of `computedRc`. -/
theorem rcRow_stored {off : Nat} {r : RegRow} (hr : regRow off = some r) (hrc : r.rc = true) :
    r.wo = 0 ∧ (r.base ∉ computedRc → r.base ∉ computedRegs) := by
  have key : ∀ r ∈ regBlock off, r.rc = true → r.wo = 0 ∧ (r.base ∉ computedRc → r.base ∉ computedRegs) := by
    unfold regBlock
    split
    case h_13 => simp
    all_goals decide +kernel
  exact key r (regRow_mem hr).1 hrc

/-- An event in the cycle of the read of a counter kept in its register leaves 1 (R9). -/
theorem State.readEvent_counter (s : State) {r : RegRow} (hrc : r.rc = true) (off : Nat)
    (h : r.base ∉ [Reg.CL_RD_CTXCNT 0 0, Reg.CL_AR_CNT 0 0, Reg.CL_QMAX 0 0, Reg.BIC_CLAIM 0]) :
    s.readEvent r off = s.setReg off 1 := by
  simp only [List.mem_cons, not_or] at h
  obtain ⟨hctx, har, hqmax, hclaim, -⟩ := h
  simp [State.readEvent, hctx, har, hqmax, hclaim, hrc]

section

variable {s : State} {src : Source} {off : BitVec 32} {r : RegRow} (hm : s.mayRead src = true) (ht : s.tenantSource src = false)
  (hr : regRow off.toNat = some r) (hrc : r.rc = true) (event : Bool)
include hm ht hr hrc

theorem exec_rcFieldRead_stored (hb : r.base ∉ computedRegs) : exec (.rcFieldRead src off event) s =
    .next ((if event then (s.setReg off.toNat 0).readEvent r off.toNat else s.setReg off.toNat 0).answer (s.reg off.toNat) 0) := by
  have hview : s.view src r off.toNat = (s.reg off.toNat, s) := by
    rw [State.view_stored s src hb, (rcRow_stored hr hrc).1, show ~~~(0 : Word) = BitVec.allOnes 64 from rfl, BitVec.and_allOnes]
  exact exec_rcFieldRead hm ht hr hview (State.readEffect_stored s hrc hb _) rfl event

theorem exec_rcFieldRead_counter (hb : r.base ∉ computedRc) : exec (.rcFieldRead src off event) s =
    .next ((if event then (s.setReg off.toNat 0).setReg off.toNat 1 else s.setReg off.toNat 0).answer (s.reg off.toNat) 0) := by
  rw [exec_rcFieldRead_stored hm ht hr hrc event ((rcRow_stored hr hrc).2 hb), State.readEvent_counter _ hrc]
  simp only [computedRc, List.mem_cons, not_or] at hb
  simp [hb]

theorem exec_rcFieldRead_fec (hb : isFecCounter r.base = true) : exec (.rcFieldRead src off event) s =
    .next (((if event then (s.setReg off.toNat 0).setReg off.toNat 1 else s.setReg off.toNat 0).onPort
      (fun p => { p with fecAt := SMap.put 0 p.fecAt off.toNat s.tick })).answer (s.fecWord off.toNat) 0) := by
  have hmem : r.base ∈ [Reg.CL_SP_FECC 0 0, Reg.CL_SP_FECU 0 0, Reg.CL_SX_FECC 0 0, Reg.CL_SX_FECU 0 0] := by
    simpa [isFecCounter] using hb
  have facts : ∀ b ∈ [Reg.CL_SP_FECC 0 0, Reg.CL_SP_FECU 0 0, Reg.CL_SX_FECC 0 0, Reg.CL_SX_FECU 0 0], sensorBits b = 0 ∧
      b ∉ [Reg.CL_RD_CTXCNT 0 0, Reg.CL_AR_CNT 0 0, Reg.CL_QMAX 0 0, Reg.BIC_CLAIM 0] ∧ b ≠ Reg.DSP_PSDATA 0 := by
    decide
  obtain ⟨hsensor, hother, hps⟩ := facts r.base hmem
  have hview : s.view src r off.toNat = (s.fecWord off.toNat, s) := by
    simp [State.view, hsensor, hb]
  have heffect : s.readEffect r off.toNat = (s.setReg off.toNat 0).onPort
      (fun p => { p with fecAt := SMap.put 0 p.fecAt off.toNat s.tick }) := by
    simp only [List.mem_cons, not_or] at hother
    simp [State.readEffect, hb, hother, hps]
  rw [exec_rcFieldRead hm ht hr hview heffect rfl, State.readEvent_counter _ hrc _ hother]
  cases event <;> rfl

theorem exec_rcFieldRead_qmax (hb : r.base = Reg.CL_QMAX 0 0) : exec (.rcFieldRead src off event) s =
    .next ((if event then (s.setReg off.toNat 0).sampleQueue ((r.place off.toNat).getD 0 0) ((r.place off.toNat).getD 1 0)
      else s.setReg off.toNat 0).answer (s.reg off.toNat) 0) := by
  rw [exec_rcFieldRead_stored hm ht hr hrc event (hb ▸ by decide)]
  simp only [State.readEvent, hb]
  rfl

end

/-- The counters kept by context after a read of the one at `k`: it clears, and an event in the cycle of the read leaves 1 (R9). -/
def readCount (event : Bool) (m : SMap Nat) (k : Nat) : SMap Nat :=
  if event then SMap.put 0 (SMap.put 0 m k 0) k 1 else SMap.put 0 m k 0

theorem State.ctxKey_congr {s t : State} (h : t.regs = s.regs) (n i : Nat) : t.ctxKey n i = s.ctxKey n i := by
  unfold State.ctxKey State.fld
  rw [State.reg_congr h]

section

variable {s : State} {src : Source} {off : BitVec 32} {r : RegRow} (hm : s.mayRead src = true) (ht : s.tenantSource src = false)
  (hr : regRow off.toNat = some r) {k : Nat} (hk : s.ctxKey ((r.place off.toNat).getD 0 0) ((r.place off.toNat).getD 1 0) = some k)
  (event : Bool)
include hm ht hr hk

/-- A read of CL_RD_CTXCNT shows and clears the counter of the collective selected (R200). -/
theorem exec_rcFieldRead_ctxCnt (hb : r.base = Reg.CL_RD_CTXCNT 0 0) : exec (.rcFieldRead src off event) s =
    .next ((s.onRed (fun x => { x with ctxCnt := readCount event x.ctxCnt k })).answer
      (BitVec.ofNat 64 (SMap.get 0 s.red.ctxCnt k)) 0) := by
  have hview : s.view src r off.toNat = (BitVec.ofNat 64 (SMap.get 0 s.red.ctxCnt k), s) := by
    simp only [State.view, hb]
    show (s.ctxWord s.red.ctxCnt _ _, s) = _
    simp only [State.ctxWord, hk]
  have heffect : s.readEffect r off.toNat = s.onRed (fun x => { x with ctxCnt := SMap.put 0 x.ctxCnt k 0 }) := by
    simp only [State.readEffect, hb]
    show s.clearCtx _ _ false = _
    simp only [State.clearCtx, hk]
    rfl
  rw [exec_rcFieldRead hm ht hr hview heffect rfl]
  cases event
  · rfl
  · simp only [State.readEvent, hb, State.ctxKey_congr (State.onRed_regs s _), hk]
    rfl

/-- A read of CL_AR_CNT does so for the all-reduce counters (R279). -/
theorem exec_rcFieldRead_arCnt (hb : r.base = Reg.CL_AR_CNT 0 0) : exec (.rcFieldRead src off event) s =
    .next ((s.onRed (fun x => { x with arCnt := readCount event x.arCnt k })).answer
      (BitVec.ofNat 64 (SMap.get 0 s.red.arCnt k)) 0) := by
  have hview : s.view src r off.toNat = (BitVec.ofNat 64 (SMap.get 0 s.red.arCnt k), s) := by
    simp only [State.view, hb]
    show (s.ctxWord s.red.arCnt _ _, s) = _
    simp only [State.ctxWord, hk]
  have heffect : s.readEffect r off.toNat = s.onRed (fun x => { x with arCnt := SMap.put 0 x.arCnt k 0 }) := by
    simp only [State.readEffect, hb]
    show s.clearCtx _ _ true = _
    simp only [State.clearCtx, hk]
    rfl
  rw [exec_rcFieldRead hm ht hr hview heffect rfl]
  cases event
  · rfl
  · simp only [State.readEvent, hb, State.ctxKey_congr (State.onRed_regs s _), hk]
    rfl

end

/-! ### The statement -/

/-- Settles O3: a write goes by its access code or as its command, a read by the kind of RC register it names. -/
theorem registerAccess : Obligations.RegisterAccess := by
  refine ⟨?_, ?_, ?_, ?_, ?_, ?_, ?_, ?_⟩
  · intro s src off val r hw hr hb
    have hwrite : s.busWrite src off.toNat val = s.setReg (viewKey src r off.toNat) (r.written (s.reg (viewKey src r off.toNat)) val) := by
      rw [State.busWrite_plain s src val hr hb, State.writeReg, offsetOf_viewKey src r off.isLt, hr]
    refine ⟨_, ?_, RegRow.getLsbD_written r _ val⟩
    simp only [exec, execRegisterWrite, hw, if_true, hwrite, accessStatusOf, hr, Option.isSome_some]
  · intro s src off val c hw hc
    obtain ⟨r, hr, -⟩ := id hc
    refine ⟨_, exec_writeCommand hw hc, ?_⟩
    simp only [exec, execRegisterWrite, hw, if_true, accessStatusOf, hr, Option.isSome_some]
  · intro s src off val hw hr
    simp only [exec, execRegisterWrite, hw, if_true, State.busWrite, hr, accessStatusOf, Option.isSome_none, Bool.false_eq_true,
      if_false]
  · intro s src off event r hm ht hr hrc
    exact ⟨exec_rcFieldRead_counter hm ht hr hrc event, exec_rcFieldRead_fec hm ht hr hrc event,
      exec_rcFieldRead_qmax hm ht hr hrc event, fun k hk =>
        ⟨exec_rcFieldRead_ctxCnt hm ht hr hk event, exec_rcFieldRead_arCnt hm ht hr hk event⟩⟩
  · intro s src off event hm ht hr
    simp only [exec, execRcFieldRead, hm, if_true, State.busRead_none ht hr, hr]
  · intro s src off event k i hm hs ht
    have ht' : s.tenantSource src = true := by simpa only [State.tenantSource, hs] using ht
    simp only [exec, execRcFieldRead, hm, if_true, State.busRead_tenant hs ht, ht', Bool.not_true, Bool.and_false, Bool.false_eq_true,
      if_false]
    cases regRow off.toNat <;> rfl
  · intro s src off val event
    exact ⟨fun h => if_neg (by simp [h]), fun h => if_neg (by simp [h])⟩
  · intro s ring idx ha
    have hidx : idx.toNat % 256 = idx.toNat := Nat.mod_eq_of_lt idx.isLt
    simp only [exec, execCrtailWrite, ha, if_true, State.ringTail, State.ringUnread, hidx]

end Sys2Proof.Machine
end

section
/-! Register batches: the entry in front of a batch, how it ends, and how the batch ends. -/

namespace Sys2Proof.Machine

/-! ### The entry in front -/

section

variable {s : State} {k i : Nat}

theorem State.frontEntry_none (h : s.batchOf k i = none) (mine : Nat → Bool) : s.frontEntry k i mine = none := by
  simp only [State.frontEntry, h]

variable {b : Batch} {e : BitVec 128} {rest : List (BitVec 128)} (h : s.batchOf k i = some b) (he : b.entries = e :: rest)
include h he

theorem State.frontEntry_mine {mine : Nat → Bool} (hm : mine (beOp e) = true) : s.frontEntry k i mine = some (b, e) := by
  simp only [State.frontEntry, h, he, hm, if_true]

theorem State.frontEntry_other {mine : Nat → Bool} (hm : mine (beOp e) = false) : s.frontEntry k i mine = none := by
  simp only [State.frontEntry, h, he, hm, Bool.false_eq_true, if_false]

end

/-! A command whose OP is not that of the entry in front, or that finds no batch, does nothing. -/

section

variable {s : State} {k : Fin 2} {i : Fin 8}

theorem exec_batchRead_none (h : s.frontEntry k i (fun op => op != 2 && op != 3) = none) : exec (.batchRead k i) s = .next s := by
  simp only [exec, execBatchRead, h]

theorem exec_batchWrite_none (h : s.frontEntry k i (fun op => op == 2) = none) : exec (.batchWrite k i) s = .next s := by
  simp only [exec, execBatchWrite, h]

theorem exec_batchPoll_none (h : s.frontEntry k i (fun op => op == 3) = none) : exec (.batchPoll k i) s = .next s := by
  simp only [exec, execBatchPoll, h]

theorem exec_pollTimeout_none (h : s.frontEntry k i (fun op => op == 3) = none) : exec (.pollTimeout k i) s = .next s := by
  simp only [exec, execPollTimeout, h]

end

section

variable {s : State} {k : Fin 2} {i : Fin 8} {b : Batch} {e : BitVec 128} {rest : List (BitVec 128)}
  (h : s.batchOf k i = some b) (he : b.entries = e :: rest)
include h he

/-! ### READ -/

theorem exec_batchRead_badentry (h2 : beOp e ≠ 2) (h3 : beOp e ≠ 3) (hbad : beOp e ≠ 1 ∨ beFlags e ≠ 0) :
    exec (.batchRead k i) s = .next (s.batchResult k i b 0 bsBadentry) := by
  have hf := State.frontEntry_mine h he (mine := fun op => op != 2 && op != 3) (by simp [h2, h3])
  simp only [exec, execBatchRead, hf, if_pos hbad]

theorem exec_batchRead_listed (h1 : beOp e = 1) (hfl : beFlags e = 0) :
    exec (.batchRead k i) s = .next ((s.busRead (sessionSource k i) (beOffset e)).2.2.batchResult k i (s.latch b (beOffset e))
      (if (s.busRead (sessionSource k i) (beOffset e)).2.1 = 0 then
        (s.latch b (beOffset e)).shown (beOffset e) (s.busRead (sessionSource k i) (beOffset e)).1
      else (s.busRead (sessionSource k i) (beOffset e)).1) (s.busRead (sessionSource k i) (beOffset e)).2.1) := by
  have hf := State.frontEntry_mine h he (mine := fun op => op != 2 && op != 3) (by simp [h1])
  simp only [exec, execBatchRead, hf, h1, hfl, ne_eq, not_true_eq_false, or_self, if_false]

/-! ### WRITE -/

theorem exec_batchWrite_badentry (h2 : beOp e = 2) (hfl : beFlags e ≠ 0) :
    exec (.batchWrite k i) s = .next (s.batchResult k i b 0 bsBadentry) := by
  have hf := State.frontEntry_mine h he (mine := fun op => op == 2) (by simp [h2])
  simp only [exec, execBatchWrite, hf, if_pos hfl]

theorem exec_batchWrite_denied (h2 : beOp e = 2) (hfl : beFlags e = 0) (ht : (s.session k i).tenant = true) :
    exec (.batchWrite k i) s = .next (s.batchResult k i b 0 bsDenied) := by
  have hf := State.frontEntry_mine h he (mine := fun op => op == 2) (by simp [h2])
  simp only [exec, execBatchWrite, hf, hfl, ne_eq, not_true_eq_false, if_false, ht, if_true]

theorem exec_batchWrite_done (h2 : beOp e = 2) (hfl : beFlags e = 0) (ht : (s.session k i).tenant = false)
    (hw : s.writeWaits (sessionSource k i) (beOffset e) = false) :
    exec (.batchWrite k i) s = .next ((s.busWrite (sessionSource k i) (beOffset e) (beData e)).batchResult k i b 0
      (if (regRow (beOffset e)).isSome then 0 else 1)) := by
  have hf := State.frontEntry_mine h he (mine := fun op => op == 2) (by simp [h2])
  simp only [exec, execBatchWrite, hf, hfl, ne_eq, not_true_eq_false, if_false, ht, hw, Bool.false_eq_true, accessStatusOf]

/-- A WRITE to a register that is BUSY notes when it began to wait, and gives up after 1 ms (R419). -/
theorem exec_batchWrite_waits (h2 : beOp e = 2) (hfl : beFlags e = 0) (ht : (s.session k i).tenant = false)
    (hw : s.writeWaits (sessionSource k i) (beOffset e) = true) :
    (b.waitAt = none → exec (.batchWrite k i) s = .next (s.setBatch k i (some { b with waitAt := some s.tick }))) ∧
    (∀ t, b.waitAt = some t → s.since t (msTicks 1) = true → exec (.batchWrite k i) s = .next (s.batchResult k i b 0 bsTimeout)) ∧
    (∀ t, b.waitAt = some t → s.since t (msTicks 1) = false → exec (.batchWrite k i) s = .next s) := by
  have hf := State.frontEntry_mine h he (mine := fun op => op == 2) (by simp [h2])
  simp only [exec, execBatchWrite, hf, hfl, ne_eq, not_true_eq_false, if_false, ht, hw, Bool.false_eq_true, if_true]
  refine ⟨fun hn => ?_, fun t hs hlate => ?_, fun t hs hearly => ?_⟩
  · rw [hn]
  · rw [hs]
    exact if_pos hlate
  · rw [hs]
    exact if_neg (Bool.eq_false_iff.mp hearly)

/-! ### POLL -/

theorem exec_batchPoll_badentry (h3 : beOp e = 3) (hbad : 1 < beFlags e ∨ beWait e = 0) :
    exec (.batchPoll k i) s = .next (s.batchResult k i b 0 bsBadentry) := by
  have hf := State.frontEntry_mine h he (mine := fun op => op == 3) (by simp [h3])
  simp only [exec, execBatchPoll, hf, if_pos hbad]

/-- A POLL ends where the access fails or the bits read are as SENSE asks; else it keeps what it has read (R419). -/
theorem exec_batchPoll_looks (h3 : beOp e = 3) (hfl : beFlags e ≤ 1) (hwait : 1 ≤ beWait e) :
    let r := s.busRead (sessionSource k i) (beOffset e)
    let asked := if beFlags e = 1 then r.1 &&& beData e = beData e else r.1 &&& beData e = 0
    (r.2.1 ≠ 0 ∨ asked → exec (.batchPoll k i) s = .next (r.2.2.batchResult k i b r.1 r.2.1)) ∧
    (r.2.1 = 0 → ¬ asked → exec (.batchPoll k i) s = .next (r.2.2.setBatch k i (some { b with
      pollAt := some (b.pollAt.getD r.2.2.tick)
      pollLast := r.1 }))) := by
  intro r asked
  have hf := State.frontEntry_mine h he (mine := fun op => op == 3) (by simp [h3])
  have hgood : ¬ (1 < beFlags e ∨ beWait e = 0) := by omega
  have hasked : ((if beFlags e = 1 then r.1 &&& beData e == beData e else r.1 &&& beData e == 0) = true) ↔ asked := by
    by_cases h1 : beFlags e = 1 <;> simp [asked, h1]
  have hexec : exec (.batchPoll k i) s = if r.2.1 ≠ 0 ∨ asked then .next (r.2.2.batchResult k i b r.1 r.2.1)
      else .next (r.2.2.setBatch k i (some { b with pollAt := some (b.pollAt.getD r.2.2.tick), pollLast := r.1 })) := by
    simp only [exec, execBatchPoll, hf, if_neg hgood]
    exact if_congr (or_congr_right hasked) rfl rfl
  rw [hexec]
  exact ⟨fun hr => if_pos hr, fun hr hn => if_neg (by simp [hr, hn])⟩

theorem exec_pollTimeout (h3 : beOp e = 3) :
    (∀ t, b.pollAt = some t → s.since t (msTicks (beWait e)) = true →
      exec (.pollTimeout k i) s = .next (s.batchResult k i b b.pollLast bsTimeout)) ∧
    (∀ t, b.pollAt = some t → s.since t (msTicks (beWait e)) = false → exec (.pollTimeout k i) s = .next s) ∧
    (b.pollAt = none → exec (.pollTimeout k i) s = .next s) := by
  have hf := State.frontEntry_mine h he (mine := fun op => op == 3) (by simp [h3])
  simp only [exec, execPollTimeout, hf]
  refine ⟨fun t hs hlate => ?_, fun t hs hearly => ?_, fun hn => ?_⟩
  · rw [hs]
    exact if_pos hlate
  · rw [hs]
    exact if_neg (Bool.eq_false_iff.mp hearly)
  · rw [hn]

end

/-! ### The end of an entry and of a batch -/

theorem State.batchResult_closed {s : State} {k i : Nat} (h : (s.session k i).opened = false) (b : Batch) (v : Word) (st : Nat) :
    s.batchResult k i b v st = s := by
  simp only [State.batchResult, h, Bool.not_false, if_true]

section

variable {s : State} {k i : Nat} (h : (s.session k i).opened = true) {b : Batch} {e : BitVec 128} {rest : List (BitVec 128)}
  (he : b.entries = e :: rest) (v : Word) {st : Nat}
include h he

/-- A TIMEOUT or BADENTRY ends the batch; the later entries are SKIPPED (R419). -/
theorem State.batchResult_skips (hst : st = bsTimeout ∨ st = bsBadentry) : s.batchResult k i b v st =
    s.batchEnd k i b (b.results ++ [(v, st)] ++ List.replicate rest.length (0, bsSkipped)) := by
  simp only [State.batchResult, h, Bool.not_true, Bool.false_eq_true, if_false, if_pos hst, he, List.drop_succ_cons, List.drop_zero,
    List.map_const']

theorem State.batchResult_last (hst : ¬ (st = bsTimeout ∨ st = bsBadentry)) (hrest : rest = []) :
    s.batchResult k i b v st = s.batchEnd k i b (b.results ++ [(v, st)]) := by
  simp only [State.batchResult, h, Bool.not_true, Bool.false_eq_true, if_false, if_neg hst, he, hrest, List.drop_succ_cons,
    List.drop_zero, List.isEmpty_nil, if_true]

theorem State.batchResult_next (hst : ¬ (st = bsTimeout ∨ st = bsBadentry)) (hrest : rest ≠ []) :
    s.batchResult k i b v st = s.setBatch k i
      (some { seq := b.seq, tag := b.tag, entries := rest, results := b.results ++ [(v, st)], latched := b.latched }) := by
  have hemp : rest.isEmpty = false := by simpa using hrest
  simp only [State.batchResult, h, Bool.not_true, Bool.false_eq_true, if_false, if_neg hst, he, List.drop_succ_cons, List.drop_zero, hemp]

end

theorem beBytes_length (n v : Nat) : (beBytes n v).length = n := by
  induction n generalizing v with
  | zero => rfl
  | succ n ih => rw [beBytes, List.length_append, ih, List.length_singleton]

/-- A result takes 16 bytes (R418). -/
theorem batchPayload_length (l : List (Word × Nat)) :
    (l.flatMap (fun r => beBytes 8 r.1.toNat ++ [BitVec.ofNat 8 r.2, 0, 0, 0, 0, 0, 0, 0])).length = 16 * l.length := by
  induction l with
  | nil => rfl
  | cons r l ih => simp only [List.flatMap_cons, List.length_append, ih, beBytes_length, List.length_cons, List.length_nil]; omega

theorem State.batchEnd_ok (s : State) (k i : Nat) (b : Batch) {l : List (Word × Nat)} (h : ∀ r ∈ l, r.2 = bsOk) :
    s.batchEnd k i b l = (s.setBatch k i none).completion k i b.seq b.tag psOk
      (l.flatMap (fun r => beBytes 8 r.1.toNat ++ [BitVec.ofNat 8 r.2, 0, 0, 0, 0, 0, 0, 0])) := by
  have hall : l.all (fun r => r.2 == bsOk) = true := by simpa [List.all_eq_true] using h
  simp only [State.batchEnd, hall, if_true]

theorem State.batchEnd_partial (s : State) (k i : Nat) (b : Batch) {l : List (Word × Nat)} (h : ∃ r ∈ l, r.2 ≠ bsOk) :
    s.batchEnd k i b l = (s.setBatch k i none).completion k i b.seq b.tag psPartial
      (l.flatMap (fun r => beBytes 8 r.1.toNat ++ [BitVec.ofNat 8 r.2, 0, 0, 0, 0, 0, 0, 0])) := by
  have hall : l.all (fun r => r.2 == bsOk) = false := by simpa [List.all_eq_false] using h
  simp only [State.batchEnd, hall, Bool.false_eq_true, if_false]

/-! ### Capture registers -/

theorem Batch.latch_shown_other (s : State) (b : Batch) {off : Nat} (v : Word) (h : captPlace off = none) :
    s.latch b off = b ∧ b.shown off v = v := by
  simp only [State.latch, Batch.shown, h, and_self]

/-- The first READ of one of a cluster's nine capture registers keeps all nine (R51). -/
theorem Batch.latch_shown_capture (s : State) (b : Batch) {off n j : Nat} (v : Word) (h : captPlace off = some (n, j)) :
    b.shown off v = (SMap.get [] b.latched n).getD j v ∧
    (SMap.get [] b.latched n = [] → s.latch b off = { b with latched := SMap.put [] b.latched n (s.captWords n) }) ∧
    (SMap.get [] b.latched n ≠ [] → s.latch b off = b) := by
  refine ⟨?_, fun hn => ?_, fun hs => ?_⟩
  · simp only [Batch.shown, h]
  · simp only [State.latch, h, hn, List.isEmpty_nil, Bool.not_true, Bool.false_eq_true, if_false]
  · have : (SMap.get [] b.latched n).isEmpty = false := by simpa using hs
    simp only [State.latch, h, this, Bool.not_false, if_true]

/-! ### The statement -/

/-- Settles O46: each OP's command by the entry in front, then how an entry's end ends the batch. -/
theorem batchEntries : Obligations.BatchEntries := by
  refine ⟨?_, ?_, ?_, ?_, ?_, ?_, ?_⟩
  · intro s k i b e rest h he
    refine ⟨fun h2 h3 => ⟨fun h1 hfl => ?_, exec_batchRead_badentry h he h2 h3⟩, fun h2 => ⟨exec_batchWrite_badentry h he h2,
      exec_batchWrite_denied h he h2, fun hfl ht => ⟨exec_batchWrite_done h he h2 hfl ht, exec_batchWrite_waits h he h2 hfl ht⟩⟩,
      fun h3 => ⟨exec_batchPoll_badentry h he h3, exec_batchPoll_looks h he h3, exec_pollTimeout h he h3⟩⟩
    have hread := exec_batchRead_listed h he h1 hfl
    exact ⟨fun hok => by rw [hread, if_pos hok, hok], fun hfail => by rw [hread, if_neg hfail]⟩
  · intro s k i b e rest v st he
    refine ⟨fun hc => State.batchResult_closed hc b v st, fun ho => ⟨State.batchResult_skips ho he v, fun ht hb => ?_, fun ht hb => ?_⟩⟩
    · exact State.batchResult_last ho he v (not_or.mpr ⟨ht, hb⟩)
    · exact State.batchResult_next ho he v (not_or.mpr ⟨ht, hb⟩)
  · intro s k i b l
    exact ⟨batchPayload_length l, State.batchEnd_ok s k i b, State.batchEnd_partial s k i b⟩
  · intro s b off v
    exact ⟨Batch.latch_shown_other s b v, fun n j h => Batch.latch_shown_capture s b v h⟩
  · intro s k i h
    have hnone := State.frontEntry_none h
    exact ⟨exec_batchRead_none (hnone _), exec_batchWrite_none (hnone _), exec_batchPoll_none (hnone _),
      exec_pollTimeout_none (hnone _)⟩
  · intro s k i b e rest h he
    refine ⟨fun hop => ?_, fun hop => ?_, fun hop => ?_⟩
    · apply exec_batchRead_none (State.frontEntry_other h he _)
      obtain hop | hop := hop <;> simp [hop]
    · exact exec_batchWrite_none (State.frontEntry_other h he (by simpa using hop))
    · have hnone : s.frontEntry k i (fun op => op == 3) = none := State.frontEntry_other h he (by simpa using hop)
      exact ⟨exec_batchPoll_none hnone, exec_pollTimeout_none hnone⟩
  · intro s src off ht hr
    exact State.busRead_none ht hr

end Sys2Proof.Machine
end

section
/-! A frame received: what reaches the hop, and what the hop does with it by its HOPSEQ. -/

namespace Sys2Proof.Machine

/-! ### Up to the hop -/

section

variable {s r : State} {p : Fin 544} {f : Frame} {crc : BitVec 32} {ago : BitVec 16}

/-- What a port in LOOP does not get back from its own wire has no effect (R107). -/
theorem exec_frameReceive_lost (hgot : s.arrives p (frameFrom p (frameCrc f == crc.toNat) f crc) = none) :
    exec (.frameReceive p f crc ago) s = .next s := by
  change execFrameReceive p f crc ago s = _
  simp only [execFrameReceive, hgot, ite_self]

/-- A frame as a port holds it: a span port sets SPANNED (R159). -/
def frameTaken (p : Fin 544) (f : Frame) : Frame := if isSpan p then { f with flags := f.flags ||| flSpanned } else f

/-- What the module notes of a frame that comes in on port `p` of `r`. -/
def State.metaTaken (r : State) (p : Fin 544) (f : Frame) (ago : BitVec 16) : Meta :=
  { pin := p, tin := r.nowHalf - ago.toNat, since := r.tick, era := (r.link p).era, badJob := r.jobBad f
    asRx := if frameTaken p f = f then none else some f }

variable (ha : s.awake = true) (hgot : s.arrives p (frameFrom p (frameCrc f == crc.toNat) f crc) = some r)
include ha hgot

theorem exec_frameReceive_notUp (hup : r.portState p ≠ pUp) : exec (.frameReceive p f crc ago) s = .next r := by
  change execFrameReceive p f crc ago s = _
  simp only [execFrameReceive, ha, hgot, Bool.not_true, Bool.false_eq_true, if_false]
  exact if_pos (by simpa using hup)

variable (hup : r.portState p = pUp)
include hup

theorem exec_frameReceive_badCrc (hcrc : frameCrc f ≠ crc.toNat) : exec (.frameReceive p f crc ago) s =
    .next (r.discard p { f := frameTaken p f, m := r.metaTaken p f ago } dcCrc) := by
  have hbad : (frameCrc f == crc.toNat) = false := by simpa using hcrc
  rw [hbad] at hgot
  change execFrameReceive p f crc ago s = _
  simp only [execFrameReceive, ha, hbad, hgot, hup, bne_self_eq_false, Bool.not_true, Bool.not_false, Bool.false_eq_true,
    if_false, if_true]
  rfl

variable (hcrc : frameCrc f = crc.toNat)
include hcrc

/-- With its CRC good a frame goes to the hop, unless it is of a job that the module carries no frames of now (R23). -/
theorem exec_frameReceive_goodCrc : exec (.frameReceive p f crc ago) s =
    .next (if f.job ≠ 0 ∧ r.carries = false ∧ r.ingressCheck p { f := frameTaken p f, m := r.metaTaken p f ago } = none then r
      else (r.tagFrame (clusterOf p) (frameTaken p f)).2.hopTake p
        { f := frameTaken p f
          m := { r.metaTaken p f ago with tagged := (r.tagFrame (clusterOf p) (frameTaken p f)).1 } }) := by
  have hgood : (frameCrc f == crc.toNat) = true := by simpa using hcrc
  rw [hgood] at hgot
  change execFrameReceive p f crc ago s = _
  simp only [execFrameReceive, ha, hgood, hgot, hup, bne_self_eq_false, Bool.not_true, Bool.false_eq_true, if_false]
  rw [apply_ite Host.Outcome.next]
  exact if_congr (by simp [and_assoc, frameTaken, State.metaTaken]) rfl rfl

end

/-! ### By the HOPSEQ (R59 to R63) -/

section

variable {s : State} {p : Fin 544} {h : Held}

/-- The frame expected is released, the held frames behind it follow, and the VC is acknowledged. -/
theorem State.hopTake_expected (hq : h.f.hopseq = (s.vc p h.f.vc.toNat).rxNext) :
    let v := h.f.vc.toNat
    let a := s.hopAccept p h
    let on := a.2.setVc p v { a.2.vc p v with
      rxNext := h.f.hopseq + 1
      overflowed := false }
    s.hopTake p h = ((on.release p a.1).releaseHeld p v (s.vc p v).rxHold.length).ackVc p v :=
  if_pos hq

/-- A frame accepted before, or held already, is acknowledged again. -/
theorem State.hopTake_again (hq : h.f.hopseq ≠ (s.vc p h.f.vc.toNat).rxNext)
    (hold : seqLe (s.vc p h.f.vc.toNat).rxNext h.f.hopseq = false ∨ ∃ x ∈ (s.vc p h.f.vc.toNat).rxHold, x.1 = h.f.hopseq) :
    s.hopTake p h = s.ackVc p h.f.vc.toNat := by
  have hnot : ¬ (seqLe (s.vc p h.f.vc.toNat).rxNext h.f.hopseq = true ∧
      (!(s.vc p h.f.vc.toNat).rxHold.any (fun x => decide (x.1 = h.f.hopseq))) = true) := by
    obtain hold | hold := hold
    · simp [hold]
    · simpa using fun _ => hold
  rw [State.hopTake, if_neg hq, if_neg hnot]

/-- The frame is ahead of the one that its VC expects, and is not held yet. -/
def State.isAhead (s : State) (p : Fin 544) (h : Held) : Prop :=
  h.f.hopseq ≠ (s.vc p h.f.vc.toNat).rxNext ∧ seqLe (s.vc p h.f.vc.toNat).rxNext h.f.hopseq = true ∧
    ∀ x ∈ (s.vc p h.f.vc.toNat).rxHold, x.1 ≠ h.f.hopseq

/-- The state in which the missing frames have been asked for. -/
def State.askMissing (s : State) (p : Fin 544) (v : Nat) : State := s.sendLcb p lcbNakSelType v 0 (s.vc p v).rxNext 0

/-- The frame fits the receive hold. -/
def State.holdFits (s : State) (p : Fin 544) (h : Held) : Prop :=
  (s.askMissing p h.f.vc.toNat).holdUse p h.f.vc.toNat + 64 + h.f.plen.toNat ≤ holdSize p

variable (ahead : s.isAhead p h)
include ahead

theorem State.hopTake_ahead : s.hopTake p h = s.hopAhead p h.f.vc.toNat h := by
  obtain ⟨hq, hle, hnew⟩ := ahead
  have hany : (!(s.vc p h.f.vc.toNat).rxHold.any (fun x => decide (x.1 = h.f.hopseq))) = true := by simpa using hnew
  rw [State.hopTake, if_neg hq, if_pos ⟨hle, hany⟩]

/-- Behind one that did not fit, frames are dropped until the missing ones come (R61). -/
theorem State.hopTake_ahead_dropped (ho : (s.vc p h.f.vc.toNat).overflowed = true) : s.hopTake p h = s.askMissing p h.f.vc.toNat := by
  rw [State.hopTake_ahead ahead]
  simp only [State.hopAhead, ho, Bool.true_or, if_true, State.askMissing]

variable (ho : (s.vc p h.f.vc.toNat).overflowed = false)
include ho

theorem State.hopTake_ahead_held (hfits : s.holdFits p h) :
    let a := (s.askMissing p h.f.vc.toNat).hopAccept p h
    s.hopTake p h = a.2.setVc p h.f.vc.toNat { a.2.vc p h.f.vc.toNat with
      rxHold := (s.vc p h.f.vc.toNat).rxHold ++ [(a.1.f.hopseq, a.1)] } := by
  rw [State.hopTake_ahead ahead]
  simp only [State.hopAhead, ho, Bool.false_or, decide_eq_true_eq]
  exact if_neg (Nat.not_lt.mpr hfits)

/-- The first frame that does not fit is counted, and it and all that follow are asked for again (R61, R94). -/
theorem State.hopTake_ahead_full (hfull : ¬ s.holdFits p h) :
    let v := h.f.vc.toNat
    let asked := s.askMissing p v
    s.hopTake p h = ((asked.setVc p v { asked.vc p v with overflowed := true }).bump (holdovfReg p v) 1).sendLcb
      p lcbNakGobackType v 0 h.f.hopseq 0 := by
  rw [State.hopTake_ahead ahead]
  simp only [State.hopAhead, ho, Bool.false_or, decide_eq_true_eq, Bool.false_eq_true, if_false]
  exact if_pos (Nat.not_le.mp hfull)

end

/-! ### The statement -/

/-- Settles O21: what a frame meets before the hop, then the hop's cases by its HOPSEQ. -/
theorem frameReceive : Obligations.FrameReceive := by
  refine ⟨?_, ?_⟩
  · intro s p f crc ago ha good got
    refine ⟨exec_frameReceive_lost, fun r hgot => exec_frameReceive_notUp ha hgot, fun r hgot hup => ?_⟩
    intro g m stranger
    refine ⟨exec_frameReceive_badCrc ha hgot hup, fun hcrc hs => ?_, fun hcrc hs => ?_⟩
    · rw [exec_frameReceive_goodCrc ha hgot hup hcrc]
      exact congrArg _ (if_pos hs)
    · rw [exec_frameReceive_goodCrc ha hgot hup hcrc]
      exact congrArg _ (if_neg hs)
  · intro s p h
    exact ⟨State.hopTake_expected, State.hopTake_again, State.hopTake_ahead_dropped, State.hopTake_ahead_held, State.hopTake_ahead_full⟩

end Sys2Proof.Machine
end

section
/-! Packets executed in a session: what each KIND leaves, and its COMPLETION; command lists and bulk data. -/

namespace Sys2Proof.Machine

/-! ### A packet that is run -/

/-- A packet next in order, its form kept, that neither STATE nor DENIED turns away is run (R411, R413). -/
theorem State.packet_runs {s t : State} {k : Fin 2} {p : Packet} {i : Nat} {rule : KindRule} (ht : s.inOrder k p i t)
    (hh : headerGood p = true) (hb : t.bosunUp = true) (hten : rule.tenant = true ∨ (t.session k i).tenant = false)
    (hform : rule.form = true) (run : Nat → State → State) : s.packet k p rule run = .next ((run i t).closeWorn k i) := by
  have hdenied : ((t.session k i).tenant && !rule.tenant) = false := by
    obtain h | h := hten <;> simp [h]
  simp only [State.packet, show s.arrive k p = (some i, t) from ht, hh, hform, hb, hdenied, Bool.and_self, Bool.not_true, Bool.and_false,
    Bool.false_eq_true, if_false]

section

variable {s t : State} {k : Fin 2} {p : Packet} {i : Nat}

/-! KINDs that any session may send. -/

section

variable (ht : s.inOrder k p i t) (hh : headerGood p = true) (hb : t.bosunUp = true)
include ht hh hb

theorem exec_close (hk : p.kind = 0x02) (ha : argEnds p 0 = true) (hp : p.payload = []) :
    exec (.close k p) s = .next ((t.closeSession k i).closeWorn k i) := by
  refine (if_neg (not_not.mpr hk)).trans ?_
  exact State.packet_runs ht hh hb (.inl rfl) (by simp [ha, hp]) _

theorem exec_ping (hk : p.kind = 0x03) (ha : argEnds p 0 = true) (hp : p.payload = []) :
    exec (.ping k p) s = .next ((t.answered k i p psOk []).closeWorn k i) := by
  refine (if_neg (fun hother => hother.2 hk)).trans ?_
  exact State.packet_runs ht hh hb (.inl rfl) (by simp [hk, ha, hp]) _

/-- A batch has one entry for each 16 bytes of the payload (R418). -/
theorem exec_regBatch (hk : p.kind = 0x10) (ha : argEnds p 0 = true) {n : Nat} (hp : p.payload.length = 16 * n) (h1 : 1 ≤ n)
    (hn : n ≤ 4096) :
    let b : Batch := { seq := p.seq, tag := p.tag
                       entries := (List.range n).map (fun j => BitVec.ofNat 128 (natAt p.payload (16 * j) 16)), results := [] }
    exec (.regBatch k p) s = .next ((t.setBatch k i (some b)).closeWorn k i) := by
  have hlen : p.payload.length / 16 = n := by omega
  change execRegBatch k p s = _
  simp only [execRegBatch, hk, ne_eq, not_true_eq_false, if_false, hlen]
  exact State.packet_runs ht hh hb (.inl rfl) (by simp [ha, hp, h1, hn]) _

end

/-- The entries of a TEL_SUB are taken in order: whether each stands, and the state they leave. -/
def State.subEntries (s : State) (k i : Nat) (p : Packet) (n : Nat) : List Bool × State :=
  (List.range n).foldl (fun (a : List Bool × State) j =>
    let b := a.2.subEntry k i (sliceBytes p.payload (16 * j) 16)
    (a.1 ++ [b.1], b.2)) ([], s)

/-- Where an entry is refused the COMPLETION has a byte for each (R376). -/
theorem exec_telSub (ht : s.inOrder k p i t) (hh : headerGood p = true) (hb : t.bosunUp = true) (hk : p.kind = 0x14)
    (ha : argEnds p 0 = true) {n : Nat} (hp : p.payload.length = 16 * n) (h1 : 1 ≤ n) :
    let r := t.subEntries k i p n
    (false ∉ r.1 → exec (.telSub k p) s = .next ((r.2.answered k i p psOk []).closeWorn k i)) ∧
    (false ∈ r.1 → exec (.telSub k p) s =
      .next ((r.2.answered k i p psPartial (r.1.map (fun b => if b then 0 else 1))).closeWorn k i)) := by
  intro r
  have hlen : p.payload.length / 16 = n := by omega
  have hexec : exec (.telSub k p) s = .next (State.closeWorn (if r.1.all (fun b => b) then r.2.answered k i p psOk []
      else r.2.answered k i p psPartial (r.1.map (fun b => if b then 0 else 1))) k i) := by
    change execTelSub k p s = _
    simp only [execTelSub, hk, ne_eq, not_true_eq_false, if_false, hlen]
    exact State.packet_runs ht hh hb (.inl rfl) (by simp [ha, hp, Nat.one_le_iff_ne_zero.mp h1]) _
  rw [hexec]
  exact ⟨fun hall => by rw [if_pos (by simpa using hall)], fun hsome => by rw [if_neg (by simpa using hsome)]⟩

/-! KINDs of an OPERATOR session. -/

section

variable (h : s.operatorTakes k p i t)
include h

theorem State.packet_runs_operator {rule : KindRule} (hform : rule.form = true) (run : Nat → State → State) :
    s.packet k p rule run = .next ((run i t).closeWorn k i) := by
  obtain ⟨ht, hh, hb, hten⟩ := h
  exact State.packet_runs ht hh hb (.inr hten) hform run

theorem exec_cmdAppend (hk : p.kind = 0x11) (ha : argEnds p 2 = true) (he : argNat p 0 1 < 0x24) (hq : argNat p 1 1 < 8) {n : Nat}
    (hp : p.payload.length = 64 * n) (h1 : 1 ≤ n) (hn : n ≤ 1024) {st : Nat} {u : State}
    (happ : t.append (argNat p 0 1) (argNat p 1 1) (8 * k + i)
      ((List.range n).map (fun j => entryOfBytes (sliceBytes p.payload (64 * j) 64))) = (st, u)) :
    exec (.cmdAppend k p) s = .next ((u.answered k i p st []).closeWorn k i) := by
  have hlen : p.payload.length / 64 = n := by omega
  change execCmdAppend k p s = _
  simp only [execCmdAppend, hk, ne_eq, not_true_eq_false, if_false, hlen]
  rw [State.packet_runs_operator h (by simp [ha, he, hq, h1, hn, hp]), happ]

theorem exec_bulkLoad_piece (hk : p.kind = 0x12) (ha : argEnds p 18 = true) (hty : argNat p 16 1 ≤ 2) (hf : argNat p 17 1 = 0) :
    let a := t.bulkLoad (8 * k + i) (argNat p 0 8) (argNat p 8 4) (argNat p 12 4) (argNat p 16 1) p.payload
    exec (.bulkLoad k p) s = .next ((a.2.answered k i p a.1 []).closeWorn k i) := by
  change execBulkLoad k p s = _
  simp only [execBulkLoad, hk, hf, ne_eq, not_true_eq_false, if_false]
  exact State.packet_runs_operator h (by simp [ha, hty]) _

theorem exec_bulkLoad_free (hk : p.kind = 0x12) (ha : argEnds p 18 = true) (hty : argNat p 16 1 ≤ 2) (hf : argNat p 17 1 = 1)
    (hp : p.payload = []) :
    let a := t.bulkFree (8 * k + i) (argNat p 0 8)
    exec (.bulkLoad k p) s = .next ((a.2.answered k i p a.1 []).closeWorn k i) := by
  change execBulkLoad k p s = _
  simp only [execBulkLoad, hk, hf, ne_eq, not_true_eq_false, if_false, if_true]
  exact State.packet_runs_operator h (by simp [ha, hty, hp]) _

theorem exec_mbxPost (hk : p.kind = 0x13) (ha : argEnds p 1 = true) (hm : argNat p 0 1 < 64) (hp : p.payload.length = 64) :
    let a := t.mbxPlace (argNat p 0 1) (if k = 0 then snUzoleyA else snUzoleyB) (i + 1)
      ((List.range 8).map (fun w => BitVec.ofNat 64 (natAt p.payload (8 * w) 8)))
    exec (.mbxPost k p) s = .next ((a.2.answered k i p (if a.1 = msOk then psOk else psRefused) []).closeWorn k i) := by
  refine (if_neg (not_not.mpr hk)).trans ?_
  exact State.packet_runs_operator h (by simp [ha, hm, hp]) _

theorem exec_resetPacket (hk : p.kind = 0x16) (ha : argEnds p 1 = true) (hp : p.payload = []) (hd : argNat p 0 1 % 4 ≠ 0)
    (hz : argNat p 0 1 / 4 % 4 = 0) :
    exec (.resetPacket k p) s =
      .next (((t.resetRequest (argNat p 0 1 % 4) (argNat p 0 1 / 16) rcOperator).answered k i p psOk []).closeWorn k i) := by
  refine (if_neg (not_not.mpr hk)).trans ?_
  exact State.packet_runs_operator h (by simp [ha, hp, hd, hz]) _

end

end

/-! ### Appends (R420, R464) -/

section

variable (s : State) (eng q r : Nat) (l : List Entry)

theorem State.append_draining (hm : s.mode = stDraining) (hq : q ≠ 7) : s.append eng q r l = (psState, s) :=
  if_pos ⟨hm, hq⟩

section

variable {s q} (hm : s.mode ≠ stDraining ∨ q = 7)
include hm

/-- No room for the whole list: nothing is appended (R21). -/
theorem State.append_full (hfull : 4096 < (s.queue eng q).length + l.length) : s.append eng q r l = (psQueuefull, s) := by
  rw [State.append, if_neg (by tauto), if_pos hfull]

theorem State.append_placed (hroom : (s.queue eng q).length + l.length ≤ 4096) (hh : s.hold eng ≠ 2) :
    s.append eng q r l = (psOk, (s.place eng q r l).wakeFor eng) := by
  rw [State.append, if_neg (by tauto), if_neg (by omega), if_neg hh]

theorem State.append_forced (hroom : (s.queue eng q).length + l.length ≤ 4096) (hh : s.hold eng = 2) :
    s.append eng q r l = (psOk, l.foldl (fun (s : State) e => s.refuseAppend eng e) s) := by
  rw [State.append, if_neg (by tauto), if_neg (by omega), if_pos hh]

end

/-- The queue as it stands where `l` is placed behind its first `front` entries, and the sources of the tick's entries at its end. -/
def State.placedAt (s : State) (eng q : Nat) (l : List Entry) (front : Nat) (ranks : List Nat) : State :=
  (s.setQueue eng q ((s.queue eng q).take front ++ l ++ (s.queue eng q).drop front)).onEng (fun x => { x with
    fresh := SMap.put (0, []) x.fresh (8 * eng + q) (s.tick + 1, ranks) })

theorem State.freshTail_length_le : (s.freshTail eng q).length ≤ (s.queue eng q).length := by
  simp only [State.freshTail]
  split
  · rw [List.length_drop]
    omega
  · exact Nat.zero_le _

/-- A list is placed behind those of sources before its own (R22). -/
theorem State.place_behind (h : ∀ x ∈ s.freshTail eng q, x ≤ r) :
    s.place eng q r l = s.placedAt eng q l (s.queue eng q).length (s.freshTail eng q ++ List.replicate l.length r) := by
  have hle := s.freshTail_length_le eng q
  have hbefore : (s.freshTail eng q).filter (fun x => decide (x ≤ r)) = s.freshTail eng q := by simpa using h
  have hafter : (s.freshTail eng q).filter (fun x => decide (r < x)) = [] := by simpa using h
  simp only [State.place, State.placedAt, hbefore, hafter, List.append_nil, Nat.sub_add_cancel hle]

/-- A list is placed before those of sources behind its own (R22). -/
theorem State.place_before (h : ∀ x ∈ s.freshTail eng q, r < x) :
    s.place eng q r l = s.placedAt eng q l ((s.queue eng q).length - (s.freshTail eng q).length)
      (List.replicate l.length r ++ s.freshTail eng q) := by
  have hbefore : (s.freshTail eng q).filter (fun x => decide (x ≤ r)) = [] := by simpa using h
  have hafter : (s.freshTail eng q).filter (fun x => decide (r < x)) = s.freshTail eng q := by simpa using h
  simp only [State.place, State.placedAt, hbefore, hafter, List.nil_append, List.length_nil, Nat.add_zero]

/-- A list is placed in its queue as one run. -/
theorem State.queue_place (h : SMap.wf [] s.eng.queued = true) :
    ∃ n, (s.place eng q r l).queue eng q = (s.queue eng q).take n ++ l ++ (s.queue eng q).drop n :=
  ⟨_, State.queue_setQueue_self h eng q _⟩

theorem State.freshTail_earlier {f : Nat × List Nat} (hf : SMap.get (0, []) s.eng.fresh (8 * eng + q) = f) (h : f.1 ≠ s.tick + 1) :
    s.freshTail eng q = [] := by
  simp only [State.freshTail, hf, if_neg h]

theorem State.freshTail_now {f : Nat × List Nat} (hf : SMap.get (0, []) s.eng.fresh (8 * eng + q) = f) (h : f.1 = s.tick + 1)
    (hle : f.2.length ≤ (s.queue eng q).length) : s.freshTail eng q = f.2 := by
  simp only [State.freshTail, hf, if_pos h, Nat.sub_eq_zero_of_le hle, List.drop_zero]

/-! What an append's end leaves of the engines. -/

theorem State.queue_congr {s u : State} (h : u.eng = s.eng) : u.queue eng q = s.queue eng q := by
  rw [State.queue, State.queue, h]

@[simp] theorem State.wakeFor_eng : (s.wakeFor eng).eng = s.eng := by
  simp only [State.wakeFor, State.wakeCluster]
  split <;> [split; skip] <;> rfl

@[simp] theorem State.closeWorn_eng (k i : Nat) : (s.closeWorn k i).eng = s.eng := by
  simp only [State.closeWorn]
  split <;> simp

@[simp] theorem State.answered_eng (k i : Nat) (p : Packet) (st : Nat) (b : List Byte) : (s.answered k i p st b).eng = s.eng := by
  simp only [State.answered, State.completion]
  split <;> simp

end

/-! ### Bulk data (R421) -/

section

variable {s : State} {me h off total type : Nat} {l : List Byte}

theorem State.bulkLoad_owned (hh : (SMap.get {} s.uz.bulk h).held = true) (ho : (SMap.get {} s.uz.bulk h).owner ≠ me) :
    s.bulkLoad me h off total type l = (psOwned, s) :=
  if_pos ⟨hh, ho⟩

theorem State.bulkLoad_otherTotal (hh : (SMap.get {} s.uz.bulk h).held = true) (ho : (SMap.get {} s.uz.bulk h).owner = me)
    (hne : (SMap.get {} s.uz.bulk h).total ≠ total) : s.bulkLoad me h off total type l = (psRefused, s) := by
  simp only [State.bulkLoad]
  rw [if_neg (by tauto), if_pos ⟨hh, hne⟩]

theorem State.bulkLoad_beyond (hown : (SMap.get {} s.uz.bulk h).held = false ∨ (SMap.get {} s.uz.bulk h).owner = me)
    (hb : total < off + l.length) : s.bulkLoad me h off total type l = (psRefused, s) := by
  have hmine : ¬ ((SMap.get {} s.uz.bulk h).held = true ∧ (SMap.get {} s.uz.bulk h).owner ≠ me) := by
    obtain hown | hown := hown <;> simp [hown]
  simp only [State.bulkLoad]
  rw [if_neg hmine, if_pos hb, ite_self]

theorem State.bulkLoad_noRoom (hh : (SMap.get {} s.uz.bulk h).held = false) (hty : type = 0) (hroom : 2 ^ 31 < s.bulkUsed + total) :
    s.bulkLoad me h off total type l = (psRefused, s) := by
  simp only [State.bulkLoad, hh, hty, show bulkStore < s.bulkUsed + total from hroom, Bool.false_eq_true, false_and, if_false,
    Bool.not_false, and_self, if_true, ite_self]

/-- A piece that nothing refuses is placed: in the handle its session holds, or in one it takes for it. -/
theorem State.bulkLoad_placed {x b : Bulk} (hx : x = b.place off l)
    (hb : (SMap.get {} s.uz.bulk h).held = true ∧ (SMap.get {} s.uz.bulk h).owner = me ∧ (SMap.get {} s.uz.bulk h).total = total ∧
        b = SMap.get {} s.uz.bulk h ∨
      (SMap.get {} s.uz.bulk h).held = false ∧ (type = 0 → s.bulkUsed + total ≤ 2 ^ 31) ∧
        b = { held := true, owner := me, type := type, total := total })
    (hfit : off + l.length ≤ total) :
    let u := s.onUz (fun u => { u with bulk := SMap.put {} u.bulk h x })
    s.bulkLoad me h off total type l = (psOk, if x.type = 0 then u else u.flashWrite x) := by
  subst hx
  simp only [State.bulkLoad]
  obtain ⟨hh, ho, ht, rfl⟩ | ⟨hh, hroom, rfl⟩ := hb
  · rw [if_neg (by tauto), if_neg (by tauto), if_neg (by omega), if_neg (by simp [hh]), if_pos hh]
  · have hstore : ¬ (type = 0 ∧ bulkStore < s.bulkUsed + total) :=
      fun ⟨hty, hlt⟩ => absurd (hroom hty) (Nat.not_le.mpr hlt)
    simp only [hh, hstore, Bool.false_eq_true, false_and, and_false, if_false]
    rw [if_neg (by omega)]

theorem State.bulkFree_owned (hh : (SMap.get {} s.uz.bulk h).held = true) (ho : (SMap.get {} s.uz.bulk h).owner ≠ me) :
    s.bulkFree me h = (psOwned, s) := by
  simp only [State.bulkFree, hh, Bool.not_true, Bool.false_eq_true, if_false, if_pos ho]

theorem State.bulkFree_none (hh : (SMap.get {} s.uz.bulk h).held = false) : s.bulkFree me h = (psRefused, s) := by
  simp only [State.bulkFree, hh, Bool.not_false, if_true]

theorem State.bulkFree_mine (hh : (SMap.get {} s.uz.bulk h).held = true) (ho : (SMap.get {} s.uz.bulk h).owner = me) :
    s.bulkFree me h = (psOk, s.onUz (fun u => { u with bulk := SMap.put {} u.bulk h {} })) := by
  simp only [State.bulkFree, hh, ho, Bool.not_true, Bool.false_eq_true, ne_eq, not_true_eq_false, if_false]

end

/-! ### COMPLETION (R416) -/

theorem beNat_append (l m : List Byte) : beNat (l ++ m) = beNat l * 256 ^ m.length + beNat m := by
  induction m using List.reverseRecOn with
  | nil => simp [beNat]
  | append_singleton m b ih =>
    have hsnoc : ∀ a : List Byte, beNat (a ++ [b]) = 256 * beNat a + b.toNat := fun a => by
      rw [beNat, List.foldl_append]; rfl
    rw [← List.append_assoc, hsnoc, hsnoc, ih, List.length_append, List.length_singleton, pow_succ]
    ring

/-- `n` bytes of `v` spell `v` modulo `256 ^ n`. -/
theorem beNat_beBytes (n v : Nat) : beNat (beBytes n v) = v % 256 ^ n := by
  induction n generalizing v with
  | zero => rw [pow_zero, Nat.mod_one]; rfl
  | succ n ih =>
    rw [beBytes, beNat_append, ih, pow_succ', Nat.mod_mul]
    simp only [List.length_singleton, beNat, List.foldl_cons, List.foldl_nil, BitVec.toNat_ofNat]
    omega

theorem beNat_zeros (n : Nat) : beNat (List.replicate n 0) = 0 := by
  induction n with
  | zero => rfl
  | succ n ih => rw [List.replicate_succ', beNat_append, ih]; simp [beNat]

/-- Past a string's end its slice is zero. -/
theorem sliceBytes_past_end (l : List Byte) (n : Nat) : sliceBytes l 0 (l.length + n) = l ++ List.replicate n 0 := by
  apply List.ext_getElem
  · simp [sliceBytes]
  · intro j _ _
    by_cases hj : j < l.length <;> simp [sliceBytes, List.getElem_append, hj]

/-- ARG of a COMPLETION holds the request's SEQ in its first 8 bytes. -/
theorem argNat_packetArg_seq {c : Packet} {q : BitVec 64} (hc : c.arg = packetArg (beBytes 8 q.toNat)) : argNat c 0 8 = q.toNat := by
  have hq := q.isLt
  have hbytes : natAt (beBytes 8 q.toNat) 0 28 = q.toNat * 256 ^ 20 := by
    have hslice := sliceBytes_past_end (beBytes 8 q.toNat) 20
    rw [beBytes_length] at hslice
    rw [natAt, hslice, beNat_append, beNat_beBytes, beNat_zeros, List.length_replicate]
    omega
  rw [argNat, hc, packetArg, hbytes, BitVec.toNat_ofNat]
  omega

section

variable {s : State} {k i : Nat}

theorem State.completion_closed (h : (s.session k i).opened = false) (q : BitVec 64) (tag : BitVec 16) (status : Nat) (l : List Byte) :
    s.completion k i q tag status l = s := by
  simp only [State.completion, h, Bool.false_eq_true, if_false]

/-- In an open session a COMPLETION is sent and kept among the last 64 (R416). -/
theorem State.completion_open (h : (s.session k i).opened = true) (q : BitVec 64) (tag : BitVec 16) (status : Nat) (l : List Byte) :
    let c : Packet := { kind := 0x90, tag := tag, status := BitVec.ofNat 8 status, plen := BitVec.ofNat 32 l.length
                        arg := packetArg (beBytes 8 q.toNat), payload := l }
    s.completion k i q tag status l =
      (s.setSession k i { s.session k i with cache := (c :: (s.session k i).cache).take 64 }).sendPacket k i c := by
  simp only [State.completion, h, if_true]

end

/-! ### The statements -/

/-- Settles O45: what each KIND's run leaves, then appends, the place of a list in its queue, bulk data, and the COMPLETION. -/
theorem sessionCommands : Obligations.SessionCommands := by
  refine ⟨?_, ?_, ?_, ?_, ?_, ?_⟩
  · intro s k p i t ht hh hb
    exact ⟨exec_close ht hh hb, exec_ping ht hh hb, fun hk ha n hp h1 hn => exec_regBatch ht hh hb hk ha hp h1 hn,
      fun hk ha n hp h1 => exec_telSub ht hh hb hk ha hp h1⟩
  · intro s k p i t h
    refine ⟨fun hk ha he hq n hp h1 hn => exec_cmdAppend h hk ha he hq hp h1 hn rfl,
      fun hk ha hty => ⟨exec_bulkLoad_piece h hk ha hty, exec_bulkLoad_free h hk ha hty⟩, fun hk ha hm hp => ?_, exec_resetPacket h⟩
    have hpost := exec_mbxPost h hk ha hm hp
    exact ⟨fun hok => by rw [hpost, if_pos hok], fun hbad => by rw [hpost, if_neg hbad]⟩
  · intro s eng q r l
    exact ⟨State.append_draining s eng q r l, fun hm => ⟨State.append_full eng r l hm,
      fun hroom => ⟨State.append_placed eng r l hm hroom, State.append_forced eng r l hm hroom⟩⟩⟩
  · intro s eng q r l
    exact ⟨State.place_behind s eng q r l, State.place_before s eng q r l, fun h => if_pos h, fun h => if_neg (Nat.not_lt.mpr h),
      fun f hf => State.freshTail_earlier s eng q hf, fun f hf => State.freshTail_now s eng q hf⟩
  · intro s me h off total type l
    refine ⟨State.bulkLoad_owned, State.bulkLoad_otherTotal, State.bulkLoad_beyond, State.bulkLoad_noRoom, fun x hx hfit => ?_,
      State.bulkFree_owned, State.bulkFree_none, State.bulkFree_mine⟩
    intro u
    have hload : s.bulkLoad me h off total type l = (psOk, if x.type = 0 then u else u.flashWrite x) := by
      obtain ⟨hh, ho, ht, hx⟩ | ⟨hh, hroom, hx⟩ := hx
      · exact State.bulkLoad_placed hx (.inl ⟨hh, ho, ht, rfl⟩) hfit
      · exact State.bulkLoad_placed hx (.inr ⟨hh, hroom, rfl⟩) hfit
    exact ⟨fun h0 => by rw [hload, if_pos h0], fun h0 => by rw [hload, if_neg h0]⟩
  · intro s k i q tag status l
    exact ⟨fun h => State.completion_closed h q tag status l,
      fun h => ⟨State.completion_open h q tag status l, argNat_packetArg_seq rfl⟩⟩

/-- Settles O49: a list that fits is placed as one run of its queue, one that does not leaves the engines as they are. -/
theorem commandListAppend : Obligations.CommandListAppend := by
  intro s k p i t n h hk ha he hq hp h1 hn hm eng q
  refine ⟨fun hroom hh => ?_, fun hwf r l => ?_, fun hfull => ⟨?_, ?_⟩⟩
  · exact exec_cmdAppend h hk ha he hq hp h1 hn (State.append_placed eng _ _ hm (by simpa using hroom) hh)
  · obtain ⟨j, hj⟩ := State.queue_place t eng q r l hwf
    exact ⟨_, _, (List.take_append_drop j _).symm, by rw [State.queue_congr eng q (State.wakeFor_eng _ eng), hj]⟩
  · exact exec_cmdAppend h hk ha he hq hp h1 hn (State.append_full eng _ _ hm (by simpa using hfull))
  · exact State.queue_congr eng q (by simp)

end Sys2Proof.Machine
end

section
/-! Forwarding: what an attempt to leave staging or a source comes to, and how a frame's wait ends. -/

namespace Sys2Proof.Machine

/-! ### The commands of forwarding, by the definitions of what they do -/

theorem exec_frameLeaveStaging (x : Leaving) (s : State) : exec (.frameLeaveStaging x) s = execFrameLeaveStaging x s := rfl

theorem exec_memberEligible (w : WaitRef) (s : State) : exec (.memberEligible w) s = execMemberEligible w s := rfl

theorem exec_overflowMove (x : Fin 32) (v : Fin 8) (idx : Nat) (s : State) :
    exec (.overflowMove x v idx) s = execOverflowMove x v idx s := rfl

theorem exec_internalSourceAdmit (q : FrameSource) (idx : Nat) (s : State) :
    exec (.internalSourceAdmit q idx) s = execInternalSourceAdmit q idx s := rfl

theorem exec_nrwaitExpiry (w : WaitRef) (s : State) : exec (.nrwaitExpiry w) s = execNrwaitExpiry w s := rfl

theorem exec_lateExpiry (r : StageRef) (s : State) : exec (.lateExpiry r) s = execLateExpiry r s := rfl

/-! ### An attempt to leave staging (R125, R148 to R154) -/

section

variable {s : State} {r : StageRef}

theorem State.tryLeave_gone (hs : s.stagedAt r = none) : s.tryLeave r = s := by
  simp only [State.tryLeave, hs]

variable {h : Held} (hs : s.stagedAt r = some h)
include hs

theorem State.tryLeave_own (hown : s.ownFrame h.f = true) : s.tryLeave r = s := by
  simp only [State.tryLeave, hs, hown, if_true]

variable (hown : s.ownFrame h.f = false)
include hown

theorem State.tryLeave_noTarget (ht : s.target h.f = none) : s.tryLeave r = (s.unstage r).discardStaged r.port h dcNoRoute := by
  simp only [State.tryLeave, hs, hown, ht, Bool.false_eq_true, if_false]

variable {g : Group} (ht : s.target h.f = some g)
include ht

theorem State.tryLeave_broken (hb : s.routeBroken r.port h.f = true) :
    s.tryLeave r = (s.unstage r).discardStaged r.port h dcSpan := by
  simp only [State.tryLeave, hs, hown, ht, hb, Bool.false_eq_true, if_false, if_true]

variable (hb : s.routeBroken r.port h.f = false)
include hb

theorem State.tryLeave_member {p : Nat} (hc : s.choose (clusterOf r.port) g h.f = .member p) :
    s.tryLeave r = if s.behind r h p = true then s else ((s.unstage r).enqueue g p h).returnCells r.port h := by
  simp only [State.tryLeave, hs, hown, ht, hb, hc, Bool.false_eq_true, if_false]

theorem State.tryLeave_noRoom (hc : s.choose (clusterOf r.port) g h.f = .noRoom) :
    s.tryLeave r = s.restage r { h with m := { h.m with noElig := none } } := by
  simp only [State.tryLeave, hs, hown, ht, hb, hc, Bool.false_eq_true, if_false]

theorem State.tryLeave_noElig (hc : s.choose (clusterOf r.port) g h.f = .noElig) :
    s.tryLeave r = (if h.m.waited then s else s.bump (Reg.CL_RT_NOELIG (clusterOf r.port)) 1).restage r
      { h with m := { h.m with
        waited := true
        noElig := some (h.m.noElig.getD s.tick) } } := by
  simp only [State.tryLeave, hs, hown, ht, hb, hc, Bool.false_eq_true, if_false, State.noteNoElig]

end

/-! ### The commands that make the attempt -/

section

variable {s : State}

theorem exec_frameLeaveStaging_good (ha : s.awake = true) (r : StageRef) :
    exec (.frameLeaveStaging ⟨r, false⟩) s = .next (s.tryLeave r) := by
  simp only [exec_frameLeaveStaging, execFrameLeaveStaging, ha, Bool.not_true, Bool.false_eq_true, if_false]

theorem exec_frameLeaveStaging_bad {r : StageRef} {h : Held} (ha : s.awake = true) (hs : s.stagedAt r = some h) :
    exec (.frameLeaveStaging ⟨r, true⟩) s = .next ((s.unstage r).discardStaged r.port h dcInternal) := by
  simp only [exec_frameLeaveStaging, execFrameLeaveStaging, ha, hs, Bool.not_true, Bool.false_eq_true, if_false, if_true]

theorem exec_frameLeaveStaging_gone {r : StageRef} (bad : Bool) (hs : s.stagedAt r = none) :
    exec (.frameLeaveStaging ⟨r, bad⟩) s = .next s := by
  simp only [exec_frameLeaveStaging, execFrameLeaveStaging, hs, State.tryLeave_gone hs, ite_self]

theorem exec_memberEligible_staged (s : State) (r : StageRef) :
    exec (.memberEligible (.staged r)) s = exec (.frameLeaveStaging ⟨r, false⟩) s := by
  simp only [exec_memberEligible, exec_frameLeaveStaging, execMemberEligible, execFrameLeaveStaging, Bool.false_eq_true, if_false]

theorem exec_memberEligible_handedBack (ha : s.awake = true) (n : Fin 16) (idx : Nat) :
    exec (.memberEligible (.handedBack n idx)) s = .next (s.rechooseAt n.val idx).2 := by
  simp only [exec_memberEligible, execMemberEligible, ha, Bool.not_true, Bool.false_eq_true, if_false]

/-- Overflow holding is the staging of a span port (R97). -/
theorem exec_overflowMove_held (s : State) (x : Fin 32) (v : Fin 8) (idx : Nat) (hp : 512 + x.val < 544) :
    exec (.overflowMove x v idx) s = exec (.frameLeaveStaging ⟨⟨⟨512 + x.val, hp⟩, v, idx⟩, false⟩) s := by
  simp only [exec_overflowMove, exec_frameLeaveStaging, execOverflowMove, execFrameLeaveStaging, Bool.false_eq_true, if_false]
  cases s.awake <;> rfl

end

/-! ### Internal sources (R132) -/

/-- What a source's frame stands for goes on once its last copy has been admitted. -/
def State.noteDone (t : State) : Note → State
  | .none => t
  | .result r c => t.settleEmission (.result r c)
  | .sitePartial r c => t.settleEmission (.sitePartial r c)
  | .commit c h => t.settleCommit c h
  | .reply _ g => t.settleReply g
  | .copy id => t.copyAdmitted id

section

variable {s t : State} {q : FrameSource} {idx : Nat}

theorem exec_internalSourceAdmit_more (ha : s.awake = true) (h : s.admitSource (sourceKey q) idx = (none, t)) :
    exec (.internalSourceAdmit q idx) s = .next t := by
  simp only [exec_internalSourceAdmit, execInternalSourceAdmit, ha, if_true, State.admitNoted, h]

theorem exec_internalSourceAdmit_last (ha : s.awake = true) {x : SrcFrame} {note : Note}
    (h : s.admitSource (sourceKey q) idx = (some x, t)) (hn : x.note = note) :
    exec (.internalSourceAdmit q idx) s = .next (t.noteDone note) := by
  simp only [exec_internalSourceAdmit, execInternalSourceAdmit, ha, if_true, State.admitNoted, h, hn]
  rfl

theorem exec_memberEligible_atSource (s : State) (q : FrameSource) (idx : Nat) :
    exec (.memberEligible (.atSource q idx)) s = exec (.internalSourceAdmit q idx) s := by
  simp only [exec_memberEligible, exec_internalSourceAdmit, execMemberEligible, execInternalSourceAdmit]
  cases s.awake <;> rfl

end

/-! ### NRWAIT (R154) and LATE (R166) -/

/-- A member that becomes eligible in the same event tick comes before the end of the wait (R325). -/
theorem exec_nrwaitExpiry_eligible {s : State} {w : WaitRef} (he : s.alsoNow (fun i => i == .memberEligible w) = true) :
    exec (.nrwaitExpiry w) s = .next s := by
  simp only [exec_nrwaitExpiry, execNrwaitExpiry, he, or_true, if_true]

/-- An aim of a source's frame for which no member is eligible. -/
def State.aimStuck (s : State) (f : Frame) : Aim → Bool
  | .mcast gs => gs.any (fun g => s.noEligible f (.group g))
  | a => (s.aimGroup f a).isSome && s.noEligible f a

theorem State.any_aimStuck (s : State) (f : Frame) (aims : List Aim) : aims.any (s.aimStuck f) = true ↔
    ∃ a ∈ aims, (∃ gs, a = .mcast gs ∧ ∃ g ∈ gs, s.noEligible f (.group g) = true) ∨
      ((∀ gs, a ≠ .mcast gs) ∧ (s.aimGroup f a).isSome = true ∧ s.noEligible f a = true) := by
  rw [List.any_eq_true]
  refine exists_congr fun a => and_congr_right fun _ => ?_
  cases a <;> simp [State.aimStuck]

/-! A place that holds no frame, or one whose frame a member could take, is left as it is. -/

section

variable {s : State}

theorem exec_nrwaitExpiry_gone {r : StageRef} (hs : s.stagedAt r = none) : exec (.nrwaitExpiry (.staged r)) s = .next s := by
  simp only [exec_nrwaitExpiry, execNrwaitExpiry, hs, ite_self]

theorem exec_nrwaitExpiry_notWaiting {r : StageRef} {h : Held} (hs : s.stagedAt r = some h) (hn : h.m.noElig = none) :
    exec (.nrwaitExpiry (.staged r)) s = .next s := by
  simp only [exec_nrwaitExpiry, execNrwaitExpiry, hs, hn, ite_self]

theorem exec_nrwaitExpiry_notHanded {n : Fin 16} {idx : Nat} (hb : (s.handedAt n)[idx]? = none) :
    exec (.nrwaitExpiry (.handedBack n idx)) s = .next s := by
  simp only [exec_nrwaitExpiry, execNrwaitExpiry, hb, ite_self]

theorem exec_nrwaitExpiry_noSource {q : FrameSource} {idx : Nat} (hx : (s.source (sourceKey q))[idx]? = none) :
    exec (.nrwaitExpiry (.atSource q idx)) s = .next s := by
  simp only [exec_nrwaitExpiry, execNrwaitExpiry, hx, ite_self]

theorem exec_lateExpiry_gone {r : StageRef} (hs : s.stagedAt r = none) : exec (.lateExpiry r) s = .next s := by
  simp only [exec_lateExpiry, execLateExpiry, hs]

end

section

variable {s : State} (ha : s.awake = true)
include ha

theorem exec_nrwaitExpiry_staged {r : StageRef} {h : Held} {t : Nat}
    (he : s.alsoNow (fun i => i == .memberEligible (.staged r)) = false) (hs : s.stagedAt r = some h) (hn : h.m.noElig = some t) :
    exec (.nrwaitExpiry (.staged r)) s = .next
      (if s.since t (usTicks (s.nrwait (clusterOf r.port))) = true ∧ s.stagedNoElig h.f = true
        then (s.unstage r).discardStaged r.port h dcNoRoute else s) := by
  simp only [exec_nrwaitExpiry, execNrwaitExpiry, ha, he, hs, hn, Bool.not_true, Bool.false_eq_true, or_self, if_false]
  exact (apply_ite Host.Outcome.next _ _ _).symm

theorem exec_nrwaitExpiry_handedBack {n : Fin 16} {idx : Nat} {b : HandedBack}
    (he : s.alsoNow (fun i => i == .memberEligible (.handedBack n idx)) = false) (hb : (s.handedAt n)[idx]? = some b) :
    exec (.nrwaitExpiry (.handedBack n idx)) s = .next
      (if s.since b.h.m.since (usTicks (s.nrwait n)) = true ∧ s.noEligible b.h.f b.h.m.aim = true
        then (s.setHanded n (dropAt (s.handedAt n) idx)).discard b.port b.h dcNoRoute else s) := by
  simp only [exec_nrwaitExpiry, execNrwaitExpiry, ha, he, hb, Bool.not_true, Bool.false_eq_true, or_self, if_false]
  exact (apply_ite Host.Outcome.next _ _ _).symm

/-- A source's frame stays where it is, and one fault record tells of it. -/
theorem exec_nrwaitExpiry_atSource {q : FrameSource} {idx : Nat} {x : SrcFrame}
    (he : s.alsoNow (fun i => i == .memberEligible (.atSource q idx)) = false) (hx : (s.source (sourceKey q))[idx]? = some x) :
    let n := sourceCluster (sourceKey q)
    let told := s.setSource (sourceKey q) (putAt (s.source (sourceKey q)) idx { x with faulted := true })
    exec (.nrwaitExpiry (.atSource q idx)) s =
      if x.faulted = false ∧ x.aims.any (s.aimStuck x.f) = true ∧ s.since x.since (usTicks (s.nrwait n)) = true then
        .next (told.faultRecord
          { unitType := utCluster, unit := n, register := 0, cause := dcNoRoute, action := 7,
            detail := told.reg (Reg.CL_FCHK_LASTSRC n), slot := told.slotByte x.f.job.toNat })
      else .next s := by
  simp only [exec_nrwaitExpiry, execNrwaitExpiry, ha, he, hx, Bool.not_true, Bool.false_eq_true, or_self, if_false]
  exact if_congr (by rw [Bool.not_eq_true']; rfl) rfl rfl

theorem exec_lateExpiry_staged {r : StageRef} {h : Held} (hs : s.stagedAt r = some h) : exec (.lateExpiry r) s = .next
    (if (r.vc.val = 0 ∨ r.vc.val = 7) ∧ s.ownFrame h.f = false ∧ s.since h.m.since (usTicks (s.late (clusterOf r.port))) = true
      then ((s.unstage r).returnCells r.port h).bump (Reg.CL_RT_LATE (clusterOf r.port) (if r.vc.val = 0 then 0 else 1)) 1
      else s) := by
  simp only [exec_lateExpiry, execLateExpiry, ha, hs, true_and, Bool.not_eq_true']
  exact (apply_ite Host.Outcome.next _ _ _).symm

end

/-! ### The statement -/

/-- Settles O20: the attempt to leave staging by what the frame finds, the commands that make it, and the limits of the wait. -/
theorem forwardingCommands : Obligations.ForwardingCommands := by
  refine ⟨?_, fun s r bad => exec_frameLeaveStaging_gone bad, exec_memberEligible_staged, exec_overflowMove_held,
    fun s n idx ha => exec_memberEligible_handedBack ha n idx, ?_, exec_memberEligible_atSource, fun s w => exec_nrwaitExpiry_eligible,
    ?_, ?_, ?_, ?_⟩
  · intro s r h ha hs
    have hgood := exec_frameLeaveStaging_good ha r
    refine ⟨exec_frameLeaveStaging_bad ha hs, fun hown => by rw [hgood, State.tryLeave_own hs hown], fun hown =>
      ⟨fun ht => by rw [hgood, State.tryLeave_noTarget hs hown ht], fun g ht =>
        ⟨fun hb => by rw [hgood, State.tryLeave_broken hs hown ht hb], fun hb => ⟨fun p hc => ?_, fun hc => ?_, fun hc => ?_⟩⟩⟩⟩
    · rw [hgood, State.tryLeave_member hs hown ht hb hc]
    · rw [hgood, State.tryLeave_noRoom hs hown ht hb hc]
      rfl
    · rw [hgood, State.tryLeave_noElig hs hown ht hb hc]
      rfl
  · intro s q idx ha
    refine ⟨fun t => exec_internalSourceAdmit_more ha, fun x t h => ?_⟩
    have last : ∀ note, x.note = note → exec (.internalSourceAdmit q idx) s = .next (t.noteDone note) :=
      fun _ => exec_internalSourceAdmit_last ha h
    exact ⟨last .none, fun c g => last (.commit c g), fun i c => last (.result i c), fun i c => last (.sitePartial i c),
      fun n g => last (.reply n g), fun id => last (.copy id)⟩
  · intro s r ha he
    exact ⟨fun h t => exec_nrwaitExpiry_staged ha he, fun h => exec_nrwaitExpiry_notWaiting, exec_nrwaitExpiry_gone⟩
  · intro s n idx ha he
    exact ⟨fun b => exec_nrwaitExpiry_handedBack ha he, exec_nrwaitExpiry_notHanded⟩
  · intro s q idx ha he
    refine ⟨fun x hx => ?_, exec_nrwaitExpiry_noSource⟩
    have hsrc := exec_nrwaitExpiry_atSource ha he hx
    have hany := s.any_aimStuck x.f x.aims
    refine ⟨fun hf hstuck hw => hsrc.trans (if_pos ⟨hf, hany.mpr hstuck, hw⟩), fun hnot => hsrc.trans (if_neg ?_)⟩
    rintro ⟨hf, hstuck, hw⟩
    exact hnot.elim (by simp [hf]) fun hnot => hnot.elim (absurd (hany.mp hstuck)) (by simp [hw])
  · intro s r ha
    exact ⟨fun h => exec_lateExpiry_staged ha, exec_lateExpiry_gone⟩

end Sys2Proof.Machine
end

section
/-! Memory-semantic access at the home: requests taken from staging, the groups of reads and atomics, the trackers of writes,
and the waits that end. -/

namespace Sys2Proof.Machine

/-! ### The commands of memory access, by the definitions of what they do -/

theorem exec_atReqTaken (r : StageRef) (s : State) : exec (.atReqTaken r) s = execAtReqTaken r s := rfl

theorem exec_wrReqFrame (r : StageRef) (s : State) : exec (.wrReqFrame r) s = execWrReqFrame r s := rfl

theorem exec_readDataReady (j : Fin 16) (gid : Nat) (s : State) : exec (.readDataReady j gid) s = execReadDataReady j gid s := rfl

theorem exec_readWindowExpiry (j : Fin 16) (gid : Nat) (s : State) :
    exec (.readWindowExpiry j gid) s = execReadWindowExpiry j gid s := rfl

theorem exec_atomicWindowExpiry (j : Fin 16) (gid : Nat) (s : State) :
    exec (.atomicWindowExpiry j gid) s = execAtomicWindowExpiry j gid s := rfl

theorem exec_wrwaitExpiry (j : Fin 16) (src : BitVec 20) (tag : BitVec 32) (s : State) :
    exec (.wrwaitExpiry j src tag) s = execWrwaitExpiry j src tag s := rfl

theorem exec_deadwaitExpiry (r : StageRef) (s : State) : exec (.deadwaitExpiry r) s = execDeadwaitExpiry r s := rfl

/-! ### Requests taken (R49, R312, R387) -/

section

variable {s : State} {r : StageRef}

theorem State.takeRead_gone (hs : s.stagedAt r = none) : s.takeRead r = s := by
  simp only [State.takeRead, State.takeRequest, hs, ite_self]

theorem exec_atReqTaken_gone (hs : s.stagedAt r = none) : exec (.atReqTaken r) s = .next s := by
  simp only [exec_atReqTaken, execAtReqTaken, State.takeRequest, hs, ite_self]

theorem exec_wrReqFrame_gone (hs : s.stagedAt r = none) : exec (.wrReqFrame r) s = .next s := by
  simp only [exec_wrReqFrame, execWrReqFrame, hs]

theorem State.takeRead_draining (hm : s.mode = stDraining) : s.takeRead r = s :=
  if_pos hm

theorem exec_atReqTaken_draining (hm : s.mode = stDraining) : exec (.atReqTaken r) s = .next s :=
  if_pos hm

end

section

variable {s : State} {r : StageRef} {h : Held} {kind : BitVec 6} (run : Held → State → State) (ha : s.awake = true)
  (hs : s.stagedAt r = some h) (hown : s.ownFrame h.f = true) (hk : h.f.kind = kind)
include ha hs hown hk

theorem State.takeRequest_refused {e : BitVec 8} (he : s.requestError h.f = some e) :
    s.takeRequest r kind run = (s.consume r h).errorReply (reqChan h.f) (requesterOf h.f) e := by
  simp only [State.takeRequest, ha, hs, hown, hk, he, and_self, if_true]

theorem State.takeRequest_served (he : s.requestError h.f = none) (hserv : s.serving (reqChan h.f) = true)
    (hst : (s.engine (reqChan h.f)).st ≠ 0) : s.takeRequest r kind run = run h s := by
  simp only [State.takeRequest, ha, hs, hown, hk, he, hserv, hst, ne_eq, not_false_eq_true, and_self, if_true]

end

section

variable {s : State} {r : StageRef} {h : Held} (ha : s.awake = true) (hs : s.stagedAt r = some h) (hown : s.ownFrame h.f = true)
  (hm : s.mode ≠ stDraining)
include ha hs hown hm

theorem State.takeRead_refused (hk : h.f.kind = kRdReq) {e : BitVec 8} (he : s.requestError h.f = some e) :
    s.takeRead r = (s.consume r h).errorReply (reqChan h.f) (requesterOf h.f) e := by
  rw [State.takeRead, if_neg hm, State.takeRequest_refused _ ha hs hown hk he]

theorem exec_atReqTaken_refused (hk : h.f.kind = kAtReq) {e : BitVec 8} (he : s.requestError h.f = some e) :
    exec (.atReqTaken r) s = .next ((s.consume r h).errorReply (reqChan h.f) (requesterOf h.f) e) := by
  simp only [exec_atReqTaken, execAtReqTaken, if_neg hm, State.takeRequest_refused _ ha hs hown hk he]

variable (he : s.requestError h.f = none) (hserv : s.serving (reqChan h.f) = true) (hst : (s.engine (reqChan h.f)).st ≠ 0)
include he hserv hst

section

variable (hk : h.f.kind = kRdReq)
include hk

/-- A read joins the open group of identical reads, and is served at once if its data is there (R318). -/
theorem State.takeRead_joined {g : ReadGroup} (hg : s.joinable h.f = some g) :
    let joined := (((s.consume r h).mapRead g.gid (fun g => { g with
      members := g.members ++ [requesterOf h.f] })).maCount 1 1).maRequest h.f
    s.takeRead r = g.data.elim joined (fun l => joined.sendRead g l (requesterOf h.f)) := by
  rw [State.takeRead, if_neg hm, State.takeRequest_served _ ha hs hown hk he hserv hst]
  simp only [hg]
  cases g.data <;> rfl

theorem State.takeRead_opened (hg : s.joinable h.f = none) (hroom : h.f.len.toNat ≤ s.replyRoom (reqChan h.f)) :
    s.takeRead r = ((s.consume r h).maRequest h.f).openRead h.f := by
  rw [State.takeRead, if_neg hm, State.takeRequest_served _ ha hs hown hk he hserv hst]
  simp only [hg, Nat.not_lt.mpr hroom, if_false]

theorem State.takeRead_noRoom (hg : s.joinable h.f = none) (hfull : s.replyRoom (reqChan h.f) < h.f.len.toNat) : s.takeRead r = s := by
  rw [State.takeRead, if_neg hm, State.takeRequest_served _ ha hs hown hk he hserv hst]
  simp only [hg, hfull, if_true]

end

/-- An atomic is looked for in the journal before it joins a group (R317). -/
theorem exec_atReqTaken_taken (hk : h.f.kind = kAtReq) :
    let taken := (s.consume r h).maRequest h.f
    exec (.atReqTaken r) s = .next (((taken.journal (reqChan h.f)).find? (journalMatch (requesterOf h.f))).elim
      (taken.newAtomic h.f) (taken.oldAtomic h.f)) := by
  simp only [exec_atReqTaken, execAtReqTaken, if_neg hm, State.takeRequest_served _ ha hs hown hk he hserv hst]
  cases (((s.consume r h).maRequest h.f).journal (reqChan h.f)).find? (journalMatch (requesterOf h.f)) <;> rfl

end

/-! ### Write frames (R309, R312, R314, R315) -/

section

variable {s : State} {r : StageRef} {h : Held} (ha : s.awake = true) (hs : s.stagedAt r = some h) (hown : s.ownFrame h.f = true)
  (hk : h.f.kind = kWrReq)
include ha hs hown hk

theorem exec_wrReqFrame_draining (hm : s.mode = stDraining) (hnew : s.tracker (reqChan h.f) h.f.src h.f.tag = none) :
    exec (.wrReqFrame r) s = .next s := by
  simp only [exec_wrReqFrame, execWrReqFrame, ha, hs, hown, hk, hm, hnew, Option.isNone_none, and_self, if_true]

variable (htake : ¬ (s.mode = stDraining ∧ s.tracker (reqChan h.f) h.f.src h.f.tag = none))
include htake

theorem exec_wrReqFrame_refused {e : BitVec 8} (he : s.writeError h.f = some e) :
    exec (.wrReqFrame r) s = .next ((s.consume r h).failWrite h.f e) := by
  simp only [exec_wrReqFrame, execWrReqFrame, ha, hs, hown, hk, he, Option.isNone_iff_eq_none, htake, and_self, if_true, if_false]

theorem exec_wrReqFrame_taken (he : s.writeError h.f = none) : exec (.wrReqFrame r) s = .next
    (if s.serving (reqChan h.f) = true ∧ (s.engine (reqChan h.f)).st ≠ 0 then (s.consume r h).writeFrame h.f else s) := by
  simp only [exec_wrReqFrame, execWrReqFrame, ha, hs, hown, hk, he, Option.isNone_iff_eq_none, htake, and_self, if_true, if_false]
  exact (apply_ite Host.Outcome.next _ _ _).symm

end

/-! The first frame of a write opens its tracker. -/

section

variable {s : State} {f : Frame} (ht : s.tracker (reqChan f) f.src f.tag = none)
include ht

theorem State.writeFrame_unverified {b : Nat} (hb : s.pieceBad f = some b) : s.writeFrame f =
    (s.tagFail b 0).endWrite { (s.tagFail b 0).freshTracker f with pieces := [pieceOf f] } errIntegrity := by
  simp only [State.writeFrame, ht, State.startWrite, hb, Option.elim_some, State.refuseWrite]

theorem State.writeFrame_full (hb : s.pieceBad f = none) (hfull : 16384 ≤ s.openTrackers (reqChan f)) :
    s.writeFrame f = (s.maCount 7 1).raise Reg.GRN_MA_EVT 1 11 srcAccess := by
  simp only [State.writeFrame, ht, State.startWrite, hb, Option.elim_none, hfull, if_true]

theorem State.writeFrame_opened (hb : s.pieceBad f = none) (hroom : s.openTrackers (reqChan f) < 16384) :
    s.writeFrame f = (s.maRequest f).writePiece f (s.freshTracker f) := by
  simp only [State.writeFrame, ht, State.startWrite, hb, Option.elim_none, Nat.not_le.mpr hroom, if_false]

end

section

variable {s : State} {f : Frame} {t : Tracker} (ht : s.tracker (reqChan f) f.src f.tag = some t)
include ht

/-- A further frame of a write that has ended is discarded (R312). -/
theorem State.writeFrame_ended (hend : t.ended = true) (hnew : t.pieces.contains (pieceOf f) = false) :
    s.writeFrame f = s.setTracker { t with pieces := t.pieces ++ [pieceOf f] } := by
  simp only [State.writeFrame, ht, hend, State.endedFrame, hnew, if_true, Bool.false_eq_true, if_false]

variable (hopen : t.ended = false)
include hopen

theorem State.writeFrame_secondCount (hc : frameFence f = true ∧ t.count.any (fun c => c != f.count.toNat) = true) :
    s.writeFrame f = s.endWrite t errBadRequest := by
  simp only [State.writeFrame, ht, hopen, hc, and_self, Bool.false_eq_true, if_true, if_false]

variable (hc : ¬ (frameFence f = true ∧ t.count.any (fun c => c != f.count.toNat) = true))
include hc

theorem State.writeFrame_again (hp : t.pieces.contains (pieceOf f) = true) : s.writeFrame f = s.maCount 10 1 := by
  simp only [State.writeFrame, ht, hopen, hc, hp, Bool.false_eq_true, if_true, if_false]

theorem State.writeFrame_piece (hp : t.pieces.contains (pieceOf f) = false) : s.writeFrame f = s.writePiece f t := by
  simp only [State.writeFrame, ht, hopen, hc, hp, Bool.false_eq_true, if_false]

end

/-- A tracker that has taken one more piece. -/
def Tracker.took (t : Tracker) (f : Frame) : Tracker :=
  { t with
    pieces := t.pieces ++ [pieceOf f]
    got := t.got + 1
    count := if frameFence f then some f.count.toNat else t.count }

section

variable {s : State} {f : Frame} {t : Tracker}

theorem State.writePiece_tooMany (hc : (t.took f).count.any (fun c => decide (c < (t.took f).got)) = true) :
    s.writePiece f t = s.endWrite (t.took f) errBadRequest :=
  if_pos hc

variable (hc : (t.took f).count.any (fun c => decide (c < (t.took f).got)) = false)
include hc

theorem State.writePiece_unverified {b : Nat} (hb : s.pieceBad f = some b) :
    s.writePiece f t = (s.tagFail b 0).endWrite (t.took f) errIntegrity := by
  refine (if_neg (Bool.eq_false_iff.mp hc)).trans ?_
  rw [hb]
  rfl

/-- A piece is written after the groups that it overlaps have been closed (R320). -/
theorem State.writePiece_written (hb : s.pieceBad f = none) :
    let a := reqAddr f.addr + f.opnd.toNat % 2 ^ 32
    let n := f.payload.length
    let shut := (s.closeAtoms (atomOverlaps a n)).closeReads (readOverlaps t.j a n)
    let put := (shut.gWrite a f.payload 0).grnEvent evWrite n f.job.toNat a
    let v := { t.took f with blocks := ((t.took f).blocks ++ touched a n).dedup }
    s.writePiece f t = (put.setTracker v).copyWrite v := by
  refine (if_neg (Bool.eq_false_iff.mp hc)).trans ?_
  rw [hb]
  rfl

end

/-! ### The groups of reads and atomics (R311, R316, R318, R319) -/

section

variable {s : State} {j : Fin 16} {g : ReadGroup} (ha : s.awake = true) (hg : s.readGroup g.gid = some g) (hj : g.j = j.val)
include ha hg hj

section

variable (hd : g.data = none) (hserv : s.serving j.val = true)
include hd hserv

theorem exec_readDataReady_verified (hok : (s.verify j.val (addrOff g.phys) g.len 0).1 = true) :
    let checked := s.verify j.val (addrOff g.phys) g.len 0
    let l := checked.2.gChan j.val (addrOff g.phys) g.len
    let read := (checked.2.grnEvent evRead g.len g.job.toNat g.phys).mapRead g.gid (fun g => { g with data := some l })
    exec (.readDataReady j g.gid) s = .next ((g.members.foldl (fun (s : State) m => s.sendRead g l m) read).settleRead g.gid) := by
  simp only [exec_readDataReady, execReadDataReady, ha, hg, hj, hd, hserv, hok, and_self, if_true]

theorem exec_readDataReady_unverified (hbad : (s.verify j.val (addrOff g.phys) g.len 0).1 = false) :
    exec (.readDataReady j g.gid) s = .next (g.members.foldl (fun (s : State) m => s.errorReply j.val m errIntegrity)
      ((s.verify j.val (addrOff g.phys) g.len 0).2.setReads (fun l => l.filter (fun x => x.gid != g.gid)))) := by
  simp only [exec_readDataReady, execReadDataReady, ha, hg, hj, hd, hserv, hbad, and_self, if_true, Bool.false_eq_true, if_false]

end

theorem exec_readWindowExpiry_closed (hop : g.opened = true) (hend : s.since g.closeAt 0 = true) :
    exec (.readWindowExpiry j g.gid) s = .next ((s.mapRead g.gid (fun g => { g with opened := false })).settleRead g.gid) := by
  simp only [exec_readWindowExpiry, execReadWindowExpiry, ha, hg, hj, hop, hend, and_self, if_true]

end

section

variable {s : State} {g : AtomGroup} (hg : s.atomGroup g.gid = some g) (hap : g.applied = false)
include hg hap

theorem exec_atomicWindowExpiry_applied {j : Fin 16} (ha : s.awake = true) (hj : g.j = j.val) (hend : s.since g.closeAt 0 = true)
    (hserv : s.serving j.val = true) : exec (.atomicWindowExpiry j g.gid) s = .next (s.applyAtoms g.gid) := by
  simp only [exec_atomicWindowExpiry, execAtomicWindowExpiry, ha, hg, hj, hap, hend, hserv, Bool.not_false, and_self, if_true]

/-- A group is applied as one read and one write of its word, and each member's answer is journalled (R317, R319). -/
theorem State.applyAtoms_verified (hok : s.blockOk (blockOf (reqAddr g.addr)) = true) :
    let a := reqAddr g.addr
    let n := atLen g.subk
    let shut := s.closeReads (readOverlaps g.j a n)
    let run := atomRun g.members (beNat (shut.gBytes a n))
    let stored := ((shut.gWrite a (beBytes n run.2) 0).grnEvent evRead 256 g.job.toNat a).grnEvent evWrite 256 g.job.toNat a
    let es := (g.members.zip run.1).map (fun p =>
      ({ src := p.1.src, tag := p.1.tag, addr := p.1.addr, subk := p.1.subk, value := p.2, committed := false, job := p.1.job } : JEntry))
    let logged := ((stored.setJournal g.j (es.reverse ++ stored.journal g.j)).maCount 3 g.members.length).maCount 4 1
    s.applyAtoms g.gid = (logged.mapAtom g.gid (fun g => { g with
      applied := true
      values := run.1 })).copyAtoms g.gid := by
  simp only [State.applyAtoms, hg, hap, hok, Bool.not_true, Bool.false_eq_true, if_false]

end

section

variable {m : Requester} (w : Nat)

theorem atomOp_add32 (hk : m.subk = 1) : atomOp m w = (w + m.opnd.toNat) % 2 ^ 32 := by
  simp [atomOp, hk]

theorem atomOp_add64 (hk : m.subk = 2) : atomOp m w = (w + m.opnd.toNat) % 2 ^ 64 := by
  simp [atomOp, hk]

theorem atomOp_cas64 (hk : m.subk = 4) : atomOp m w = if w = m.opnd.toNat then m.swap.toNat else w := by
  simp [atomOp, hk]

theorem atomOp_max64 (hk : m.subk = 5) :
    atomOp m w = if toSigned 64 w < toSigned 64 m.opnd.toNat then m.opnd.toNat else w := by
  simp [atomOp, hk]

end

/-! ### Waits that end (R315, R321) -/

section

variable {s : State} {j : Fin 16} {src : BitVec 20} {tag : BitVec 32} {t : Tracker} (ha : s.awake = true)
  (ht : s.tracker j.val src tag = some t) (hw : s.since t.openAt (msTicks s.wrWait) = true)
include ha ht hw

theorem exec_wrwaitExpiry_ended (hend : t.ended = true) : exec (.wrwaitExpiry j src tag) s = .next (s.dropTracker t) := by
  simp only [exec_wrwaitExpiry, execWrwaitExpiry, ha, ht, hw, hend, and_self, if_true]

theorem exec_wrwaitExpiry_abandoned (hopen : t.ended = false) :
    exec (.wrwaitExpiry j src tag) s = .next ((((s.onMa (fun a => { a with
      copies := a.copies.filter (fun p => some p.1 != t.copy) })).dropTracker t).maCount 6 1).raise Reg.GRN_MA_EVT 2 11 srcAccess) := by
  simp only [exec_wrwaitExpiry, execWrwaitExpiry, ha, ht, hw, hopen, and_self, if_true, Bool.false_eq_true, if_false]

end

/-- The command by which channel `j` comes back from a reset. -/
def State.bringsBack (s : State) (j : Nat) : Instr → Bool
  | .channelServesAgain k => k.val == j && (s.engine j).st == 3
  | _ => false

theorem exec_deadwaitExpiry_dead {s : State} {r : StageRef} {h : Held} (ha : s.awake = true) (hs : s.stagedAt r = some h)
    (hreq : isRequest h.f = true) (hown : s.ownFrame h.f = true) (he : s.requestError h.f = none)
    (hserv : s.serving (reqChan h.f) = false) (hw : s.since h.m.since (usTicks s.deadWait) = true)
    (hback : s.alsoNow (s.bringsBack (reqChan h.f)) = false) :
    exec (.deadwaitExpiry r) s = .next ((s.consume r h).answerDead h.f) := by
  have hstill : (!s.alsoNow (s.bringsBack (reqChan h.f))) = true := by rw [hback, Bool.not_false]
  simp only [exec_deadwaitExpiry, execDeadwaitExpiry, hs]
  exact if_pos ⟨ha, hreq, hown, he, by rw [hserv, Bool.not_false], hstill, hw⟩

section

variable {s : State} {f : Frame}

theorem State.answerDead_other (hk : f.kind ≠ kWrReq) : s.answerDead f = s.homeDeadAnswer f :=
  if_pos hk

variable (hk : f.kind = kWrReq)
include hk

theorem State.answerDead_firstFrame (ht : s.tracker (reqChan f) f.src f.tag = none) :
    s.answerDead f = (s.setTracker { s.freshTracker f with pieces := [pieceOf f], ended := true }).homeDeadAnswer f := by
  simp only [State.answerDead, hk, ne_eq, not_true_eq_false, if_false, ht]

theorem State.answerDead_open {t : Tracker} (ht : s.tracker (reqChan f) f.src f.tag = some t) (hopen : t.ended = false) :
    s.answerDead f = (s.setTracker { t with ended := true }).homeDeadAnswer f := by
  simp only [State.answerDead, hk, ne_eq, not_true_eq_false, if_false, ht, hopen, Bool.false_eq_true]

end

section

variable {s : State} {j : Fin 16}

theorem exec_channelServesAgain_other (h : ¬ (s.awake = true ∧ (s.engine j.val).st = 3)) : exec (.channelServesAgain j) s = .next s :=
  if_neg h

theorem exec_channelServesAgain_reset (ha : s.awake = true) (hst : (s.engine j.val).st = 3) :
    exec (.channelServesAgain j) s = .next (s.setEngine j.val { s.engine j.val with
      st := 1
      idleAt := s.tick
      progressAt := s.tick }) :=
  if_pos ⟨ha, hst⟩

end

/-! ### The statement -/

/-- Settles O35: requests at the head of staging, the frames of a write, the groups, the word operations, and the waits that end. -/
theorem memoryAccess : Obligations.MemoryAccess := by
  refine ⟨?_, ?_, fun s r hm => ⟨State.takeRead_draining hm, exec_atReqTaken_draining hm⟩, ?_, fun s f => rfl, ?_, ?_, ?_, ?_,
    fun s j g ha hg hj hap hend hserv => exec_atomicWindowExpiry_applied hg hap ha hj hend hserv,
    fun s g => State.applyAtoms_verified,
    fun m w => ⟨atomOp_add32 w, atomOp_add64 w, atomOp_cas64 w, atomOp_max64 w⟩,
    fun s j src tag t ha ht hw => ⟨exec_wrwaitExpiry_ended ha ht hw, exec_wrwaitExpiry_abandoned ha ht hw⟩,
    fun s r h => exec_deadwaitExpiry_dead,
    fun s f => ⟨State.answerDead_other, State.answerDead_firstFrame, fun t hk => State.answerDead_open hk⟩,
    fun s j => exec_channelServesAgain_other, fun s j => exec_channelServesAgain_reset⟩
  · intro s r
    exact ⟨rfl, fun hs => ⟨State.takeRead_gone hs, exec_atReqTaken_gone hs, exec_wrReqFrame_gone hs⟩⟩
  · intro s r h e ha hs hown hm he
    exact ⟨fun hk => State.takeRead_refused ha hs hown hm hk he, fun hk => exec_atReqTaken_refused ha hs hown hm hk he⟩
  · intro s r h ha hs hown hk
    exact ⟨exec_wrReqFrame_draining ha hs hown hk, fun htake =>
      ⟨fun e => exec_wrReqFrame_refused ha hs hown hk htake, exec_wrReqFrame_taken ha hs hown hk htake⟩⟩
  · intro s f
    refine ⟨fun ht => ⟨fun b => State.writeFrame_unverified ht, State.writeFrame_full ht, State.writeFrame_opened ht⟩,
      fun t ht hopen => ⟨State.writeFrame_secondCount ht hopen, fun hc =>
        ⟨State.writeFrame_again ht hopen hc, State.writeFrame_piece ht hopen hc⟩⟩, fun t => State.writeFrame_ended⟩
  · intro s f t
    exact ⟨State.writePiece_tooMany, fun hc => ⟨fun b => State.writePiece_unverified hc, State.writePiece_written hc⟩⟩
  · intro s r h ha hs hown he hserv hst hm
    refine ⟨fun hk => ⟨fun g hg => ?_, State.takeRead_opened ha hs hown hm he hserv hst hk,
      State.takeRead_noRoom ha hs hown hm he hserv hst hk⟩, fun hk => ?_⟩
    · have hjoin := State.takeRead_joined ha hs hown hm he hserv hst hk hg
      exact ⟨fun hd => by rw [hjoin, hd]; rfl, fun l hd => by rw [hjoin, hd]; rfl⟩
    · have htaken := exec_atReqTaken_taken ha hs hown hm he hserv hst hk
      exact ⟨fun e hj => by rw [htaken, hj]; rfl, fun hj => by rw [htaken, hj]; rfl⟩
  · intro s j g ha hg hj
    exact ⟨fun hd hserv => ⟨exec_readDataReady_verified ha hg hj hd hserv, exec_readDataReady_unverified ha hg hj hd hserv⟩,
      exec_readWindowExpiry_closed ha hg hj⟩

end Sys2Proof.Machine
end

section
/-! What the events of the links, the lasers and the egress ports share. -/

namespace Sys2Proof.Machine

theorem bitsOf_low (v hi : Nat) : bitsOf v hi 0 = v % 2 ^ (hi + 1) := by
  simp only [bitsOf, pow_zero, Nat.div_one, Nat.sub_zero]

/-- A command that waits above WATCH for a condition: in a state above WATCH the condition alone decides. -/
theorem next_ite_awake {s : State} (ha : s.awake = true) {c : Prop} [Decidable c] (t u : State) :
    (if s.awake = true ∧ c then (.next t : Out) else .next u) = .next (if c then t else u) := by
  simp only [ha, true_and]
  exact (apply_ite Host.Outcome.next _ _ _).symm

theorem isSpan_site (p : Fin 512) : isSpan p = false :=
  decide_eq_false (Nat.not_le.mpr p.isLt)

end Sys2Proof.Machine
end

section
/-! Link control blocks received: what a block meets before its effect, and the effect of each TYPE. -/

namespace Sys2Proof.Machine

/-! ### Up to the effect (R57, R107) -/

section

variable {s r : State} {p : Fin 544} {type : Nat} {usesVc : Bool} {b : Lcb} (f : State → State)

theorem State.lcb_lost (hgot : s.arrives p (lcbFrom p type (lcbGood type usesVc b) b) = none) : s.lcb p type usesVc b f = s := by
  simp only [State.lcb, hgot]

theorem State.lcb_unlinked (hgot : s.arrives p (lcbFrom p type (lcbGood type usesVc b) b) = some r) (hl : r.linked p = false) :
    s.lcb p type usesVc b f = r := by
  simp only [State.lcb, hgot, hl, Bool.not_false, if_true]

variable (hr : s.blockReaches p type usesVc b r)
include hr

theorem State.lcb_bad (hbad : lcbGood type usesVc b = false) : s.lcb p type usesVc b f = r.lcbBad p := by
  obtain ⟨hgot, hl⟩ := hr
  simp only [State.lcb, hgot]
  simp only [hl, hbad, Bool.not_true, Bool.false_eq_true, if_false]

theorem State.lcb_good (hg : lcbGood type usesVc b = true) : s.lcb p type usesVc b f = f r := by
  obtain ⟨hgot, hl⟩ := hr
  simp only [State.lcb, hgot]
  simp only [hl, hg, Bool.not_true, Bool.false_eq_true, if_false, if_true]

end

/-- The rows of the link control blocks, each with its TYPE and whether the TYPE uses the VC (R57). -/
def lcbRows (p : Fin 544) (b : Lcb) : List (Instr × Nat × Bool) :=
  [(.lcbAck p b, lcbAckType, true), (.nakSel p b, lcbNakSelType, true), (.nakGoback p b, lcbNakGobackType, true),
    (.credit p b, lcbCreditType, true), (.reef p b, lcbReefType, false), (.laneReport p b, lcbLaneReportType, false),
    (.echo p b, lcbEchoType, false), (.echoReply p b, lcbEchoReplyType, false), (.param p b, lcbParamType, false),
    (.resync p b, lcbResyncType, true)]

/-- Every such row is a block received, with an effect of its own. -/
theorem exec_lcbRow (s : State) {p : Fin 544} {b : Lcb} {x : Instr × Nat × Bool} (hx : x ∈ lcbRows p b) :
    ∃ f, exec x.1 s = .next (s.lcb p x.2.1 x.2.2 b f) := by
  revert x
  simp only [lcbRows, List.forall_mem_cons]
  exact ⟨⟨_, rfl⟩, ⟨_, rfl⟩, ⟨_, rfl⟩, ⟨_, rfl⟩, ⟨_, rfl⟩, ⟨_, rfl⟩, ⟨_, rfl⟩, ⟨_, rfl⟩, ⟨_, rfl⟩, ⟨_, rfl⟩, fun _ h => nomatch h⟩

section

variable {s r : State} {p : Fin 544} {b : Lcb} {x : Instr × Nat × Bool} (hx : x ∈ lcbRows p b)
include hx

theorem exec_lcbRow_lost (hgot : s.arrives p (lcbFrom p x.2.1 (lcbGood x.2.1 x.2.2 b) b) = none) : exec x.1 s = .next s := by
  obtain ⟨f, hf⟩ := exec_lcbRow s hx
  rw [hf, State.lcb_lost f hgot]

theorem exec_lcbRow_unlinked (hgot : s.arrives p (lcbFrom p x.2.1 (lcbGood x.2.1 x.2.2 b) b) = some r) (hl : r.linked p = false) :
    exec x.1 s = .next r := by
  obtain ⟨f, hf⟩ := exec_lcbRow s hx
  rw [hf, State.lcb_unlinked f hgot hl]

theorem exec_lcbRow_bad (hr : s.blockReaches p x.2.1 x.2.2 b r) (hbad : lcbGood x.2.1 x.2.2 b = false) :
    exec x.1 s = .next (r.lcbBad p) := by
  obtain ⟨f, hf⟩ := exec_lcbRow s hx
  rw [hf, State.lcb_bad f hr hbad]

end

/-! ### The rows by the definitions of what they do -/

theorem exec_credit (p : Fin 544) (b : Lcb) (s : State) : exec (.credit p b) s = execCredit p b s := rfl

theorem exec_reef (p : Fin 544) (b : Lcb) (s : State) : exec (.reef p b) s = execReef p b s := rfl

theorem exec_laneReport (p : Fin 544) (b : Lcb) (s : State) : exec (.laneReport p b) s = execLaneReport p b s := rfl

theorem exec_echoReply (p : Fin 544) (b : Lcb) (s : State) : exec (.echoReply p b) s = execEchoReply p b s := rfl

theorem exec_param (p : Fin 544) (b : Lcb) (s : State) : exec (.param p b) s = execParam p b s := rfl

theorem exec_resync (p : Fin 544) (b : Lcb) (s : State) : exec (.resync p b) s = execResync p b s := rfl

/-! ### Acknowledgement and resends (R60, R62) -/

section

variable {s r : State} {p : Fin 544} {b : Lcb}

theorem exec_lcbAck_good (hr : s.blockReaches p lcbAckType true b r) (hg : lcbGood lcbAckType true b = true) :
    let v := b.vc.toNat
    let l := r.vc p v
    exec (.lcbAck p b) s = .next (if l.wasSent b.seq then (r.setVc p v (l.release b.seq)).emptied p v else r.lcbBad p) :=
  congrArg _ (State.lcb_good _ hr hg)

theorem exec_nakSel_good (hr : s.blockReaches p lcbNakSelType true b r) (hg : lcbGood lcbNakSelType true b = true) :
    exec (.nakSel p b) s = .next (r.setVc p b.vc.toNat ((r.vc p b.vc.toNat).resendOne b.seq)) :=
  congrArg _ (State.lcb_good _ hr hg)

theorem exec_nakGoback_good (hr : s.blockReaches p lcbNakGobackType true b r) (hg : lcbGood lcbNakGobackType true b = true) :
    exec (.nakGoback p b) s = .next (r.setVc p b.vc.toNat ((r.vc p b.vc.toNat).resendFrom b.seq)) :=
  congrArg _ (State.lcb_good _ hr hg)

end

/-! ### Credit (R124) -/

section

variable {s r : State} {p : Fin 544} {b : Lcb} (hr : s.blockReaches p lcbCreditType true b r) (hg : lcbGood lcbCreditType true b = true)
include hr hg

/-- A grant: in RESYNC, or the first block of a VC in UP. -/
theorem exec_credit_granted (hst : r.portState p = pResync ∨ (r.portState p = pUp ∧ (r.vc p b.vc.toNat).creditGot = 0)) :
    let v := b.vc.toNat
    let l := r.vc p v
    let n := b.arg.toNat % 65536
    exec (.credit p b) s = .next (r.setVc p v { l with
      credit := l.credit + n
      creditGot := l.creditGot + n }) := by
  simp only [exec_credit, execCredit, State.lcb_good _ hr hg, bitsOf_low, Nat.reduceAdd, Nat.reducePow, hst, if_true]

/-- Cells returned, never above the cells granted. -/
theorem exec_credit_returned (hup : r.portState p = pUp) (hgot : (r.vc p b.vc.toNat).creditGot ≠ 0) :
    let v := b.vc.toNat
    let l := r.vc p v
    let n := b.arg.toNat % 65536
    exec (.credit p b) s = .next (if l.credit + n ≤ l.creditGot then r.setVc p v { l with credit := l.credit + n } else r.lcbBad p) := by
  have hne : pUp ≠ pResync := by decide
  simp only [exec_credit, execCredit, State.lcb_good _ hr hg, bitsOf_low, Nat.reduceAdd, Nat.reducePow, hup, hgot, hne, and_false,
    or_self, if_false, if_true]
  rw [← ite_not]
  simp only [Nat.not_lt]

theorem exec_credit_other (hre : r.portState p ≠ pResync) (hup : r.portState p ≠ pUp) : exec (.credit p b) s = .next r := by
  simp only [exec_credit, execCredit, State.lcb_good _ hr hg, hre, hup, false_and, or_self, if_false]

end

/-! ### Lanes (R70 to R74, R84) -/

section

variable {s r : State} {p : Fin 544} {b : Lcb} (hr : s.blockReaches p lcbReefType false b r) (hg : lcbGood lcbReefType false b = true)
include hr hg

/-- A span port has no lanes to change, and a mask of no lane breaks R71. -/
theorem exec_reef_noLane (h : isSpan p = true ∨ (b.arg.setWidth 4 : BitVec 4) = 0) : exec (.reef p b) s = .next (r.lcbBad p) := by
  simp only [exec_reef, execReef, State.lcb_good _ hr hg, Bool.or_eq_true, decide_eq_true_eq, h, if_true]

theorem exec_reef_lanes (hs : isSpan p = false) (hm : (b.arg.setWidth 4 : BitVec 4) ≠ 0) : exec (.reef p b) s = .next
    (if r.portState p = pUp ∧ (∀ x ∈ (r.link p).reefRx, x.2 ≠ b.seq)
      then r.setLink p { r.link p with reefRx := (r.link p).reefRx ++ [(b.arg.setWidth 4, b.seq)] } else r) := by
  have hseen : ((r.link p).reefRx.any (fun x => decide (x.2 = b.seq)) = true) ↔ ¬ ∀ x ∈ (r.link p).reefRx, x.2 ≠ b.seq := by simp
  simp only [exec_reef, execReef, State.lcb_good _ hr hg, hs, hm, decide_false, Bool.or_self, Bool.false_eq_true, if_false, hseen,
    ite_not, ite_and]

end

section

variable {s r : State} {p : Fin 544} {b : Lcb} (hr : s.blockReaches p lcbLaneReportType false b r)
  (hg : lcbGood lcbLaneReportType false b = true)
include hr hg

theorem exec_laneReport_span (hs : isSpan p = true) : exec (.laneReport p b) s = .next (r.lcbBad p) := by
  simp only [exec_laneReport, execLaneReport, State.lcb_good _ hr hg, hs, if_true]

theorem exec_laneReport_site (hs : isSpan p = false) : exec (.laneReport p b) s = .next
    (if r.portState p = pUp then (((r.askLanes p ((b.arg >>> 4).setWidth 4)).reefUpdate p).rejoinLanes p (b.arg.setWidth 4)).trainUpdate p
      else r) := by
  simp only [exec_laneReport, execLaneReport, State.lcb_good _ hr hg, hs, Bool.false_eq_true, if_false]

end

/-! ### ECHO, PARAM and ECHO_REPLY (R57, R64, R69) -/

section

variable {s r : State} {p : Fin 544} {b : Lcb}

theorem exec_echo_good (hr : s.blockReaches p lcbEchoType false b r) (hg : lcbGood lcbEchoType false b = true) :
    exec (.echo p b) s = .next (r.sendLcb p lcbEchoReplyType 0 0 0 b.arg.toNat) :=
  congrArg _ (State.lcb_good _ hr hg)

theorem exec_param_good (hr : s.blockReaches p lcbParamType false b r) (hg : lcbGood lcbParamType false b = true) :
    exec (.param p b) s = .next (r.setReg (peerReg p) (pack [(Fld.CL_SP_PEER_VALID, 1), (Fld.CL_SP_PEER_ISMOD, b2n (b.arg.getLsbD 20)),
      (Fld.CL_SP_PEER_ID, b.arg.toNat % 2 ^ 20)])) := by
  simp only [exec_param, execParam, State.lcb_good _ hr hg, bitsOf_low]

variable (hr : s.blockReaches p lcbEchoReplyType false b r) (hg : lcbGood lcbEchoReplyType false b = true)
include hr hg

/-- The reply to the outstanding ECHO measures the round trip. -/
theorem exec_echoReply_outstanding (hst : r.portState p = pParam) (he : (r.link p).echo = some b.arg) :
    let ns := 40 * (r.tick - (r.link p).echoAt)
    let t := (r.setLink p { r.link p with echo := none }).setReg (rttReg p) (BitVec.ofNat 64 (min ns 0xFFFFFFFF))
    exec (.echoReply p b) s = .next (if isSpan p ∧ 1677000 < ns then t.raisePort p 6 11 else t) := by
  simp only [exec_echoReply, execEchoReply, State.lcb_good _ hr hg, hst, he, and_self, if_true]

theorem exec_echoReply_other (h : r.portState p ≠ pParam ∨ (r.link p).echo ≠ some b.arg) : exec (.echoReply p b) s = .next r := by
  have hnot : ¬ (r.portState p = pParam ∧ (r.link p).echo = some b.arg) := not_and_or.mpr h
  simp only [exec_echoReply, execEchoReply, State.lcb_good _ hr hg, hnot, if_false]

end

/-! ### RESYNC (R67) -/

/-- A good RESYNC has FLAGS 0 or 1. -/
theorem lcbGood_resync_flags {b : Lcb} (hg : lcbGood lcbResyncType true b = true) : b.flags.getLsbD 0 = true ↔ b.flags = 1 := by
  have hle : b.flags.toNat ≤ 1 := by
    simp only [lcbGood, if_true, Bool.and_eq_true, decide_eq_true_eq] at hg
    obtain ⟨⟨-, hflags⟩, -⟩ := hg
    exact hflags
  have hcases : b.flags = 0 ∨ b.flags = 1 := by bv_omega
  obtain h | h := hcases <;> simp [h]

section

variable {s r : State} {p : Fin 544} {b : Lcb} (hr : s.blockReaches p lcbResyncType true b r) (hg : lcbGood lcbResyncType true b = true)
include hr hg

theorem exec_resync_taken (hst : r.portState p = pResync ∨ r.portState p = pUp) :
    let v := b.vc.toNat
    let e := if b.flags = 1 then r.farReset p else (r.setVc p v (((r.vc p v).release b.seq).resendAll)).emptied p v
    let t := e.setVc p v { e.vc p v with resynced := true }
    exec (.resync p b) s = .next (if t.portState p = pResync ∧ (∀ w : Fin 8, (t.vc p w).resynced = true) then t.enterUp p else t) := by
  simp only [exec_resync, execResync, State.lcb_good _ hr hg, hst, if_true, lcbGood_resync_flags hg, List.all_eq_true, List.mem_range,
    Fin.forall_iff]

theorem exec_resync_other (hre : r.portState p ≠ pResync) (hup : r.portState p ≠ pUp) : exec (.resync p b) s = .next r := by
  simp only [exec_resync, execResync, State.lcb_good _ hr hg, hre, hup, or_self, if_false]

end

/-! ### The statement -/

/-- Settles O12: what a block meets before its effect, for all ten rows at once, then the effect of each TYPE. -/
theorem linkBlocksReceived : Obligations.LinkBlocksReceived := by
  intro s r p b v l
  exact ⟨fun x hx => ⟨exec_lcbRow_lost hx, exec_lcbRow_unlinked hx, exec_lcbRow_bad hx⟩,
    exec_lcbAck_good, exec_nakSel_good, exec_nakGoback_good,
    fun hr hg => ⟨exec_credit_granted hr hg, exec_credit_returned hr hg, exec_credit_other hr hg⟩,
    fun hr hg => ⟨exec_reef_noLane hr hg, exec_reef_lanes hr hg⟩,
    fun hr hg => ⟨exec_laneReport_span hr hg, exec_laneReport_site hr hg⟩,
    exec_echo_good,
    fun hr hg => ⟨exec_echoReply_outstanding hr hg, exec_echoReply_other hr hg⟩,
    exec_param_good,
    fun hr hg => ⟨exec_resync_taken hr hg, exec_resync_other hr hg⟩⟩

end Sys2Proof.Machine
end

section
/-! The events that move a port through its link states: what takes a link up, and what takes it down. -/

namespace Sys2Proof.Machine

/-! ### Events of every port (R62, R64, R66, R89, R90, R95) -/

@[simp] theorem LinkVc.resendAll_expiries (l : LinkVc) : l.resendAll.expiries = l.expiries := rfl

theorem exec_ackTimerExpiry (p : Fin 544) (v : Fin 8) (s : State) : exec (.ackTimerExpiry p v) s = execAckTimerExpiry p v s := rfl

theorem exec_aligned (p : Fin 544) (s : State) : exec (.aligned p) s = execAligned p s := rfl

/-- A span port whose pluggable is present and has no bring-up in progress (R89). -/
def State.plugUp (s : State) (p : Nat) : Prop :=
  isSpan p = true ∧ (SMap.get {} s.port.cmis (p - 512)).step = 0 ∧ (s.reg (Reg.CL_SX_CMIS_STAT (p - 512))).getLsbD 63 = true

section

variable {s : State} {p : Fin 544}

/-- A block count over its limit takes the link down after an event of its own (R57). -/
theorem exec_lcbBadLimit (s : State) (p : Fin 544) : exec (.lcbBadLimit p) s = .next (if s.linked p = true ∧
    16 < ((s.link p).badLcbs.filter (fun t => decide (s.tick < t + msTicks 1))).length
      then ((s.setLink p { s.link p with badLcbs := [] }).raisePort p 3 11).linkLost p else s) :=
  (apply_ite Host.Outcome.next _ _ _).symm

theorem exec_aligned_other (hal : s.portState p ≠ pAlign) (hup : ¬ (s.portState p = pHold ∧ s.plugUp p)) :
    exec (.aligned p) s = .next s := by
  refine if_neg fun ⟨_, hready⟩ => ?_
  obtain h | ⟨hspan, hhold, hplug⟩ := hready
  · exact hal h
  · exact hup ⟨hhold, hspan, hplug⟩

variable (ha : s.awake = true)
include ha

/-- The sixteenth expiry in a row takes the port down (R456). -/
theorem exec_ackTimerExpiry_awake (v : Fin 8) :
    let l := s.vc p v
    exec (.ackTimerExpiry p v) s = .next (if s.portState p = pUp ∧ s.timedOut p v = true then
      if l.expiries < 15 then s.setVc p v { l.resendAll with expiries := l.expiries + 1 }
      else ((s.setVc p v { l.resendAll with expiries := 0 }).portFault p 0 0 8 1 0 (evtReg p)).retrain p
      else s) := by
  intro l
  simp only [exec_ackTimerExpiry, execAckTimerExpiry, ha, true_and, LinkVc.resendAll_expiries, apply_ite Host.Outcome.next, l]
  by_cases hlast : 16 ≤ (s.vc p v).expiries + 1
  · simp only [hlast, if_true, if_neg (show ¬ (s.vc p v).expiries < 15 by omega)]
  · simp only [hlast, if_false, if_pos (show (s.vc p v).expiries < 15 by omega)]

theorem exec_aligned_ready (h : s.portState p = pAlign ∨ (s.portState p = pHold ∧ s.plugUp p)) :
    exec (.aligned p) s = .next (s.startParam p) := by
  have hready : s.portState p = pAlign ∨ (isSpan p = true ∧ s.portState p = pHold ∧ (SMap.get {} s.port.cmis (p.val - 512)).step = 0 ∧
      (s.reg (Reg.CL_SX_CMIS_STAT (p.val - 512))).getLsbD 63 = true) :=
    h.imp_right fun ⟨hhold, hspan, hplug⟩ => ⟨hspan, hhold, hplug⟩
  simp only [exec_aligned, execAligned, ha, hready, and_self, if_true]

theorem exec_paramExchangeDone_awake : exec (.paramExchangeDone p) s =
    .next (if s.portState p = pParam ∧ (s.reg (peerReg p)).getLsbD 63 = true ∧ (s.link p).echo = none then s.startResync p else s) :=
  next_ite_awake ha _ _

theorem exec_lossOfSignal_awake : exec (.lossOfSignal p) s = .next (s.linkLost p) := if_pos ha

theorem exec_fecAlignmentLost_awake : exec (.fecAlignmentLost p) s = .next (s.linkLost p) := if_pos ha

end

/-! ### Events of a site port (R64 to R68) -/

theorem State.retrain_site (s : State) (p : Fin 512) : s.retrain p =
    (lanes4.foldl (fun (t : State) w => if (s.link p).fecStuck.getLsbD w then t.setCause p true w cFec false else t)
      (s.setLink p { s.link p with fecStuck := 0 })).linkLost p := by
  simp only [State.retrain, isSpan_site, Bool.false_eq_true, if_false]

theorem exec_lightDetected (p : Fin 512) (lanes : BitVec 4) (s : State) : exec (.lightDetected p lanes) s = execLightDetected p lanes s := rfl

theorem exec_siteHoldExpiry (p : Fin 512) (s : State) : exec (.siteHoldExpiry p) s = execSiteHoldExpiry p s := rfl

theorem exec_sitePortEnable (p : Fin 512) (on : Bool) (s : State) : exec (.sitePortEnable p on) s = execSitePortEnable p on s := rfl

section

variable {s : State} {p : Fin 512} (ha : s.awake = true)
include ha

theorem exec_lightDetected_awake (lanes : BitVec 4) :
    let t := s.leaveDark p
    exec (.lightDetected p lanes) s = .next (if lanes = 0 then s
      else if t.portState p = pDetect ∨ t.portState p = pHold then t.setPortState p pLock else t) := by
  simp only [exec_lightDetected, execLightDetected, ha, true_and, ne_eq, ite_not, apply_ite Host.Outcome.next]

theorem exec_laneLocked_awake (lanes : BitVec 4) :
    exec (.laneLocked p lanes) s = .next (if s.portState p = pLock ∧ lanes ≠ 0 then (lanes4.foldl (fun (s : State) w =>
      if lanes.getLsbD w then s.setCause p true w cSignal false else s)
        (s.setLink p { s.link p with lockedLanes := lanes })).setPortState p pAlign else s) :=
  next_ite_awake ha _ _

theorem exec_siteRetrain_awake : exec (.siteRetrain p) s = .next (s.retrain p) := if_pos ha

/-- HOLD ends in DARK with an event and a record. -/
theorem exec_siteHoldExpiry_awake :
    exec (.siteHoldExpiry p) s = .next (if s.holding p = true ∧ s.since (s.link p).holdAt (secTicks 2) = true
      then ((s.goDark p).raisePort p 5 11).portFault p 0 5 11 7 0 (evtReg p) else s) := by
  simp only [exec_siteHoldExpiry, execSiteHoldExpiry, ha, true_and, State.holdOver, Bool.and_eq_true, State.holdExpire,
    apply_ite Host.Outcome.next]

theorem exec_sitePortEnable_on : exec (.sitePortEnable p true) s =
    .next (((s.setFld (Reg.CL_SP_CTL p) Fld.CL_SP_CTL_ENABLE 1).wakeCluster (clusterOf p)).leaveDark p) :=
  (if_pos ha).trans (if_pos rfl)

theorem exec_sitePortEnable_off :
    let off := s.setFld (Reg.CL_SP_CTL p) Fld.CL_SP_CTL_ENABLE 0
    exec (.sitePortEnable p false) s = .next (if off.portState p = pDark then off else (off.linkLost p).goDark p) := by
  simp only [exec_sitePortEnable, execSitePortEnable, ha, if_true, Bool.false_eq_true, if_false, b2n, apply_ite Host.Outcome.next]

end

/-! ### The statement -/

/-- Settles O13: each event in a state above WATCH; loss of signal and of FEC alignment are one loss of the link. -/
theorem linkStateEvents : Obligations.LinkStateEvents := by
  refine ⟨fun s p v ha => exec_ackTimerExpiry_awake ha v, fun s p lanes ha => exec_lightDetected_awake ha lanes,
    fun s p lanes ha => exec_laneLocked_awake ha lanes, fun s p ha => ⟨exec_aligned_ready ha, exec_aligned_other⟩,
    fun s p ha => exec_paramExchangeDone_awake ha, ?_, exec_lcbBadLimit, ?_,
    fun s p ha => exec_siteHoldExpiry_awake ha, fun s p ha => ⟨exec_sitePortEnable_on ha, exec_sitePortEnable_off ha⟩⟩
  · intro s p ha held ls kept lost after
    have hlost : s.linkLost p = after := rfl
    exact ⟨hlost ▸ exec_lossOfSignal_awake ha, hlost ▸ exec_fecAlignmentLost_awake ha⟩
  · intro s p ha
    rw [exec_siteRetrain_awake ha, State.retrain_site]

end Sys2Proof.Machine
end

section
/-! The events that take a lane of a site port out and bring it back. -/

namespace Sys2Proof.Machine

section

variable (s : State) (p : Nat)

/-- A furled port's lanes hold no cause of this end (R81). -/
theorem State.settleCauses_furled (h : s.furled p = true) : s.settleCauses p = lanes4.foldl (fun (t : State) w =>
    (((((((((t.setCause p false w cSignal false).setCause p true w cSignal false).setCause p false w cFec false).setCause p true w cFec
      false).setCause p false w cTherm false).setCause p true w cTherm false).setCause p false w cSwap false).setCause p true w cSwap
      false)).setCause p false w cCmd false) s := by
  simp only [State.settleCauses, h, if_true, List.foldl_cons, List.foldl_nil, Bool.not_true, Bool.false_and]

/-- TXALLOW bars lanes with cause CMD, and a failed spare keeps cause SIGNAL (R70, R78). -/
theorem State.settleCauses_reached (h : s.furled p = false) : s.settleCauses p = lanes4.foldl (fun (t : State) w =>
    let t := if t.spareFailed p w = true then t.setCause p false w cSignal true else t
    t.setCause p false w cCmd (!(t.reg (Reg.CL_SP_CTL p)).getLsbD (4 + w))) s := by
  simp only [State.settleCauses, h, Bool.false_eq_true, if_false, Bool.not_false, Bool.true_and]

end

theorem exec_laneSignalLoss (p : Fin 512) (w : Fin 4) (s : State) : exec (.laneSignalLoss p w) s = execLaneSignalLoss p w s := rfl

theorem exec_laneFecLimit (p : Fin 512) (w : Fin 4) (s : State) : exec (.laneFecLimit p w) s = execLaneFecLimit p w s := rfl

theorem exec_laneFecClear (p : Fin 512) (w : Fin 4) (s : State) : exec (.laneFecClear p w) s = execLaneFecClear p w s := rfl

theorem exec_laneRetrained (p : Fin 512) (w : Fin 4) (s : State) : exec (.laneRetrained p w) s = execLaneRetrained p w s := rfl

theorem exec_laneFecLimit_dark {s : State} {p : Fin 512} (w : Fin 4) (hst : s.portState p = pDark) : exec (.laneFecLimit p w) s = .next s :=
  if_neg fun ⟨_, h⟩ => h hst

section

variable {s : State} {p : Fin 512} (ha : s.awake = true)
include ha

/-! ### TXALLOW and REEFHOLD (R70, R73, R74) -/

theorem exec_txallowWrite_awake (lanes : BitVec 4) : exec (.txallowWrite p lanes) s =
    .next ((((s.setFld (Reg.CL_SP_CTL p) Fld.CL_SP_CTL_TXALLOW lanes.toNat).settleCauses p).reefUpdate p).trainUpdate p) :=
  if_pos ha

theorem exec_reefholdWrite_on :
    let held := s.setFld (Reg.CL_SP_CTL p) Fld.CL_SP_CTL_REEFHOLD 1
    exec (.reefholdWrite p true) s = .next (held.setLink p { held.link p with training := 0 }) :=
  (if_pos ha).trans (if_pos rfl)

theorem exec_reefholdWrite_off :
    exec (.reefholdWrite p false) s = .next ((s.setFld (Reg.CL_SP_CTL p) Fld.CL_SP_CTL_REEFHOLD 0).trainUpdate p) :=
  (if_pos ha).trans (if_neg Bool.false_ne_true)

/-! ### Signal (R70, R84) -/

variable (w : Fin 4)

theorem exec_laneSignalLoss_awake :
    exec (.laneSignalLoss p w) s = .next (if s.portState p = pDark then s else s.rxCause p w cSignal) := by
  simp only [exec_laneSignalLoss, execLaneSignalLoss, ha, true_and, ne_eq, ite_not, apply_ite Host.Outcome.next]

theorem exec_laneSignalRestored_awake : exec (.laneSignalRestored p w) s =
    .next (if (s.causes p true w).testBit cSignal = true then (s.setCause p true w cSignal false).laneReport p else s) :=
  next_ite_awake ha _ _

/-! ### FEC (R71, R74) -/

/-- Lane `w` had left for FEC and rejoined less than 1 s ago. -/
def State.fecAgain (s : State) (p w : Nat) : Prop :=
  0 < SMap.get 0 (s.link p).fecBack w ∧ s.tick < SMap.get 0 (s.link p).fecBack w - 1 + secTicks 1

theorem exec_laneFecLimit_first (hst : s.portState p ≠ pDark) (h : ¬ s.fecAgain p w) :
    let l := s.link p
    exec (.laneFecLimit p w) s = .next ((s.setLink p { l with fecAt := SMap.put 0 l.fecAt w (s.tick + 1) }).rxCause p w cFec) := by
  rw [State.fecAgain] at h
  simp only [exec_laneFecLimit, execLaneFecLimit, ha, hst, h, ne_eq, not_false_eq_true, and_self, decide_false, Bool.false_eq_true,
    if_true, if_false]

/-- A lane that FEC takes out again is kept out, with a record. -/
theorem exec_laneFecLimit_again (hst : s.portState p ≠ pDark) (h : s.fecAgain p w) :
    let l := s.link p
    let out := (s.setLink p { l with
      fecAt := SMap.put 0 l.fecAt w (s.tick + 1)
      fecStuck := l.fecStuck ||| BitVec.ofNat 4 (2 ^ w.val) }).rxCause p w cFec
    exec (.laneFecLimit p w) s = .next (out.portFault p 1 (out.causes p true w) 11 7 0 (Reg.CL_SP_LANE p)) := by
  rw [State.fecAgain] at h
  simp only [exec_laneFecLimit, execLaneFecLimit, ha, hst, h, ne_eq, not_false_eq_true, and_self, decide_true, if_true]

theorem exec_laneFecClear_awake : exec (.laneFecClear p w) s = .next (if (s.causes p true w).testBit cFec = true ∧
    (s.link p).fecStuck.getLsbD w = false ∧ 0 < SMap.get 0 (s.link p).fecAt w ∧
    s.since (SMap.get 0 (s.link p).fecAt w - 1) (msTicks 100) = true then (s.setCause p true w cFec false).laneReport p else s) := by
  simp only [exec_laneFecClear, execLaneFecClear, ha, true_and, bitOf, Bool.not_eq_true', apply_ite Host.Outcome.next]

/-! ### Training (R74) -/

theorem exec_laneRetrained_awake : exec (.laneRetrained p w) s = .next (if s.portState p = pUp ∧ s.causes p true w = 0 ∧
    (s.link p).lockedLanes.getLsbD w = false then (s.setLink p { s.link p with
      lockedLanes := (s.link p).lockedLanes ||| BitVec.ofNat 4 (2 ^ w.val) }).laneReport p else s) := by
  simp only [exec_laneRetrained, execLaneRetrained, ha, true_and, Bool.not_eq_true', apply_ite Host.Outcome.next]

end

/-! ### The statement -/

/-- Settles O14: each event of a lane in a state above WATCH, by the causes that it sets or clears. -/
theorem laneEvents : Obligations.LaneEvents := by
  intro s p ha
  refine ⟨fun lanes => ⟨fun hf => ?_, fun hf => ?_⟩, exec_reefholdWrite_on ha, exec_reefholdWrite_off ha,
    exec_laneSignalLoss_awake ha, exec_laneSignalRestored_awake ha,
    fun w => ⟨exec_laneFecLimit_first ha w, exec_laneFecLimit_again ha w, exec_laneFecLimit_dark w⟩,
    exec_laneFecClear_awake ha, exec_laneRetrained_awake ha⟩
  · rw [exec_txallowWrite_awake ha, State.settleCauses_furled _ _ hf]
  · rw [exec_txallowWrite_awake ha, State.settleCauses_reached _ _ hf]

end Sys2Proof.Machine
end

section
/-! Lane masks at their stripe, spare lasers and their swaps, and rings out of lock. -/

namespace Sys2Proof.Machine

/-! ### Announced masks (R72) -/

theorem exec_reefTakesEffect (p : Fin 512) (transmit : Bool) (s : State) :
    exec (.reefTakesEffect p transmit) s = execReefTakesEffect p transmit s := rfl

section

variable {s : State} {p : Fin 512}

theorem exec_reefTakesEffect_noTx (h : (s.link p).reefTx = []) : exec (.reefTakesEffect p true) s = .next s := by
  simp only [exec_reefTakesEffect, execReefTakesEffect, if_true, h]

theorem exec_reefTakesEffect_noRx (h : (s.link p).reefRx = []) : exec (.reefTakesEffect p false) s = .next s := by
  simp only [exec_reefTakesEffect, execReefTakesEffect, Bool.false_eq_true, if_false, h]

variable (ha : s.awake = true) {m : BitVec 4} {q : BitVec 32} {rest : List (BitVec 4 × BitVec 32)}
include ha

theorem exec_reefTakesEffect_tx (h : (s.link p).reefTx = (m, q) :: rest) :
    exec (.reefTakesEffect p true) s = .next (if s.portState p = pUp ∧ seqLe q (s.stripe p) = true then
      ((((((s.setLink p { s.link p with reefTx := rest }).slowWire p m.toNat).setFld (Reg.CL_SP_STAT p) Fld.CL_SP_STAT_TXLANES m.toNat).bump
        (Reg.CL_SP_REEFS p) 1).raisePort p 2 11).retrySwaps (p / 8)) else s) := by
  simp only [exec_reefTakesEffect, execReefTakesEffect, if_true, h]
  exact next_ite_awake ha _ _

theorem exec_reefTakesEffect_rx (h : (s.link p).reefRx = (m, q) :: rest) :
    exec (.reefTakesEffect p false) s = .next (if s.portState p = pUp ∧ seqLe q (s.stripe p) = true then
      ((((s.setLink p { s.link p with reefRx := rest }).noteBack p (m &&& ~~~(BitVec.ofNat 4 (s.fld (Reg.CL_SP_STAT p)
        Fld.CL_SP_STAT_RXLANES)))).setFld (Reg.CL_SP_STAT p) Fld.CL_SP_STAT_RXLANES m.toNat).raisePort p 2 11) else s) := by
  simp only [exec_reefTakesEffect, execReefTakesEffect, Bool.false_eq_true, if_false, h]
  exact next_ite_awake ha _ _

end

/-! ### Swaps of locked spares (R75, R76, R77) -/

section

variable (s : State)

theorem State.swapForced_iff (g w : Nat) :
    s.swapForced g w = true ↔ s.laserPower g w ≤ -300 ∨ s.laserFld g w Fld.CL_OE_LASER_STATE = 3 := by
  simp only [State.swapForced, Bool.or_eq_true, decide_eq_true_eq, beq_iff_eq]

theorem State.skipsSwap_iff (p : Nat) :
    s.skipsSwap p = true ↔ s.portState p = pDark ∨ s.fld (Reg.SVB_PORT p) Fld.SVB_PORT_STATE ≠ 0 := by
  simp only [State.skipsSwap, Bool.or_eq_true, beq_iff_eq, bne_iff_ne]

theorem State.soleLane_iff (p w : Nat) : s.soleLane p w = true ↔ s.portState p ≠ pDark ∧ s.fld (Reg.SVB_PORT p) Fld.SVB_PORT_STATE = 0 ∧
    s.portState p = pUp ∧ s.txMask p = BitVec.ofNat 4 (2 ^ w) := by
  simp only [State.soleLane, Bool.and_eq_true, Bool.not_eq_true', Bool.eq_false_iff, ne_eq, State.skipsSwap_iff, not_or, not_not,
    beq_iff_eq, and_assoc]

/-- Each port of the engine takes part in a swap by its own state (R75, R77, R80, R119). -/
theorem State.startSwap_eq (g w : Nat) : s.startSwap g w = (enginePorts g).foldl (fun (t : State) p =>
    if t.portState p = pDark ∨ t.fld (Reg.SVB_PORT p) Fld.SVB_PORT_STATE ≠ 0 then t
    else if t.portState p ≠ pDark ∧ t.fld (Reg.SVB_PORT p) Fld.SVB_PORT_STATE = 0 ∧ t.portState p = pUp ∧ t.txMask p = BitVec.ofNat 4 (2 ^ w)
      then (t.setCause p false w cSwap true).linkLost p
    else if t.causes p false w ≠ 0 then t else t.txCause p w cSwap) (s.setLaser g w Fld.CL_OE_LASER_STATE 2) := by
  simp only [State.startSwap, State.skipsSwap_iff, State.soleLane_iff]

variable {s} {g w : Nat}

theorem State.trySwap_starts (hw : s.swapWaits g w = true) (h : s.swapForced g w = true ∨
    (((s.reg (Reg.CL_OE_CTL g)).getLsbD 0 = false ∨ (s.reg (Reg.CL_OE_CTL g)).getLsbD 4 = true) ∧
      ∀ p ∈ enginePorts g, ¬ s.soleLane p w = true)) : s.trySwap g w = s.startSwap g w := by
  refine if_pos ?_
  simp only [hw, Bool.true_and, Bool.or_eq_true, Bool.and_eq_true, Bool.not_eq_true', Bool.and_eq_false_iff, Bool.not_eq_false',
    List.any_eq_false]
  exact h

theorem State.trySwap_waits (hf : s.swapForced g w = false) (h : ((s.reg (Reg.CL_OE_CTL g)).getLsbD 0 = true ∧
    (s.reg (Reg.CL_OE_CTL g)).getLsbD 4 = false) ∨ ∃ p ∈ enginePorts g, s.soleLane p w = true) : s.trySwap g w = s := by
  obtain ⟨hheld, hgo⟩ | ⟨p, hp, hsole⟩ := h
  · simp only [State.trySwap, hf, hheld, hgo, Bool.not_false, Bool.and_self, Bool.not_true, Bool.false_and, Bool.or_self, Bool.and_false,
      Bool.false_eq_true, if_false]
  · have hany : (enginePorts g).any (fun p => s.soleLane p w) = true := List.any_eq_true.mpr ⟨p, hp, hsole⟩
    simp only [State.trySwap, hf, hany, Bool.not_true, Bool.and_false, Bool.or_self, Bool.false_eq_true, if_false]

/-- SWAPGO clears once no locked spare waits. -/
theorem State.retrySwaps_eq (s : State) (g : Nat) :
    let waits := lanes4.filter (fun w => s.swapWaits g w)
    let tried := waits.foldl (fun (t : State) w => t.trySwap g w) s
    s.retrySwaps g = if waits ≠ [] ∧ (∀ w ∈ waits, tried.swapWaits g w = false) then tried.setFld (Reg.CL_OE_CTL g) Fld.CL_OE_CTL_SWAPGO 0
      else tried := by
  simp only [State.retrySwaps, Bool.and_eq_true, Bool.not_eq_true', List.isEmpty_eq_false_iff, List.all_eq_true]

end

/-! ### Lasers (R75, R76, R77, R78) -/

theorem exec_laserStop (g : Fin 64) (w : Fin 4) (s : State) : exec (.laserStop g w) s = execLaserStop g w s := rfl

/-- The spare of lane `w` warms, with an event. -/
def State.warmSpare (s : State) (g w : Nat) : State :=
  ((s.setLaser g w Fld.CL_OE_LASER_STATE 1).setLaser g w Fld.CL_OE_LASER_SPARE 1).raiseEngine g w

section

variable {s : State} (ha : s.awake = true) (g : Fin 64) (w : Fin 4)
include ha

theorem exec_prespare_awake (power : BitVec 16) :
    exec (.prespare g w power) s = .next (if s.laserFld g w Fld.CL_OE_LASER_SOURCE = 0 ∧ s.laserFld g w Fld.CL_OE_LASER_STATE = 0 ∧
      power.toInt ≤ -150 then (s.setLaser g w Fld.CL_OE_LASER_POWER power.toNat).warmSpare g w else s) :=
  next_ite_awake ha _ _

theorem exec_laserFailThreshold_awake (power : BitVec 16) :
    let read := s.setLaser g w Fld.CL_OE_LASER_POWER power.toNat
    let warm := if read.laserFld g w Fld.CL_OE_LASER_SPARE = 0 then read.warmSpare g w else read
    exec (.laserFailThreshold g w power) s = .next (if s.laserFld g w Fld.CL_OE_LASER_SOURCE = 0 ∧ power.toInt ≤ -300 then
      if warm.laserFld g w Fld.CL_OE_LASER_STATE = 2 then warm else warm.retrySwaps g else s) := by
  intro read warm
  rw [apply_ite Host.Outcome.next, apply_ite Host.Outcome.next]
  exact if_congr (and_iff_right ha) rfl rfl

theorem exec_opticalSwitchMoved_awake (power : BitVec 16) :
    exec (.opticalSwitchMoved g w power) s = .next (if s.laserFld g w Fld.CL_OE_LASER_STATE = 2 then (enginePorts g).foldl (fun (s : State) p =>
        if s.portState p = pUp then s.trainUpdate p else s.setCause p false w cSwap false)
        ((s.setReg (Reg.CL_OE_LASER g w) (pack [(Fld.CL_OE_LASER_SPARE, 3), (Fld.CL_OE_LASER_STATE, 0),
          (Fld.CL_OE_LASER_SOURCE, 1), (Fld.CL_OE_LASER_POWER, power.toNat)])).raiseEngine g (4 + w)) else s) :=
  next_ite_awake ha _ _

theorem exec_spareFail_awake (power : BitVec 16) :
    let read := s.setLaser g w Fld.CL_OE_LASER_POWER power.toNat
    exec (.spareFail g w power) s = .next (if s.laserFld g w Fld.CL_OE_LASER_SOURCE = 1 ∧ s.laserFld g w Fld.CL_OE_LASER_STATE ≠ 3 ∧
      power.toInt ≤ -300 then ((enginePorts g).foldl (fun (s : State) p => if s.furled p then s else s.txCause p w cSignal)
        ((read.setLaser g w Fld.CL_OE_LASER_STATE 3).raiseEngine g (8 + w))).portFault (8 * g) 2 (8 + w) 11 7 1 (Reg.CL_OE_EVT g) else s) :=
  next_ite_awake ha _ _

theorem exec_spareLocked_awake : exec (.spareLocked g w) s = .next (if s.laserFld g w Fld.CL_OE_LASER_SPARE = 1
    then (s.setLaser g w Fld.CL_OE_LASER_SPARE 2).retrySwaps g else s) :=
  next_ite_awake ha _ _

/-- The power read from a stopped laser is a free value. -/
theorem exec_laserStop_awake :
    let stopped := (s.free.2.setLaser g w Fld.CL_OE_LASER_POWER (s.free.1.toNat % 65536)).setLaser g w Fld.CL_OE_LASER_STATE 3
    exec (.laserStop g w) s = .next (if s.laserFld g w Fld.CL_OE_LASER_SOURCE = 0 ∧ s.laserFld g w Fld.CL_OE_LASER_STATE ≠ 2 then
      if stopped.laserFld g w Fld.CL_OE_LASER_SPARE = 0 then stopped.setLaser g w Fld.CL_OE_LASER_SPARE 1 else stopped.retrySwaps g else s) := by
  simp only [exec_laserStop, execLaserStop, ha, true_and, apply_ite Host.Outcome.next]

theorem exec_swapgo_awake : exec (.swapgo g) s = .next ((s.setFld (Reg.CL_OE_CTL g) Fld.CL_OE_CTL_SWAPGO 1).retrySwaps g) := if_pos ha

/-! ### Rings (R79, R80) -/

theorem exec_thermfast_awake (tx rx : BitVec 32) : exec (.thermfast g tx rx) s = .next ((ringsOf g rx).foldl (fun (s : State) (r : Nat × Nat) =>
    if s.furled r.1 then s else s.rxCause r.1 r.2 cTherm) ((enginePorts g).foldl (fun (s : State) p => s.reefUpdate p)
      ((ringsOf g tx).foldl (fun (s : State) (r : Nat × Nat) =>
        if s.furled r.1 then s else s.setCause r.1 false r.2 cTherm true) (s.raiseEngine g 12)))) :=
  if_pos ha

theorem exec_thermClear_awake (tx rx : BitVec 32) : exec (.thermClear g tx rx) s = .next ((ringsOf g rx).foldl (fun (s : State) (r : Nat × Nat) =>
    if (s.causes r.1 true r.2).testBit cTherm then (s.setCause r.1 true r.2 cTherm false).laneReport r.1 else s)
      ((ringsOf g tx).foldl (fun (s : State) (r : Nat × Nat) => s.txClear r.1 r.2 cTherm) s)) :=
  if_pos ha

end

/-! ### The statement -/

/-- Settles O15: masks at their stripe, the swap of a locked spare and its retries, and each event of a laser or a ring. -/
theorem laserAndRingEvents : Obligations.LaserAndRingEvents := by
  refine ⟨fun s p m q rest ha => ⟨exec_reefTakesEffect_noTx, exec_reefTakesEffect_noRx, exec_reefTakesEffect_tx ha, exec_reefTakesEffect_rx ha⟩,
    ?_, State.retrySwaps_eq, ?_, fun s g w ha => ⟨exec_spareLocked_awake ha g w, exec_laserStop_awake ha g w⟩,
    fun s g tx rx ha => ⟨exec_swapgo_awake ha g, exec_thermfast_awake ha g tx rx, exec_thermClear_awake ha g tx rx⟩⟩
  · intro s g w hw ports ctl forced sole
    refine ⟨fun h => ?_, fun hf h => ?_⟩
    · rw [State.trySwap_starts hw (by simpa only [State.swapForced_iff, State.soleLane_iff] using h), State.startSwap_eq]
    · exact State.trySwap_waits (Bool.eq_false_iff.mpr (by simpa only [ne_eq, State.swapForced_iff] using hf)) (by simpa only [State.soleLane_iff] using h)
  · intro s g w power ha
    exact ⟨exec_prespare_awake ha g w power, exec_laserFailThreshold_awake ha g w power, exec_opticalSwitchMoved_awake ha g w power,
      exec_spareFail_awake ha g w power⟩

end Sys2Proof.Machine
end

section
/-! The egress ports: the frame that a port sends, its gate lists and shapers, and the samples of its queues. -/

namespace Sys2Proof.Machine

/-! ### Transmission (R58, R60, R62, R136, R141) -/

theorem exec_frameTransmit (x : Transmission) (s : State) : exec (.frameTransmit x) s = execFrameTransmit x s := rfl

/-- A frame leaves port `p` on VC `v`: the wire, the deficit and the tokens are charged, and an overrun of its gate is counted. -/
def State.charged (s : State) (p v : Nat) (f : Frame) (d : SMap Nat) : State := (s.spend p v f d).countOverrun p v (s.gateFit p v f)

section

variable {s : State} {p : Fin 544} (sub : Fin 80)

theorem exec_frameTransmit_notUp (bad : Bool) (hup : s.portState p ≠ pUp) : exec (.frameTransmit ⟨p, sub, bad⟩) s = .next s :=
  if_neg fun h => hup h.2

variable (ha : s.awake = true) (hup : s.portState p = pUp)
include ha hup

theorem exec_frameTransmit_none (bad : Bool) (hpick : (s.noteWaits p).pickVc p = none) :
    exec (.frameTransmit ⟨p, sub, bad⟩) s = .next (s.noteWaits p) := by
  simp only [exec_frameTransmit, execFrameTransmit, ha, hup, and_self, if_true, hpick]

variable {v : Nat} {d : SMap Nat} (hpick : (s.noteWaits p).pickVc p = some (v, d))
include hpick

/-- A cell in error stops the frame that was picked (R47). -/
theorem exec_frameTransmit_cellBad {h : Head} (hh : (s.noteWaits p).head? p v = some h) :
    exec (.frameTransmit ⟨p, sub, true⟩) s = .next ((s.noteWaits p).cellError p v h) := by
  simp only [exec_frameTransmit, execFrameTransmit, ha, hup, and_self, if_true, hpick, hh]

theorem exec_frameTransmit_again {c : TxCopy} (hh : (s.noteWaits p).head? p v = some (.again c)) :
    let w := s.noteWaits p
    exec (.frameTransmit ⟨p, sub, false⟩) s =
      .next (((w.charged p v c.h.f d).sendAgain p v (w.egressAt c.h.f sub) c).emptied p v) := by
  simp only [exec_frameTransmit, execFrameTransmit, ha, hup, and_self, if_true, hpick, hh, Bool.false_eq_true, if_false]
  rfl

theorem exec_frameTransmit_new {h : Held} (hh : (s.noteWaits p).head? p v = some (.new h)) :
    let w := s.noteWaits p
    exec (.frameTransmit ⟨p, sub, false⟩) s = .next (((w.charged p v h.f d).sendNew p v (w.egressAt h.f sub) h).emptied p v) := by
  simp only [exec_frameTransmit, execFrameTransmit, ha, hup, and_self, if_true, hpick, hh, Bool.false_eq_true, if_false]
  rfl

end

/-! ### Gate lists (R137, R139) -/

theorem exec_gclSwap (p : Fin 544) (s : State) : exec (.gclSwap p) s = execGclSwap p s := rfl

section

variable {s : State} {p : Fin 544}

theorem exec_gclSwap_none (h : (s.egPort p).swapAt = none) : exec (.gclSwap p) s = .next s := by
  simp only [exec_gclSwap, execGclSwap, h]

variable (ha : s.awake = true)
include ha

theorem exec_gclCommit_awake : exec (.gclCommit p) s = .next (s.gclCommit p) := if_pos ha

theorem exec_gclSwap_due {t : Nat} (h : (s.egPort p).swapAt = some t) :
    let l := (List.range (s.egPort p).swapLen).map (fun i => s.reg (Reg.CL_EG_GCL p i))
    let copied := ((l.zipIdx).foldl (fun (s : State) (x : Word × Nat) => s.setReg (Reg.CL_EG_GCLOPER p x.2) x.1) s).setFld
      (Reg.CL_EG_STAT p) Fld.CL_EG_STAT_OPERLEN l.length
    let loaded := copied.setFld (Reg.CL_EG_STAT p) Fld.CL_EG_STAT_CYCLE ((l.map (fun w => w.toNat % 2 ^ 32)).sum)
    exec (.gclSwap p) s = .next (if t ≤ s.nowNs then ((((loaded.setEgPort p { loaded.egPort p with
      operBase := t
      swapAt := none
      noFit := [] }).setFld (Reg.CL_EG_CTL p) Fld.CL_EG_CTL_COMMIT 0).raiseEgress p 0).showGates p).noteHoldover p else s) := by
  simp only [exec_gclSwap, execGclSwap, h, bitsOf_low, Nat.reduceAdd]
  exact next_ite_awake ha _ _

theorem exec_gateBoundary_awake :
    let i := (gateAt (s.gates p) 0 (s.gatePhase p)).1
    exec (.gateBoundary p) s = .next (if s.gated p = true ∧ i ≠ (s.egPort p).gateIdx then
      ((s.setEgPort p { s.egPort p with gateIdx := i }).noteWaits p).noteHoldover p else s) :=
  next_ite_awake ha _ _

end

section

variable {s : State} {p : Nat}

theorem State.gclCommit_busy (h : s.flag (Reg.CL_EG_CTL p) Fld.CL_EG_CTL_COMMIT = true) : s.gclCommit p = s :=
  if_pos h

variable (h : s.flag (Reg.CL_EG_CTL p) Fld.CL_EG_CTL_COMMIT = false)
include h

/-- The list starts at the first whole number of cycles after BASE that is 10 µs or more ahead. -/
theorem State.gclCommit_good (hg : adminGood (s.adminList p) = true) :
    let cycle := ((s.adminList p).map (fun w => w.toNat % 2 ^ 32)).sum
    let base := (s.reg (Reg.CL_EG_BASE p)).toNat
    let first := s.nowNs + 10000
    s.gclCommit p = (s.setFld (Reg.CL_EG_CTL p) Fld.CL_EG_CTL_COMMIT 1).setEgPort p { s.egPort p with
      swapAt := some (if first ≤ base then base else base + ceilDiv (first - base) cycle * cycle)
      swapLen := (s.adminList p).length } := by
  simp only [State.gclCommit, h, hg, Bool.false_eq_true, if_false, if_true, bitsOf_low, Nat.reduceAdd]

theorem State.gclCommit_bad (hb : adminGood (s.adminList p) = false) : s.gclCommit p = s.raiseEgress p 1 := by
  simp only [State.gclCommit, h, hb, Bool.false_eq_true, if_false]

end

/-! ### Shapers and samples (R142, R143, R144) -/

theorem State.sampleQueue_eq (s : State) (n q : Nat) :
    let port := queuePort n q
    let depth := min (s.charge port (q % 8)) 0xFFFF
    let delay := match s.equeue port (q % 8) with
      | h :: _ => min (40 * (s.tick - h.m.since)) 0xFFFFFFFF
      | [] => 0
    let old := (s.reg (Reg.CL_QMAX n q)).toNat
    s.sampleQueue n q = (s.setReg (Reg.CL_QSAMP n q) (pack [(⟨0, 16⟩, depth), (⟨32, 32⟩, delay)])).setReg (Reg.CL_QMAX n q)
      (pack [(⟨0, 16⟩, max depth (old % 65536)), (⟨32, 32⟩, max delay (old / 2 ^ 32 % 2 ^ 32))]) := by
  intro port depth delay old
  have hlow : bitsOf old 15 0 = old % 65536 := bitsOf_low old 15
  rw [← hlow]
  rfl

section

variable {s : State} (ha : s.awake = true)
include ha

theorem exec_shaperRefill_awake : exec .shaperRefill s = .next (if s.boundDue bkRefill 1000 = true then
    allPorts.foldl (fun (s : State) p => s.refillPort p) (s.takeBound bkRefill 1000) else s) :=
  next_ite_awake ha _ _

theorem exec_shaperWrite_awake (p : Fin 544) (v : Fin 8) (val : Word) :
    exec (.shaperWrite p v val) s = .next (s.setReg (Reg.CL_EG_SHAPE p v) (val &&& 0x8000FFFFF0FFFFFF)) :=
  if_pos ha

theorem exec_queueSample_awake (n : Fin 16) : exec (.queueSample n) s = .next (if s.boundDue (bkSample n) 10000 = true then
    (List.range 272).foldl (fun (s : State) q => s.sampleQueue n q) (s.takeBound (bkSample n) 10000) else s) :=
  next_ite_awake ha _ _

end

/-! ### The statement -/

/-- Settles O19: the frame that the scheduler sends, the gate list from its COMMIT on, shapers and samples. -/
theorem egressAndGates : Obligations.EgressAndGates := by
  refine ⟨?_, fun s p sub bad ha => ⟨fun hup => exec_frameTransmit_none sub ha hup bad, exec_frameTransmit_notUp sub bad⟩, ?_, ?_,
    fun s p => exec_gclSwap_none, fun s p t ha => exec_gclSwap_due ha, fun s p => exec_gateBoundary_awake,
    fun s => exec_shaperRefill_awake, fun s p v val ha => exec_shaperWrite_awake ha p v val, ?_⟩
  · intro s p v d sub ha hup w hpick
    exact ⟨fun c hh => ⟨exec_frameTransmit_again sub ha hup hpick hh, exec_frameTransmit_cellBad sub ha hup hpick hh⟩,
      fun h hh => ⟨exec_frameTransmit_new sub ha hup hpick hh, exec_frameTransmit_cellBad sub ha hup hpick hh⟩⟩
  · intro s p ha hc cycle base first at_
    refine ⟨fun hg => ?_, fun hb => ?_⟩
    · rw [exec_gclCommit_awake ha, State.gclCommit_good hc hg]
    · rw [exec_gclCommit_awake ha, State.gclCommit_bad hc hb]
  · intro s p ha hc
    rw [exec_gclCommit_awake ha, State.gclCommit_busy hc]
  · intro s n ha sample
    have hsample : (fun (s : State) (q : Nat) => s.sampleQueue n q) = sample :=
      funext fun s => funext fun q => State.sampleQueue_eq s n q
    rw [exec_queueSample_awake ha n, hsample]

end Sys2Proof.Machine
end

section
/-! Span ports: the bring-up of a pluggable, the window accesses to it, and what takes a span port down. -/

namespace Sys2Proof.Machine

theorem isSpan_spanPort (x : Nat) : isSpan (spanPort x) = true :=
  decide_eq_true (Nat.le_add_right 512 x)

theorem State.retrain_span (s : State) (x : Nat) : s.retrain (spanPort x) = s.linkLost (spanPort x) := by
  simp only [State.retrain, isSpan_spanPort, if_true]

/-- The third timeout in a row is one that two or more others precede (R86). -/
theorem State.cmisTransaction_eq (s : State) (x : Nat) : s.cmisTransaction x =
    if 2 ≤ (s.cmis x).timeouts then s.cmisTimeout x else s.setCmis x { s.cmis x with timeouts := (s.cmis x).timeouts + 1 } :=
  if_congr Nat.succ_le_succ_iff rfl rfl

theorem exec_cmisCmd (x : Fin 32) (word : Word) (s : State) : exec (.cmisCmd x word) s = execCmisCmd x word s := rfl

theorem exec_cmisAccessComplete (x : Fin 32) (timed : Bool) (data : Vector Word 16) (s : State) :
    exec (.cmisAccessComplete x timed data) s = execCmisAccessComplete x timed data s := rfl

theorem exec_presenceDeassert (x : Fin 32) (s : State) : exec (.presenceDeassert x) s = execPresenceDeassert x s := rfl

theorem exec_spanHoldmaxExpiry (x : Fin 32) (s : State) : exec (.spanHoldmaxExpiry x) s = execSpanHoldmaxExpiry x s := rfl

theorem exec_spanPortEnable (x : Fin 32) (on : Bool) (s : State) : exec (.spanPortEnable x on) s = execSpanPortEnable x on s := rfl

theorem exec_cmisAccessComplete_idle {s : State} {x : Fin 32} (timed : Bool) (data : Vector Word 16) (h : (s.cmis x).access = none) :
    exec (.cmisAccessComplete x timed data) s = .next s := by
  simp only [exec_cmisAccessComplete, execCmisAccessComplete, h]

section

variable {s : State} {x : Fin 32} (ha : s.awake = true)
include ha

/-! ### The bring-up (R85, R86, R87) -/

theorem exec_cagePresence_awake (info : PlugInfo) :
    let seen := s.cmisFld x Fld.CL_SX_CMIS_STAT_PRESENT 1
    exec (.cagePresence x info) s = .next ((seen.setCmis x { seen.cmis x with info := some info }).tryBringUp x) :=
  if_pos ha

theorem exec_moduleReady_awake :
    let ready := s.cmisFld x Fld.CL_SX_CMIS_STAT_MODSTATE 3
    exec (.moduleReady x) s = .next (if (s.cmis x).step = 3 then (ready.setCmis x { ready.cmis x with
      step := 4
      waitAt := ready.tick
      timeouts := 0 }).emit (.cmis x cmisActivate) else s) :=
  next_ite_awake ha _ _

theorem exec_dpActivated_awake (st : BitVec 4) :
    let active := s.cmisFld x Fld.CL_SX_CMIS_STAT_DPSTATE st.toNat
    let up := active.setCmis x { active.cmis x with
      step := 0
      timeouts := 0 }
    exec (.dpActivated x st) s = .next (if (s.cmis x).step = 4 then
      if up.loopHeld (spanPort x) then up else up.setPortState (spanPort x) pAlign else s) :=
  next_ite_awake ha _ _

theorem exec_cmisWaitTimeout_awake : exec (.cmisWaitTimeout x) s =
    .next (if (s.cmis x).step ≠ 0 ∧ s.since (s.cmis x).waitAt (s.cmis x).bound = true then s.cmisTimeout x else s) :=
  next_ite_awake ha _ _

theorem exec_cmisTransactionTimeout_awake :
    exec (.cmisTransactionTimeout x) s = .next (if s.present x = true then s.cmisTransaction x else s) :=
  next_ite_awake ha _ _

theorem exec_intl_awake (fl : PlugFlags) : exec (.intl x fl) s = .next (if s.present x = true then s.readFlags x fl true else s) :=
  next_ite_awake ha _ _

theorem exec_cmisFlagPoll_awake (fl : PlugFlags) :
    exec (.cmisFlagPoll x fl) s = .next (if s.present x = true then s.readFlags x fl false else s) :=
  next_ite_awake ha _ _

/-! ### Window accesses (R88) -/

theorem exec_cmisCmd_awake (word : Word) :
    let val := word &&& cmisCmdMask
    let put := fun (busy status : Nat) => s.setReg (Reg.CL_SX_CMIS_CMD x)
      (Fld.CL_SX_CMIS_CMD_BUSY.put busy (Fld.CL_SX_CMIS_CMD_STATUS.put status val))
    exec (.cmisCmd x word) s = .next (if (s.reg (Reg.CL_SX_CMIS_CMD x)).getLsbD 63 = true then s
      else if s.present x = false then put 0 3
      else if s.cmisDenied x val = true then put 0 1 else (put 1 0).setCmis x { (put 1 0).cmis x with access := some val }) := by
  simp only [exec_cmisCmd, execCmisCmd, ha, true_and, Bool.not_eq_true', ← Bool.not_eq_true, ite_not, apply_ite Host.Outcome.next]

variable {val : Word} (data : Vector Word 16) (h : (s.cmis x).access = some val)
include h

/-- An access that times out ends with its status, and counts as a timeout of the agent (R86). -/
theorem exec_cmisAccessComplete_timedOut :
    let idle := (s.setCmis x { s.cmis x with access := none }).setFld (Reg.CL_SX_CMIS_CMD x) Fld.CL_SX_CMIS_CMD_BUSY 0
    exec (.cmisAccessComplete x true data) s =
      .next ((idle.setFld (Reg.CL_SX_CMIS_CMD x) Fld.CL_SX_CMIS_CMD_STATUS 2).cmisTransaction x) := by
  simp only [exec_cmisAccessComplete, execCmisAccessComplete, h, ha, if_true]

/-- An access that ends in time: a read leaves its bytes in front of the window's old ones. -/
theorem exec_cmisAccessComplete_ok :
    let idle := (s.setCmis x { s.cmis x with access := none }).setFld (Reg.CL_SX_CMIS_CMD x) Fld.CL_SX_CMIS_CMD_BUSY 0
    let ok := idle.setFld (Reg.CL_SX_CMIS_CMD x) Fld.CL_SX_CMIS_CMD_STATUS 0
    let done := ok.setCmis x { ok.cmis x with
      access := none
      timeouts := 0 }
    let len := if Fld.CL_SX_CMIS_CMD_LEN.get val = 0 then 128 else min 128 (Fld.CL_SX_CMIS_CMD_LEN.get val)
    let window := (List.range 16).flatMap (fun i => beBytes 8 (done.reg (Reg.CL_SX_CMIS_DATA x i)).toNat)
    exec (.cmisAccessComplete x false data) s = .next (if Fld.CL_SX_CMIS_CMD_WRITE.get val = 1 then done
      else (List.range 16).foldl (fun (t : State) i => t.setReg (Reg.CL_SX_CMIS_DATA x i)
        (BitVec.ofNat 64 (natAt (windowBytes window (data.toList.flatMap (fun w => beBytes 8 w.toNat)) len) (8 * i) 8))) done) := by
  intro idle ok done len window
  rw [apply_ite Host.Outcome.next]
  simp only [exec_cmisAccessComplete, execCmisAccessComplete, h, ha, if_true, Bool.false_eq_true, if_false]
  rfl

end

/-! ### Presence lost, RETRAIN, HOLD, ENABLE and Loft copies (R89, R90, R91, R92) -/

section

variable {s : State} {x : Fin 32} (ha : s.awake = true)
include ha

/-- The loss of presence returns the cage's power and drops the bring-up with the pluggable. -/
theorem exec_presenceDeassert_awake :
    let gone := (s.cmisFld x Fld.CL_SX_CMIS_STAT_PRESENT 0).cmisFld x Fld.CL_SX_CMIS_STAT_REFUSE 0
    let power := if (gone.cmis x).caged = true then gone.setBits Reg.WCH_CAGEPWR (BitVec.ofNat 64 (2 ^ x.val)) else gone
    let lost := (power.setCmis x { power.cmis x with
      step := 0
      caged := false
      info := none }).linkLost (spanPort x)
    exec (.presenceDeassert x) s = .next (if s.present x = true then
      if lost.holding (spanPort x) = true then lost.setPortState (spanPort x) pHold
      else if lost.portState (spanPort x) = pDark then lost else lost.goDark (spanPort x) else s) := by
  simp only [exec_presenceDeassert, execPresenceDeassert, ha, true_and, apply_ite Host.Outcome.next]

theorem exec_spanRetrain_awake : exec (.spanRetrain x) s = .next (s.linkLost (spanPort x)) :=
  (if_pos ha).trans (congrArg Host.Outcome.next (s.retrain_span x))

/-- HOLD ends in DARK with an event and a record. -/
theorem exec_spanHoldmaxExpiry_awake : exec (.spanHoldmaxExpiry x) s =
    .next (if s.holding (spanPort x) = true ∧ s.since (s.link (spanPort x)).holdAt (secTicks (s.holdMax x)) = true
      then s.holdExpire (spanPort x) else s) := by
  simp only [exec_spanHoldmaxExpiry, execSpanHoldmaxExpiry, ha, true_and, State.holdOver, Bool.and_eq_true, apply_ite Host.Outcome.next]

theorem exec_spanPortEnable_on : exec (.spanPortEnable x true) s =
    .next (((s.setFld (Reg.CL_SX_CTL x) Fld.CL_SX_CTL_ENABLE 1).wakeCluster (x / 2)).tryBringUp x) :=
  (if_pos ha).trans (if_pos rfl)

theorem exec_spanPortEnable_off :
    let off := s.setFld (Reg.CL_SX_CTL x) Fld.CL_SX_CTL_ENABLE 0
    exec (.spanPortEnable x false) s = .next (if off.portState (spanPort x) = pDark then off
      else (off.linkLost (spanPort x)).goDark (spanPort x)) := by
  simp only [exec_spanPortEnable, execSpanPortEnable, ha, if_true, Bool.false_eq_true, if_false, b2n, apply_ite Host.Outcome.next]

theorem exec_loftCopyDone_awake (v : Fin 8) (seq : BitVec 32) :
    exec (.loftCopyDone x v seq) s = .next (s.setVc (spanPort x) v { s.vc (spanPort x) v with
      unacked := (s.vc (spanPort x) v).unacked.map (fun c => if c.seq = seq then { c with inBuf := false } else c) }) :=
  if_pos ha

end

/-! ### The statement -/

/-- Settles O16: each event of a span port in a state above WATCH; a wait and a third transaction that time out end the bring-up alike. -/
theorem spanPortEvents : Obligations.SpanPortEvents := by
  intro s x ha port c cmd
  refine ⟨exec_cagePresence_awake ha, exec_moduleReady_awake ha, exec_dpActivated_awake ha,
    ⟨exec_cmisWaitTimeout_awake ha, ?_⟩, fun fl => ⟨exec_intl_awake ha fl, exec_cmisFlagPoll_awake ha fl⟩, exec_cmisCmd_awake ha,
    fun timed data => exec_cmisAccessComplete_idle timed data,
    fun val data h => ⟨exec_cmisAccessComplete_timedOut ha data h, exec_cmisAccessComplete_ok ha data h⟩,
    exec_presenceDeassert_awake ha, exec_spanRetrain_awake ha, exec_spanHoldmaxExpiry_awake ha, exec_spanPortEnable_on ha,
    exec_spanPortEnable_off ha, exec_loftCopyDone_awake ha⟩
  rw [exec_cmisTransactionTimeout_awake ha, State.cmisTransaction_eq]
  rfl

end Sys2Proof.Machine
end

section
/-! The Loft: the region sizes that LFT_PART takes, and the findings of reads and of the patrol. -/

namespace Sys2Proof.Machine

/-! ### LFT_PART (R101, R102) -/

theorem partSize_hold (w : Word) : partSize w 1 = Fld.LFT_PART_HOLD.get w := rfl

theorem partSize_spill (w : Word) : partSize w 2 = Fld.LFT_PART_SPILL.get w := rfl

theorem partSize_capt (w : Word) : partSize w 3 = Fld.LFT_PART_CAPT.get w := rfl

theorem partSize_dump (w : Word) : partSize w 4 = Fld.LFT_PART_DUMP.get w := rfl

/-- The four conditions of R102, by the fields of LFT_PART. -/
theorem State.partOk_iff (s : State) (val : Word) : s.partOk val = true ↔
    Fld.LFT_PART_DUMP.get val + Fld.LFT_PART_CAPT.get val + Fld.LFT_PART_HOLD.get val + Fld.LFT_PART_SPILL.get val = 1111 ∧
    (32 ≤ Fld.LFT_PART_HOLD.get val ∧ Fld.LFT_PART_CAPT.get val ≤ 16 ∧ 16 ≤ Fld.LFT_PART_DUMP.get val) ∧
    (∀ r ∈ [(1, Fld.LFT_PART_HOLD), (2, Fld.LFT_PART_SPILL), (3, Fld.LFT_PART_CAPT), (4, Fld.LFT_PART_DUMP)],
      r.2.get val < r.2.get (s.reg Reg.LFT_PART) → s.loftUse r.1 = 0) ∧
    (Fld.LFT_PART_HOLD.get val ≠ Fld.LFT_PART_HOLD.get (s.reg Reg.LFT_PART) → ∀ x : Fin 32, s.portState (spanPort x) = pDark) := by
  have hsum : Fld.LFT_PART_DUMP.get val + Fld.LFT_PART_CAPT.get val + Fld.LFT_PART_HOLD.get val + Fld.LFT_PART_SPILL.get val =
      partSize val 1 + partSize val 2 + partSize val 3 + partSize val 4 := by
    simp only [partSize_hold, partSize_spill, partSize_capt, partSize_dump]
    omega
  rw [hsum]
  simp only [State.partOk, Bool.and_eq_true, Bool.or_eq_true, beq_iff_eq, decide_eq_true_eq, List.all_eq_true, List.mem_range, and_assoc]
  simp only [List.forall_mem_cons, List.not_mem_nil, false_imp_iff, implies_true, partSize_hold, partSize_spill, partSize_capt,
    partSize_dump, or_iff_not_imp_left, not_le, ne_comm, Fin.forall_iff, and_assoc]

theorem exec_lftPartWrite (val : Word) (s : State) : exec (.lftPartWrite val) s = execLftPartWrite val s := rfl

section

variable {s : State} (ha : s.awake = true) {val : Word}
include ha

theorem exec_lftPartWrite_takes (h : s.partOk val = true) :
    exec (.lftPartWrite val) s = .next (s.setReg Reg.LFT_PART (pack [(Fld.LFT_PART_DUMP, partSize val 4),
      (Fld.LFT_PART_CAPT, partSize val 3), (Fld.LFT_PART_HOLD, partSize val 1), (Fld.LFT_PART_SPILL, partSize val 2),
      (Fld.LFT_PART_RETRY, 41)])) := by
  simp only [exec_lftPartWrite, execLftPartWrite, ha, h, Bool.not_true, Bool.false_eq_true, if_false, if_true]

theorem exec_lftPartWrite_rejects (h : s.partOk val = false) :
    exec (.lftPartWrite val) s = .next (s.raise Reg.LFT_EVT 0 11 srcLoft) := by
  simp only [exec_lftPartWrite, execLftPartWrite, ha, h, Bool.not_true, Bool.false_eq_true, if_false]

end

/-- Settles O48: the four conditions are those of the model's check. -/
theorem loftPartition : Obligations.LoftPartition := by
  intro s val ha old takes
  have htakes : s.partOk val = true ↔ takes := s.partOk_iff val
  exact ⟨fun h => exec_lftPartWrite_takes ha (htakes.mpr h),
    fun h => exec_lftPartWrite_rejects ha (Bool.eq_false_iff.mpr (mt htakes.mp h))⟩

/-! ### Findings (R100, R104, R105) -/

/-- A finding at an address outside the Loft is none; the others act in order. -/
theorem exec_loftPatrol_awake {s : State} (ha : s.awake = true) (hp : s.pathCut = false) (l : List LoftFinding) :
    exec (.loftPatrol l) s = .next (l.foldl (fun (t : State) f => if f.wf = true then t.loftFinding f else t) s) := by
  rw [← List.foldl_filter]
  exact (if_neg (Bool.eq_false_iff.mp hp)).trans (if_pos ha)

/-- Where the datapath was taken in the same tick, a finding is logged only. -/
theorem exec_loftPatrol_cut {s : State} (hp : s.pathCut = true) (l : List LoftFinding) :
    exec (.loftPatrol l) s = .next (l.foldl (fun (t : State) f => if LoftFinding.grave f = true then t.logEvent 5 srcLoft true else t) s) := by
  rw [← List.foldl_filter]
  exact if_pos hp

/-- One finding inside the Loft has its effect. -/
theorem exec_loftPatrol_one {s : State} (ha : s.awake = true) (hp : s.pathCut = false) {f : LoftFinding} (hf : f.wf = true) :
    exec (.loftPatrol [f]) s = .next (s.loftFinding f) := by
  simp only [exec_loftPatrol_awake ha hp, List.foldl_cons, List.foldl_nil, hf, if_true]

/-- Settles O18: LFT_PART by the model's check; findings one by one, in their order, and after the datapath was taken. -/
theorem loftCommands : Obligations.LoftCommands := by
  refine ⟨fun s val ha => ⟨exec_lftPartWrite_takes ha, exec_lftPartWrite_rejects ha⟩, ?_,
    fun s k ha hp => exec_loftPatrol_one ha hp rfl, ?_, ?_⟩
  · intro s a ha hp hin k
    have hwf : decide (a < 288 * 2 ^ 30) = true := decide_eq_true hin
    exact ⟨exec_loftPatrol_one ha hp hwf, fun u => exec_loftPatrol_one ha hp (f := .uncorrectable a u) hwf⟩
  · intro s l ha hp
    rw [exec_loftPatrol_awake ha hp]
    congr 2
    funext t f
    cases f <;> simp only [LoftFinding.wf, decide_eq_true_eq, if_true]
  · intro s l hp
    rw [exec_loftPatrol_cut hp]
    congr 2
    funext t f
    cases f <;> simp only [LoftFinding.grave, Bool.false_eq_true, if_false, if_true]

end Sys2Proof.Machine
end

section
/-! The bypass engine: entries taken into the pending table, their instant, the paths that settle or fail, and its commands. -/

namespace Sys2Proof.Machine

/-! ### Entries taken (R110, R111) -/

theorem exec_bypassConnect (s : State) :
    exec .bypassConnect s = .next (s.bypassTake (fun op => op != opRelease && op != opLoop)) := rfl

theorem exec_bypassRelease (s : State) : exec .bypassRelease s = .next (s.bypassTake (fun op => op == opRelease)) := rfl

theorem exec_bypassLoop (s : State) : exec .bypassLoop s = .next (s.bypassTake (fun op => op == opLoop)) := rfl

/-- With room in the pending table, the entry in front is taken by the command of its OP. -/
theorem State.bypassTake_eq {s : State} {q : Nat} {e : Entry} (ha : s.awake = true) (he : s.nextEntry engBypass = some (q, e))
    (hroom : s.eng.bypass.length < 256) (mine : Nat → Bool) :
    s.bypassTake mine = if mine (entryOp e) = true then
      (if (s.popQueue engBypass q).bypassCheck e = bcOk then
        (s.popQueue engBypass q).onEng (fun x => { x with bypass := x.bypass ++ [e] })
      else (s.popQueue engBypass q).bypassDone e ((s.popQueue engBypass q).bypassCheck e) 0) else s := by
  simp only [State.bypassTake, he, ha, hroom, true_and, and_true]

/-- Without an entry or without room none is taken. -/
theorem State.bypassTake_none {s : State} (h : s.nextEntry engBypass = none ∨ 256 ≤ s.eng.bypass.length) (mine : Nat → Bool) :
    s.bypassTake mine = s := by
  unfold State.bypassTake
  split
  · rfl
  next q e he =>
    have hfull : 256 ≤ s.eng.bypass.length := h.resolve_left (by simp [he])
    exact if_neg (fun hc => absurd hc.2.2 (Nat.not_lt.mpr hfull))

/-! ### The instant (R112, R113, R115) -/

theorem exec_bypassInstant_none {s : State} (h : earliest s.eng.bypass = none) : exec .bypassInstant s = .next s := by
  simp only [exec, execBypassInstant, h]

theorem exec_bypassInstant_some {s : State} {t : Nat} (ha : s.awake = true) (h : earliest s.eng.bypass = some t) :
    exec .bypassInstant s = .next (if t ≤ s.nowNs then
      (s.holdtoRun.eng.bypass.filter (fun e => bypInstant e == t)).foldl (fun (s : State) e => s.bypassRun e)
        (s.holdtoRun.onEng (fun x => { x with bypass := x.bypass.filter (fun e => bypInstant e != t) })) else s) := by
  simp only [exec, execBypassInstant, h]
  exact next_ite_awake ha _ _

theorem State.bypassRun_fails {s : State} {e : Entry} (h : s.bypassJudge e ≠ bcOk) :
    s.bypassRun e = s.bypassDone e (s.bypassJudge e) 0 := if_pos h

/-- An entry that passes darkens its ports and joins the paths that move; its ports show the path of its OP. -/
theorem State.bypassRun_passes {s : State} {e : Entry} (h : s.bypassJudge e = bcOk) :
    let a := bypA e
    let b := bypB e
    let moves := ((s.bypassDark a).bypassDark b).onEng (fun x => { x with moving := x.moving ++ [(a, b, e, bypInstant e)] })
    let st := if entryOp e = opConnect then 1 else if entryOp e = opLoop then 2 else 0
    s.bypassRun e = ((if st = 0 then (moves.setPath a 0 0).setPath b 0 0 else (moves.setPath a st b).setPath b st a).settleCauses
      a).settleCauses b := if_neg (not_not_intro h)

/-! ### Paths that move (R115, R116) -/

section

variable {s : State} {p : Fin 512}

theorem exec_svbPathEstablished_still (h : s.movingAt p = none) (settle : BitVec 14) :
    exec (.svbPathEstablished p settle) s = .next s := by
  simp only [exec, execSvbPathEstablished, h]

theorem exec_svbPathFault_still (h : s.movingAt p = none) : exec (.svbPathFault p) s = .next s := by
  simp only [exec, execSvbPathFault, h]

variable (ha : s.awake = true) {a b t : Nat} {e : Entry} (h : s.movingAt p = some (a, b, e, t))
include ha h

theorem exec_svbPathEstablished_moving (settle : BitVec 14) :
    let ended := (s.endMove p).bypassDone e bcOk settle.toNat
    exec (.svbPathEstablished p settle) s = .next (if settle.toNat ≤ 4000 ∧ s.nowNs ≤ t + 4000 then
      if a = b then ended.portLit a else (ended.portLit a).portLit b else s) := by
  simp only [exec, execSvbPathEstablished, h]
  exact next_ite_awake ha _ _

theorem exec_svbPathFault_moving :
    let dead := ((s.endMove p).setPath a 3 0).setPath b 3 0
    let failed := (((dead.settleCauses a).settleCauses b).bypassDone e bcFault 0).raise Reg.SVB_EVT 2 11 srcSvetna
    exec (.svbPathFault p) s = .next (if t + 4000 ≤ s.nowNs then failed.faultRecord
      { unitType := utSvetna, register := 1, cause := 2, action := 7, detail := failed.reg Reg.SVB_EVT } else s) := by
  simp only [exec, execSvbPathFault, h]
  exact next_ite_awake ha _ _

end

/-! ### DRAIN, FORCE, RESUME (R120, R464) -/

section

variable {s : State} (ha : s.awake = true)
include ha

theorem exec_svbDrain_awake : exec .svbDrain s = .next (s.setHold engBypass (max 1 (s.hold engBypass))) := if_pos ha

theorem exec_svbForce_awake : exec .svbForce s = .next (s.forceBypass 0) := if_pos ha

theorem exec_svbResume_awake : exec .svbResume s = .next (s.setHold engBypass 0) := if_pos ha

end

/-! ### The statement -/

/-- Settles O17: the entry in front by the command of its OP, its instant by R112's verdict, then the paths and the commands. -/
theorem bypassEngineCommands : Obligations.BypassEngineCommands := by
  refine ⟨?taken, fun s h => ?untaken, fun s h => exec_bypassInstant_none h, fun s t ha h => exec_bypassInstant_some ha h, ?passes,
    fun s e h => State.bypassRun_fails h,
    fun s p a b t e settle ha h => ⟨exec_svbPathEstablished_moving ha h settle, exec_svbPathFault_moving ha h⟩,
    fun s p settle h => ⟨exec_svbPathEstablished_still h settle, exec_svbPathFault_still h⟩,
    fun s ha => ⟨exec_svbDrain_awake ha, exec_svbForce_awake ha, exec_svbResume_awake ha⟩⟩
  case taken =>
    intro s q e ha he hroom popped taken
    rw [exec_bypassConnect, exec_bypassRelease, exec_bypassLoop]
    simp only [State.bypassTake_eq ha he hroom, Bool.and_eq_true, bne_iff_ne, beq_iff_eq]
    exact ⟨rfl, rfl, rfl⟩
  case untaken =>
    rw [exec_bypassConnect, exec_bypassRelease, exec_bypassLoop]
    simp only [State.bypassTake_none h, and_self]
  case passes =>
    intro s e h a b dark moves
    have hrun := State.bypassRun_passes h
    refine ⟨fun hop => ?_, fun hop => ?_, fun hop => ?_⟩ <;> rw [hop] at hrun <;> exact hrun

end Sys2Proof.Machine
end

section
/-! The completion rings: what a record written leaves in its ring's registers, and what a write of the tail does. -/

namespace Sys2Proof.Machine

/-! ### Events and the other registers (R382, R384) -/

/-- An event's log record changes no register outside the log, its class's count and WCH_EVT. -/
theorem State.reg_logEvent_ne {s : State} (h : s.regsOk) {cls src j : Nat} {b : Bool} (hcnt : j ≠ Reg.WCH_EVCNT cls)
    (hlog : ∀ i, i < 4096 → j ≠ Reg.WCH_EVLOG i) (hhead : j ≠ Reg.WCH_EVHEAD) (hevt : j ≠ Reg.WCH_EVT) :
    (s.logEvent cls src b).reg j = s.reg j := by
  have hat : s.fld Reg.WCH_EVHEAD ⟨0, 12⟩ < 4096 := Nat.mod_lt _ (by decide)
  have hbump := State.bump_regsOk h (Reg.WCH_EVCNT cls) 1
  have hrec := State.logRecord_regsOk hbump (s.fld Reg.WCH_EVHEAD ⟨0, 12⟩) (pack [(Fld.WCH_EVLOG_TICK, s.tick),
    (Fld.WCH_EVLOG_CLASS, cls), (Fld.WCH_EVLOG_CANCELLED, b2n b), (Fld.WCH_EVLOG_SOURCE, src)])
  have hread : ((s.bump (Reg.WCH_EVCNT cls) 1).logRecord (s.fld Reg.WCH_EVHEAD ⟨0, 12⟩) (pack [(Fld.WCH_EVLOG_TICK, s.tick),
      (Fld.WCH_EVLOG_CLASS, cls), (Fld.WCH_EVLOG_CANCELLED, b2n b), (Fld.WCH_EVLOG_SOURCE, src)])).reg j = s.reg j := by
    refine (State.slideLog_reg _ _ _ j (State.setReg_regsOk hbump _ _) hat hlog).trans ?_
    rw [State.reg_setReg_ne hbump _ (hlog _ hat)]
    exact State.reg_setReg_ne h _ hcnt
  have hmoved := (State.reg_setReg_ne hrec (BitVec.ofNat 64 ((s.fld Reg.WCH_EVHEAD ⟨0, 12⟩ + 1) % 4096)) hhead).trans hread
  simp only [State.logEvent]
  split
  · exact hmoved
  · exact (State.reg_setReg_ne (State.setReg_regsOk hrec _ _) _ hevt).trans hmoved

/-! ### The registers of a ring -/

/-- A ring's registers lie above the event log and apart from each other, and its event bits are bits of a word. -/
structure RingRegs.Apart (r : RingRegs) : Prop where
  tail_eq : r.tail = r.head + 8
  above_head : 0x9000 ≤ r.head
  above_evt : 0x9000 ≤ r.evt
  evt_head : r.evt ≠ r.head
  evt_tail : r.evt ≠ r.tail
  evt_records : r.evt < r.records
  tail_records : r.tail < r.records
  done_lt : r.done < 64
  refused_lt : r.refused < 64
  crovf_lt : r.crovf < 64

/-- By the addresses of each ring's registers; those of a cluster and of a channel lie at one distance from their base. -/
theorem ringRegs_apart (ring : Ring) : (ringRegs ring).Apart := by
  cases ring <;> constructor <;>
    simp only [ringRegs, Reg.SVB_EVT, Reg.SVB_CRHEAD, Reg.SVB_CRTAIL, Reg.SVB_CRING, Reg.TBL_EVT, Reg.TBL_CRHEAD, Reg.TBL_CRTAIL,
      Reg.TBL_CRING, Reg.DSP_EVT, Reg.DSP_CRHEAD, Reg.DSP_CRTAIL, Reg.DSP_CRING, Reg.GRN_EVT, Reg.GRN_CRHEAD, Reg.GRN_CRTAIL,
      Reg.GRN_CRING, Reg.SEC_EVT, Reg.SEC_SCR_CRHEAD, Reg.SEC_SCR_CRTAIL, Reg.SEC_SCR_CRING, Reg.LFT_DMP_EVT, Reg.LFT_DMP_CRHEAD,
      Reg.LFT_DMP_CRTAIL, Reg.LFT_DMP_CRING, Reg.WCH_TSTEVT, Reg.WCH_TSTHEAD, Reg.WCH_TSTTAIL, Reg.WCH_TSTRES, clusterBase] <;>
    omega

/-- Above the event log, a ring's event does no more than set its bit. -/
theorem State.reg_ringEvent {s : State} (h : s.regsOk) (r : RingRegs) (bit : Nat) {j : Nat} (hj : 0x9000 ≤ j) :
    (s.ringEvent r bit).reg j = (s.setBits r.evt (BitVec.ofNat 64 (2 ^ bit))).reg j := by
  unfold State.ringEvent
  split
  · rfl
  · refine State.reg_logEvent_ne (State.setBits_regsOk h _ _) ?_ (fun i hi => ?_) ?_ ?_ <;>
      simp only [Reg.WCH_EVCNT, Reg.WCH_EVLOG, Reg.WCH_EVHEAD, Reg.WCH_EVT] <;> omega

theorem State.reg_ringEvent_ne {s : State} (h : s.regsOk) (r : RingRegs) (bit : Nat) {j : Nat} (hj : 0x9000 ≤ j) (hne : j ≠ r.evt) :
    (s.ringEvent r bit).reg j = s.reg j :=
  (State.reg_ringEvent h r bit hj).trans (State.reg_setReg_ne h _ hne)

/-- A ring's event sets its bit and keeps the others. -/
theorem State.evt_ringEvent {s : State} (h : s.regsOk) {r : RingRegs} (hr : r.Apart) {bit i : Nat} (hi : i < 64) :
    ((s.ringEvent r bit).reg r.evt).getLsbD i = ((s.reg r.evt).getLsbD i || decide (bit = i)) := by
  rw [State.reg_ringEvent h r bit hr.above_evt, State.setBits, State.reg_setReg_self h, BitVec.getLsbD_or, BitVec.getLsbD_ofNat,
    Nat.testBit_two_pow, decide_eq_true hi, Bool.true_and]

/-! ### A record written (R117) -/

/-- A number below 256 is the index that its register holds. -/
theorem Fld.get_index {n : Nat} (h : n < 256) : (⟨0, 8⟩ : Fld).get (BitVec.ofNat 64 n) = n := by
  simp only [Fld.get, BitVec.toNat_ofNat]
  omega

/-- The state with a record placed and the indices moved, before the events. -/
def State.ringPlaced (s : State) (r : RingRegs) (w : Word) : State :=
  let placed := (s.setReg (r.records + 8 * s.fld r.head ⟨0, 8⟩) w).setReg r.head (BitVec.ofNat 64 ((s.fld r.head ⟨0, 8⟩ + 1) % 256))
  if s.ringUnread r = 255 then placed.setReg r.tail (BitVec.ofNat 64 ((s.fld r.tail ⟨0, 8⟩ + 1) % 256)) else placed

/-- The event bits that a record sets, in their order. -/
def State.ringBits (s : State) (r : RingRegs) (refused : Bool) : List Nat :=
  (if s.ringUnread r = 255 then [r.crovf] else []) ++ r.done :: if refused = true then [r.refused] else []

section

variable {s : State} (h : s.regsOk)
include h

theorem State.ringPlaced_regsOk (r : RingRegs) (w : Word) : (s.ringPlaced r w).regsOk := by
  have hplaced := State.setReg_regsOk (State.setReg_regsOk h (r.records + 8 * s.fld r.head ⟨0, 8⟩) w) r.head
    (BitVec.ofNat 64 ((s.fld r.head ⟨0, 8⟩ + 1) % 256))
  unfold State.ringPlaced
  split
  · exact State.setReg_regsOk hplaced _ _
  · exact hplaced

theorem State.reg_ringPlaced (r : RingRegs) (w : Word) (j : Nat) : (s.ringPlaced r w).reg j =
    if s.ringUnread r = 255 ∧ j = r.tail then BitVec.ofNat 64 ((s.fld r.tail ⟨0, 8⟩ + 1) % 256)
    else if j = r.head then BitVec.ofNat 64 ((s.fld r.head ⟨0, 8⟩ + 1) % 256)
    else if j = r.records + 8 * s.fld r.head ⟨0, 8⟩ then w else s.reg j := by
  have hrec := State.setReg_regsOk h (r.records + 8 * s.fld r.head ⟨0, 8⟩) w
  unfold State.ringPlaced
  split
  next hfull => simp only [State.reg_setReg (State.setReg_regsOk hrec _ _), State.reg_setReg hrec, State.reg_setReg h, hfull, true_and]
  next hroom => simp only [State.reg_setReg hrec, State.reg_setReg h, hroom, false_and, if_false]

/-- Events of a ring keep every register above the log but the ring's event register, in which they set their bits. -/
theorem State.foldl_ringEvent {r : RingRegs} (hr : r.Apart) (bits : List Nat) :
    (bits.foldl (fun t b => t.ringEvent r b) s).regsOk ∧
    (∀ j, 0x9000 ≤ j → j ≠ r.evt → (bits.foldl (fun t b => t.ringEvent r b) s).reg j = s.reg j) ∧
    ∀ i, i < 64 → ((bits.foldl (fun t b => t.ringEvent r b) s).reg r.evt).getLsbD i = ((s.reg r.evt).getLsbD i || decide (i ∈ bits)) := by
  induction bits generalizing s with
  | nil => exact ⟨h, fun _ _ _ => rfl, fun i _ => by simp⟩
  | cons b bits ih =>
    obtain ⟨hok, hreg, hevt⟩ := ih (State.ringEvent_regsOk h r b)
    refine ⟨hok, fun j hj hne => (hreg j hj hne).trans (State.reg_ringEvent_ne h r b hj hne), fun i hi => (hevt i hi).trans ?_⟩
    simp only [State.evt_ringEvent h hr hi, List.mem_cons, Bool.decide_or, Bool.or_assoc, eq_comm]

/-- A record is placed, and then its events are raised in their order. -/
theorem State.ringWrite_eq (ring : Ring) (w : Word) (refused : Bool) : s.ringWrite ring w refused =
    (s.ringBits (ringRegs ring) refused).foldl (fun t b => t.ringEvent (ringRegs ring) b) (s.ringPlaced (ringRegs ring) w) := by
  obtain ⟨htail, -, -, -, -, -, hrecords, -, -, -⟩ := ringRegs_apart ring
  set r := ringRegs ring
  have hkept : ((s.setReg (r.records + 8 * s.fld r.head ⟨0, 8⟩) w).setReg r.head
      (BitVec.ofNat 64 ((s.fld r.head ⟨0, 8⟩ + 1) % 256))).fld r.tail ⟨0, 8⟩ = s.fld r.tail ⟨0, 8⟩ := by
    simp only [State.fld, State.reg_setReg (State.setReg_regsOk h _ _), State.reg_setReg h, if_neg (show r.tail ≠ r.head by omega),
      if_neg (show r.tail ≠ r.records + 8 * (⟨0, 8⟩ : Fld).get (s.reg r.head) by omega)]
  by_cases hfull : s.ringUnread r = 255 <;> cases refused <;>
    simp [State.ringWrite, State.ringBits, State.ringPlaced, hfull, hkept, r]

end

theorem State.crovf_mem_ringBits {s : State} {r : RingRegs} (hfull : s.ringUnread r = 255) (refused : Bool) :
    r.crovf ∈ s.ringBits r refused :=
  List.mem_append_left _ (by simp only [hfull, if_true, List.mem_singleton])

theorem State.done_mem_ringBits (s : State) (r : RingRegs) (refused : Bool) : r.done ∈ s.ringBits r refused :=
  List.mem_append_right _ List.mem_cons_self

theorem State.refused_mem_ringBits (s : State) (r : RingRegs) : r.refused ∈ s.ringBits r true :=
  List.mem_append_right _ (List.mem_cons_of_mem _ List.mem_cons_self)

/-- What a record written leaves in its ring's registers. -/
theorem State.ringWrite_reads {s : State} (h : s.regsOk) (ring : Ring) (w : Word) (refused : Bool) :
    (∀ j, 0x9000 ≤ j → j ≠ (ringRegs ring).evt → (s.ringWrite ring w refused).reg j = (s.ringPlaced (ringRegs ring) w).reg j) ∧
    ∀ i, i < 64 → i ∈ s.ringBits (ringRegs ring) refused → ((s.ringWrite ring w refused).reg (ringRegs ring).evt).getLsbD i = true := by
  obtain ⟨-, hreg, hevt⟩ := State.foldl_ringEvent (State.ringPlaced_regsOk h (ringRegs ring) w) (ringRegs_apart ring)
    (s.ringBits (ringRegs ring) refused)
  rw [State.ringWrite_eq h]
  exact ⟨hreg, fun i hi hmem => by rw [hevt i hi, decide_eq_true hmem, Bool.or_true]⟩

/-! ### The tail (R117) -/

theorem State.ringTail_eq (s : State) (ring : Ring) {i : Nat} (hi : i < 256) : s.ringTail ring i =
    if (i + 256 - s.fld (ringRegs ring).tail ⟨0, 8⟩) % 256 ≤ s.ringUnread (ringRegs ring) then
      s.setReg (ringRegs ring).tail (BitVec.ofNat 64 i) else s := by
  simp only [State.ringTail, Nat.mod_eq_of_lt hi]

/-! ### The statement -/

/-- Settles O53: a record's registers from the state with the record placed, its event bits from the events after it. -/
theorem completionRings : Obligations.CompletionRings := by
  refine ⟨?written, fun s ring i hi => ⟨fun hin => ?_, fun hout => ?_⟩⟩
  case written =>
    intro s ring w refused h r head tail t
    obtain ⟨htail, hhead, -, hevt_head, hevt_tail, hevt_records, htail_records, hdone, hrefused, hcrovf⟩ : r.Apart := ringRegs_apart ring
    obtain ⟨hreg, hbit⟩ := State.ringWrite_reads h ring w refused
    have hread : ∀ j, 0x9000 ≤ j → j ≠ r.evt → t.reg j = _ := fun j hj hne => (hreg j hj hne).trans (State.reg_ringPlaced h r w j)
    refine ⟨?record, ?head, fun hroom => ?tailStays, fun hfull => ⟨?tailMoves, hbit _ hcrovf ?crovf⟩, hbit _ hdone ?done,
      fun hr => hbit _ hrefused ?refused, fun i hi hne => ?others, State.ringWrite_regsOk h ring w refused⟩
    case record =>
      rw [hread _ (by omega) (by omega), if_neg (by omega), if_neg (by omega)]
      exact if_pos rfl
    case head =>
      rw [State.fld, hread _ hhead hevt_head.symm, if_neg (by omega), if_pos rfl]
      exact Fld.get_index (Nat.mod_lt _ (by decide))
    case tailStays =>
      rw [hread _ (by omega) hevt_tail.symm, if_neg (fun hc => hroom hc.1), if_neg (by omega), if_neg (by omega)]
    case tailMoves =>
      rw [State.fld, hread _ (by omega) hevt_tail.symm, if_pos ⟨hfull, rfl⟩]
      exact Fld.get_index (Nat.mod_lt _ (by decide))
    case crovf => exact State.crovf_mem_ringBits hfull refused
    case done => exact State.done_mem_ringBits s r refused
    case refused => exact hr ▸ State.refused_mem_ringBits s r
    case others =>
      rw [hread _ (by omega) (by omega), if_neg (by omega), if_neg (by omega), if_neg (by omega)]
  · exact (State.ringTail_eq s ring hi).trans (if_pos hin)
  · exact (State.ringTail_eq s ring hi).trans (if_neg (Nat.not_le.mpr hout))

end Sys2Proof.Machine
end

section
/-! The crow's nest: a write of LFT_CN_CTL with and without a rise of ENABLE, and a write of LFT_CN_RPTR. -/

namespace Sys2Proof.Machine

/-! ### A capture that starts (R145) -/

/-- A capture starts: records count from 0, and rule i's register is loaded with seed + i, or 1 where that is 0. -/
def State.captStart (s : State) (seed : Nat) : State :=
  s.onTele (fun t => { t with
    captSeq := 0
    captLfsr := (List.range 8).foldl (fun m i => SMap.put 0 m i (lfsrSeed (BitVec.ofNat 32 (seed + i)))) [] })

/-- The rules' registers have 32 bits, so a seed counts modulo 2 ^ 32. -/
theorem State.captStart_mod (s : State) (seed : Nat) : s.captStart (seed % 2 ^ 32) = s.captStart seed := by
  have hload : ∀ i, BitVec.ofNat 32 (seed % 2 ^ 32 + i) = BitVec.ofNat 32 (seed + i) := fun i =>
    BitVec.eq_of_toNat_eq (by simp only [BitVec.toNat_ofNat, Nat.mod_add_mod])
  simp only [State.captStart, hload]

/-! ### LFT_CN_CTL (R145, R147) -/

section

variable {s : State} {val : Word}

theorem State.cnWrite_steady (h : ¬ (val.getLsbD 0 = true ∧ (s.reg Reg.LFT_CN_CTL).getLsbD 0 = false)) :
    s.cnWrite val = s.setReg Reg.LFT_CN_CTL (val &&& 0xFFFFFFFF00000003) :=
  if_neg (by simpa only [Bool.and_eq_true, Bool.not_eq_true'] using h)

theorem State.cnWrite_rises (hnew : val.getLsbD 0 = true) (hold : (s.reg Reg.LFT_CN_CTL).getLsbD 0 = false) :
    let stored := s.setReg Reg.LFT_CN_CTL (val &&& 0xFFFFFFFF00000003)
    s.cnWrite val = (if stored.captSize = 0 then stored.raise Reg.LFT_CN_EVT 2 11 srcCrow else stored).captStart
      (val.toNat / 2 ^ 32) := by
  intro stored
  rw [← State.captStart_mod]
  exact if_pos (by rw [hnew, hold]; rfl)

end

/-! ### The commands -/

section

variable {s : State} (ha : s.awake = true)
include ha

theorem exec_cnEnable_awake (val : Word) : exec (.cnEnable val) s = .next (s.cnWrite val) := if_pos ha

theorem exec_cnRptrWrite_awake (v : BitVec 32) :
    exec (.cnRptrWrite v) s = .next (s.setReg Reg.LFT_CN_RPTR (v.setWidth 64)) := if_pos ha

end

/-! ### The statement -/

/-- Settles O23: the write by whether ENABLE rises; a rise starts the capture after NORING is told. -/
theorem crowsNestRegisters : Obligations.CrowsNestRegisters := by
  intro s val ha stored rises told
  rw [exec_cnEnable_awake ha]
  exact ⟨fun h => congrArg Host.Outcome.next (State.cnWrite_steady h),
    fun ⟨hnew, hold⟩ => congrArg Host.Outcome.next (State.cnWrite_rises hnew hold), exec_cnRptrWrite_awake ha⟩

end Sys2Proof.Machine
end

section
/-! The table engine: an operation of a source on one entry, the entries of its queues, and its commands. -/

namespace Sys2Proof.Machine

/-! ### An operation on one entry (R177, R184) -/

section

variable {s : State} {t i : Nat} (id : Nat) (gen : BitVec 16) (d : BitVec 512)

theorem State.tblOp_read (h : indexBad t i = false) :
    s.tblOp t i toRead false id gen d = ({ status := tsOk, gen := some (s.entry t i).gen, back := some (s.entry t i).data }, s) := by
  simp only [State.tblOp, h, if_true, Bool.false_eq_true, if_false]

theorem State.tblOp_read_range (h : indexBad t i = true) :
    s.tblOp t i toRead false id gen d = ({ status := tsRange }, s) := by
  simp only [State.tblOp, h, if_true]

variable {gen d} {op : Nat} (hop : op ≠ toRead) (hform : formStatus t i (tblNarrow t d) = tsOk)
  (hjob : t = 1 → jobChange (s.entry t i).data (tblNarrow t d) = true)
include hop hform hjob

/-- A change in place whose form is good goes by its status alone. -/
theorem State.tblOp_direct : s.tblOp t i op false id gen d =
    let c := s.directStatus t i op gen (tblNarrow t d)
    if c = tsCasfail then ({ status := c, gen := some (s.entry t i).gen, back := some (s.entry t i).data }, s)
    else if c ≠ tsOk then ({ status := c }, s)
    else ({ status := tsOk, gen := some ((s.entry t i).gen + 1), back := if op = toSwap then some (s.entry t i).data else none },
      s.applyEntries [(t, i, tblNarrow t d)]) := by
  have hkept : ¬ (t = 1 ∧ jobChange (s.entry t i).data (tblNarrow t d) = false) := fun h =>
    Bool.false_ne_true (h.2.symm.trans (hjob h.1))
  simp only [State.tblOp, if_neg hop, hform, Bool.not_false, Bool.not_eq_true', true_and, if_neg hkept, ne_eq, not_true_eq_false,
    Bool.false_eq_true, if_false]

theorem State.tblOp_applied (h : s.directStatus t i op gen (tblNarrow t d) = tsOk) : s.tblOp t i op false id gen d =
    ({ status := tsOk, gen := some ((s.entry t i).gen + 1), back := if op = toSwap then some (s.entry t i).data else none },
      s.applyEntries [(t, i, tblNarrow t d)]) := by
  have hcas : tsOk ≠ tsCasfail := by decide
  simp only [State.tblOp_direct id hop hform hjob, h, if_neg hcas, ne_eq, not_true_eq_false, if_false]

theorem State.tblOp_casfail (h : s.directStatus t i op gen (tblNarrow t d) = tsCasfail) : s.tblOp t i op false id gen d =
    ({ status := tsCasfail, gen := some (s.entry t i).gen, back := some (s.entry t i).data }, s) := by
  simp only [State.tblOp_direct id hop hform hjob, h, if_true]

end

/-! ### A change applied (R170) -/

/-- An applied change is stored, and then brings with it what its table asks for. -/
theorem State.applyEntries_single (s : State) (t i : Nat) (d : BitVec 512) :
    s.applyEntries [(t, i, d)] = (s.storeEntry t i d).afterEntry t i (s.entry t i).data := by
  cases hfree : freesSlot (t, i, (s.entry t i).data) <;>
    simp only [State.applyEntries, List.map_cons, List.map_nil, List.foldl_cons, List.foldl_nil, List.filter_cons, List.filter_nil, hfree,
      Bool.not_true, Bool.not_false, Bool.false_eq_true, if_true, if_false, List.nil_append, List.cons_append]

/-- Outside the Job, Collective Context and Buffer Limit Tables a change brings nothing with it. -/
theorem State.afterEntry_plain (s : State) {t : Nat} (i : Nat) (old : BitVec 512) (h1 : t ≠ 1) (h2 : t ≠ 2) (h5 : t ≠ 5) :
    s.afterEntry t i old = s := by
  simp only [State.afterEntry, h1, h2, h5, false_and, if_false]

/-! ### A write of TBL_CMD (R177, R503) -/

/-- The four operations of TBL_CMD: the OP that each writes, and its command. -/
theorem exec_tblOperation {s : State} {src : Source} {t : Fin 6} {cmd : Word} {x : Nat × Instr}
    (hx : x ∈ [(toRead, .tblRead src t cmd), (toWrite, .tblWrite src t cmd), (toCas, .tblCas src t cmd), (toSwap, .tblSwap src t cmd)]) :
    exec x.2 s = .next (if s.mayWrite src = true then s.tblCommand src t x.1 cmd else s) := by
  rw [apply_ite Host.Outcome.next]
  simp only [List.mem_cons, List.not_mem_nil, or_false] at hx
  obtain rfl | rfl | rfl | rfl := hx <;> rfl

theorem State.tblCommand_eq (s : State) (src : Source) (t op : Nat) (w : Word) :
    s.tblCommand src t op w = if SMap.get 0 s.tbl.busy (banked src (Reg.TBL_CMD t)) = s.tick + 1 then s.setBits Reg.TBL_EVT 8
      else s.tblRunOp src t op w := by
  simp only [State.tblCommand, State.tblBusy, State.opBusy, beq_iff_eq, State.tblCollide]

/-! ### Entries taken (R185) -/

theorem exec_tblEntryWrite (s : State) : exec .tblEntryWrite s = .next (s.tblTake (fun op => op != 2 && op != 3)) := rfl

theorem exec_tblEntryCas (s : State) : exec .tblEntryCas s = .next (s.tblTake (fun op => op == 2)) := rfl

theorem exec_tblImage (s : State) : exec .tblImage s = .next (s.tblTake (fun op => op == 3)) := rfl

/-- With no entry in progress, the entry in front is taken by the command of its OP. -/
theorem State.tblTake_eq {s : State} {q : Nat} {e : Entry} (ha : s.awake = true) (hidle : s.tbl.image = none)
    (he : s.nextEntry engTable = some (q, e)) (mine : Nat → Bool) :
    s.tblTake mine = if mine (entryOp e) = true then (s.popQueue engTable q).tblEntry e else s := by
  simp only [State.tblTake, he, ha, hidle, Option.isNone_none, Bool.true_and]

/-- With no entry to take, or one in progress, none is taken. -/
theorem State.tblTake_none {s : State} (h : s.nextEntry engTable = none ∨ s.tbl.image ≠ none) (mine : Nat → Bool) :
    s.tblTake mine = s := by
  unfold State.tblTake
  split
  · rfl
  next q e he =>
    have hbusy : s.tbl.image ≠ none := h.resolve_left (by simp [he])
    simp [hbusy]

/-! ### DRAIN, FORCE, RESUME (R186) -/

section

variable {s : State} (ha : s.awake = true)
include ha

theorem exec_tblDrain_awake : exec .tblDrain s = .next (s.setHold engTable (max 1 (s.hold engTable))) := if_pos ha

theorem exec_tblForce_awake : exec .tblForce s = .next (s.forceTable 0) := if_pos ha

theorem exec_tblResume_awake : exec .tblResume s = .next (s.setHold engTable 0) := if_pos ha

end

/-! ### The statement -/

/-- Settles O22: a source's operation by BUSY, its outcome by the form and the status, then the entries taken and the commands. -/
theorem tableCommands : Obligations.TableCommands := by
  refine ⟨?operation, ?outcome, ?applied, ?taken, fun s h => ?untaken,
    fun s ha => ⟨exec_tblDrain_awake ha, exec_tblForce_awake ha, exec_tblResume_awake ha⟩⟩
  case operation =>
    intro s src t cmd x hx key started w r back shown answered
    rw [exec_tblOperation hx, State.tblCommand_eq]
    rfl
  case outcome =>
    intro s t i gen d id e
    refine ⟨State.tblOp_read id gen d, State.tblOp_read_range id gen d, fun op hop hform hjob => ?_⟩
    have hread : op ≠ toRead := by simp only [toRead]; omega
    exact ⟨State.tblOp_applied id hread hform hjob, State.tblOp_casfail id hread hform hjob⟩
  case applied =>
    intro s t i d h1 h2 h5
    rw [State.applyEntries_single, State.afterEntry_plain _ i _ h1 h2 h5]
    rfl
  case taken =>
    intro s q e ha hidle he taken
    rw [exec_tblEntryWrite, exec_tblEntryCas, exec_tblImage]
    simp only [State.tblTake_eq ha hidle he, Bool.and_eq_true, bne_iff_ne, beq_iff_eq]
    exact ⟨rfl, rfl, rfl⟩
  case untaken =>
    rw [exec_tblEntryWrite, exec_tblEntryCas, exec_tblImage]
    simp only [State.tblTake_none h, and_self]

end Sys2Proof.Machine
end

section
/-! Rounds: the timers of a record, what a round fault leaves, and a RESULT or COMMIT of another home. -/

namespace Sys2Proof.Machine

/-! ### The commands of rounds, by the definitions of what they do -/

theorem exec_roundTimeout (n : Fin 16) (j : Byte) (s : State) : exec (.roundTimeout n j) s = execRoundTimeout n j s := rfl

theorem exec_nocommitTimeout (n : Fin 16) (j : Byte) (s : State) : exec (.nocommitTimeout n j) s = execNocommitTimeout n j s := rfl

theorem exec_faultedRoundRelease (n : Fin 16) (j : Byte) (s : State) :
    exec (.faultedRoundRelease n j) s = execFaultedRoundRelease n j s := rfl

theorem exec_resultReceive (r : StageRef) (s : State) : exec (.resultReceive r) s = execResultReceive r s := rfl

theorem exec_commitReceive (r : StageRef) (s : State) : exec (.commitReceive r) s = execCommitReceive r s := rfl

/-! ### Timers of a record (R198, R209, R210) -/

/-- Some other home's COMMIT is missing. -/
theorem commits_missing (homes : List Nat) (commits : List Nat) :
    (!homes.all (fun h => commits.contains h)) = true ↔ ∃ h ∈ homes, h ∉ commits := by
  simp only [Bool.not_eq_true', List.all_eq_false, List.contains_iff_mem]

section

variable {s : State} (ha : s.awake = true) (n : Fin 16) (j : Byte)
include ha

theorem exec_roundTimeout_awake :
    let key := 256 * n.val + j.toNat
    let r := s.round key
    exec (.roundTimeout n j) s = .next (if r.state = rsOpen ∧ s.since r.regAt (cxTimeout (s.cx r.coll.toNat)) = true
      then s.roundFaultUnmet key rfTimeout else s) := by
  simp only [exec_roundTimeout, execRoundTimeout]
  exact next_ite_awake ha _ _

theorem exec_nocommitTimeout_awake :
    let key := 256 * n.val + j.toNat
    let r := s.round key
    let d := s.cx r.coll.toNat
    exec (.nocommitTimeout n j) s = .next (if (r.state = rsTallied ∨ r.state = rsWaitHome) ∧
      (∃ h ∈ s.otherHomes d, h ∉ r.commits) ∧ s.since r.talliedAt (4 * cxTimeout d) = true then s.roundFaultUnmet key rfNoCommit else s) := by
  simp only [exec_nocommitTimeout, execNocommitTimeout, commits_missing]
  exact next_ite_awake ha _ _

theorem exec_faultedRoundRelease_awake :
    let key := 256 * n.val + j.toNat
    let r := s.round key
    exec (.faultedRoundRelease n j) s = .next (if r.state = rsFaulted ∧
      s.since r.faultAt (cxTimeout (s.cx r.coll.toNat)) = true ∧ s.mayFree r = true
      then (s.freeRound key).settleColl r.coll else s) := by
  simp only [exec_faultedRoundRelease, execFaultedRoundRelease]
  exact next_ite_awake ha _ _

end

/-! ### A RESULT or COMMIT at the head of staging (R194, R205, R207) -/

section

variable {s : State} (r : StageRef) {h : Held}

theorem State.downCopies_noElig (hn : s.stagedNoElig h.f = true) : s.downCopies r h =
    (false, (s.noteNoElig (clusterOf r.port) h).2.restage r (s.noteNoElig (clusterOf r.port) h).1) := by
  simp only [State.downCopies, hn, if_true]

variable (hn : s.stagedNoElig h.f = false)
include hn

theorem State.downCopies_noRoom (hfull : s.admitAll (clusterOf r.port) (downCopy h) (s.downGroups h.f).1 = none) :
    s.downCopies r h = (false, s.restage r { h with m := { h.m with noElig := none } }) := by
  simp only [State.downCopies, hn, hfull, Bool.false_eq_true, if_false]

theorem State.downCopies_admitted {t : State} (hroom : s.admitAll (clusterOf r.port) (downCopy h) (s.downGroups h.f).1 = some t) :
    s.downCopies r h = (true, (List.range (s.downGroups h.f).2).foldl (fun s _ => s.discard r.port (downCopy h) dcNoRoute) t) := by
  simp only [State.downCopies, hn, hroom, Bool.false_eq_true, if_false]

end

section

variable {s : State} {r : StageRef} (kind : BitVec 6) (after : Frame → State → State)

theorem State.takeDown_gone (hs : s.stagedAt r = none) : s.takeDown r kind after = s := by
  simp only [State.takeDown, hs]

variable {h : Held} (hs : s.stagedAt r = some h)
include hs

theorem State.takeDown_other (hother : s.ownFrame h.f = false ∨ h.f.kind ≠ kind) : s.takeDown r kind after = s := by
  simp only [State.takeDown, hs]
  exact if_neg fun ⟨hk, hown⟩ => hother.elim (by simp [hown]) (absurd hk)

variable {kind} (hown : s.ownFrame h.f = true) (hk : h.f.kind = kind)
include hown hk

theorem State.takeDown_dropped {c : Nat} (hc : s.downCheck r.port h.f = some c) :
    s.takeDown r kind after = (s.unstage r).rdDrop (clusterOf r.port) h c := by
  simp only [State.takeDown, hs, hk, hown, and_self, if_true, hc]

variable (hc : s.downCheck r.port h.f = none) {t : State}
include hc

theorem State.takeDown_waits (hcopies : s.downCopies r h = (false, t)) : s.takeDown r kind after = t := by
  simp only [State.takeDown, hs, hk, hown, and_self, if_true, hc, hcopies]

theorem State.takeDown_copied (hcopies : s.downCopies r h = (true, t)) : s.takeDown r kind after =
    after h.f (t.consume r { h with m := { h.m with tagged := h.m.tagged && (t.downGroups h.f).1.isEmpty } }) := by
  simp only [State.takeDown, hs, hk, hown, and_self, if_true, hc, hcopies]

end

section

variable {s : State} (r : StageRef)

theorem exec_resultReceive_gone (hs : s.stagedAt r = none) : exec (.resultReceive r) s = .next s := by
  rw [exec_resultReceive, execResultReceive, State.takeDown_gone _ _ hs, ite_self]

theorem exec_commitReceive_gone (hs : s.stagedAt r = none) : exec (.commitReceive r) s = .next s := by
  rw [exec_commitReceive, execCommitReceive, State.takeDown_gone _ _ hs, ite_self]

variable (ha : s.awake = true)
include ha

theorem exec_resultReceive_awake : exec (.resultReceive r) s = .next (s.takeDown r kResult (fun _ s => s)) :=
  if_pos ha

theorem exec_commitReceive_awake : exec (.commitReceive r) s = .next (s.takeDown r kCommit (fun f s => s.commitFrom f)) :=
  if_pos ha

/-- Both commands take the frame alike, and differ in what they do after it. -/
theorem exec_downCommand (f : Frame) :
    ∀ x ∈ [(kResult, (.resultReceive r : Instr), fun s => s), (kCommit, .commitReceive r, fun s => s.commitFrom f)],
      ∃ after : Frame → State → State, exec x.2.1 s = .next (s.takeDown r x.1 after) ∧ after f = x.2.2 := by
  simp only [List.forall_mem_cons, List.not_mem_nil, false_imp_iff, implies_true, and_true]
  exact ⟨⟨_, exec_resultReceive_awake r ha, rfl⟩, ⟨_, exec_commitReceive_awake r ha, rfl⟩⟩

end

theorem State.commitFrom_found {s : State} {f : Frame} {key : Nat} (hf : s.findRound f.coll f.round = some key)
    (hst : (s.round key).state ≠ rsFaulted) :
    let r := s.round key
    let told := s.setRound key { r with commits := if r.commits.contains f.src.toNat then r.commits else r.commits ++ [f.src.toNat] }
    let held := (told.roundSlots f.coll.toNat f.round.toNat).filter
      (fun p => p.2.state == 3 && home (s.cx f.coll.toNat) (slotChunk p.1) == f.src.toNat)
    s.commitFrom f = (held.foldl (fun (s : State) p => s.chunkDone key (slotChunk p.1)) told).settleColl f.coll := by
  simp only [State.commitFrom, hf, hst, if_false]

/-! ### The statement -/

/-- Settles O24: the timers by their conditions, a fault by the record's state, a frame of another home by what it meets in turn. -/
theorem roundCommands : Obligations.RoundCommands := by
  refine ⟨fun s n j ha => ⟨exec_roundTimeout_awake ha n j, exec_nocommitTimeout_awake ha n j, exec_faultedRoundRelease_awake ha n j⟩,
    fun s key cause contrib hst => if_pos hst, fun s r hs => ⟨exec_resultReceive_gone r hs, exec_commitReceive_gone r hs⟩, ?down,
    fun s f key => State.commitFrom_found⟩
  case down =>
    intro s r h ha hs n gs copy
    refine ⟨fun hother => ?_, fun hother => ?_, fun x hx hown hk => ?_⟩
    · rw [exec_resultReceive_awake r ha, State.takeDown_other _ _ hs hother]
    · rw [exec_commitReceive_awake r ha, State.takeDown_other _ _ hs hother]
    · obtain ⟨after, hrun, hafter⟩ := exec_downCommand r ha h.f x hx
      rw [hrun, ← hafter]
      refine ⟨fun c hc => ?_, fun hc hn => ?_, fun hc hn hfull => ?_, fun t hc hn hroom => ?_⟩
      · rw [State.takeDown_dropped after hs hown hk hc]
      · rw [State.takeDown_waits after hs hown hk hc (State.downCopies_noElig r hn)]
      · rw [State.takeDown_waits after hs hown hk hc (State.downCopies_noRoom r hn hfull)]
      · rw [State.takeDown_copied after hs hown hk hc (State.downCopies_admitted r hn hroom)]

end Sys2Proof.Machine
end

section
/-! Contributions and invocations: what a contribution in staging finds at its bound core, and how a descriptor starts. -/

namespace Sys2Proof.Machine

theorem exec_descriptorEnqueue (r : StageRef) (s : State) : exec (.descriptorEnqueue r) s = execDescriptorEnqueue r s := rfl

theorem exec_invocationStart (n : Fin 16) (w : WindowCore) (s : State) :
    exec (.invocationStart n w) s = execInvocationStart n w s := rfl

/-! ### A contribution in staging (R194, R199, R200, R216) -/

/-- The chunk no longer takes the contributor: it is HELD or DONE, or has counted or queued it. -/
def State.contribSeen (s : State) (rk b : Nat) (f : Frame) : Bool :=
  let y := s.slot (slotKey f.coll.toNat f.round.toNat f.chunk.toNat)
  SMap.get false (s.round rk).done f.chunk.toNat || y.state == 3 || y.bitmap.getLsbD b || y.queued.getLsbD b

section

variable {s : State} {r : StageRef}

theorem exec_descriptorEnqueue_gone (hs : s.stagedAt r = none) : exec (.descriptorEnqueue r) s = .next s := by
  simp only [exec_descriptorEnqueue, execDescriptorEnqueue, hs]

variable {h : Held} (hs : s.stagedAt r = some h)
include hs

theorem exec_descriptorEnqueue_other (hother : h.f.kind ≠ kContrib ∨ s.ownFrame h.f = false) :
    exec (.descriptorEnqueue r) s = .next s := by
  simp only [exec_descriptorEnqueue, execDescriptorEnqueue, hs]
  exact if_neg fun ⟨_, hk, hown⟩ => hother.elim (absurd hk) (by simp [hown])

theorem exec_descriptorEnqueue_own (ha : s.awake = true) (hk : h.f.kind = kContrib) (hown : s.ownFrame h.f = true) :
    exec (.descriptorEnqueue r) s = .next (s.askDescriptor r h) := by
  simp only [exec_descriptorEnqueue, execDescriptorEnqueue, hs]
  exact if_pos ⟨ha, hk, hown⟩

end

section

variable {s : State} (r : StageRef) {h : Held} {n : Nat} (hn : h.f.chunk.toNat % 16 = n)

include hn in
theorem State.askDescriptor_noRecord (hrec : s.findRound h.f.coll h.f.round = none) :
    s.askDescriptor r h = (s.unstage r).rdDrop n h rdDup := by
  simp only [State.askDescriptor, hn, hrec]

variable {rk : Nat} (hrec : s.findRound h.f.coll h.f.round = some rk)
include hrec

theorem State.askDescriptor_faulted (hst : (s.round rk).state = rsFaulted) :
    s.askDescriptor r h = (s.unstage r).rdDrop (tallyCluster h.f.coll.toNat) h rdFaulted := by
  simp only [State.askDescriptor, hrec, hst, if_true]

variable (hst : (s.round rk).state ≠ rsFaulted)
include hn hst

theorem State.askDescriptor_unbound (hun : s.boundCore n h.f.coll h.f.chunk.toNat = none ∨
    s.contribBit (s.cx h.f.coll.toNat) h.m.pin = none) : s.askDescriptor r h = (s.unstage r).rdDrop n h rdUnbound := by
  simp only [State.askDescriptor, hn, hrec, hst, if_false]
  split
  next hc hb => simp [hc, hb] at hun
  next => rfl

variable {c b : Nat} (hc : s.boundCore n h.f.coll h.f.chunk.toNat = some c) (hb : s.contribBit (s.cx h.f.coll.toNat) h.m.pin = some b)
include hc hb

theorem State.askDescriptor_disabled (hdis : (s.core n c).st = coDisabled) :
    s.askDescriptor r h = (s.unstage r).rdDrop n h rdUnbound := by
  simp only [State.askDescriptor, hn, hrec, hst, hc, hb, hdis, if_true, if_false]

variable (hen : (s.core n c).st ≠ coDisabled)
include hen

theorem State.askDescriptor_waits (hwait : (s.core n c).st = coReset ∨ 64 ≤ (s.core n c).dq.length ∨ s.clusterState n ≠ 0) :
    s.askDescriptor r h = s := by
  simp only [State.askDescriptor, hn, hrec, hst, hc, hb, hen, if_false]
  exact if_pos hwait

variable (hgo : ¬ ((s.core n c).st = coReset ∨ 64 ≤ (s.core n c).dq.length ∨ s.clusterState n ≠ 0))
include hgo

theorem State.askDescriptor_seen (hseen : s.contribSeen rk b h.f = true) :
    s.askDescriptor r h = (s.unstage r).rdDrop n h rdDup := by
  simp only [State.askDescriptor, hn, hrec, hst, hc, hb, hen, hgo, if_false]
  exact if_pos hseen

variable (hseen : s.contribSeen rk b h.f = false) {y : Slot} (hslot : s.slot (slotKey h.f.coll.toNat h.f.round.toNat h.f.chunk.toNat) = y)
include hseen hslot

theorem State.askDescriptor_joins (hy : y.state ≠ 0) : s.askDescriptor r h = (s.unstage r).enqueueDesc n c b y false h := by
  subst hslot
  simp only [State.askDescriptor, hn, hrec, hst, hc, hb, hen, hgo, if_false]
  exact (if_neg (Bool.eq_false_iff.mp hseen)).trans (if_pos hy)

variable (hy : y.state = 0)
include hy

theorem State.askDescriptor_noSlot (hz : s.takeSlot n c (s.cx h.f.coll.toNat) = none) : s.askDescriptor r h =
    ((s.unstage r).roundFaultUnmet rk rfNoSpill).rdDrop (tallyCluster h.f.coll.toNat) h rdFaulted := by
  subst hslot
  simp only [State.askDescriptor, hn, hrec, hst, hc, hb, hen, hgo, hz, if_false]
  exact (if_neg (Bool.eq_false_iff.mp hseen)).trans (if_neg (not_not.mpr hy))

theorem State.askDescriptor_first {z : Slot} {t : State} (hz : s.takeSlot n c (s.cx h.f.coll.toNat) = some (z, t)) :
    s.askDescriptor r h = ((if z.spill then t.millEvent n 0x0D 1 h.f else t).unstage r).enqueueDesc n c b z true h := by
  subst hslot
  simp only [State.askDescriptor, hn, hrec, hst, hc, hb, hen, hgo, hz, if_false]
  exact (if_neg (Bool.eq_false_iff.mp hseen)).trans (if_neg (not_not.mpr hy))

end

/-! ### The start of an invocation (R214, R218, R243, R244, R245) -/

section

variable {s : State} {n : Fin 16} {c : Fin 96} (ue : Bool)

theorem exec_invocationStart_noDescriptor (hdq : (s.core n.val c.val).dq = []) : exec (.invocationStart n ⟨c, ue⟩) s = .next s := by
  simp only [exec_invocationStart, execInvocationStart, hdq, ite_self]

theorem exec_invocationStart_busy (hidle : (s.core n.val c.val).st ≠ coIdle)
    (hrun : ¬ ((s.core n.val c.val).st = coRun ∧ (s.core n.val c.val).desc = none)) :
    exec (.invocationStart n ⟨c, ue⟩) s = .next s :=
  if_neg fun hgo => hgo.2.elim hidle hrun

theorem exec_invocationStart_begins (hcmd : s.coreCmd n.val = true)
    (hst : (s.core n.val c.val).st = coIdle ∨ ((s.core n.val c.val).st = coRun ∧ (s.core n.val c.val).desc = none))
    {d : Desc} {l : List Desc} (hdq : (s.core n.val c.val).dq = d :: l) :
    exec (.invocationStart n ⟨c, ue⟩) s = .next (s.beginInvocation n.val c.val d ue) := by
  simp only [exec_invocationStart, execInvocationStart, hdq]
  exact if_pos ⟨hcmd, hst⟩

end

/-! ### The statement -/

/-- Settles O26: a contribution by what it finds in turn, then the start of an invocation by whether the write-back fails. -/
theorem descriptorsAndInvocations : Obligations.DescriptorsAndInvocations := by
  refine ⟨?contribution, fun s r => exec_descriptorEnqueue_gone, fun s r h hs => exec_descriptorEnqueue_other hs,
    fun s n c ue => exec_invocationStart_noDescriptor ue, fun s n c ue _ => exec_invocationStart_busy ue, ?invocation⟩
  case contribution =>
    intro s r h ha hs hk hown n d
    rw [exec_descriptorEnqueue_own hs ha hk hown]
    refine ⟨fun hrec => by rw [State.askDescriptor_noRecord r rfl hrec], fun rk hrec =>
      ⟨fun hst => by rw [State.askDescriptor_faulted r hrec hst], fun hst =>
        ⟨fun hun => by rw [State.askDescriptor_unbound r rfl hrec hst hun], fun c b hc hb => ?bound⟩⟩⟩
    intro x y seen
    refine ⟨fun hdis => ?_, fun hen hwait => ?_, fun hen hgo => ⟨fun hseen => ?_, fun hseen hy => ?_, fun hseen hy => ?_⟩⟩
    · rw [State.askDescriptor_disabled r rfl hrec hst hc hb hdis]
    · rw [State.askDescriptor_waits r rfl hrec hst hc hb hen hwait]
    · rw [State.askDescriptor_seen r rfl hrec hst hc hb hen hgo hseen]
    · rw [State.askDescriptor_joins r rfl hrec hst hc hb hen hgo hseen rfl hy]
    · refine ⟨fun hz => ?_, fun z t hz hsp => ?_, fun z t hz hsp => ?_⟩
      · rw [State.askDescriptor_noSlot r rfl hrec hst hc hb hen hgo hseen rfl hy hz]
      · rw [State.askDescriptor_first r rfl hrec hst hc hb hen hgo hseen rfl hy hz, hsp]
        rfl
      · rw [State.askDescriptor_first r rfl hrec hst hc hb hen hgo hseen rfl hy hz, hsp]
        rfl
  case invocation =>
    intro s n c d l ue hcmd hst hdq cx loaded cost x late m h begun bad
    rw [exec_invocationStart_begins ue hcmd hst hdq]
    simp only [bad]
    refine ⟨fun hbad => ?_, fun y hbad => ?_⟩
    · rw [State.beginInvocation, hbad]
    · rw [State.beginInvocation, hbad]
      rfl

end Sys2Proof.Machine
end

section
/-! Mill instructions on frames and slots: FRX, STB, LDB, TALLY and FTX, as the core that issues one runs it. -/

namespace Sys2Proof.Machine

/-! ### Rows of instructions that issue -/

section

variable {s : State} {n : Fin 16} {c : Fin 96} {p : Prep}

/-- The instruction about to act is the one that issues. -/
theorem State.issues.instr {i : MInstr} (h : s.issues n c i p) : p.i = i := by
  obtain ⟨d, w, e, -, -, -, -, -, hp, -⟩ := h
  rw [hp]
  rfl

theorem exec_frx_issues {d : BitVec 8} {w : BitVec 1} {nr off : BitVec 4} {cell : BitVec 10}
    (h : s.issues n c (.frx d w nr off cell) p) : exec (.frx n c p.e) s = .next (runFrx p s) :=
  congrArg _ (State.millRow_issues h runFrx)

theorem exec_stb_issues {a b : BitVec 8} {nr : BitVec 6} {cell : BitVec 10} (h : s.issues n c (.stb a b nr cell) p) :
    exec (.stb n c p.e) s = .next (runStb p s) :=
  congrArg _ (State.millRow_issues h runStb)

theorem exec_ldb_issues {d b : BitVec 8} {nr : BitVec 6} {cell : BitVec 10} (h : s.issues n c (.ldb d b nr cell) p) :
    exec (.ldb n c p.e) s = .next (runLdb p s) :=
  congrArg _ (State.millRow_issues h runLdb)

theorem exec_tally_issues {pd a : BitVec 8} (h : s.issues n c (.tally pd a) p) :
    exec (.tally n c p.e) s = .next (runTally p s) :=
  congrArg _ (State.millRow_issues h runTally)

theorem exec_ftx_issues {a : BitVec 8} {fmt : BitVec 4} {tgt : BitVec 1} {ne : BitVec 14} (h : s.issues n c (.ftx a fmt tgt ne) p) :
    exec (.ftx n c p.e) s = .next (runFtx p s) :=
  congrArg _ (State.millRow_issues h runFtx)

end

/-! ### FRX (R249) -/

/-- The payload blocks taken once an FRX of `nb` blocks from block `off` has retired. -/
def Prep.taken (p : Prep) (off nb : Nat) : BitVec 16 :=
  (List.range nb).foldl (fun (b : BitVec 16) k => b ||| BitVec.ofNat 16 (2 ^ (off + k))) p.x.blocks

section

variable {p : Prep} {d : BitVec 8} {w : BitVec 1} {nr off : BitVec 4} {cell : BitVec 10} (hi : p.i = .frx d w nr off cell) (s : State)
  {nb : Nat} (hnb : frxBlocks nr.toNat off.toNat p.env.plen = nb)
include hi hnb

theorem runFrx_window (hw : w = 1) (hbad : nb ≠ 0 ∧ (cell = 0 ∨ slotCells p.cx < cell.toNat + 2 * nb)) :
    runFrx p s = p.exc s exWindow p.at := by
  simp only [runFrx, hi, hnb]
  exact (if_pos hw).trans (if_pos hbad)

theorem runFrx_cells (hw : w = 1) (hfits : ¬ (nb ≠ 0 ∧ (cell = 0 ∨ slotCells p.cx < cell.toNat + 2 * nb))) :
    runFrx p s = p.finish (s.setCore p.n p.c { (p.x.atStart p.start).store (256 * nb) cell.toNat
      (sliceBytes p.d.h.f.payload (256 * off.toNat) (256 * nb)) with blocks := p.taken off.toNat nb }) p.ends := by
  simp only [runFrx, hi, hnb]
  exact (if_pos hw).trans (if_neg hfits)

theorem runFrx_registers (hw : w ≠ 1) :
    let filled := (List.range (frxRegs nr.toNat off.toNat p.env)).foldl (fun (x : Core) k => x.setGroup (BitVec.ofNat 8 (d.toNat + k)) 1
      (blockReg p.d.h.f.payload (cxImage p.cx) (elemWidth (cxEfmt p.cx)) (off.toNat + k))) p.x
    runFrx p s = p.finish (s.setCore p.n p.c { filled with blocks := p.taken off.toNat nb }) p.ends := by
  simp only [runFrx, hi, hnb]
  exact if_neg hw

end

/-! ### STB (R256) -/

section

variable {p : Prep} {a b : BitVec 8} {nr : BitVec 6} {cell : BitVec 10} (hi : p.i = .stb a b nr cell) (s : State)
include hi

theorem runStb_window (hbad : p.cells b cell = 0 ∨ slotCells p.cx < p.cells b cell + 2 * (nr.toNat + 1)) :
    runStb p s = p.exc s exWindow p.at := by
  simp only [runStb, hi]
  exact if_pos hbad

theorem runStb_stores (hfits : ¬ (p.cells b cell = 0 ∨ slotCells p.cx < p.cells b cell + 2 * (nr.toNat + 1))) :
    runStb p s = p.finish (s.setCore p.n p.c ((p.x.atStart p.start).store (256 * (nr.toNat + 1)) (p.cells b cell)
      (imageBytes (256 * (nr.toNat + 1)) (p.x.group a (nr.toNat + 1))))) p.ends := by
  simp only [runStb, hi]
  exact if_neg hfits

end

/-! ### LDB (R244, R245, R256) -/

/-- The cells from `lo` on that `k` registers read and the core does not hold. -/
def Core.absent (x : Core) (lo k : Nat) : List Nat :=
  ((List.range (2 * k)).map (fun i => lo + i)).filter (fun j => !x.hasCell j)

/-- The registers of those `k` that take a fill from the slot. -/
def Core.fills (x : Core) (lo k : Nat) : Nat :=
  ((List.range k).filter (fun i => !x.hasCell (lo + 2 * i) || !x.hasCell (lo + 2 * i + 1))).length

/-- The first result of an LDB with `filled` fills from slot `y`. -/
def Prep.ldbFirst (p : Prep) (y : Slot) (filled : Nat) : Nat := if filled ≠ 0 ∧ y.spill then p.start + 400 else p.start + 2

/-- The cycle in which an LDB of `k` registers, `filled` of them filled from slot `y`, is done. -/
def Prep.ldbDone (p : Prep) (y : Slot) (filled k : Nat) : Nat :=
  if filled = 0 then p.done
  else if y.spill then max p.done (p.ldbFirst y filled + 4 * (filled - 1) + ceilDiv (k - filled) 2)
  else max p.done (p.ldbFirst y filled + filled + ceilDiv (k - filled) 2 - 1)

/-- A fill from SPILL meets an uncorrectable Loft error before the watchdog's cycle. -/
def Prep.fillFails (p : Prep) (y : Slot) (filled : Nat) : Prop :=
  p.e = .loftUe ∧ filled ≠ 0 ∧ y.spill = true ∧ p.ldbFirst y filled < watchdogCycles

/-- Registers `d` to `d + k - 1` take the cells from `lo` on, of the core `x` and slot `y` as they stand. -/
def State.loadCells (s : State) (p : Prep) (x : Core) (y : Slot) (d : BitVec 8) (lo k : Nat) : State :=
  (List.range k).foldl (fun (s : State) i =>
    let u := s.cellBits p x y (lo + 2 * i)
    let v := u.2.cellBits p x y (lo + 2 * i + 1)
    v.2.setCore p.n p.c ((v.2.core p.n p.c).setGroup (BitVec.ofNat 8 (d.toNat + i)) 1 (u.1 + v.1 * 2 ^ 1024))) s

section

variable {p : Prep} {d b : BitVec 8} {nr : BitVec 6} {cell : BitVec 10} (hi : p.i = .ldb d b nr cell) {s : State}
  {k lo : Nat} (hk : nr.toNat + 1 = k) (hlo : p.cells b cell = lo)
include hi hk hlo

theorem runLdb_window (hbad : slotCells p.cx < lo + 2 * k) : runLdb p s = p.exc s exWindow p.at := by
  simp only [runLdb, hi, hk, hlo]
  exact if_pos hbad

variable (hfits : ¬ slotCells p.cx < lo + 2 * k) {y : Slot} (hy : p.x.slotAt p.start (s.slot p.d.key) = y)
  {x : Core} (hx : p.x.atStart p.start = x)
include hfits hy hx

theorem runLdb_fails (hbad : p.fillFails y (x.fills lo k)) : runLdb p s =
    (s.free.2.loftUe s.free.1.toNat (.spill (cellAt y.runs ((x.absent lo k).headD lo)))).loftEnd p.n p.c
      (max (p.ldbFirst y (x.fills lo k)) p.last) := by
  simp only [runLdb, hi, hk, hlo, hy, hx]
  exact (if_neg hfits).trans (if_pos hbad)

variable (hgood : ¬ p.fillFails y (x.fills lo k)) {ret : Nat} (hret : max (p.ldbDone y (x.fills lo k) k) p.last = ret)
include hgood hret

theorem runLdb_hang (hlate : watchdogCycles ≤ ret) : runLdb p s = p.exc s exHang watchdogCycles := by
  subst hret
  simp only [runLdb, hi, hk, hlo, hy, hx]
  exact (if_neg hfits).trans ((if_neg hgood).trans (if_pos hlate))

theorem runLdb_loads (hin : ret < watchdogCycles) :
    let done := p.ldbDone y (x.fills lo k) k
    let filledIn := x.fill y (x.absent lo k)
    runLdb p s = p.finish ((s.setCore p.n p.c filledIn).loadCells p filledIn y d lo k) { p.ends with
      first := p.ldbFirst y (x.fills lo k)
      done := done
      unit := done
      ret := ret } := by
  subst hret
  simp only [runLdb, hi, hk, hlo, hy, hx]
  exact (if_neg hfits).trans ((if_neg hgood).trans (if_neg (Nat.not_le.mpr hin)))

end

/-! ### TALLY (R200, R218, R255) -/

/-- The contribution of a TALLY that has counted it by state `t`. -/
def Prep.counted (p : Prep) (t : State) : Held := { p.d.h with m := { p.d.h.m with dmfin := some t.nowHalf } }

/-- The journey of the contribution that fills its chunk ends at the FTX, where the chunk goes on to the Granary. -/
def Prep.endsLater (p : Prep) (t : State) (full : Bool) : Bool :=
  full && t.ownHome (home p.cx p.d.chunk.toNat) && (cxDest p.cx == 1 || cxDest p.cx == 2)

/-- The contribution's cells return, and its journey ends unless it ends later. -/
def Prep.tallyReturns (p : Prep) (t : State) (full : Bool) : State :=
  let back := t.returnCells (p.counted t).m.pin (p.counted t)
  if p.endsLater t full then back else back.depart (p.counted t) { consumed := true }

/-- The scalar flags of a TALLY. -/
def Prep.tallyFlags (p : Prep) (t : State) (full : Bool) : Word :=
  pack [(⟨4, 1⟩, b2n p.d.first), (⟨2, 2⟩, cxDest p.cx), (⟨1, 1⟩, b2n (t.ownHome (home p.cx p.d.chunk.toNat))), (⟨0, 1⟩, b2n full)]

section

variable {p : Prep} {pd a : BitVec 8} (hi : p.i = .tally pd a) {s : State}
include hi

theorem runTally_misplaced (hbad : p.x.tallied = true ∨ p.allTaken = false) : runTally p s = p.exc s exTally p.at := by
  simp only [runTally, hi, Bool.not_eq_true']
  exact if_pos hbad

variable (htal : p.x.tallied = false) (hall : p.allTaken = true)
include htal hall

theorem runTally_residue (hres : p.residue = true) : runTally p s = p.residueExc s := by
  simp only [runTally, hi, htal, hall, hres, Bool.not_true, Bool.false_eq_true, or_self, if_false, if_true]

theorem runTally_counts (hres : p.residue = false) :
    let full := (s.tallyCount p.d).1
    let counted := (s.tallyCount p.d).2
    let left := p.tallyReturns counted full
    let x := ((left.core p.n p.c).setPred pd.toNat (if full then BitVec.allOnes 256 else 0)).setS a (p.tallyFlags left full)
    runTally p s = p.finishLate (left.setCore p.n p.c { x with
      shadow := x.shadow ++ [(p.at, s.slot p.d.key)]
      tallied := true
      complete := full
      owes := p.endsLater counted full
      desc := some { p.d with h := p.counted counted } }) := by
  simp only [runTally, hi, htal, hall, hres, Bool.not_true, Bool.false_eq_true, or_self, if_false]
  rfl

end

/-! ### FTX (R203, R206, R218, R250, R295) -/

/-- The group that an FTX of format `want` takes its values from. -/
def Prep.ftxGroup (p : Prep) (a : BitVec 8) (want : Nat) : Nat :=
  p.x.group a (if p.env.k = 0 then groupRegs want p.env.ne else pairRegs p.env.ne)

/-- The payload that it emits of them. -/
def Prep.ftxPayload (p : Prep) (a : BitVec 8) (want : Nat) : List Byte :=
  if p.env.k = 0 then emitBytes want p.env.ne (p.ftxGroup a want) else imageBytes (8 * p.env.ne) (p.ftxGroup a want)

/-- A chunk's values wait at its Granary engine, and the core for the engine (R295). -/
def Prep.ftxHand (p : Prep) (s : State) (g : GChunk) : State :=
  let en := SMap.get {} s.grn.engines (g.chunk % 16)
  let given := { en with ftxWait := en.ftxWait ++ [(qMill p.n p.c, g)] }
  let handed := s.onGrn (fun x => { x with engines := SMap.put {} x.engines (g.chunk % 16) given })
  handed.setCore p.n p.c { handed.core p.n p.c with
    ftxGrn := true
    waitEv := some (2, 0, none) }

section

variable {s : State} {p : Prep} {a : BitVec 8} {fmt : BitVec 4} {tgt : BitVec 1} {ne : BitVec 14} (hi : p.i = .ftx a fmt tgt ne)
include hi

theorem runFtx_format (hf : fmt.toNat ≠ ftxFormat p.cx (s.ftxRow p.cx p.d.chunk.toNat)) :
    runFtx p s = p.exc s exFormat p.at := by
  simp only [runFtx, hi]
  exact if_pos hf

variable (hf : fmt.toNat = ftxFormat p.cx (s.ftxRow p.cx p.d.chunk.toNat))
include hf

theorem runFtx_emit (hbad : p.emitBad (s.ftxRow p.cx p.d.chunk.toNat) tgt.toNat = true) : runFtx p s = p.exc s exEmit p.at := by
  simp only [runFtx, hi, hf, hbad, ne_eq, not_true_eq_false, if_false, if_true]

variable (hgood : p.emitBad (s.ftxRow p.cx p.d.chunk.toNat) tgt.toNat = false)
include hgood

theorem runFtx_waits (hq : 2 ≤ s.emissionsWaiting (qMill p.n p.c)) :
    runFtx p s = s.setCore p.n p.c { p.x with waitEv := some (2, 0, none) } := by
  simp only [runFtx, hi, hf, hgood, hq, ne_eq, not_true_eq_false, Bool.false_eq_true, if_false, if_true]

variable (hq : s.emissionsWaiting (qMill p.n p.c) < 2)
include hq

theorem runFtx_hang (hlate : watchdogCycles ≤ p.ftxCycle s) : runFtx p s = p.exc s exHang watchdogCycles := by
  simp only [runFtx, hi, hf, hgood, Nat.not_le.mpr hq, hlate, ne_eq, not_true_eq_false, Bool.false_eq_true, if_false, if_true]

variable (hin : p.ftxCycle s < watchdogCycles)
include hin

theorem runFtx_disabled (hdis : s.disableNow p.n p.c = true) : runFtx p s = s := by
  simp only [runFtx, hi, hf, hgood, Nat.not_le.mpr hq, Nat.not_le.mpr hin, hdis, ne_eq, not_true_eq_false, Bool.false_eq_true, if_false,
    if_true]

variable (hen : s.disableNow p.n p.c = false)
include hen

theorem runFtx_noRecord (hrec : s.findRound p.d.coll p.d.round = none) : runFtx p s = p.ftxEnd s (p.ftxCycle s) := by
  simp only [runFtx, hi, hf, hgood, Nat.not_le.mpr hq, Nat.not_le.mpr hin, hen, hrec, ne_eq, not_true_eq_false, Bool.false_eq_true,
    if_false]

variable {rk : Nat} (hrec : s.findRound p.d.coll p.d.round = some rk)
include hrec

theorem runFtx_faulted (hst : (s.round rk).state = rsFaulted) : runFtx p s = p.ftxEnd s (p.ftxCycle s) := by
  simp only [runFtx, hi, hf, hgood, Nat.not_le.mpr hq, Nat.not_le.mpr hin, hen, hrec, hst, ne_eq, not_true_eq_false, Bool.false_eq_true,
    if_false, if_true]

variable (hst : (s.round rk).state ≠ rsFaulted)
include hst

theorem runFtx_result (hrow : s.ftxRow p.cx p.d.chunk.toNat = 0) :
    let sent := ((p.ftxBegin s).emitResult (qMill p.n p.c) rk p.d.chunk.toNat (p.ftxPayload a (ftxFormat p.cx 0))).settleEmission
      (.result rk p.d.chunk.toNat)
    runFtx p s = p.ftxEnd sent (p.ftxCycle sent) := by
  rw [hrow] at hf hgood
  simp only [runFtx, hi, hrow, hf, hgood, Nat.not_le.mpr hq, Nat.not_le.mpr hin, hen, hrec, hst, ne_eq, not_true_eq_false,
    Bool.false_eq_true, if_false, if_true]
  rfl

theorem runFtx_partial (hrow : s.ftxRow p.cx p.d.chunk.toNat = 2) :
    let sent := ((p.ftxBegin s).emitPartial (qMill p.n p.c) rk p.d.chunk.toNat (p.ftxPayload a (ftxFormat p.cx 2))).settleEmission
      (.sitePartial rk p.d.chunk.toNat)
    runFtx p s = p.ftxEnd sent (p.ftxCycle sent) := by
  rw [hrow] at hf hgood
  simp only [runFtx, hi, hrow, hf, hgood, Nat.not_le.mpr hq, Nat.not_le.mpr hin, hen, hrec, hst, ne_eq, not_true_eq_false,
    Bool.false_eq_true, if_false]
  rfl

theorem runFtx_streams (hrow : s.ftxRow p.cx p.d.chunk.toNat = 1) :
    runFtx p s = p.ftxHand (p.ftxBegin s)
      { bix := 0, chunk := p.d.chunk.toNat, h := 0, rrec := rk, coll := p.d.coll, round := p.d.round,
        grads := streamValues (ftxFormat p.cx 1) p.env.ne (p.ftxGroup a (ftxFormat p.cx 1)) } := by
  rw [hrow] at hf hgood
  simp only [runFtx, hi, hrow, hf, hgood, Nat.not_le.mpr hq, Nat.not_le.mpr hin, hen, hrec, hst, ne_eq, not_true_eq_false,
    Bool.false_eq_true, if_false, if_true]
  rfl

end

/-! ### The statement -/

/-- Settles O31: each instruction runs its row, by what it names and what it finds. -/
theorem millFramesAndSlots : Obligations.MillFramesAndSlots := by
  refine ⟨?frx, ?stb, ?ldb, ?tally, ?ftx⟩
  case frx =>
    intro s n c p d w nr off cell h nb taken
    have hi := h.instr
    rw [exec_frx_issues h]
    refine ⟨fun hw hbad => ?_, fun hw hfits => ?_, fun hw => ?_⟩
    · rw [runFrx_window hi s rfl hw hbad]
    · rw [runFrx_cells hi s rfl hw hfits]
      rfl
    · rw [runFrx_registers hi s rfl hw]
      rfl
  case stb =>
    intro s n c p a b nr cell h k lo
    rw [exec_stb_issues h]
    refine ⟨fun hbad => ?_, fun hfits => ?_⟩
    · rw [runStb_window h.instr s hbad]
    · rw [runStb_stores h.instr s hfits]
      rfl
  case ldb =>
    intro s n c p d b nr cell h k lo
    have hi := h.instr
    rw [exec_ldb_issues h]
    refine ⟨fun hbad => ?_, fun hfits => ?_⟩
    · rw [runLdb_window hi rfl rfl hbad]
    · intro y x absent filled first hits done ret broken filledIn read e
      refine ⟨fun hbad => ?_, fun hgood hlate => ?_, fun hgood hin => ?_⟩
      · rw [runLdb_fails hi rfl rfl hfits rfl rfl hbad]
        rfl
      · rw [runLdb_hang hi rfl rfl hfits rfl rfl hgood rfl hlate]
      · rw [runLdb_loads hi rfl rfl hfits rfl rfl hgood rfl hin]
        rfl
  case tally =>
    intro s n c p pd a h
    have hi := h.instr
    rw [exec_tally_issues h]
    refine ⟨fun hbad => ?_, fun htal hall hres => ?_, fun htal hall hres => ?_⟩
    · rw [runTally_misplaced hi hbad]
    · rw [runTally_residue hi htal hall hres]
    · rw [runTally_counts hi htal hall hres]
      rfl
  case ftx =>
    intro s n c p a fmt tgt ne h chunk row q want
    have hi := h.instr
    rw [exec_ftx_issues h]
    refine ⟨fun hf => ?_, fun hf hbad => ?_, fun hf hgood =>
      ⟨fun hq => ?_, fun hq hlate => ?_, fun hq hin hdis => ?_, fun hq hin hen hrec => ?_, fun rk hq hin hen hrec => ?_⟩⟩
    · rw [runFtx_format hi hf]
    · rw [runFtx_emit hi hf hbad]
    · rw [runFtx_waits hi hf hgood hq]
    · rw [runFtx_hang hi hf hgood hq hlate]
    · rw [runFtx_disabled hi hf hgood hq hin hdis]
    · rw [runFtx_noRecord hi hf hgood hq hin hen hrec]
    · refine ⟨fun hst => ?_, fun hst hrow => ?_, fun hst hrow => ?_, fun hst hrow => ?_⟩
      · rw [runFtx_faulted hi hf hgood hq hin hen hrec hst]
      · rw [runFtx_result hi hf hgood hq hin hen hrec hst hrow]
        simp only [want, hrow]
        rfl
      · rw [runFtx_partial hi hf hgood hq hin hen hrec hst hrow]
        simp only [want, hrow]
        rfl
      · rw [runFtx_streams hi hf hgood hq hin hen hrec hst hrow]
        simp only [want, hrow]
        rfl

end Sys2Proof.Machine
end

section
/-! The dispatcher: the entry in front by its fields and its OP, the commands of a dispatcher, and the program store's window. -/

namespace Sys2Proof.Machine

/-! ### What each command finds and does (R222 to R224) -/

/-- A LOADPROG of entry `e`: its status, and what it leaves. -/
def loadprogRun (n : Fin 16) (e : Entry) (s : State) : Nat × State :=
  let data := s.bulkData (deBulk e)
  let status := s.loadStatus n.val e data
  (status, if status = dpOk then s.loadProgram n.val e (data.getD []) else s)

/-- A FREEPROG of entry `e`. -/
def freeprogRun (n : Fin 16) (e : Entry) (s : State) : Nat × State :=
  (s.freeStatus n.val e, if s.freeStatus n.val e = dpOk then s.freeProgram n.val (deBase e) else s)

/-- A BIND of entry `e`. -/
def bindRun (n : Fin 16) (e : Entry) (s : State) : Nat × State :=
  (s.bindStatus n.val e, if s.bindStatus n.val e = dpOk then s.bindCore n.val e else s)

/-- An UNBIND of entry `e`. -/
def unbindRun (n : Fin 16) (e : Entry) (s : State) : Nat × State :=
  (s.unbindStatus n.val e, if s.unbindStatus n.val e = dpOk then s.unbindCore n.val (deCore e) (deColl e) else s)

theorem exec_loadprog (n : Fin 16) (s : State) :
    exec (.loadprog n) s = .next (s.dspTake n (fun op => op != 2 && op != 3 && op != 4) (loadprogRun n)) := rfl

theorem exec_freeprog (n : Fin 16) (s : State) :
    exec (.freeprog n) s = .next (s.dspTake n (fun op => op == 2) (freeprogRun n)) := rfl

theorem exec_dspBind (n : Fin 16) (s : State) : exec (.dspBind n) s = .next (s.dspTake n (fun op => op == 3) (bindRun n)) := rfl

theorem exec_dspUnbind (n : Fin 16) (s : State) :
    exec (.dspUnbind n) s = .next (s.dspTake n (fun op => op == 4) (unbindRun n)) := rfl

/-! ### The entry in front (R221, R223) -/

/-- An entry whose OP is not listed has a field that R221 does not allow. -/
theorem deGood_unlisted {e : Entry} (h : entryOp e = 0 ∨ 4 < entryOp e) : deGood e = false := by
  have hop : ¬ (1 ≤ entryOp e ∧ entryOp e ≤ 4) := by omega
  simp only [deGood, hop, decide_false, Bool.false_and]

section

variable {s : State} {n : Fin 16} {mine : Nat → Bool} {run : Entry → State → Nat × State}

/-- With no entry in front, or in a cluster that does not run, none is taken. -/
theorem State.dspTake_none (h : s.nextEntry (engDsp n.val) = none ∨ s.clusterState n.val ≠ 0) : s.dspTake n mine run = s := by
  unfold State.dspTake
  split
  · rfl
  next q e he =>
    have hoff : s.clusterState n.val ≠ 0 := h.resolve_left (by simp [he])
    simp [hoff]

variable {q : Nat} {e : Entry} (he : s.nextEntry (engDsp n.val) = some (q, e))
include he

/-- An entry is left to the command of its OP. -/
theorem State.dspTake_other (hop : mine (entryOp e) = false) : s.dspTake n mine run = s := by
  simp only [State.dspTake, he, hop, Bool.and_false, Bool.false_eq_true, if_false]

variable (ha : s.awake = true) (hc : s.clusterState n.val = 0) (hop : mine (entryOp e) = true)
include ha hc hop

/-- An entry that is taken leaves its queue. -/
theorem State.dspTake_bad (hbad : deGood e = false) :
    s.dspTake n mine run = (s.popQueue (engDsp n.val) q).dspDone n e dpBadentry := by
  simp only [State.dspTake, he, ha, hc, hop, hbad, beq_self_eq_true, Bool.and_self, Bool.not_false, if_true]

theorem State.dspTake_good (hgood : deGood e = true) :
    let done := run e (s.popQueue (engDsp n.val) q)
    s.dspTake n mine run = done.2.dspDone n e done.1 := by
  simp only [State.dspTake, he, ha, hc, hop, hgood, beq_self_eq_true, Bool.and_self, Bool.not_true, Bool.false_eq_true, if_false,
    if_true]

end

/-! ### DRAIN, FORCE, RESUME (R232, R464) -/

section

variable {s : State} (n : Fin 16) (ha : s.awake = true)
include ha

theorem exec_dspDrain_awake : exec (.dspDrain n) s = .next (s.setHold (engDsp n.val) (max 1 (s.hold (engDsp n.val)))) := if_pos ha

theorem exec_dspForce_awake : exec (.dspForce n) s = .next (s.forceDispatcher n 0) := if_pos ha

theorem exec_dspResume_awake : exec (.dspResume n) s = .next (s.setHold (engDsp n.val) 0) := if_pos ha

end

/-! ### The program store's window (R219, R220) -/

section

variable {s : State} {src : Source} (n : Fin 16) (hr : s.mayRead src = true)
include hr

theorem exec_psdataRead_tenant (ht : s.tenantSource src = true) : exec (.psdataRead src n) s = .next (s.answer 0 1) :=
  (if_pos hr).trans (if_pos ht)

theorem exec_psdataRead_word (ht : s.tenantSource src = false) :
    let a := s.fld (Reg.DSP_PSADDR n.val) ⟨0, 15⟩
    exec (.psdataRead src n) s =
      .next ((s.answer (s.psWord n.val a) 0).setReg (Reg.DSP_PSADDR n.val) (BitVec.ofNat 64 ((a + 1) % 32768))) :=
  (if_pos hr).trans (if_neg (Bool.eq_false_iff.mp ht))

end

/-! ### The statement -/

/-- Settles O25: the entry in front by its fields and by the command of its OP, then the engine's commands and the window. -/
theorem dispatcherCommands : Obligations.DispatcherCommands := by
  refine ⟨?taken, ?untaken, ?others, fun e => deGood_unlisted, fun s n e status => rfl,
    fun s n ha => ⟨exec_dspDrain_awake n ha, exec_dspForce_awake n ha, exec_dspResume_awake n ha⟩,
    fun s src n hr => ⟨exec_psdataRead_tenant n hr, exec_psdataRead_word n hr⟩⟩
  case taken =>
    intro s n q e ha hc he taken
    refine ⟨fun hbad => ⟨fun hop => ?_, fun hop => ?_, fun hop => ?_, fun h2 h3 h4 => ?_⟩,
      fun hgood => ⟨fun hop => ?_, fun hop => ?_, fun hop => ?_, fun hop => ?_⟩⟩
    · rw [exec_freeprog, State.dspTake_bad he ha hc (by simp [hop]) hbad]
    · rw [exec_dspBind, State.dspTake_bad he ha hc (by simp [hop]) hbad]
    · rw [exec_dspUnbind, State.dspTake_bad he ha hc (by simp [hop]) hbad]
    · rw [exec_loadprog, State.dspTake_bad he ha hc (by simp [h2, h3, h4]) hbad]
    · rw [exec_loadprog, State.dspTake_good he ha hc (by simp [hop]) hgood]
      rfl
    · rw [exec_freeprog, State.dspTake_good he ha hc (by simp [hop]) hgood]
      rfl
    · rw [exec_dspBind, State.dspTake_good he ha hc (by simp [hop]) hgood]
      rfl
    · rw [exec_dspUnbind, State.dspTake_good he ha hc (by simp [hop]) hgood]
      rfl
  case untaken =>
    intro s n h
    simp only [exec_loadprog, exec_freeprog, exec_dspBind, exec_dspUnbind, State.dspTake_none h, and_self]
  case others =>
    intro s n q e he
    refine ⟨fun hop => ?_, fun hop => ?_, fun hop => ?_, fun hop => ?_⟩
    · rw [exec_loadprog, State.dspTake_other he]
      obtain hop | hop | hop := hop <;> simp [hop]
    · rw [exec_freeprog, State.dspTake_other he (by simpa using hop)]
    · rw [exec_dspBind, State.dspTake_other he (by simpa using hop)]
    · rw [exec_dspUnbind, State.dspTake_other he (by simpa using hop)]

end Sys2Proof.Machine
end

section
/-! The Mill core states: the commands of DSP_CORECMD, the self-check, waking, gating and the watchdog, and a cluster's power. -/

namespace Sys2Proof.Machine

/-! ### What the commands share -/

/-- A command of two conditions of which the first holds: the second decides. -/
theorem next_ite_and {a b : Prop} [Decidable a] [Decidable b] (ha : a) (t u : State) :
    (if a ∧ b then (.next t : Out) else .next u) = .next (if b then t else u) := by
  simp only [ha, true_and]
  exact (apply_ite Host.Outcome.next _ _ _).symm

/-- A core that leaves RESET, DISABLED or GATED for IDLE in event tick `t`. -/
def Core.idling (x : Core) (t : Nat) : Core :=
  { x with
    st := coIdle
    wakeAt := none
    fresh := true
    idleAt := t }

section

variable {s : State} {n : Fin 16} {c : Fin 96}

/-! ### DSP_CORECMD of a core that is not DISABLED (R232, R233, R234, R281) -/

section

variable (hen : (s.core n.val c.val).st ≠ coDisabled)
include hen

theorem exec_coreEnable_enabled : exec (.coreEnable n c) s = .next s := if_neg fun hgo => hen hgo.2

variable (hcmd : s.coreCmd n.val = true)
include hcmd

theorem exec_coreReset_enabled : exec (.coreReset n c) s = .next (if s.isCut (cutCore n.val c.val) = true then s
    else s.exception n.val c.val exAborted 0 (s.coreCycle (s.core n.val c.val)) false) := by
  simp only [exec, execCoreReset]
  cases hcut : s.isCut (cutCore n.val c.val)
  · exact if_pos ⟨hcmd, hen, rfl⟩
  · exact if_neg fun hgo => absurd hgo.2.2 (by decide)

theorem exec_coreDisable_enabled : exec (.coreDisable n c) s = .next (if s.isCut (cutCore n.val c.val) = true
    then s.coreDisabled n.val c.val
    else s.exception n.val c.val exAborted 0 (s.coreCycle (s.core n.val c.val)) true) :=
  (if_pos ⟨hcmd, hen⟩).trans (apply_ite Host.Outcome.next _ _ _).symm

theorem exec_coreInject_enabled :
    exec (.coreInject n c) s = .next (s.setCore n.val c.val { s.core n.val c.val with inject := true }) := if_pos ⟨hcmd, hen⟩

end

/-! ### DSP_CORECMD of a DISABLED core (R225) -/

section

variable (hdis : (s.core n.val c.val).st = coDisabled)
include hdis

theorem exec_coreEnable_disabled (hcmd : s.coreCmd n.val = true) :
    exec (.coreEnable n c) s = .next (s.setCore n.val c.val { (s.core n.val c.val).zero with wakeAt := some s.tick }) :=
  if_pos ⟨hcmd, hdis⟩

theorem exec_coreReset_disabled : exec (.coreReset n c) s = .next s := if_neg fun hgo => hgo.2.1 hdis

theorem exec_coreDisable_disabled : exec (.coreDisable n c) s = .next s := if_neg fun hgo => hgo.2 hdis

theorem exec_coreInject_disabled : exec (.coreInject n c) s = .next s := if_neg fun hgo => hgo.2 hdis

end

/-! ### The self-check (R225, R231) -/

/-- The core's self-check runs. -/
def Core.checking (x : Core) : Prop := x.st = coReset ∨ (x.st = coDisabled ∧ x.wakeAt.isSome = true)

section

variable (hcmd : s.coreCmd n.val = true)
include hcmd

theorem exec_selfCheckDone_passes (hch : (s.core n.val c.val).checking) :
    exec (.selfCheckDone n c true) s = .next (s.setCore n.val c.val ((s.core n.val c.val).idling s.tick)) := by
  simp only [exec, execSelfCheckDone, hcmd, Bool.not_true, Bool.false_eq_true, if_false, if_true]
  exact if_pos hch

theorem exec_selfCheckDone_fails (hch : (s.core n.val c.val).checking) :
    exec (.selfCheckDone n c false) s = .next (if (s.core n.val c.val).st = coReset then s.coreDisabled n.val c.val
      else s.setCore n.val c.val { s.core n.val c.val with wakeAt := none }) := by
  simp only [exec, execSelfCheckDone, hcmd, Bool.not_true, Bool.false_eq_true, if_false]
  exact (if_pos hch).trans (apply_ite Host.Outcome.next _ _ _).symm

theorem exec_selfCheckDone_notChecking (hch : ¬ (s.core n.val c.val).checking) (pass : Bool) :
    exec (.selfCheckDone n c pass) s = .next s := by
  simp only [exec, execSelfCheckDone, hcmd, Bool.not_true, Bool.false_eq_true, if_false]
  exact if_neg hch

/-! ### Waking, gating and the watchdog (R214, R225, R230, R244, R245) -/

theorem exec_coreWake_eq : exec (.coreWake n c) s = .next
    (if (s.core n.val c.val).st = coGated ∧ (s.core n.val c.val).wakeAt.isSome = true
      then s.setCore n.val c.val ((s.core n.val c.val).zero.idling s.tick) else s) :=
  next_ite_and hcmd _ _

theorem exec_millHang_eq : exec (.millHang n c) s = .next
    (if (s.core n.val c.val).desc.isSome = true ∧ s.since (s.core n.val c.val).startAt (msTicks 1) = true
      then s.exception n.val c.val exHang ((s.storeWord n.val (s.core n.val c.val).pc).toNat / 2 ^ 56) watchdogCycles false
      else s) :=
  next_ite_and hcmd _ _

end

/-- An IDLE core gates: no descriptor waits or comes in this event tick, and it holds no binding or IDLEGATE has passed. -/
def State.coreGates (s : State) (n c : Nat) : Prop :=
  let x := s.core n c
  let g := s.fld (Reg.DSP_CTL n) Fld.DSP_CTL_IDLEGATE
  x.st = coIdle ∧ x.dq = [] ∧ s.descriptorNow n c = false ∧
    ((s.coreBinds n c).isEmpty = true ∨ (g ≠ 0 ∧ s.since x.idleAt (usTicks g) = true))

/-- The window of a core that gates is written back, or its slot's round faults. -/
def State.gatePut (s : State) (n c : Nat) (ue : Bool) : State :=
  match s.backFails n c ue with
  | some y => s.backFault y
  | none => (s.writeBack n c).2

theorem exec_idlegateExpiry_gates (hcmd : s.coreCmd n.val = true) (hg : s.coreGates n.val c.val) (ue : Bool) :
    let put := s.gatePut n.val c.val ue
    exec (.idlegateExpiry n ⟨c, ue⟩) s = .next (put.setCore n.val c.val { put.core n.val c.val with st := coGated }) := by
  simp only [exec, execIdlegateExpiry, Bool.not_eq_true']
  exact if_pos ⟨hcmd, hg⟩

theorem exec_idlegateExpiry_stays (hg : ¬ s.coreGates n.val c.val) (ue : Bool) :
    exec (.idlegateExpiry n ⟨c, ue⟩) s = .next s := by
  simp only [exec, execIdlegateExpiry, Bool.not_eq_true']
  exact if_neg fun hgo => hg hgo.2

end

/-! ### Cluster power (R226) -/

section

variable {s : State} (n : Fin 16) (ha : s.awake = true)
include ha

theorem exec_clusterDark_awake : exec (.clusterDark n) s = .next
    (if s.clusterState n.val = 0 ∧ s.mayDarken n.val = true then s.setCluster n.val 1 else s) :=
  next_ite_awake ha _ _

theorem exec_clusterAwake_awake : exec (.clusterAwake n) s = .next
    (if s.clusterState n.val = 3 then (s.setCluster n.val 0).portsBack n.val else s) :=
  next_ite_awake ha _ _

end

/-! ### The statement -/

/-- Settles O27: each command by the core's state, gating by its conditions, then a cluster's power and what a zeroed core holds. -/
theorem coreCommands : Obligations.CoreCommands := by
  refine ⟨fun s n c hcmd => ⟨fun hen => ?enabled, fun hdis => ?disabled, fun hst => ?reset, fun hst hwake => ?enabling,
      fun hre hen => exec_selfCheckDone_notChecking hcmd (not_or.mpr ⟨hre, hen⟩), exec_coreWake_eq hcmd, fun ue => ?gating,
      exec_millHang_eq hcmd⟩,
    fun s n ha => ⟨exec_clusterDark_awake n ha, exec_clusterAwake_awake n ha⟩, fun x => ⟨rfl, rfl, rfl, rfl, rfl, rfl⟩⟩
  case enabled =>
    exact ⟨exec_coreReset_enabled hen hcmd, exec_coreDisable_enabled hen hcmd, exec_coreInject_enabled hen hcmd,
      exec_coreEnable_enabled hen⟩
  case disabled =>
    exact ⟨exec_coreEnable_disabled hdis hcmd, exec_coreReset_disabled hdis, exec_coreDisable_disabled hdis,
      exec_coreInject_disabled hdis⟩
  case reset =>
    refine ⟨exec_selfCheckDone_passes hcmd (.inl hst), ?_⟩
    rw [exec_selfCheckDone_fails hcmd (.inl hst), if_pos hst]
  case enabling =>
    have hre : (s.core n.val c.val).st ≠ coReset := by rw [hst]; decide
    refine ⟨exec_selfCheckDone_passes hcmd (.inr ⟨hst, hwake⟩), ?_⟩
    rw [exec_selfCheckDone_fails hcmd (.inr ⟨hst, hwake⟩), if_neg hre]
  case gating =>
    intro g gates put
    by_cases hg : gates
    · rw [exec_idlegateExpiry_gates hcmd hg, if_pos hg]
      rfl
    · rw [exec_idlegateExpiry_stays hg, if_neg hg]

end Sys2Proof.Machine
end

section
/-! The Mill's control instructions: BR, LOOP, WAIT, SIG and HALT, as the core that issues one runs it. -/

namespace Sys2Proof.Machine

/-! ### Rows of instructions that issue -/

section

variable {s : State} {n : Fin 16} {c : Fin 96} {p : Prep}

theorem exec_br_issues {a : BitVec 8} {cond : BitVec 4} {bit : BitVec 6} {target : BitVec 15}
    (h : s.issues n c (.br a cond bit target) p) : exec (.br n c p.e) s = .next (runBr p s) :=
  congrArg _ (State.millRow_issues h runBr)

theorem exec_loop_issues {a : BitVec 8} {count body : BitVec 12} (h : s.issues n c (.loop a count body) p) :
    exec (.loop n c p.e) s = .next (runLoop p s) :=
  congrArg _ (State.millRow_issues h runLoop)

theorem exec_wait_issues {d : BitVec 8} {ev : BitVec 4} {mask : BitVec 8} (h : s.issues n c (.wait d ev mask) p) :
    exec (.wait n c p.e) s = .next (runWait p s) :=
  congrArg _ (State.millRow_issues h runWait)

theorem exec_sig_issues {a : BitVec 8} {core : BitVec 7} {mask : BitVec 8} (h : s.issues n c (.sig a core mask) p) :
    exec (.sig n c p.e) s = .next (runSig p s) :=
  congrArg _ (State.millRow_issues h runSig)

theorem exec_halt_issues {a : BitVec 8} {cond : BitVec 4} {bit : BitVec 6} (h : s.issues n c (.halt a cond bit) p) :
    exec (.halt n c p.e) s = .next (runHalt p s) :=
  congrArg _ (State.millRow_issues h runHalt)

end

/-! ### BR (R246) -/

section

variable {p : Prep} {a : BitVec 8} {cond : BitVec 4} {bit : BitVec 6} {target : BitVec 15}
  (hi : p.i = .br a cond bit target) (s : State)
include hi

theorem runBr_taken (hcond : p.x.cond cond a bit = true) :
    runBr p s = p.finish s { p.ends with
      next := p.start + 2
      pc := target.toNat
      loops := p.x.loops.dropWhile (fun l => !decide (l.first ≤ target.toNat ∧ target.toNat ≤ l.last)) } := by
  simp only [runBr, hi]
  exact if_pos hcond

theorem runBr_passed (hcond : p.x.cond cond a bit = false) : runBr p s = p.finish s { p.ends with next := p.start + 1 } := by
  simp only [runBr, hi]
  exact if_neg (Bool.eq_false_iff.mp hcond)

end

/-! ### LOOP (R247) -/

section

variable {p : Prep} {a : BitVec 8} {count body : BitVec 12} (hi : p.i = .loop a count body) (s : State)
  {k : Nat} (hk : (if count = 0 then (p.x.s a).toNat % 4096 else count.toNat) = k)
include hi hk

theorem runLoop_skips (hnone : k = 0 ∨ body = 0) :
    runLoop p s = p.finish s { p.ends with
      pc := (loopBack (p.x.pc + body.toNat) p.x.loops).1
      loops := (loopBack (p.x.pc + body.toNat) p.x.loops).2 } := by
  simp only [runLoop, hi, hk]
  exact if_pos hnone

theorem runLoop_enters (hsome : ¬ (k = 0 ∨ body = 0)) :
    runLoop p s = p.finish s { p.ends with
      pc := p.x.pc + 1
      loops := { first := p.x.pc + 1, last := p.x.pc + body.toNat, left := k } :: p.x.loops } := by
  simp only [runLoop, hi, hk]
  exact if_neg hsome

end

/-! ### WAIT (R248) -/

theorem Prep.waitDone_ends {cyc : Nat} (hin : cyc < watchdogCycles) (p : Prep) (s : State) (d : BitVec 8) (ev : BitVec 4)
    (mask : BitVec 8) : p.waitDone s d ev mask cyc = p.waitEnd s d ev mask cyc := if_neg (Nat.not_le.mpr hin)

theorem Prep.waitDone_hang {cyc : Nat} (hlate : watchdogCycles ≤ cyc) (p : Prep) (s : State) (d : BitVec 8) (ev : BitVec 4)
    (mask : BitVec 8) : p.waitDone s d ev mask cyc = p.exc s exHang watchdogCycles := if_pos hlate

/-- A WAIT whose event has come before it issues ends in the first cycle that it may. -/
theorem Prep.waitCycle_zero (p : Prep) (s : State) (ev : BitVec 4) (mask : BitVec 8) :
    p.waitCycle s ev mask 0 = if ev = 0 then max (p.start + 1) ((s.core p.n p.c).flagCycle mask)
      else if ev = 1 then max p.start p.last + 1 else p.start + 1 := by
  simp only [Prep.waitCycle, Nat.max_zero]

section

variable {s : State} {p : Prep} {d : BitVec 8} {ev : BitVec 4} {mask : BitVec 8} (hi : p.i = .wait d ev mask)
include hi

theorem runWait_met (hmet : s.waitMet p.n p.c ev mask = true) :
    runWait p s = p.waitDone s d ev mask (p.waitCycle s ev mask 0) := by
  simp only [runWait, hi]
  exact if_pos hmet

theorem runWait_waits (hmet : s.waitMet p.n p.c ev mask = false) :
    runWait p s = s.setCore p.n p.c { p.x with
      st := coWait
      waitEv := some (ev.toNat, mask, none) } := by
  simp only [runWait, hi]
  exact if_neg (Bool.eq_false_iff.mp hmet)

end

section

variable {s : State} {n : Fin 16} {c : Fin 96}

theorem exec_waitSatisfied_notWaiting (hst : (s.core n.val c.val).st ≠ coWait) : exec (.waitSatisfied n c) s = .next s := by
  simp only [exec, execWaitSatisfied]
  split
  next =>
    split
    · exact if_neg fun hgo => hst hgo.2.1
    · rfl
  next => rfl

variable {r : BitVec 8} {ev : BitVec 4} {mask : BitVec 8}
  (hw : decodeMill (s.fetch n.val (s.core n.val c.val).pc) = some (.wait r ev mask))
include hw

theorem exec_waitSatisfied_unmet (hmet : s.waitMet n.val c.val ev mask = false) : exec (.waitSatisfied n c) s = .next s := by
  cases hd : (s.core n.val c.val).desc with
  | none => simp only [exec, execWaitSatisfied, hd]
  | some d =>
    simp only [exec, execWaitSatisfied, hw, hd]
    exact if_neg fun hgo => Bool.eq_false_iff.mp hmet hgo.2.2

theorem exec_waitSatisfied_met {d : Desc} (hd : (s.core n.val c.val).desc = some d) (hcmd : s.coreCmd n.val = true)
    (hst : (s.core n.val c.val).st = coWait) (hmet : s.waitMet n.val c.val ev mask = true) :
    let p := s.prep n.val c.val d (.wait r ev mask) .none
    exec (.waitSatisfied n c) s = .next (p.waitDone s r ev mask (p.waitCycle s ev mask (s.coreCycle (s.core n.val c.val)))) := by
  simp only [exec, execWaitSatisfied, hw, hd]
  exact if_pos ⟨hcmd, hst, hmet⟩

end

/-! ### SIG (R248) -/

theorem runSig_sends {p : Prep} {a : BitVec 8} {core : BitVec 7} {mask : BitVec 8} (hi : p.i = .sig a core mask) (s : State) :
    let k := if core = 0x7F then (p.x.s a).toNat % 128 else core.toNat
    let f : Flight := { n := p.n, core := k, mask := mask, slot := s.collSlot p.d.coll, due := p.x.abs (p.at + 4) }
    runSig p s = p.finish (s.onMill (fun m => { m with flights := m.flights ++ [f] })) p.ends := by
  simp only [runSig, hi]

/-- The flags `f` reach their core as the state stands: it is awake, bound for the sender's slot, and no invocation has
begun there since. -/
def State.flagLands (s : State) (n : Nat) (f : Flight) : Prop :=
  f.core < 96 ∧ s.coreCmd n = true ∧
    ((s.core n f.core).st = coIdle ∨ (s.core n f.core).st = coRun ∨ (s.core n f.core).st = coWait) ∧
    (s.coreBinds n f.core).any (fun b => s.collSlot b.coll == f.slot) = true ∧
    ¬ ((s.core n f.core).desc.isSome = true ∧ f.due ≤ (s.core n f.core).abs 0)

section

variable {s : State} {n : Fin 16}

theorem exec_sigArrive_none (hf : s.nextFlight n.val = none) : exec (.sigArrive n) s = .next s := by
  simp only [exec, execSigArrive, hf]

variable {f : Flight} (ha : s.awake = true) (hf : s.nextFlight n.val = some f) {gone : State}
  (hgone : s.onMill (fun m => { m with flights := m.flights.erase f }) = gone)
include ha hf hgone

theorem exec_sigArrive_lands (hl : gone.flagLands n.val f) :
    exec (.sigArrive n) s = .next (gone.setCore n.val f.core ((gone.core n.val f.core).setFlags f.mask f.due)) := by
  simp only [exec, execSigArrive, hf, ha, hgone, Bool.not_true, Bool.false_eq_true, if_false, Bool.not_eq_true',
    decide_eq_false_iff_not]
  exact if_pos hl

theorem exec_sigArrive_lost (hl : ¬ gone.flagLands n.val f) : exec (.sigArrive n) s = .next gone := by
  simp only [exec, execSigArrive, hf, ha, hgone, Bool.not_true, Bool.false_eq_true, if_false, Bool.not_eq_true',
    decide_eq_false_iff_not]
  exact if_neg hl

end

/-! ### HALT (R218, R246) -/

section

variable {p : Prep} {a : BitVec 8} {cond : BitVec 4} {bit : BitVec 6} (hi : p.i = .halt a cond bit) (s : State)
  {ret : Nat} (hret : max p.start (if p.x.tm.retired = 0 then 0 else p.last + 1) = ret)
include hi hret

theorem runHalt_passed (hcond : p.x.cond cond a bit = false) :
    runHalt p s = p.finish s { p.ends with
      done := ret
      ret := ret
      next := p.start + 1 } := by
  simp only [runHalt, hi, hret]
  exact if_neg (Bool.eq_false_iff.mp hcond)

variable (hcond : p.x.cond cond a bit = true)
include hcond

theorem runHalt_ends (hin : ret ≤ watchdogCycles) : runHalt p s = s.endInvocation p.n p.c ret := by
  simp only [runHalt, hi, hret]
  exact (if_pos hcond).trans (if_neg (Nat.not_lt.mpr hin))

theorem runHalt_hang (hlate : watchdogCycles < ret) : runHalt p s = p.exc s exHang watchdogCycles := by
  simp only [runHalt, hi, hret]
  exact (if_pos hcond).trans (if_pos hlate)

end

/-! ### The statement -/

/-- Settles O29: each instruction runs its row, by its condition, its count, its event or its cycle. -/
theorem millControl : Obligations.MillControl := by
  refine ⟨?br, ?loop, ?wait, ?satisfied, fun s n c => exec_waitSatisfied_notWaiting,
    fun s n c r ev mask => exec_waitSatisfied_unmet, ?sig, ?arrive, fun s n => exec_sigArrive_none, ?halt⟩
  case br =>
    intro s n c p a cond bit target h
    rw [exec_br_issues h]
    exact ⟨fun hcond => congrArg _ (runBr_taken h.instr s hcond), fun hcond => congrArg _ (runBr_passed h.instr s hcond)⟩
  case loop =>
    intro s n c p a count body h k e
    rw [exec_loop_issues h]
    exact ⟨fun hnone => congrArg _ (runLoop_skips h.instr s rfl hnone),
      fun hsome => congrArg _ (runLoop_enters h.instr s rfl hsome)⟩
  case wait =>
    intro s n c p d ev mask h cyc
    have hcyc : p.waitCycle s ev mask 0 = cyc := p.waitCycle_zero s ev mask
    rw [exec_wait_issues h]
    refine ⟨fun hmet hin => ?_, fun hmet hlate => ?_, fun hmet => ?_⟩
    · rw [runWait_met h.instr hmet, hcyc, Prep.waitDone_ends hin]
    · rw [runWait_met h.instr hmet, hcyc, Prep.waitDone_hang hlate]
      rfl
    · rw [runWait_waits h.instr hmet]
  case satisfied =>
    intro s n c d r ev mask x p cyc hd hw hcmd hst hmet
    rw [exec_waitSatisfied_met hw hd hcmd hst hmet]
    exact ⟨fun hin => congrArg _ (Prep.waitDone_ends hin p s r ev mask),
      fun hlate => congrArg _ (Prep.waitDone_hang hlate p s r ev mask)⟩
  case sig =>
    intro s n c p a core mask h k f
    rw [exec_sig_issues h, runSig_sends h.instr]
    rfl
  case arrive =>
    intro s n f ha hf gone x here
    exact ⟨exec_sigArrive_lands ha hf rfl, exec_sigArrive_lost ha hf rfl⟩
  case halt =>
    intro s n c p a cond bit h ret
    rw [exec_halt_issues h]
    exact ⟨fun hcond hin => congrArg _ (runHalt_ends h.instr s rfl hcond hin),
      fun hcond hlate => congrArg _ (runHalt_hang h.instr s rfl hcond hlate),
      fun hcond => congrArg _ (runHalt_passed h.instr s rfl hcond)⟩

end Sys2Proof.Machine
end

section
/-! The Mill's arithmetic, block and sparse instructions: their operands, their result, and a residue error. -/

namespace Sys2Proof.Machine

/-! ### Rows of instructions that issue -/

/-- The command of an instruction of layout A. -/
def AluOp.command (op : AluOp) (n : Fin 16) (c : Fin 96) (e : MillErr) : Instr :=
  match op with
  | .vadd => .vadd n c e
  | .vfma => .vfma n c e
  | .vmax => .vmax n c e
  | .vmin => .vmin n c e
  | .vscl => .vscl n c e
  | .vcast => .vcast n c e
  | .vsrnd => .vsrnd n c e

section

variable {s : State} {n : Fin 16} {c : Fin 96} {p : Prep}

theorem exec_alu_issues {op : AluOp} {d a b : BitVec 8} {fa fb : BitVec 4} {cb sat pe : BitVec 1} {pred : BitVec 3} {ne : BitVec 14}
    (h : s.issues n c (.alu op d a b fa fb cb sat pe pred ne) p) : exec (op.command n c p.e) s = .next (runAlu p s) := by
  cases op <;> exact congrArg _ (State.millRow_issues h runAlu)

theorem exec_vmxd_issues {d a : BitVec 8} {fa fb : BitVec 4} {rnd : BitVec 2} {ne : BitVec 14}
    (h : s.issues n c (.vmxd d a fa fb rnd ne) p) : exec (.vmxd n c p.e) s = .next (runMxd p s) :=
  congrArg _ (State.millRow_issues h runMxd)

theorem exec_vmxe_issues {d a : BitVec 8} {fa fb : BitVec 4} {rnd : BitVec 2} {ne : BitVec 14}
    (h : s.issues n c (.vmxe d a fa fb rnd ne) p) : exec (.vmxe n c p.e) s = .next (runMxe p s) :=
  congrArg _ (State.millRow_issues h runMxe)

theorem exec_vtkm_issues {d a b : BitVec 8} (h : s.issues n c (.vtkm d a b) p) : exec (.vtkm n c p.e) s = .next (runVtkm p s) :=
  congrArg _ (State.millRow_issues h runVtkm)

end

/-! ### A residue error (R227) -/

section

variable {p : Prep} (hres : p.residue = true) (s : State)
include hres

theorem runAlu_residue : runAlu p s = p.residueExc s := if_pos hres

theorem runMxd_residue : runMxd p s = p.residueExc s := if_pos hres

theorem runMxe_residue : runMxe p s = p.residueExc s := if_pos hres

theorem runVtkm_residue : runVtkm p s = p.residueExc s := if_pos hres

end

/-! ### Layout A (R251, R252) -/

/-- Registers of source A of an instruction of layout A. -/
def AluOp.regsA (op : AluOp) (fa fb : Nat) (c : Bool) (ne : Nat) : Nat :=
  match op with
  | .vadd | .vmax | .vmin => aluGroup fa c ne
  | .vscl => groupRegs fa ne
  | .vfma | .vcast | .vsrnd => groupRegs fb ne

/-- The operands of an instruction of layout A. -/
def Prep.aluIn (p : Prep) (op : AluOp) (d a b : BitVec 8) (fa fb : BitVec 4) (c sat pe : BitVec 1) (pred : BitVec 3) : AluIn :=
  { op := op, fa := fa.toNat, fb := fb.toNat, c := c == 1, sat := sat == 1
    pe := if pe = 1 then some (p.x.pred pred.toNat) else none
    ne := p.env.ne
    gd := p.x.group d (aluGroup fa.toNat (c == 1) p.env.ne)
    ga := p.x.group a (op.regsA fa.toNat fb.toNat (c == 1) p.env.ne)
    gb := if isV b then p.x.group b (groupRegs fb.toNat p.env.ne) else 0
    sv := f32 ((p.x.s b).toNat % 2 ^ 32) }

section

variable {p : Prep} {op : AluOp} {d a b : BitVec 8} {fa fb : BitVec 4} {c sat pe : BitVec 1} {pred : BitVec 3} {ne : BitVec 14}
  (hi : p.i = .alu op d a b fa fb c sat pe pred ne) (hres : p.residue = false) (s : State)
include hi hres

/-- Without a residue error the group and the counts are those of the operands, free where groups of different widths overlap. -/
theorem runAlu_eq :
    let regs := aluGroup fa.toNat (c == 1) p.env.ne
    let r := (p.aluIn op d a b fa fb c sat pe pred).run p.x.gen
    runAlu p s = if p.overlaps then p.vecFree s d regs r.2.2 else p.vecEnd s d regs r := by
  simp only [runAlu, hi, hres, Bool.false_eq_true, if_false]
  cases op <;> rfl

theorem runAlu_ends (hapart : p.overlaps = false) :
    runAlu p s = p.vecEnd s d (aluGroup fa.toNat (c == 1) p.env.ne) ((p.aluIn op d a b fa fb c sat pe pred).run p.x.gen) :=
  (runAlu_eq hi hres s).trans (if_neg (Bool.eq_false_iff.mp hapart))

theorem runAlu_free (hover : p.overlaps = true) :
    runAlu p s = p.vecFree s d (aluGroup fa.toNat (c == 1) p.env.ne) ((p.aluIn op d a b fa fb c sat pe pred).run p.x.gen).2.2 :=
  (runAlu_eq hi hres s).trans (if_pos hover)

end

/-! ### VMXD and VMXE (R253) -/

section

variable {p : Prep} {d a : BitVec 8} {fa fb : BitVec 4} {rnd : BitVec 2} {ne : BitVec 14} (hres : p.residue = false) (s : State)
include hres

theorem runMxd_ends (hi : p.i = .vmxd d a fa fb rnd ne) (hapart : p.overlaps = false) :
    let regs := groupRegs fa.toNat p.env.ne
    let r := mxdRun fa.toNat fb.toNat p.env.ne (p.x.group d regs) (p.x.group a (groupRegs fb.toNat p.env.ne))
    runMxd p s = p.vecEnd s d regs (r.1, r.2, p.x.gen) := by
  simp only [runMxd, hi, hres, hapart, Bool.false_eq_true, if_false]

theorem runMxd_free (hi : p.i = .vmxd d a fa fb rnd ne) (hover : p.overlaps = true) :
    runMxd p s = p.vecFree s d (groupRegs fa.toNat p.env.ne) p.x.gen := by
  simp only [runMxd, hi, hres, hover, Bool.false_eq_true, if_false, if_true]

theorem runMxe_ends (hi : p.i = .vmxe d a fa fb rnd ne) (hapart : p.overlaps = false) :
    runMxe p s = p.vecEnd s d (groupRegs fa.toNat p.env.ne)
      (mxeRun fa.toNat p.env.ne (rnd == 1) (p.x.group a (groupRegs fb.toNat p.env.ne)) p.x.gen) := by
  simp only [runMxe, hi, hres, hapart, Bool.false_eq_true, if_false]

theorem runMxe_free (hi : p.i = .vmxe d a fa fb rnd ne) (hover : p.overlaps = true) :
    runMxe p s = p.vecFree s d (groupRegs fa.toNat p.env.ne)
      (mxeRun fa.toNat p.env.ne (rnd == 1) (p.x.group a (groupRegs fb.toNat p.env.ne)) p.x.gen).2.2 := by
  simp only [runMxe, hi, hres, hover, Bool.false_eq_true, if_false, if_true]

end

/-! ### VTKM (R254) -/

theorem runVtkm_ends {p : Prep} {d a b : BitVec 8} (hi : p.i = .vtkm d a b) (hres : p.residue = false) (s : State) :
    let regs := pairRegs p.env.k
    let r := topMerge (cxElems p.cx) p.env.k (p.x.group a regs) (p.x.group b regs)
    runVtkm p s = p.vecEnd s d regs (r.1, r.2, p.x.gen) := by
  simp only [runVtkm, hi, hres, Bool.false_eq_true, if_false]

/-! ### The statement -/

/-- Settles O30: each instruction runs its row, by a residue error and by whether its groups overlap. -/
theorem millArithmetic : Obligations.MillArithmetic := by
  refine ⟨?alu, ?mx, ?vtkm, fun x d k g a => ⟨rfl, rfl, rfl, rfl⟩⟩
  case alu =>
    intro s n c p op d a b fa fb cb sat pe pred ne h row regs srcA input
    have hrow : exec row s = .next (runAlu p s) := exec_alu_issues h
    rw [hrow]
    exact ⟨fun hres hapart => congrArg _ (runAlu_ends h.instr hres s hapart),
      fun hres hover => congrArg _ (runAlu_free h.instr hres s hover), fun hres => congrArg _ (runAlu_residue hres s)⟩
  case mx =>
    intro s n c p d a fa fb rnd ne regs
    refine ⟨fun h => ?_, fun h => ?_⟩
    · rw [exec_vmxd_issues h]
      exact ⟨fun hres hapart => congrArg _ (runMxd_ends hres s h.instr hapart),
        fun hres hover => congrArg _ (runMxd_free hres s h.instr hover), fun hres => congrArg _ (runMxd_residue hres s)⟩
    · intro r
      rw [exec_vmxe_issues h]
      exact ⟨fun hres hapart => congrArg _ (runMxe_ends hres s h.instr hapart),
        fun hres hover => congrArg _ (runMxe_free hres s h.instr hover), fun hres => congrArg _ (runMxe_residue hres s)⟩
  case vtkm =>
    intro s n c p d a b h regs r
    rw [exec_vtkm_issues h]
    exact ⟨fun hres => congrArg _ (runVtkm_ends h.instr hres s), fun hres => congrArg _ (runVtkm_residue hres s)⟩

end Sys2Proof.Machine
end

section
/-! The Mill's encoding: where a word holds each field, and that decoding an instruction's word gives its fields back. -/

namespace Sys2Proof.Machine

/-! ### Fields of appended bit vectors

Library facts in a form that `simp` applies where the width of the whole is a numeral (R235's 64 and 32): `no_index` keeps it from
looking for a sum there. -/

theorem extractLsb'_append_high {u v k n : Nat} {hi : BitVec u} {lo : BitVec v} (h : v ≤ k) :
    (no_index (hi ++ lo)).extractLsb' k n = hi.extractLsb' (k - v) n :=
  BitVec.extractLsb'_append_eq_of_le h

theorem extractLsb'_append_low {u v k n : Nat} {hi : BitVec u} {lo : BitVec v} (h : k + n ≤ v) :
    (no_index (hi ++ lo)).extractLsb' k n = lo.extractLsb' k n :=
  BitVec.extractLsb'_append_eq_of_add_le h

/-! ### The skeleton (R235) -/

section

variable (m d a b : BitVec 8) (low : BitVec 32)

@[simp] theorem millWord_major : (millWord m d a b low).extractLsb' 56 8 = m := by
  simp [millWord, extractLsb'_append_high]

@[simp] theorem millWord_dst : (millWord m d a b low).extractLsb' 48 8 = d := by
  simp [millWord, extractLsb'_append_high, extractLsb'_append_low]

@[simp] theorem millWord_srcA : (millWord m d a b low).extractLsb' 40 8 = a := by
  simp [millWord, extractLsb'_append_high, extractLsb'_append_low]

@[simp] theorem millWord_srcB : (millWord m d a b low).extractLsb' 32 8 = b := by
  simp [millWord, extractLsb'_append_high, extractLsb'_append_low]

/-- FMT and IMM are read from the word's low half. -/
@[simp] theorem millWord_low {k n : Nat} (h : k + n ≤ 32) : (millWord m d a b low).extractLsb' k n = low.extractLsb' k n :=
  extractLsb'_append_low h

end

/-! ### Decoding an instruction's word -/

/-- The fields come back whatever they hold: each has its own bits in the word of its layout, and the majors differ. -/
theorem millFields_encodeMill (i : MInstr) : millFields (encodeMill i) = some i := by
  cases i with
  | alu op d a b fa fb c sat pe pred ne =>
    cases op <;> simp [millFields, encodeMill, aluOf, AluOp.major, extractLsb'_append_high, extractLsb'_append_low]
  | _ => simp [millFields, encodeMill, extractLsb'_append_high, extractLsb'_append_low]

theorem decodeMill_encodeMill {i : MInstr} (h : i.good = true) : decodeMill (encodeMill i) = some i := by
  simp only [decodeMill, millFields_encodeMill, h, and_self, if_true]

/-- Settles O28: an instruction's fields come back from its word, and decoding keeps only words that encode what they hold. -/
theorem millEncoding : Obligations.MillEncoding := by
  refine ⟨fun i h => decodeMill_encodeMill h, fun w i h => (decodeMill_some h).2, ?major⟩
  case major =>
    intro w op d a b fa fb c sat pe pred ne h
    obtain ⟨-, rfl, -⟩ := decodeMill_some h
    exact millWord_major ..

end Sys2Proof.Machine
end

section
/-! WATCH and OFF: what a module that is not above WATCH answers to everything outside its Watch domain. -/

namespace Sys2Proof.Machine

/-! ### What every guard says of a module not above WATCH (R388) -/

section

variable {s : State} (h : s.awake = false)
include h

theorem State.mode_le_watch : s.mode ≤ stWatch := by simpa [State.awake] using h

@[simp] theorem State.mayWrite_asleep (src : Source) : s.mayWrite src = false := by simp [State.mayWrite, h]

@[simp] theorem State.mayRead_asleep (src : Source) : s.mayRead src = false := by simp [State.mayRead, h]

@[simp] theorem State.linked_asleep (p : Nat) : s.linked p = false := by simp [State.linked, h]

@[simp] theorem State.arrives_asleep (p : Nat) (mine : Emission → Bool) : s.arrives p mine = none := by simp [State.arrives, h]

@[simp] theorem State.coreCmd_asleep (n : Nat) : s.coreCmd n = false := by simp [State.coreCmd, h]

@[simp] theorem State.engineRuns_asleep (j : Nat) : s.engineRuns j = false := by simp [State.engineRuns, h]

@[simp] theorem State.granaryHung_asleep (j : Nat) : s.granaryHung j = false := by simp [State.granaryHung, h]

@[simp] theorem State.uzoleyUsable_asleep (k : Fin 2) : s.uzoleyUsable k = false := by simp [State.uzoleyUsable, h]

@[simp] theorem State.bosunUp_asleep : s.bosunUp = false := by simp [State.bosunUp, h]

@[simp] theorem State.testOver_asleep (r : TestRun) : s.testOver r = false := by simp [State.testOver, h]

@[simp] theorem State.frontEntry_asleep (k i : Nat) (mine : Nat → Bool) : s.frontEntry k i mine = none :=
  State.frontEntry_none (by simp [State.batchOf, h]) mine

theorem State.not_draining_asleep : s.mode ≠ stDraining := by
  have := State.mode_le_watch h
  simp only [stWatch, stDraining] at *
  omega

/-! ### The operations that many commands share -/

theorem State.lcb_asleep (p type : Nat) (usesVc : Bool) (b : Lcb) (f : State → State) : s.lcb p type usesVc b f = s := by
  simp only [State.lcb, State.arrives_asleep h]

theorem State.packet_asleep (k : Fin 2) (p : Packet) (rule : KindRule) (run : Nat → State → State) :
    s.packet k p rule run = .next s := by
  simp only [State.packet, State.arrive, State.uzoleyUsable_asleep h, Bool.not_false, if_true]

theorem State.millRow_asleep (n : Fin 16) (c : Fin 96) (e : MillErr) (mine : Nat) (run : Prep → State → State) :
    s.millRow n c e mine run = s := by
  simp only [State.millRow]
  split
  · rfl
  · exact if_neg (by simp [h])

theorem State.takeFrame_asleep (r : StageRef) (p : Frame → Bool) (run : Frame → State → State) :
    s.takeFrame r p run = .next s := by
  unfold State.takeFrame
  split
  exacts [rfl, if_neg (by simp [h])]

theorem State.takeTime_asleep (r : StageRef) (p : Frame → Bool) (run : Held → State → State) : s.takeTime r p run = s := by
  unfold State.takeTime
  split
  exacts [rfl, if_neg (by simp [h])]

theorem State.takeRequest_asleep (r : StageRef) (kind : BitVec 6) (run : Held → State → State) : s.takeRequest r kind run = s := by
  unfold State.takeRequest
  split
  exacts [rfl, if_neg (by simp [h])]

/-! No engine takes an entry. -/

theorem State.bypassTake_asleep (mine : Nat → Bool) : s.bypassTake mine = s := by
  unfold State.bypassTake
  split
  exacts [rfl, if_neg (by simp [h])]

theorem State.tblTake_asleep (mine : Nat → Bool) : s.tblTake mine = s := by
  unfold State.tblTake
  split
  exacts [rfl, if_neg (by simp [h])]

theorem State.dspTake_asleep (n : Fin 16) (mine : Nat → Bool) (run : Entry → State → Nat × State) : s.dspTake n mine run = s := by
  unfold State.dspTake
  split
  exacts [rfl, if_neg (by simp [h])]

theorem State.grnTake_asleep (j : Fin 16) (mine : Nat → Bool) (run : Entry → State → State) : s.grnTake j mine run = s := by
  unfold State.grnTake
  split
  exacts [rfl, if_neg (by simp [h])]

theorem State.scrubTake_asleep (mine : Nat → Bool) (run : Entry → State → State) : s.scrubTake mine run = s := by
  unfold State.scrubTake
  split
  exacts [rfl, if_neg (by simp [h])]

theorem State.dumpTake_asleep (mine : Nat → Bool) (run : Entry → State → State) : s.dumpTake mine run = s := by
  unfold State.dumpTake
  split
  exacts [rfl, if_neg (by simp [h])]

end

/-! ### Commands outside the Watch domain -/

/-- Two branches that both leave the state as it is. -/
theorem next_ite {s : State} {c : Prop} [Decidable c] {a b : Out} (ha : a = .next s) (hb : b = .next s) :
    (if c then a else b) = .next s := by
  split <;> assumption

section

variable {s : State} (h : s.awake = false)
include h

theorem execFrameReceive_asleep (port : Fin 544) (f : Frame) (trailer : BitVec 32) (ago : BitVec 16) :
    execFrameReceive port f trailer ago s = .next s := if_pos (by simp [h])

theorem execThermalTrip_asleep (hcut : ∀ u, s.isCut u = false) (n : Fin 16) (k : Fin 64) (t : BitVec 16) :
    execThermalTrip n k t s = .next s :=
  next_ite rfl ((if_neg (by simp [h, hcut])).trans (if_neg (by simp [h])))

theorem execLoftPatrol_asleep (hcut : ∀ u, s.isCut u = false) (l : List LoftFinding) : execLoftPatrol l s = .next s := by
  simp [execLoftPatrol, State.pathCut, hcut, h]

theorem execGrnPatrol_asleep (hcut : ∀ u, s.isCut u = false) (j : Fin 16) (l : List GrnFinding) : execGrnPatrol j l s = .next s := by
  simp [execGrnPatrol, State.pathCut, hcut, h]

theorem execAdmitModule_asleep (hcut : ∀ u, s.isCut u = false) : execAdmitModule s = .next s := by
  simp [execAdmitModule, hcut, h]

theorem execRdReqTaken_asleep (r : StageRef) : execRdReqTaken r s = .next s := by
  simp [execRdReqTaken, State.takeRead, State.takeRequest_asleep h, h]

theorem execWaitSatisfied_asleep (n : Fin 16) (c : Fin 96) : execWaitSatisfied n c s = .next s := by
  simp only [execWaitSatisfied]
  split
  · split
    exacts [if_neg (by simp [h]), rfl]
  · rfl

theorem execSubReport_asleep (src : Source) (id : BitVec 16) : execSubReport src id s = .next s := by
  unfold execSubReport
  split
  · rfl
  · split
    exacts [if_neg (by simp [h]), rfl]

theorem execRingReport_asleep (src : Source) (id : BitVec 16) : execRingReport src id s = .next s := by
  unfold execRingReport
  split
  · rfl
  · split
    exacts [rfl, if_neg (by simp [h])]

theorem execResilver_asleep (j : Fin 16) : execResilver j s = .next s := by
  unfold execResilver
  split
  exacts [if_neg (by simp [h]), congrArg _ (State.grnTake_asleep h ..)]

theorem execPass1Done_asleep (j : Fin 16) : execPass1Done j s = .next s := by
  unfold execPass1Done
  split
  exacts [rfl, if_pos (by simp [h])]

theorem execPass2Done_asleep (j : Fin 16) : execPass2Done j s = .next s := by
  unfold execPass2Done
  split
  exacts [rfl, if_pos (by simp [h])]

theorem execAllotmentStall_asleep (j : Fin 16) (b : Fin 64) : execAllotmentStall j b s = .next s := by
  simp only [execAllotmentStall]
  split
  exacts [if_neg (by simp [h]), rfl]

theorem execSigArrive_asleep (n : Fin 16) : execSigArrive n s = .next s := by
  unfold execSigArrive
  split
  exacts [rfl, if_pos (by simp [h])]

theorem execTableEngineHang_asleep (o : HungOp) : execTableEngineHang o s = .next s := by
  cases o with
  | cmd src t w => exact if_neg (by simp [h])
  | entry => exact if_pos (by simp [h])

theorem execEngineEntryHang_asleep (e : BoundedEngine) : execEngineEntryHang e s = .next s := by
  cases e with
  | scrub => simp only [execEngineEntryHang, h]
  | dump => exact if_neg (by simp [h])

theorem execRemoteNoReturn_asleep (u : TestUnit) : execRemoteNoReturn u s = .next s := by
  unfold execRemoteNoReturn
  split
  exacts [if_neg (by simp [h]), rfl]

theorem execTestEnd_asleep (u : TestUnit) (errors : BitVec 16) (failed : List TestUnit) : execTestEnd u errors failed s = .next s := by
  unfold execTestEnd
  split
  exacts [rfl, if_pos (by simp [h])]

theorem execDump_asleep : execDump s = .next s := by
  unfold execDump
  split
  exacts [if_neg (by simp [h]), congrArg _ (State.dumpTake_asleep h ..)]

theorem execDumpSend_asleep : execDumpSend s = .next s := by
  unfold execDumpSend
  split
  exacts [if_neg (by simp [h]), congrArg _ (State.dumpTake_asleep h ..)]

theorem execDumpAccessTimeout_asleep (ut : Byte) (u : BitVec 16) (off : Word) : execDumpAccessTimeout ut u off s = .next s := by
  unfold execDumpAccessTimeout
  split
  exacts [rfl, if_pos (by simp [h])]

theorem execHello_asleep (k : Fin 2) (p : Packet) (c : Chain) : execHello k p c s = .next s :=
  next_ite rfl (next_ite (State.packet_asleep h ..) (if_pos (by simp [h])))

end

/-- Such a command leaves a module in OFF or WATCH as it is, where no unit was cut in the tick (R385, R388). The cases are the
shapes of the commands: one behind a guard that names the module's state or a source; one that waits for it to be above WATCH first;
one on what the state may or may not hold; a link block, a Mill row, an engine's entry, a frame or request, a packet. -/
theorem exec_asleep {s : State} (h : s.awake = false) (hcut : ∀ u, s.isCut u = false) {c : Instr} (hc : c.ofWatch = false) :
    exec c s = .next s := by
  have hdrain := State.not_draining_asleep h
  cases c with
  | wakeLight | wakeTimer | wakePin | wakeSource | powerApplied | watchSupplyLoss | supplyFault | railTimeout | vrange
  | lowFlow | bootStepDone | warmResetReady | scoreUpdate | eventWindowAgeOut | tapInstruction => cases hc
  | registerWrite | rcFieldRead | crtailWrite | internalSourceAdmit | overflowMove | frameTransmit | ackTimerExpiry
  | lightDetected | laneLocked | aligned | paramExchangeDone | lossOfSignal | fecAlignmentLost | lcbBadLimit | siteRetrain
  | siteHoldExpiry | sitePortEnable | txallowWrite | reefholdWrite | laneSignalLoss | laneFecLimit | laneFecClear | prespare
  | spareLocked | opticalSwitchMoved | swapgo | laserFailThreshold | laserStop | spareFail | thermfast | thermClear
  | cagePresence | moduleReady | dpActivated | cmisWaitTimeout | cmisTransactionTimeout | intl | cmisFlagPoll | cmisCmd
  | presenceDeassert | spanRetrain | spanHoldmaxExpiry | spanPortEnable | loftCopyDone | svbDrain | svbForce | svbResume
  | gclCommit | gateBoundary | shaperRefill | shaperWrite | queueSample | cnEnable | cnRptrWrite | tblRead | tblWrite | tblCas
  | tblSwap | tblDrain | tblForce | tblResume | roundTimeout | nocommitTimeout | resultReceive | commitReceive | dspDrain
  | dspForce | dspResume | coreReset | coreDisable | coreEnable | coreInject | coreWake | idlegateExpiry | invocationStart
  | millHang | clusterDark | clusterAwake | psdataRead | grnDrain | grnForce | grnResume | grnReset | chunkEnterEngine
  | granaryHang | channelServesAgain | epochReady | syncSend | pdelayReqSend | holdtoExpiry | timSet | telCntWrite | telSnap
  | snapCopy | telFreeze | tenantWindow | powerWindow | tagEnable | srRptrWrite | bwWindow | bwwinWrite | bospwrWrite | wdogPet
  | wdogWarn | wake | sleep | drain | layup | unlay | thermalHot | thermalThrottle | coolantHot | wchThermWrite | bicClaim
  | bicDone | bicPendWrite | bicGdis | bicWmaskWrite | mbxSend | mbxAck | sessionIdleTimeout | uzoleyLinkTimeout | bkeyLoad
  | resmaxExpiry | fenceEnd | scrDrain | scrForce | scrResume | confWrite | dmpDrain | dmpForce | dmpResume | resetreqCluster
  | resetreqDatapathWarm | resetreqCold | fsclr | testLoopback | testMembist | testFull | testCancel | marginMeasure
  | pcapExceed | pcapLift | cageOvercurrent | latchOpen | faultedRoundRelease | grnEngineGate | grnEngineWake | laneRetrained
  | laneSignalRestored | clusterResetDone =>
    exact if_neg (by simp [h])
  | drained => exact if_neg (by simp [hdrain])
  | wdogExpiry => exact if_neg (by simp [h, hcut])
  | frameLeaveStaging | lftPartWrite | nrwaitExpiry | memberEligible | selfCheckDone | shBegin | shStage | shCommit | shAbort
  | thermalClear =>
    exact if_pos (by simp [h])
  | sheafLifeExpiry | drainwaitExpiry =>
    exact next_ite rfl (if_neg (by simp [h, hdrain]))
  | modintExpiry => rfl
  | loftPatrol => exact execLoftPatrol_asleep h hcut _
  | grnPatrol => exact execGrnPatrol_asleep h hcut ..
  | admitModule => exact execAdmitModule_asleep h hcut
  | reefTakesEffect | cmisAccessComplete | bypassInstant | svbPathEstablished | svbPathFault | gclSwap | lateExpiry
  | descriptorEnqueue | readDataReady | wrReqFrame | atomicWindowExpiry | wrwaitExpiry | deadwaitExpiry | copyResend
  | bicPending | dumpTruncate | dumpSendTimeout | readWindowExpiry | queuedQuoteSigned =>
    simp only [exec, execReefTakesEffect, execCmisAccessComplete, execBypassInstant, execSvbPathEstablished, execSvbPathFault,
      execGclSwap, execLateExpiry, execDescriptorEnqueue, execReadDataReady, execWrReqFrame, execAtomicWindowExpiry,
      execWrwaitExpiry, execDeadwaitExpiry, execCopyResend, execBicPending, execDumpTruncate, execDumpSendTimeout,
      execReadWindowExpiry, execQueuedQuoteSigned]
    split
    exacts [rfl, if_neg (by simp [h])]
  | lcbAck | nakSel | nakGoback | credit | reef | laneReport | echo | echoReply | param | resync =>
    exact congrArg _ (State.lcb_asleep h ..)
  | br | loop | wait | sig | halt | frx | ftx | vadd | vfma | vmax | vmin | vscl | vcast | vsrnd | vmxd | vmxe | vtkm | tally
  | ldb | stb | shb | shc | sha =>
    exact congrArg _ (State.millRow_asleep h ..)
  | bypassConnect | bypassRelease | bypassLoop =>
    exact congrArg _ (State.bypassTake_asleep h _)
  | tblEntryWrite | tblEntryCas | tblImage =>
    exact congrArg _ (State.tblTake_asleep h _)
  | loadprog | freeprog | dspBind | dspUnbind =>
    exact congrArg _ (State.dspTake_asleep h ..)
  | grnBind | grnUnbind | sethp | load =>
    exact congrArg _ (State.grnTake_asleep h ..)
  | scrubSlot | scrubRegions | scrubDone =>
    exact congrArg _ (State.scrubTake_asleep h ..)
  | dumpFree =>
    exact congrArg _ (State.dumpTake_asleep h ..)
  | rdReqTaken =>
    exact execRdReqTaken_asleep h _
  | atReqTaken =>
    exact next_ite rfl (congrArg _ (State.takeRequest_asleep h ..))
  | pdelayReqReceive | pdelayRespReceive | syncReceive =>
    exact congrArg _ (State.takeTime_asleep h ..)
  | stateAckReceive | noticeReceive | broadcastStage | broadcastCommit | broadcastAbort =>
    exact next_ite rfl (State.takeFrame_asleep h ..)
  | stateReceive | scrubMarkerReceive | loopreqReceive =>
    simp only [exec, execStateReceive, execScrubMarkerReceive, execLoopreqReceive, State.takeFrame_asleep h]
  | close | ping | regBatch | cmdAppend | bulkLoad | mbxPost | telSub | attest | resetPacket | broadcastPacket | fwStage
  | fwActivate =>
    exact next_ite rfl (State.packet_asleep h ..)
  | batchRead =>
    exact exec_batchRead_none (State.frontEntry_asleep h ..)
  | batchWrite =>
    exact exec_batchWrite_none (State.frontEntry_asleep h ..)
  | batchPoll =>
    exact exec_batchPoll_none (State.frontEntry_asleep h ..)
  | pollTimeout =>
    exact exec_pollTimeout_none (State.frontEntry_asleep h ..)
  | frameReceive => exact execFrameReceive_asleep h ..
  | thermalTrip n k t => exact execThermalTrip_asleep h hcut n k t
  | waitSatisfied => exact execWaitSatisfied_asleep h ..
  | subReport => exact execSubReport_asleep h ..
  | ringReport => exact execRingReport_asleep h ..
  | resilver => exact execResilver_asleep h ..
  | pass1Done => exact execPass1Done_asleep h ..
  | pass2Done => exact execPass2Done_asleep h ..
  | allotmentStall => exact execAllotmentStall_asleep h ..
  | sigArrive => exact execSigArrive_asleep h ..
  | tableEngineHang => exact execTableEngineHang_asleep h ..
  | engineEntryHang => exact execEngineEntryHang_asleep h ..
  | remoteNoReturn => exact execRemoteNoReturn_asleep h ..
  | testEnd => exact execTestEnd_asleep h ..
  | hello => exact execHello_asleep h ..
  | dump => exact execDump_asleep h
  | dumpAccessTimeout => exact execDumpAccessTimeout_asleep h ..
  | dumpSend => exact execDumpSend_asleep h

/-! ### A step -/

theorem State.isCut_of_le {s : State} (h : ∀ u, SMap.get 0 s.watch.cutAt u ≤ s.tick) (u : Nat) : s.isCut u = false :=
  beq_false_of_ne (by have := h u; omega)

/-- With no command waiting, nothing runs in OFF, and the clocks alone in WATCH. -/
theorem passTick_asleep {s : State} (h : s.awake = false) : passTick s = if s.mode = 0 then s else s.clockTick := by
  simp only [passTick, h, Bool.not_false, if_true]

theorem step_asleep {s t : State} (h : s.awake = false) (hcut : ∀ u, SMap.get 0 s.watch.cutAt u ≤ s.tick)
    (hq : ∀ c ∈ s.pending, c.ofWatch = false) (hstep : step s = .next t) :
    t = s ∧ s.pending = [] ∨ t = s.clockTick ∧ s.pending = [] ∨ t = { s with pending := s.pending.tail } := by
  unfold step at hstep
  split at hstep
  next hnil =>
    rw [passTick_asleep h] at hstep
    obtain rfl : (if s.mode = 0 then s else s.clockTick) = t := Host.Outcome.next.inj hstep
    split
    · exact .inl ⟨rfl, hnil⟩
    · exact .inr (.inl ⟨rfl, hnil⟩)
  next c rest hcons =>
    have hrun := exec_asleep (s := { s with pending := rest }) h (State.isCut_of_le hcut) (hq c (by simp [hcons]))
    obtain rfl : { s with pending := rest } = t := Host.Outcome.next.inj (hrun.symm.trans hstep)
    simp [hcons]

/-! ### The statement -/

/-- Settles O57: no command outside the Watch domain has an effect, and a tick without one runs the clocks alone. -/
theorem watchIsQuiet : Obligations.WatchIsQuiet := by
  refine ⟨fun s c h hcut hc => exec_asleep h hcut hc, fun s t h hcut hq hstep => ?_⟩
  obtain ⟨rfl, hnil⟩ | ⟨rfl, hnil⟩ | rfl := step_asleep h hcut hq hstep
  · exact ⟨h, hcut, hq, by simp [hnil], rfl⟩
  · exact ⟨h, fun u => (hcut u).trans (Nat.le_succ _), hq, by simp [State.clockTick, hnil], rfl⟩
  · exact ⟨h, hcut, fun c hc => hq c (List.mem_of_mem_tail hc), rfl, rfl⟩

end Sys2Proof.Machine
end

section
/-! The Bosun interrupt controller: edges, claims and completions, BIC_PEND, GDIS and BIC_WMASK. -/

namespace Sys2Proof.Machine

section

variable {s : State} (ha : s.awake = true)
include ha

/-! ### Edges (R394) -/

/-- An edge of the sensed kind: pending, or merged and counted while the source is ACTIVE and pending. -/
theorem exec_bicPending_edge {i : Fin 1024} {e : Edge} (hi : sourceExists i = true) (hbell : ¬ (512 ≤ i.val ∧ i.val < 576))
    (hline : s.line i = decide (e = .rising)) : exec (.bicPending i (some e)) s = .next (s.lineEdge i (decide (e = .rising))) :=
  if_pos ⟨ha, hi, hbell, hline⟩

/-! ### Claims and completions (R396) -/

theorem exec_bicClaim_awake (c : Fin 4) : exec (.bicClaim c) s = .next ((s.claim c).answer (s.claimWord c) 0) := if_pos ha

theorem exec_bicDone_awake (c : Fin 4) (i : BitVec 10) : exec (.bicDone c i) s = .next (s.complete c i.toNat) := if_pos ha

end

theorem State.complete_top {s : State} {c i p : Nat} {l : List (Nat × Nat)} (h : s.stack c = (i, p) :: l) :
    s.complete c i = s.onBic (fun b => { b with
      nest := SMap.put [] b.nest c l
      active := SMap.put false b.active i false }) := by
  simp only [State.complete, h, if_true]

theorem State.complete_other {s : State} {c i : Nat} (h : ∀ p l, s.stack c ≠ (i, p) :: l) :
    s.complete c i = (s.bump Reg.BIC_OOOCNT 1).raise Reg.BIC_EVT c 11 srcBic := by
  unfold State.complete
  split
  next x l hx => exact if_neg fun hi => h x.2 l (by rw [hx, ← hi])
  next => rfl

/-! ### BIC_PEND (R394) -/

/-- What a fold that clears some of a word's flags leaves of each. -/
theorem get_foldl_clear (p : Nat → Bool) (base : Nat) (l : List Nat) : ∀ (m : SMap Bool), SMap.wf false m = true → ∀ i,
    SMap.get false (l.foldl (fun m k => if p k then SMap.put false m (base + k) false else m) m) i =
      (SMap.get false m i && !(l.any (fun k => decide (base + k = i) && p k))) := by
  induction l with
  | nil => simp
  | cons k l ih =>
    intro m hm i
    rw [List.foldl_cons, List.any_cons]
    cases hp : p k with
    | false => simpa using ih m hm i
    | true =>
      rw [if_pos rfl, ih _ (SMap.put_wf false m _ _ hm) i]
      by_cases hi : base + k = i
      · subst hi
        simp [SMap.get_put_self false m _ _ hm]
      · simp [SMap.get_put_ne false m _ _ _ (Ne.symm hi) hm, hi]

/-- Of the 64 places of word `w`, the one of source `i` is `i % 64`, where `i` lies in that word. -/
theorem any_range_place (w i : Nat) (q : Nat → Bool) :
    (List.range 64).any (fun k => decide (64 * w + k = i) && q k) = (decide (i / 64 = w) && q (i % 64)) := by
  rw [Bool.eq_iff_iff]
  simp only [List.any_eq_true, List.mem_range, Bool.and_eq_true, decide_eq_true_eq]
  constructor
  · rintro ⟨k, hk, rfl, hq⟩
    rw [show (64 * w + k) % 64 = k by omega]
    exact ⟨by omega, hq⟩
  · rintro ⟨rfl, hq⟩
    exact ⟨i % 64, Nat.mod_lt _ (by decide), Nat.div_add_mod i 64, hq⟩

theorem State.clearPending_edges {s : State} (h : SMap.wf false s.bic.edges = true) (w : Nat) (val : Word) (i : Nat) :
    SMap.get false (s.clearPending w val).bic.edges i =
      (SMap.get false s.bic.edges i && !(decide (i / 64 = w) && val.getLsbD (i % 64) && decide (2 ≤ s.sense i))) := by
  have hplace : (decide (i / 64 = w) && (val.getLsbD (i % 64) && decide (2 ≤ s.sense (64 * w + i % 64)))) =
      (decide (i / 64 = w) && val.getLsbD (i % 64) && decide (2 ≤ s.sense i)) := by
    by_cases hw : i / 64 = w
    · rw [← hw, Nat.div_add_mod, Bool.and_assoc]
    · simp [hw]
  refine (get_foldl_clear (fun k => val.getLsbD k && decide (2 ≤ s.sense (64 * w + k))) (64 * w) (List.range 64) _ h i).trans ?_
  rw [any_range_place w i (fun k => val.getLsbD k && decide (2 ≤ s.sense (64 * w + k))), hplace]

/-! ### GDIS (R398) -/

theorem State.presented_disabled {s : State} (h : (s.reg Reg.BIC_CTL).getLsbD 0 = true) (c : Nat) : s.presented c = none :=
  if_pos (.inl h)

theorem State.gdis_set {s : State} (h : s.regsOk) : ((s.setFld Reg.BIC_CTL ⟨0, 1⟩ 1).reg Reg.BIC_CTL).getLsbD 0 = true := by
  rw [State.setFld, State.reg_setReg_self h, Fld.getLsbD_put _ _ _ _ (by decide)]
  rfl

/-! ### BIC_WMASK (R399) -/

theorem exec_bicWmaskWrite {s : State} (ha : s.awake = true) (w : Fin 16) (val : Word) :
    exec (.bicWmaskWrite w val) s =
      .next (if ((List.range 16).map (fun k => popCount (if k = w.val then val else s.reg (Reg.BIC_WMASK k)))).sum ≤ 64
        then s.setReg (Reg.BIC_WMASK w) val else s.raise Reg.BIC_EVT 4 11 srcBic) := by
  simp only [exec, execBicWmaskWrite, ha, if_true, State.wmaskWrite, ← Nat.not_le, ite_not]

/-! ### The statement -/

/-- Settles O5: an edge is pending or merged; a claim pushes, and a completion of the top pops; BIC_PEND, GDIS and BIC_WMASK. -/
theorem interruptControllerCommands : Obligations.InterruptControllerCommands := by
  refine ⟨?edge, fun s i => rfl, ?modint, ?claim, ?none, ?top, ?other, ?pend, ?gdis, ?wmask⟩
  case edge =>
    intro s i e ha hi hbell hline
    rw [exec_bicPending_edge ha hi hbell hline]
    simp [State.lineEdge, State.isActive]
  case modint =>
    intro s i c hpassed hen htarget hpend hactive hpri
    exact ⟨rfl, by simp [State.deliverable, hen, htarget, hpend, hactive, hpri, hpassed]⟩
  case claim =>
    intro s c i ha hi
    rw [exec_bicClaim_awake ha]
    simp only [State.claim, State.claimWord, hi]
    rfl
  case none =>
    intro s c ha hnone
    rw [exec_bicClaim_awake ha]
    simp only [State.claim, State.claimWord, hnone]
  case top =>
    intro s c i p l ha hs
    rw [exec_bicDone_awake ha, State.complete_top hs]
  case other =>
    intro s c i ha hs
    rw [exec_bicDone_awake ha, State.complete_other hs]
  case pend =>
    intro s w val ha hwf
    exact ⟨_, if_pos ha, rfl, State.clearPending_edges hwf w.val val⟩
  case gdis =>
    intro s on ha hr
    exact ⟨if_pos ha, fun _ c => State.presented_disabled (State.gdis_set hr) c⟩
  case wmask =>
    intro s w val ha n
    exact exec_bicWmaskWrite ha w val

end Sys2Proof.Machine
end

section
/-! Mailboxes: sends and acknowledgements of a source's own registers. -/

namespace Sys2Proof.Machine

section

variable {s : State} {src : Source} (hw : s.mayWrite src = true) (m : Fin 64)
include hw

/-- A send leaves what it comes to in the source's MBX_SENDSTAT (R400). -/
theorem exec_mbxSend :
    let words := (List.range 8).map (fun i => s.reg (banked src (Reg.MBX_STAGE i)))
    let r := s.mbxPlace m (mbxSender src).1 (mbxSender src).2 words
    exec (.mbxSend src m) s = .next (r.2.setReg (banked src Reg.MBX_SENDSTAT) (BitVec.ofNat 64 r.1)) :=
  if_pos hw

theorem exec_mbxAck (seq : BitVec 16) : exec (.mbxAck src m seq) s = .next (s.mbxFree src m seq.toNat) := if_pos hw

end

section

variable {s : State} {m sender : Nat} (number : Nat) (w : List Word)

/-- A sender that ALLOW does not name sends nothing (R401). -/
theorem State.mbxPlace_notAllowed (h : (s.reg (Reg.MBX_CFG m)).toNat.testBit sender = false) :
    s.mbxPlace m sender number w = (msNotallowed, s) :=
  if_pos (by simpa [bitOf] using h)

/-- What a send does to a state: the message and its status, the doorbell, the receiver's power and report (R400 to R405). -/
theorem State.mbxPlace_allowed (h : (s.reg (Reg.MBX_CFG m)).toNat.testBit sender = true) :
    let full := s.flag (Reg.MBX_STAT m) Fld.MBX_STAT_FULL
    let copied := (List.range 8).foldl (fun (s : State) i => s.setReg (Reg.MBX_MSG m i) (w.getD i 0)) s
    let stat := copied.setReg (Reg.MBX_STAT m) (pack [(Fld.MBX_STAT_FULL, 1), (Fld.MBX_STAT_COLLIDE, b2n full),
      (Fld.MBX_STAT_SENDER, sender), (Fld.MBX_STAT_SESSION, number), (Fld.MBX_STAT_SEQ, s.fld (Reg.MBX_STAT m) Fld.MBX_STAT_SEQ + 1)])
    let rung := ((stat.linePulse (srcDoorbell m)).onWatch (fun w => { w with bellAt := stat.tick + 1 })).logEvent 10 (srcDoorbell m) false
    let recv := rung.fld (Reg.MBX_CFG m) ⟨61, 3⟩
    let powered := if recv < 4 then rung.bospwr ((rung.reg Reg.WCH_BOSPWR).toNat ||| 2 ^ recv) else rung
    s.mbxPlace m sender number w = (if full then msCollide else msOk, powered.mbxReport m) := by
  have hbit : bitOf (s.reg (Reg.MBX_CFG m)).toNat sender = true := h
  simp only [State.mbxPlace, hbit, Bool.not_true, Bool.false_eq_true, if_false]

end

/-! ### Acknowledgements (R402, R405) -/

/-- Whether a source may free mailbox `m`: no session receives it, or the source is that session. -/
def State.mbxMine (s : State) (src : Source) (m : Nat) : Bool :=
  match s.mbxReceiver m with
  | some ki => sourceSession src == some ki && (s.session ki.1 ki.2).operator
  | none => true

theorem State.mbxMine_iff {s : State} {src : Source} {m : Nat} : s.mbxMine src m = true ↔
    ∀ k i, s.mbxReceiver m = some (k, i) → sourceSession src = some (k, i) ∧ (s.session k i).operator = true := by
  unfold State.mbxMine
  split
  next ki hki =>
    simp only [Bool.and_eq_true, beq_iff_eq, hki, Option.some.injEq]
    constructor
    · rintro h k i rfl
      exact h
    · exact fun h => h ki.1 ki.2 rfl
  next hnone => simp [hnone]

theorem State.mbxFree_eq (s : State) (src : Source) (m seq : Nat) : s.mbxFree src m seq =
    if s.mbxMine src m && !s.alsoNow (s.sendsTo m) && s.fld (Reg.MBX_STAT m) Fld.MBX_STAT_SEQ == seq then
      ((s.onUz (fun u => { u with owed := SMap.put false u.owed m false })).setFld (Reg.MBX_STAT m)
        Fld.MBX_STAT_FULL 0).setFld (Reg.MBX_STAT m) Fld.MBX_STAT_COLLIDE 0
    else s := by
  unfold State.mbxFree State.mbxMine
  cases s.mbxReceiver m <;> rfl

/-! ### The statement -/

/-- Settles O4: a send that ALLOW lets in is placed and reported, any other is not; an acknowledgement of the current SEQ frees. -/
theorem mailboxCommands : Obligations.MailboxCommands := by
  refine ⟨?send, ?denied, ?ack⟩
  case send =>
    intro s src m hw hallow full
    simp only [exec_mbxSend hw, State.mbxPlace_allowed _ _ hallow]
    rfl
  case denied =>
    intro s src m hw hallow
    rw [exec_mbxSend hw, State.mbxPlace_notAllowed _ _ hallow]
    rfl
  case ack =>
    intro s src m seq hw current receives
    have hcond : (s.mbxMine src m && !s.alsoNow (s.sendsTo m) && s.fld (Reg.MBX_STAT m) Fld.MBX_STAT_SEQ == seq.toNat) = true ↔
        current ∧ receives := by
      simp only [Bool.and_eq_true, Bool.not_eq_true', beq_iff_eq, State.mbxMine_iff, current, receives]
      tauto
    rw [exec_mbxAck hw, State.mbxFree_eq]
    exact ⟨fun h => congrArg _ (if_pos (hcond.mpr h)), fun h => congrArg _ (if_neg (mt hcond.mp h))⟩

end Sys2Proof.Machine
end

section
/-! What a step runs, and the state after reset. -/

namespace Sys2Proof.Machine

/-! ### A step -/

theorem step_nil {s : State} (h : s.pending = []) : step s = .next (passTick s) := by
  simp only [step, h]

theorem step_cons {s : State} {c : Instr} {rest : List Instr} (h : s.pending = c :: rest) :
    step s = exec c { s with pending := rest } := by
  simp only [step, h]

/-- Settles O1: a step matches on the queue. -/
theorem stepRunsFrontCommand : Obligations.StepRunsFrontCommand := fun _ _ _ h => step_cons h

/-! ### After reset (R285, R385, R492) -/

theorem State.reg_reset (k : Nat) : State.reset.reg k = regReset k := rfl

theorem State.reset_mode : State.reset.mode = stWatch := by decide +kernel

theorem State.reset_awake : State.reset.awake = false := by
  rw [State.awake, State.reset_mode]
  exact decide_eq_false (lt_irrefl _)

/-- Settles O2: WCH_STATE resets to WATCH, and every store starts empty. -/
theorem resetState : Obligations.ResetState :=
  ⟨State.reset_mode, State.reset_awake, rfl, State.reg_reset, rfl, rfl, rfl, rfl, rfl, rfl, rfl, rfl, rfl⟩

/-- A module in OFF or WATCH is not above WATCH. -/
theorem State.asleep_of_mode {s : State} (h : s.mode ≤ stWatch) : s.awake = false :=
  decide_eq_false (Nat.not_lt.mpr h)

/-- Settles O56: empty stores are in canonical form, and with no command waiting the clocks alone run in WATCH, and nothing in OFF. -/
theorem resetCanonical : Obligations.ResetCanonical := by
  refine ⟨State.reset_regsOk, State.reset_mem_wf, rfl, rfl, rfl, fun s hnil hoff => ?_, fun s hnil hwatch => ?_⟩
  · rw [step_nil hnil, passTick_asleep (State.asleep_of_mode (hoff ▸ Nat.zero_le _)), if_pos hoff]
  · refine ⟨s.clockTick, ?_, rfl, rfl⟩
    rw [step_nil hnil, passTick_asleep (State.asleep_of_mode hwatch.le), if_neg (by rw [hwatch]; decide)]

end Sys2Proof.Machine
end

section
/-! Granary bytes: what a write of a byte string leaves of the memory, the versions and the marks of failed tags. -/

namespace Sys2Proof

/-- What a key reads after a value was put at each of the keys of a list. -/
theorem SMap.get_foldl_put_const {α : Type} [DecidableEq α] (d : α) (l : List Nat) (v : α) (i : Nat) : ∀ (m : SMap α), SMap.wf d m = true →
    SMap.get d (l.foldl (fun m k => SMap.put d m k v) m) i = if i ∈ l then v else SMap.get d m i := by
  induction l with
  | nil => simp
  | cons k l ih =>
    intro m hm
    rw [List.foldl_cons, ih _ (SMap.put_wf d m k v hm)]
    by_cases hi : i = k
    · subst hi
      simp [SMap.get_put_self d m i v hm]
    · simp [SMap.get_put_ne d m k i v hi hm, hi]

/-- A string put at rising places is read back. -/
theorem SMap.get_foldl_put_mapIdx {α : Type} [DecidableEq α] (d : α) (l : List α) : ∀ (m : SMap α) (a i : Nat), SMap.wf d m = true →
    i < l.length →
    SMap.get d ((l.mapIdx (fun i b => (a + i, b))).foldl (fun m p => SMap.put d m p.1 p.2) m) (a + i) = l.getD i d := by
  induction l with
  | nil => exact fun _ _ _ _ h => absurd h (Nat.not_lt_zero _)
  | cons x l ih =>
    intro m a i hm hi
    have hrest : (fun (j : Nat) (b : α) => (a + (j + 1), b)) = fun j b => (a + 1 + j, b) := by
      funext j b
      rw [Nat.add_right_comm, Nat.add_assoc]
    have hput := SMap.put_wf d m a x hm
    rw [List.mapIdx_cons, List.foldl_cons, hrest]
    cases i with
    | zero =>
      refine (Machine.SMap.get_foldl_put_ne d (fun p : Nat × α => p.1) (fun p => p.2) _ _ a (fun p hp => ?_) hput).trans
        (SMap.get_put_self d m a x hm)
      obtain ⟨j, hj, rfl⟩ := List.mem_mapIdx.mp hp
      dsimp only
      omega
    | succ i =>
      rw [show a + (i + 1) = a + 1 + i by omega]
      exact ih _ (a + 1) i hput (Nat.lt_of_succ_lt_succ hi)

end Sys2Proof

namespace Sys2Proof.Machine

/-- The blocks that `l` written at `a` touches. -/
def touchedBlocks (a : Nat) (l : List Byte) : List Nat :=
  if l.isEmpty then [] else (List.range (blockOf (a + l.length - 1) + 1 - blockOf a)).map (fun k => blockOf a + k)

theorem mem_touchedBlocks {a b : Nat} {l : List Byte} :
    b ∈ touchedBlocks a l ↔ l ≠ [] ∧ blockOf a ≤ b ∧ b ≤ blockOf (a + l.length - 1) := by
  unfold touchedBlocks
  cases l with
  | nil => simp
  | cons x l =>
    simp only [List.isEmpty_cons, Bool.false_eq_true, if_false, List.mem_map, List.mem_range, ne_eq, reduceCtorEq,
      not_false_eq_true, true_and]
    exact ⟨fun ⟨k, hk, hb⟩ => by omega, fun hb => ⟨b - blockOf a, by omega, by omega⟩⟩

section

variable {s : State} (a : Nat) (l : List Byte) (v : BitVec 32)

theorem State.gWrite_ver : (s.gWrite a l v).grn.ver = (touchedBlocks a l).foldl (fun m b => SMap.put 0 m b v.toNat) s.grn.ver := rfl

theorem State.gWrite_bad : (s.gWrite a l v).grn.bad = (touchedBlocks a l).foldl (fun m b => SMap.put 0 m b 0) s.grn.bad := rfl

/-- A write of Granary bytes changes nothing but the memory, the versions and the marks. -/
theorem State.gWrite_frame : s.gWrite a l v = { s with grn := { s.grn with
    mem := (s.gWrite a l v).grn.mem
    ver := (s.gWrite a l v).grn.ver
    bad := (s.gWrite a l v).grn.bad } } := rfl

/-- The bytes written are read back. -/
theorem State.gWrite_gByte (h : Memory.wf s.grn.mem) {i : Nat} (hi : i < l.length) : (s.gWrite a l v).gByte (a + i) = l.getD i 0 :=
  SMap.get_foldl_put_mapIdx 0 l s.grn.mem a i h hi

theorem State.gWrite_ver_get (h : SMap.wf 0 s.grn.ver = true) (b : Nat) :
    SMap.get 0 (s.gWrite a l v).grn.ver b = if b ∈ touchedBlocks a l then v.toNat else SMap.get 0 s.grn.ver b :=
  SMap.get_foldl_put_const 0 _ _ b _ h

theorem State.gWrite_bad_get (h : SMap.wf 0 s.grn.bad = true) (b : Nat) :
    SMap.get 0 (s.gWrite a l v).grn.bad b = if b ∈ touchedBlocks a l then 0 else SMap.get 0 s.grn.bad b :=
  SMap.get_foldl_put_const 0 _ _ b _ h

theorem State.gWrite_ver_wf (h : SMap.wf 0 s.grn.ver = true) : SMap.wf 0 (s.gWrite a l v).grn.ver = true :=
  SMap.foldl_put_wf 0 id (fun _ => v.toNat) _ _ h

theorem State.gWrite_bad_wf (h : SMap.wf 0 s.grn.bad = true) : SMap.wf 0 (s.gWrite a l v).grn.bad = true :=
  SMap.foldl_put_wf 0 id (fun _ => 0) _ _ h

end

/-- Settles O55: a write is read back, and every other byte, block and part of the state is as before. -/
theorem granaryMemory : Obligations.GranaryMemory := by
  refine ⟨fun s a l v hmem hver hbad => ?_, fun s a h => ?_⟩
  · refine ⟨fun i => State.gWrite_gByte a l v hmem, fun b => State.gWrite_gByte_ne hmem a l v b, fun b hl hlo hhi => ?_,
      fun b hout => ?_, State.gWrite_wf hmem a l v, State.gWrite_ver_wf a l v hver, State.gWrite_bad_wf a l v hbad,
      State.gWrite_frame a l v⟩
    · have hb := mem_touchedBlocks.mpr ⟨hl, hlo, hhi⟩
      exact ⟨(State.gWrite_ver_get a l v hver b).trans (if_pos hb), (State.gWrite_bad_get a l v hbad b).trans (if_pos hb)⟩
    · have hb : b ∉ touchedBlocks a l := by
        rw [mem_touchedBlocks]
        rintro ⟨hl, hlo, hhi⟩
        obtain rfl | hlt | hlt := hout
        · exact hl rfl
        · exact Nat.not_le.mpr hlt hlo
        · exact Nat.not_le.mpr hlt hhi
      exact ⟨(State.gWrite_ver_get a l v hver b).trans (if_neg hb), (State.gWrite_bad_get a l v hbad b).trans (if_neg hb)⟩
  · simp only [State.gByte, h, SMap.get_nil]

end Sys2Proof.Machine
end

section
/-! Events: what raising one leaves of its register, its class's count, the log and its head, and WCH_EVT. -/

namespace Sys2Proof.Machine

/-! ### The order of the log (R382) -/

theorem logLater_iff (a b : Word) : logLater a b = true ↔ Fld.WCH_EVLOG_TICK.get a = Fld.WCH_EVLOG_TICK.get b ∧
    (Fld.WCH_EVLOG_CLASS.get b < Fld.WCH_EVLOG_CLASS.get a ∨
      Fld.WCH_EVLOG_CLASS.get a = Fld.WCH_EVLOG_CLASS.get b ∧ Fld.WCH_EVLOG_SOURCE.get b < Fld.WCH_EVLOG_SOURCE.get a) := by
  simp only [logLater, Bool.and_eq_true, Bool.or_eq_true, beq_iff_eq, decide_eq_true_eq]

/-- Places of the log are different registers. -/
theorem evlog_injective {i j : Nat} : Reg.WCH_EVLOG i = Reg.WCH_EVLOG j ↔ i = j := by
  simp only [Reg.WCH_EVLOG]
  omega

/-- A record stays where none before it of its tick follows it. -/
theorem State.slideLog_stays {s : State} {h : Nat}
    (hl : logLater (s.reg (Reg.WCH_EVLOG ((h + 4095) % 4096))) (s.reg (Reg.WCH_EVLOG h)) = false) (n : Nat) : s.slideLog n h = s := by
  cases n with
  | zero => rfl
  | succ n => simp only [State.slideLog, hl, Bool.false_eq_true, if_false]

/-- It changes places with the record before it where that follows it. -/
theorem State.slideLog_moves {s : State} {h : Nat}
    (hl : logLater (s.reg (Reg.WCH_EVLOG ((h + 4095) % 4096))) (s.reg (Reg.WCH_EVLOG h)) = true) (n : Nat) :
    s.slideLog (n + 1) h = ((s.setReg (Reg.WCH_EVLOG h) (s.reg (Reg.WCH_EVLOG ((h + 4095) % 4096)))).setReg
      (Reg.WCH_EVLOG ((h + 4095) % 4096)) (s.reg (Reg.WCH_EVLOG h))).slideLog n ((h + 4095) % 4096) := by
  rw [State.slideLog]
  simp only [hl, if_true]

section

variable {s : State} (hs : s.regsOk) {h : Nat} {w : Word}
include hs

/-- A record that none of its tick follows lies where it is written; the rest of the log is as it was. -/
theorem State.evlog_logRecord_last (hlast : logLater (s.reg (Reg.WCH_EVLOG ((h + 4095) % 4096))) w = false) (i : Nat) :
    (s.logRecord h w).reg (Reg.WCH_EVLOG i) = if i = h then w else s.reg (Reg.WCH_EVLOG i) := by
  have hp : Reg.WCH_EVLOG ((h + 4095) % 4096) ≠ Reg.WCH_EVLOG h := by rw [ne_eq, evlog_injective]; omega
  rw [State.logRecord_last h w (by rw [State.reg_setReg_self hs, State.reg_setReg_ne hs w hp]; exact hlast), State.reg_setReg hs]
  simp only [evlog_injective]

/-- One that the record before it follows changes places with it, and lies there where none before that follows it. -/
theorem State.evlog_logRecord_second (hfirst : logLater (s.reg (Reg.WCH_EVLOG ((h + 4095) % 4096))) w = true)
    (hsecond : logLater (s.reg (Reg.WCH_EVLOG ((h + 4094) % 4096))) w = false) (i : Nat) :
    (s.logRecord h w).reg (Reg.WCH_EVLOG i) = if i = (h + 4095) % 4096 then w
      else if i = h then s.reg (Reg.WCH_EVLOG ((h + 4095) % 4096)) else s.reg (Reg.WCH_EVLOG i) := by
  have hback : ((h + 4095) % 4096 + 4095) % 4096 = (h + 4094) % 4096 := by omega
  have h1 : (h + 4095) % 4096 ≠ h := by omega
  have h2 : (h + 4094) % 4096 ≠ h := by omega
  have h3 : (h + 4094) % 4096 ≠ (h + 4095) % 4096 := by omega
  have hwritten := State.setReg_regsOk hs (Reg.WCH_EVLOG h) w
  have hmoved := State.setReg_regsOk hwritten (Reg.WCH_EVLOG h) (s.reg (Reg.WCH_EVLOG ((h + 4095) % 4096)))
  have hslide : (s.setReg (Reg.WCH_EVLOG h) w).slideLog 4095 h =
      ((s.setReg (Reg.WCH_EVLOG h) w).setReg (Reg.WCH_EVLOG h) (s.reg (Reg.WCH_EVLOG ((h + 4095) % 4096)))).setReg
        (Reg.WCH_EVLOG ((h + 4095) % 4096)) w := by
    rw [State.slideLog_moves (n := 4094) (by simp only [State.reg_setReg hs, evlog_injective, h1, if_false, if_true, hfirst]),
      State.reg_setReg_self hs, State.reg_setReg_ne hs w (mt evlog_injective.mp h1)]
    exact State.slideLog_stays (by simp only [hback, State.reg_setReg hmoved, State.reg_setReg hwritten, State.reg_setReg hs,
      evlog_injective, h2, h3, if_false, if_true, hsecond]) _
  have hread : (s.logRecord h w).reg (Reg.WCH_EVLOG i) = ((s.setReg (Reg.WCH_EVLOG h) w).slideLog 4095 h).reg (Reg.WCH_EVLOG i) :=
    State.reg_congr (by simp only [State.logRecord]) _
  rw [hread, hslide, State.reg_setReg hmoved, State.reg_setReg hwritten, State.reg_setReg hs]
  simp only [evlog_injective]
  split
  · rfl
  · split <;> rfl

end

/-! ### An event (R384) -/

/-- The record that an event leaves in the log. -/
def State.eventRecord (s : State) (cls src : Nat) (cancelled : Bool) : Word :=
  pack [(Fld.WCH_EVLOG_TICK, s.tick), (Fld.WCH_EVLOG_CLASS, cls), (Fld.WCH_EVLOG_CANCELLED, b2n cancelled),
    (Fld.WCH_EVLOG_SOURCE, src)]

/-- The state with an event counted and its record in the log, before the log's unread records are counted. -/
def State.logged (s : State) (cls src : Nat) (cancelled : Bool) : State :=
  let h := s.fld Reg.WCH_EVHEAD ⟨0, 12⟩
  ((s.bump (Reg.WCH_EVCNT cls) 1).logRecord h (s.eventRecord cls src cancelled)).setReg Reg.WCH_EVHEAD
    (BitVec.ofNat 64 ((h + 1) % 4096))

section

variable (s : State) (cls src : Nat) (cancelled : Bool)

theorem State.logEvent_room (h : s.watch.evUnread < 4096) :
    s.logEvent cls src cancelled = (s.logged cls src cancelled).onWatch (fun w => { w with evUnread := w.evUnread + 1 }) := by
  exact if_pos h

theorem State.logEvent_full (h : 4096 ≤ s.watch.evUnread) :
    s.logEvent cls src cancelled = (s.logged cls src cancelled).setBits Reg.WCH_EVT (Fld.WCH_EVT_EVLOGOVF.word 1) := by
  exact if_neg (Nat.not_lt.mpr h)

theorem State.logged_watch : (s.logged cls src cancelled).watch = s.watch := by
  simp [State.logged]

theorem State.fld_evhead_lt : s.fld Reg.WCH_EVHEAD ⟨0, 12⟩ < 4096 := Nat.mod_lt _ (by decide)

/-- Nothing outside the register file and the count of unread records changes. -/
theorem State.logEvent_frame : s.logEvent cls src cancelled = { s with
    regs := (s.logEvent cls src cancelled).regs
    watch := { s.watch with evUnread := (s.logEvent cls src cancelled).watch.evUnread } } := by
  obtain h | h := Nat.lt_or_ge s.watch.evUnread 4096
  · rw [State.logEvent_room s cls src cancelled h]
    rfl
  · rw [State.logEvent_full s cls src cancelled h]
    rfl

end

section

variable {s : State} (hs : s.regsOk) {cls src : Nat} (hcls : cls ≤ 11) {cancelled : Bool}
include hs

theorem State.logged_regsOk : (s.logged cls src cancelled).regsOk :=
  State.setReg_regsOk (State.logRecord_regsOk (State.bump_regsOk hs _ _) _ _) _ _

theorem State.reg_logged_head : (s.logged cls src cancelled).reg Reg.WCH_EVHEAD =
    BitVec.ofNat 64 ((s.fld Reg.WCH_EVHEAD ⟨0, 12⟩ + 1) % 4096) :=
  State.reg_setReg_self (State.logRecord_regsOk (State.bump_regsOk hs _ _) _ _) _ _

theorem State.reg_logged {j : Nat} (hhead : j ≠ Reg.WCH_EVHEAD) : (s.logged cls src cancelled).reg j =
    ((s.bump (Reg.WCH_EVCNT cls) 1).logRecord (s.fld Reg.WCH_EVHEAD ⟨0, 12⟩) (s.eventRecord cls src cancelled)).reg j :=
  State.reg_setReg_ne (State.logRecord_regsOk (State.bump_regsOk hs _ _) _ _) _ hhead

/-- Registers outside the log and its head. -/
theorem State.reg_logged_out {j : Nat} (hhead : j ≠ Reg.WCH_EVHEAD) (hlog : ∀ i, i < 4096 → j ≠ Reg.WCH_EVLOG i) :
    (s.logged cls src cancelled).reg j = (s.bump (Reg.WCH_EVCNT cls) 1).reg j := by
  rw [State.reg_logged hs hhead]
  refine (State.slideLog_reg _ _ _ j (State.setReg_regsOk (State.bump_regsOk hs _ _) _ _) (State.fld_evhead_lt s) hlog).trans ?_
  exact State.reg_setReg_ne (State.bump_regsOk hs _ _) _ (hlog _ (State.fld_evhead_lt s))

/-- Past the count of unread records, an event changes WCH_EVT alone, where the log was full. -/
theorem State.reg_logEvent {j : Nat} (hevt : j ≠ Reg.WCH_EVT) :
    (s.logEvent cls src cancelled).reg j = (s.logged cls src cancelled).reg j := by
  obtain h | h := Nat.lt_or_ge s.watch.evUnread 4096
  · rw [State.logEvent_room s cls src cancelled h]
    rfl
  · rw [State.logEvent_full s cls src cancelled h]
    exact State.reg_setReg_ne (State.logged_regsOk hs) _ hevt

theorem State.reg_logged_evt : (s.logged cls src cancelled).reg Reg.WCH_EVT = s.reg Reg.WCH_EVT := by
  rw [State.reg_logged_out hs (by decide) (fun i _ => by simp only [Reg.WCH_EVT, Reg.WCH_EVLOG]; omega)]
  exact State.reg_setReg_ne hs _ (by simp only [Reg.WCH_EVCNT, Reg.WCH_EVT]; omega)

theorem State.reg_logEvent_head : (s.logEvent cls src cancelled).reg Reg.WCH_EVHEAD =
    BitVec.ofNat 64 ((s.fld Reg.WCH_EVHEAD ⟨0, 12⟩ + 1) % 4096) :=
  (State.reg_logEvent hs (by decide)).trans (State.reg_logged_head hs)

/-- The log after an event, from the log with the record in its place. -/
theorem State.reg_logEvent_log (i : Nat) : (s.logEvent cls src cancelled).reg (Reg.WCH_EVLOG i) =
    ((s.bump (Reg.WCH_EVCNT cls) 1).logRecord (s.fld Reg.WCH_EVHEAD ⟨0, 12⟩) (s.eventRecord cls src cancelled)).reg (Reg.WCH_EVLOG i) := by
  rw [State.reg_logEvent hs (by simp only [Reg.WCH_EVLOG, Reg.WCH_EVT]; omega),
    State.reg_logged hs (by simp only [Reg.WCH_EVLOG, Reg.WCH_EVHEAD]; omega)]

include hcls

theorem State.evlog_bump (i : Nat) : (s.bump (Reg.WCH_EVCNT cls) 1).reg (Reg.WCH_EVLOG i) = s.reg (Reg.WCH_EVLOG i) :=
  State.reg_setReg_ne hs _ (by simp only [Reg.WCH_EVLOG, Reg.WCH_EVCNT]; omega)

theorem State.reg_logEvent_count : (s.logEvent cls src cancelled).reg (Reg.WCH_EVCNT cls) =
    BitVec.ofNat 64 (min ((s.reg (Reg.WCH_EVCNT cls)).toNat + 1) 0xFFFFFFFFFFFF) := by
  rw [State.reg_logEvent hs (by simp only [Reg.WCH_EVCNT, Reg.WCH_EVT]; omega),
    State.reg_logged_out hs (by simp only [Reg.WCH_EVCNT, Reg.WCH_EVHEAD]; omega)
      (fun i _ => by simp only [Reg.WCH_EVCNT, Reg.WCH_EVLOG]; omega)]
  exact State.reg_setReg_self hs _ _

/-- The log after an event whose record none of its tick follows. -/
theorem State.evlog_logEvent_last
    (hlast : logLater (s.reg (Reg.WCH_EVLOG ((s.fld Reg.WCH_EVHEAD ⟨0, 12⟩ + 4095) % 4096))) (s.eventRecord cls src cancelled) = false)
    (i : Nat) : (s.logEvent cls src cancelled).reg (Reg.WCH_EVLOG i) =
      if i = s.fld Reg.WCH_EVHEAD ⟨0, 12⟩ then s.eventRecord cls src cancelled else s.reg (Reg.WCH_EVLOG i) := by
  rw [State.reg_logEvent_log hs, State.evlog_logRecord_last (State.bump_regsOk hs _ _)
    ((congrArg (logLater · _) (State.evlog_bump hs hcls _)).trans hlast),
    State.evlog_bump hs hcls]

/-- And after one whose record the one before it follows, but not the one before that. -/
theorem State.evlog_logEvent_second
    (hfirst : logLater (s.reg (Reg.WCH_EVLOG ((s.fld Reg.WCH_EVHEAD ⟨0, 12⟩ + 4095) % 4096))) (s.eventRecord cls src cancelled) = true)
    (hsecond : logLater (s.reg (Reg.WCH_EVLOG ((s.fld Reg.WCH_EVHEAD ⟨0, 12⟩ + 4094) % 4096))) (s.eventRecord cls src cancelled) = false)
    (i : Nat) : (s.logEvent cls src cancelled).reg (Reg.WCH_EVLOG i) =
      if i = (s.fld Reg.WCH_EVHEAD ⟨0, 12⟩ + 4095) % 4096 then s.eventRecord cls src cancelled
      else if i = s.fld Reg.WCH_EVHEAD ⟨0, 12⟩ then s.reg (Reg.WCH_EVLOG ((s.fld Reg.WCH_EVHEAD ⟨0, 12⟩ + 4095) % 4096))
      else s.reg (Reg.WCH_EVLOG i) := by
  rw [State.reg_logEvent_log hs, State.evlog_logRecord_second (State.bump_regsOk hs _ _)
    ((congrArg (logLater · _) (State.evlog_bump hs hcls _)).trans hfirst)
    ((congrArg (logLater · _) (State.evlog_bump hs hcls _)).trans hsecond)]
  simp only [State.evlog_bump hs hcls]

end

/-! ### The statement -/

/-- Settles O52: an event's bit, then its count and its record, on the state with the bit set. -/
theorem eventsLogged : Obligations.EventsLogged := by
  refine ⟨?event, logLater_iff⟩
  case event =>
    intro s k bit cls src hs hcls1 hcls hhead hcnt hevt hlog t h before w
    set u := s.setBits k (BitVec.ofNat 64 (2 ^ bit)) with hu
    have hok : u.regsOk := State.setBits_regsOk hs _ _
    have hkept : ∀ j, j ≠ k → u.reg j = s.reg j := fun j hj => State.reg_setReg_ne hs _ hj
    have hat : u.fld Reg.WCH_EVHEAD ⟨0, 12⟩ = h := congrArg _ (hkept _ hhead.symm)
    have hlt : h < 4096 := State.fld_evhead_lt s
    have hrec : u.eventRecord cls src false = w := rfl
    have hold : ∀ i, i < 4096 → u.reg (Reg.WCH_EVLOG i) = s.reg (Reg.WCH_EVLOG i) := fun i hi => hkept _ (hlog i hi).symm
    have hprev : u.reg (Reg.WCH_EVLOG ((u.fld Reg.WCH_EVHEAD ⟨0, 12⟩ + 4095) % 4096)) = before 1 := by
      rw [hat]; exact hold _ (Nat.mod_lt _ (by decide))
    have hprev2 : u.reg (Reg.WCH_EVLOG ((u.fld Reg.WCH_EVHEAD ⟨0, 12⟩ + 4094) % 4096)) = before 2 := by
      rw [hat]; exact hold _ (Nat.mod_lt _ (by decide))
    have hother : ∀ j, j ≠ Reg.WCH_EVCNT cls → (∀ i, i < 4096 → j ≠ Reg.WCH_EVLOG i) → j ≠ Reg.WCH_EVHEAD → j ≠ Reg.WCH_EVT →
        t.reg j = u.reg j := fun j h1 h2 h3 h4 => State.reg_logEvent_ne hok h1 h2 h3 h4
    refine ⟨?bit, ?count, fun hlast => ?last, fun hfirst hsecond => ?second, ?head, fun hroom => ?room, fun hfull => ?full,
      fun j hj h1 h2 h3 h4 => (hother j h1 h2 h3 h4).trans (hkept j hj), ?frame, State.logEvent_regsOk hok _ _ _⟩
    case bit => exact (hother k hcnt hlog hhead hevt).trans (State.reg_setReg_self hs _ _)
    case count => rw [← hkept _ hcnt.symm]; exact State.reg_logEvent_count hok hcls
    case last =>
      have hread := State.evlog_logEvent_last hok hcls ((congrArg₂ logLater hprev hrec).trans hlast)
      rw [hat, hrec] at hread
      exact ⟨(hread h).trans (if_pos rfl), fun i hi hne => (hread i).trans ((if_neg hne).trans (hold i hi))⟩
    case second =>
      have hread := State.evlog_logEvent_second hok hcls ((congrArg₂ logLater hprev hrec).trans hfirst)
        ((congrArg₂ logLater hprev2 hrec).trans hsecond)
      rw [hprev, hat, hrec] at hread
      exact ⟨(hread h).trans ((if_neg (by omega)).trans (if_pos rfl)), (hread _).trans (if_pos rfl),
        fun i hi h1 h2 => (hread i).trans ((if_neg h2).trans ((if_neg h1).trans (hold i hi)))⟩
    case head => rw [← hat]; exact State.reg_logEvent_head hok
    case room =>
      have ht : t = _ := State.logEvent_room u cls src false hroom
      rw [ht]
      exact ⟨congrArg (fun x => x.evUnread + 1) (State.logged_watch u cls src false),
        (State.reg_logged_evt hok).trans (hkept _ hevt.symm)⟩
    case full =>
      have ht : t = _ := State.logEvent_full u cls src false hfull
      rw [ht, State.setBits, State.reg_setReg_self (State.logged_regsOk hok), State.reg_logged_evt hok, hkept _ hevt.symm]
      exact ⟨State.logged_watch u cls src false, rfl⟩
    case frame => exact State.logEvent_frame u cls src false

end Sys2Proof.Machine
end

section
/-! Fault records: one withheld, and one written in R452's layout. -/

namespace Sys2Proof.Machine

/-! ### Slices of a byte string -/

theorem sliceBytes_eq_take_drop {l : List Byte} {i n : Nat} (h : i + n ≤ l.length) : sliceBytes l i n = (l.drop i).take n := by
  apply List.ext_getElem
  · simp only [sliceBytes, List.length_map, List.length_range, List.length_take, List.length_drop]
    omega
  · intro k hk _
    simp only [sliceBytes, List.length_map, List.length_range] at hk
    simp only [sliceBytes, List.getElem_map, List.getElem_range, List.getElem_take, List.getElem_drop,
      List.getD_eq_getElem _ _ (show i + k < l.length by omega)]

/-- The slice of `m` between what stands before and after it. -/
theorem sliceBytes_append_middle (a m b : List Byte) : sliceBytes (a ++ m ++ b) a.length m.length = m := by
  rw [sliceBytes_eq_take_drop (by simp only [List.length_append]; omega)]
  simp

/-! ### The record (R452) -/

/-- CLASS, UNITTYPE, UNIT, REG, CAUSE, ACTION and FLAGS. -/
def FaultInfo.header (r : FaultInfo) : List Byte :=
  beBytes 1 r.cls ++ beBytes 1 r.unitType ++ beBytes 2 r.unit ++ beBytes 1 r.register ++ beBytes 1 r.cause ++
    beBytes 1 r.action ++ beBytes 1 r.flags

@[simp] theorem FaultInfo.header_length (r : FaultInfo) : r.header.length = 8 := by
  simp only [FaultInfo.header, List.length_append, beBytes_length]

/-- SEQ, SLOT and the records withheld since. -/
def FaultInfo.trailer (r : FaultInfo) (seq withheld : Nat) : List Byte := beBytes 4 seq ++ beBytes 1 r.slot ++ beBytes 3 withheld

@[simp] theorem FaultInfo.trailer_length (r : FaultInfo) (seq withheld : Nat) : (r.trailer seq withheld).length = 8 := by
  simp only [FaultInfo.trailer, List.length_append, beBytes_length]

/-- The 32 bytes of a record. -/
def FaultInfo.bytes (r : FaultInfo) (tick seq withheld : Nat) : List Byte :=
  r.header ++ beBytes 8 tick ++ beBytes 8 r.detail.toNat ++ r.trailer seq withheld

theorem FaultInfo.bytes_length (r : FaultInfo) (tick seq withheld : Nat) : (r.bytes tick seq withheld).length = 32 := by
  simp only [FaultInfo.bytes, List.length_append, beBytes_length, FaultInfo.header_length, FaultInfo.trailer_length]

/-- The record's words, 8 bytes each. -/
theorem FaultInfo.bytes_words (r : FaultInfo) (tick seq withheld : Nat) :
    sliceBytes (r.bytes tick seq withheld) 0 8 = r.header ∧ sliceBytes (r.bytes tick seq withheld) 8 8 = beBytes 8 tick ∧
    sliceBytes (r.bytes tick seq withheld) 16 8 = beBytes 8 r.detail.toNat ∧
    sliceBytes (r.bytes tick seq withheld) 24 8 = r.trailer seq withheld := by
  have h0 := sliceBytes_append_middle [] r.header (beBytes 8 tick ++ beBytes 8 r.detail.toNat ++ r.trailer seq withheld)
  have h1 := sliceBytes_append_middle r.header (beBytes 8 tick) (beBytes 8 r.detail.toNat ++ r.trailer seq withheld)
  have h2 := sliceBytes_append_middle (r.header ++ beBytes 8 tick) (beBytes 8 r.detail.toNat) (r.trailer seq withheld)
  have h3 := sliceBytes_append_middle (r.header ++ beBytes 8 tick ++ beBytes 8 r.detail.toNat) (r.trailer seq withheld) []
  simp only [List.length_append, beBytes_length, FaultInfo.header_length, FaultInfo.trailer_length, List.append_assoc, List.append_nil,
    List.nil_append, List.length_nil] at h0 h1 h2 h3
  simp only [FaultInfo.bytes, List.append_assoc]
  exact ⟨h0, h1, h2, h3⟩

/-! ### Writing one (R451, R453) -/

/-- What records are withheld by: unit, register and cause. -/
def FaultInfo.key (r : FaultInfo) : Nat := ((r.unitType * 65536 + r.unit) * 256 + r.register) * 256 + r.cause

/-- The record's words at index `h` of the ring, and the index moved. -/
def State.placeFault (s : State) (h : Nat) (l : List Byte) : State :=
  ((List.range 4).foldl (fun (s : State) i => s.setReg (Reg.WCH_FR h i) (BitVec.ofNat 64 (beNat (sliceBytes l (8 * i) 8)))) s).setReg
    Reg.WCH_FRHEAD (BitVec.ofNat 64 ((h + 1) % 1024))

section

variable {s : State} {r : FaultInfo} {q : FrKey} (hq : SMap.get {} s.watch.frKeys r.key = q)
include hq

theorem State.faultRecord_withheld (hseen : q.seen = true) (hsince : s.since q.lastAt (msTicks 1) = false) :
    s.faultRecord r =
      s.onWatch (fun w => { w with frKeys := SMap.put {} w.frKeys r.key { q with withheld := q.withheld + 1 } }) := by
  simp only [FaultInfo.key] at hq ⊢
  simp only [State.faultRecord, hq, hseen, hsince, Bool.not_false, Bool.and_self, if_true]

theorem State.faultRecord_written (h : q.seen = false ∨ s.since q.lastAt (msTicks 1) = true) :
    let rec0 := r.bytes s.tick s.watch.frSeq.toNat q.withheld
    let placed := s.placeFault (s.fld Reg.WCH_FRHEAD ⟨0, 10⟩) rec0
    let full := s.watch.frUnread = 1024
    s.faultRecord r = ((if full then placed.bump Reg.WCH_FRLOST 1 else placed).onWatch (fun w => { w with
      frSeq := w.frSeq + 1
      frUnread := if full then 1024 else w.frUnread + 1
      frKeys := SMap.put {} w.frKeys r.key { lastAt := s.tick, withheld := 0, seen := true } })).pushOperators
        { kind := 0x93, plen := 32, payload := rec0 } := by
  obtain ⟨h0, h1, h2, h3⟩ := r.bytes_words s.tick s.watch.frSeq.toNat q.withheld
  have hgo : (q.seen && !s.since q.lastAt (msTicks 1)) = false := by
    rw [Bool.and_eq_false_iff, Bool.not_eq_false']
    exact h
  have hplaced : ∀ h, s.placeFault h (r.bytes s.tick s.watch.frSeq.toNat q.withheld) =
      ((((s.setReg (Reg.WCH_FR h 0) (BitVec.ofNat 64 (beNat r.header))).setReg (Reg.WCH_FR h 1)
        (BitVec.ofNat 64 (beNat (beBytes 8 s.tick)))).setReg (Reg.WCH_FR h 2) (BitVec.ofNat 64 (beNat (beBytes 8 r.detail.toNat)))).setReg
          (Reg.WCH_FR h 3) (BitVec.ofNat 64 (beNat (r.trailer s.watch.frSeq.toNat q.withheld)))).setReg
              Reg.WCH_FRHEAD (BitVec.ofNat 64 ((h + 1) % 1024)) := by
    intro h
    rw [← h0, ← h1, ← h2, ← h3]
    rfl
  simp only [FaultInfo.key] at hq ⊢
  simp only [hplaced, State.faultRecord, hq, hgo, Bool.false_eq_true, if_false, State.setReg_watch, beq_iff_eq]
  simp only [FaultInfo.bytes, FaultInfo.header, FaultInfo.trailer]
  by_cases hfull : s.watch.frUnread = 1024 <;> simp only [hfull, if_true, if_false, State.bump_tick, State.setReg_tick]

end

/-! ### The statement -/

/-- Settles O54: the record's bytes are those of its layout, and a record is withheld or written by what was written before. -/
theorem faultRecords : Obligations.FaultRecords := by
  intro s r key q
  refine ⟨fun hseen hsince => State.faultRecord_withheld rfl hseen hsince, fun h => ?_⟩
  intro head rec0 placed full counted
  have hbytes : rec0 = r.bytes s.tick s.watch.frSeq.toNat q.withheld := by
    simp only [rec0, FaultInfo.bytes, FaultInfo.header, FaultInfo.trailer, List.append_assoc]
  refine ⟨hbytes ▸ r.bytes_length _ _ _, ?_⟩
  have hplaced : placed = s.placeFault head (r.bytes s.tick s.watch.frSeq.toNat q.withheld) := by
    rw [← hbytes]
    rfl
  have hwritten := State.faultRecord_written (s := s) (r := r) (q := q) rfl h
  rw [← hbytes] at hwritten
  exact hwritten

end Sys2Proof.Machine
end

section
/-! Failure scores: a second's update of a unit, of all units, and WCH_FSCLR. -/

namespace Sys2Proof.Machine

/-! ### Fields of a packed word -/

theorem Fld.get_or (f : Fld) (a b : Word) : f.get (a ||| b) = f.get a ||| f.get b := by
  apply Nat.eq_of_testBit_eq
  intro i
  simp only [Fld.testBit_get, Nat.testBit_or, BitVec.getLsbD_or, Bool.and_or_distrib_left]

/-- A field's word is the field put in an empty word. -/
theorem Fld.put_zero (f : Fld) (v : Nat) : f.put v 0 = f.word v := by
  simp [Fld.put]

theorem Fld.get_word (f : Fld) (v : Nat) (h : f.lo + f.width ≤ 64) (hv : v < 2 ^ f.width) : f.get (f.word v) = v := by
  rw [← Fld.put_zero, Fld.get_put f v 0 h hv]

theorem Fld.get_zero (f : Fld) : f.get 0 = 0 := by
  simp [Fld.get]

theorem Fld.get_word_ne (f g : Fld) (v : Nat) (hg : g.lo + g.width ≤ 64) (h : f.lo + f.width ≤ g.lo ∨ g.lo + g.width ≤ f.lo) :
    g.get (f.word v) = 0 := by
  rw [← Fld.put_zero, Fld.get_put_ne f g v 0 hg h, Fld.get_zero]

/-- The two fields of a score's register. -/
theorem get_scoreWord {level v : Nat} (hl : level < 4) (hv : v < 2 ^ 32) :
    Fld.FSCORE_S.get (pack [(Fld.FSCORE_LEVEL, level), (Fld.FSCORE_S, v)]) = v ∧
    Fld.FSCORE_LEVEL.get (pack [(Fld.FSCORE_LEVEL, level), (Fld.FSCORE_S, v)]) = level := by
  simp only [pack, List.foldl_cons, List.foldl_nil, Fld.get_or, Fld.get_zero, Nat.zero_or]
  rw [Fld.get_word _ _ (by decide) hv, Fld.get_word _ _ (by decide) hl, Fld.get_word_ne _ _ _ (by decide) (by decide),
    Fld.get_word_ne _ _ _ (by decide) (by decide)]
  exact ⟨Nat.zero_or v, Nat.or_zero level⟩

/-! ### One unit (R473, R474) -/

theorem Fld.get_lt (f : Fld) (w : Word) : f.get w < 2 ^ f.width := Nat.mod_lt _ (Nat.two_pow_pos _)

/-- The score after a second with input `x`. -/
def State.newScore (s : State) (u x : Nat) : Nat :=
  min (2 ^ 32 - 1) (s.fld (Reg.WCH_FSCORE u) ⟨0, 32⟩ - s.fld (Reg.WCH_FSCORE u) ⟨0, 32⟩ / 2 ^ s.fld Reg.WCH_FSCTL ⟨0, 5⟩ + x)

/-- The level that the new score reaches by itself. -/
def State.reachedLevel (s : State) (u x : Nat) : Nat :=
  if s.fld Reg.WCH_FSACT ⟨0, 32⟩ ≤ s.newScore u x then 2 else if s.fld Reg.WCH_FSWARN ⟨0, 32⟩ ≤ s.newScore u x then 1 else 0

/-- The level after the second. -/
def State.newLevel (s : State) (u x : Nat) : Nat :=
  max (if 2 * s.newScore u x < s.fld Reg.WCH_FSWARN ⟨0, 32⟩ ∧ s.reachedLevel u x = 0 then 0 else s.fld (Reg.WCH_FSCORE u) ⟨32, 2⟩)
    (s.reachedLevel u x)

theorem State.newLevel_lt (s : State) (u x : Nat) : s.newLevel u x < 4 := by
  have hwas : s.fld (Reg.WCH_FSCORE u) ⟨32, 2⟩ < 4 := Fld.get_lt _ _
  have hreached : s.reachedLevel u x < 4 := by
    unfold State.reachedLevel
    split
    · decide
    · split <;> decide
  refine max_lt ?_ hreached
  split
  · decide
  · exact hwas

/-- The state with a unit's score and level written. -/
def State.scored (s : State) (u x : Nat) : State :=
  s.setReg (Reg.WCH_FSCORE u) (pack [(Fld.FSCORE_LEVEL, s.newLevel u x), (Fld.FSCORE_S, s.newScore u x)])

theorem State.scoreUnit_eq (s : State) (u x : Nat) : s.scoreUnit u x =
    if s.fld (Reg.WCH_FSCORE u) ⟨32, 2⟩ < s.newLevel u x then (s.scored u x).faultRecord
      { unitType := utScore, unit := u, cause := s.newLevel u x, action := 7, flags := 2, detail := (s.scored u x).reg (Reg.WCH_FSCORE u) }
    else s.scored u x := rfl

theorem State.fld_scored {s : State} (h : s.regsOk) (u x : Nat) :
    (s.scored u x).fld (Reg.WCH_FSCORE u) ⟨0, 32⟩ = s.newScore u x ∧ (s.scored u x).fld (Reg.WCH_FSCORE u) ⟨32, 2⟩ = s.newLevel u x := by
  simp only [State.fld, State.scored, State.reg_setReg_self h]
  exact get_scoreWord (State.newLevel_lt s u x) (Nat.lt_of_le_of_lt (Nat.min_le_left _ _) (by decide))

/-! ### The statement -/

/-- Settles O11: the units in turn, one unit by its new score and level, and FSCLR by its bit 63. -/
theorem failureScores : Obligations.FailureScores := by
  refine ⟨?second, fun s u x h _ => ?_, ?clear⟩
  case second =>
    intro s hdue taken
    have hrun : exec .scoreUpdate s = if taken.flag Reg.WCH_FSCTL ⟨8, 1⟩ = true then .next (scoredUnits.foldl (fun (t : State) u =>
        t.scoreUnit u (SMap.get 0 s.watch.scoreIn u + (if u < 544 then 4 * Config.fecScored u t.tick else 0))) taken) else .next taken :=
      if_pos hdue
    exact ⟨fun hon => hrun.trans (if_pos hon), fun hoff => hrun.trans (if_neg (by rw [show taken.flag _ _ = false from hoff]; decide))⟩
  · obtain ⟨hv, hlevel⟩ := State.fld_scored h u x
    exact ⟨s.scored u x, hv, hlevel, fun k hk => State.reg_setReg_ne h _ hk, State.scoreUnit_eq s u x⟩
  case clear =>
    intro s val ha
    rw [show exec (.fsclr val) s = .next (s.fsclr val) from if_pos ha]
    exact ⟨fun hall => congrArg _ (if_pos hall), fun hone => congrArg _ (if_neg (by rw [hone]; decide))⟩

end Sys2Proof.Machine
end

section
/-! Draining that ends, the power of the Bosun cores and the watchdog; wakes and the thermal monitor. -/

namespace Sys2Proof.Machine

/-! ### The watchdog (R381) -/

/-- The watchdog's period ends, and the marks clear. -/
def State.wdogCleared (s : State) : State :=
  (s.setFld Reg.WCH_WDOG Fld.WCH_WDOG_PETTED 0).onWatch (fun w => { w with wdogAt := s.tick })

/-- The checked cores that have petted neither in the period nor in this tick. -/
def State.lateCores (s : State) : List Nat :=
  s.checkedCores.filter (fun c => !(s.fld Reg.WCH_WDOG Fld.WCH_WDOG_PETTED).testBit c && !s.petsNow c)

section

variable {s : State} (hrun : s.bosunUp = true ∨ s.isCut cutSupply = true ∨ s.isCut cutTrip = true)
  (hdue : s.since s.watch.wdogAt (secTicks 2) = true)
include hrun hdue

theorem exec_wdogExpiry_petted (hlate : s.lateCores = []) : exec .wdogExpiry s = .next s.wdogCleared := by
  refine (if_pos ⟨hrun, hdue⟩).trans ?_
  show (match s.lateCores with | [] => _ | c :: _ => _) = _
  rw [hlate]
  rfl

variable {c : Nat} {l : List Nat} (hlate : s.lateCores = c :: l)
include hlate

theorem exec_wdogExpiry_late : exec .wdogExpiry s =
    if s.wdogCleared.supplyNow = true ∨ s.wdogCleared.tripNow = true then .next (s.wdogCleared.logEvent 3 srcWatch true)
    else .next (((s.wdogCleared.logEvent 3 srcWatch false).faultRecord
      { cls := 3, unitType := utBosun, unit := c, action := 3, detail := s.reg Reg.WCH_WDOG }).decideReset 2 rcWatchdog) := by
  refine (if_pos ⟨hrun, hdue⟩).trans ?_
  show (match s.lateCores with | [] => _ | c :: _ => _) = _
  rw [hlate]
  rfl

end

/-! ### Draining and power -/

section

variable {s : State} (ha : s.awake = true)
include ha

theorem exec_bospwrWrite (val : BitVec 4) : exec (.bospwrWrite val) s = .next (s.bospwr (val.toNat ||| s.wokenCores)) := if_pos ha

theorem exec_wdogPet (val : Word) : exec (.wdogPet val) s = .next (s.pet val) := if_pos ha

end

/-- Settles O7: draining ends by its guards, a power write and a pet by what they store, the watchdog by the cores that are late. -/
theorem drainWatchdogAndCorePower : Obligations.DrainWatchdogAndCorePower := by
  refine ⟨fun s hm hd => if_pos ⟨hm, hd⟩, ?drainwait, fun s hadmit => if_pos hadmit, fun s val ha => exec_bospwrWrite ha val, ?pet,
    ?warn, ?expiry⟩
  case drainwait =>
    intro s hm hdue hadmit
    exact (if_neg (by rw [hadmit]; decide)).trans (if_pos ⟨hm, hdue⟩)
  case pet =>
    intro s val ha hkey
    rw [exec_wdogPet ha]
    exact congrArg _ (if_pos hkey)
  case warn =>
    intro s c hb hc hdue
    exact if_pos ⟨hb, List.any_eq_true.mpr ⟨c, hc, hdue⟩⟩
  case expiry =>
    intro s hrun hdue cleared late
    refine ⟨exec_wdogExpiry_petted hrun hdue, fun c l hlate => ⟨fun hcut => ?_, fun hsup htrip => ?_⟩⟩
    · exact (exec_wdogExpiry_late hrun hdue hlate).trans (if_pos hcut)
    · exact (exec_wdogExpiry_late hrun hdue hlate).trans (if_neg (not_or.mpr ⟨ne_true_of_eq_false hsup, ne_true_of_eq_false htrip⟩))

/-! ### Wakes (R388, R399) -/

theorem State.canWake_iff {s : State} {k : Nat} : s.canWake k = true ↔
    s.mode = stWatch ∧ s.watch.run = none ∧ s.watch.after = none ∧ (s.fld Reg.WCH_WAKE ⟨0, 4⟩).testBit k = true := by
  simp only [State.canWake, Bool.and_eq_true, beq_iff_eq, Option.isNone_iff_eq_none, bitOf, and_assoc]

/-- A pending selected source powers its core, and in WATCH wakes the module where EN[3] lets it. -/
theorem exec_wakeSource {s : State} {i : Fin 1024} (hsel : (s.reg (Reg.BIC_WMASK (i.val / 64))).getLsbD (i.val % 64) = true)
    (hpend : s.isPending i = true) :
    let c := s.fld (Reg.BIC_SRC i) Fld.BIC_SRC_TARGET
    let p := (s.bospwr ((s.reg Reg.WCH_BOSPWR).toNat ||| 2 ^ c)).onWatch (fun w => { w with
      wokenAt := SMap.put 0 w.wokenAt c (s.tick + 1) })
    exec (.wakeSource i) s = if p.canWake 3 = true then .next (p.wakeBy 6) else .next p :=
  if_pos ⟨hsel, hpend⟩

/-! ### The thermal monitor (R390 to R392) -/

theorem State.mode_ne_zero {s : State} (ha : s.awake = true) : s.mode ≠ 0 := by
  intro h
  simp only [State.awake, h, decide_eq_true_eq] at ha
  exact Nat.not_lt_zero _ ha

theorem State.reaches_iff {s : State} {t : BitVec 16} {f : Fld} :
    s.reaches t f = true ↔ 16 * (s.fld Reg.WCH_THERM f : Int) ≤ t.toInt := decide_eq_true_iff

/-- A sensor at or above a threshold sets the cluster's bit where it was clear. -/
theorem State.threshold_clear {s : State} {n : Nat} {f : Fld} (h : (s.fld Reg.WCH_THSTAT f).testBit n = false) (bit : Nat) :
    s.threshold n f bit = (s.setFld Reg.WCH_THSTAT f (s.fld Reg.WCH_THSTAT f ||| 2 ^ n)).raise Reg.WCH_EVT bit 11 srcWatch :=
  if_neg (by rw [bitOf, h]; decide)

theorem exec_thermalTrip {s : State} (ha : s.awake = true) (n : Fin 16) (k : Fin 64) {t : BitVec 16}
    (ht : s.reaches t Fld.WCH_THERM_TRIP = true) :
    exec (.thermalTrip n k t) s = .next (if s.supplyNow = true then s.logEvent 2 srcWatch true else s.trip) := by
  have hmode := State.mode_ne_zero ha
  simp only [exec, execThermalTrip, hmode, ht, ha, false_or, Bool.true_eq_false, if_false, true_or, and_true, if_true]
  split <;> rfl

/-- A cluster HYST below: the highest of its bits that is set clears. -/
theorem exec_thermalClear {s : State} (ha : s.awake = true) (n : Fin 16) :
    let f := if (s.fld Reg.WCH_THSTAT Fld.WCH_THSTAT_THROTTLE).testBit n then Fld.WCH_THSTAT_THROTTLE else Fld.WCH_THSTAT_HOT
    exec (.thermalClear n) s = .next (s.setFld Reg.WCH_THSTAT f (s.fld Reg.WCH_THSTAT f &&& (65535 - 2 ^ n.val))) := by
  cases hbit : (s.fld Reg.WCH_THSTAT Fld.WCH_THSTAT_THROTTLE).testBit n <;>
    simp only [exec, execThermalClear, ha, bitOf, hbit, Bool.true_eq_false, Bool.false_eq_true, if_false, if_true]

/-- WCH_THERM has no bits but those of its fields, all RW. -/
theorem State.writeReg_therm (s : State) (val : Word) : s.writeReg Reg.WCH_THERM val =
    s.setReg Reg.WCH_THERM ((s.reg Reg.WCH_THERM &&& ~~~ 0xFFFFFFFF00FF) ||| (val &&& 0xFFFFFFFF00FF)) := by
  have hrow : (regRow (offsetOf Reg.WCH_THERM)).map (fun r => (r.rw, r.w1c, r.w1s)) = some (0xFFFFFFFF00FF, 0, 0) := by decide +kernel
  obtain ⟨r, hr, hbits⟩ := Option.map_eq_some_iff.mp hrow
  simp only [Prod.mk.injEq] at hbits
  obtain ⟨hrw, hw1c, hw1s⟩ := hbits
  simp only [State.writeReg, hr, RegRow.written, hrw, hw1c, hw1s, BitVec.ofNat_eq_ofNat, BitVec.zero_and, BitVec.and_zero, BitVec.or_zero]
  rw [show ~~~(0#64) = BitVec.allOnes 64 from rfl, BitVec.and_allOnes]

/-! ### The statement -/

/-- Settles O8: a wake by what lets it, a threshold by whether its bit is clear, a trip by whether power is lost in its tick. -/
theorem wakesAndThermalMonitor : Obligations.WakesAndThermalMonitor := by
  unfold Obligations.WakesAndThermalMonitor
  intro woken asleep
  have hwake : ∀ (s : State) (k : Nat), asleep s k → s.canWake k = true := fun s k h => State.canWake_iff.mpr h
  refine ⟨fun s k h => if_pos (hwake s 0 h), fun s h ht => if_pos ⟨hwake s 1 h, ht⟩, fun s h => if_pos (hwake s 2 h), ?source, ?sensor,
    fun s n ha => exec_thermalClear ha n, fun s t ha ht => if_pos ⟨ha, ht⟩, ?therm⟩
  case source =>
    intro s i hsel hpend c p
    refine ⟨fun hm => (exec_wakeSource hsel hpend).trans (if_neg fun hw => hm (State.canWake_iff.mp hw).1), fun h => ?_⟩
    exact (exec_wakeSource hsel hpend).trans (if_pos (hwake p 3 h))
  case sensor =>
    intro s n k t ha
    refine ⟨fun ht hbit => ?_, fun ht hbit => ?_, fun ht => ⟨fun hsup => ?_, fun hsup => ?_⟩⟩
    · rw [← State.threshold_clear hbit]
      exact if_pos ⟨ha, State.reaches_iff.mpr ht⟩
    · rw [← State.threshold_clear hbit]
      exact if_pos ⟨ha, State.reaches_iff.mpr ht⟩
    · rw [exec_thermalTrip ha n k (State.reaches_iff.mpr ht), hsup]
      rfl
    · rw [exec_thermalTrip ha n k (State.reaches_iff.mpr ht), hsup]
      rfl
  case therm =>
    intro s val ha ok
    have hexec : exec (.wchThermWrite val) s = .next (if ok then s.writeReg Reg.WCH_THERM val else s.raise Reg.WCH_EVT 7 11 srcWatch) :=
      if_pos ha
    rw [hexec]
    exact ⟨fun h => by rw [if_pos h, State.writeReg_therm], fun h => by rw [if_neg h]⟩

end Sys2Proof.Machine
end

section
/-! Resets: their requests, the steps of a boot, their end, a table engine that hangs, and windows that age out. -/

namespace Sys2Proof.Machine

/-! ### Requests (R422, R457) -/

/-- What a request that its KEY lets in comes to. -/
def State.requested (s : State) (code n cause : Nat) : State :=
  if s.requestCancelled code n then s.logEvent 4 srcWatch true
  else if code = 1 then (s.logEvent 4 srcWatch false).clusterReset n
  else (s.logEvent 4 srcWatch false).decideReset code cause

theorem State.resetWrite_key (s : State) (src : Source) {val : Word} (hkey : val.toNat / 2 ^ 16 % 2 ^ 16 = 0xA55A) {code : Nat}
    (hc : val.toNat % 4 = code) (hcode : code ≠ 0) : s.resetWrite src val =
      s.requested code (val.toNat / 16 % 16) (if (sourceSession src).isSome then rcOperator else rcFirmware) := by
  have hkey' : bitsOf val.toNat 31 16 = 0xA55A := hkey
  rw [State.resetWrite, if_pos hkey', hc, State.resetRequest, if_neg hcode]
  rfl

/-- Another KEY has no effect. -/
theorem State.resetWrite_otherKey (s : State) (src : Source) {val : Word} (hkey : val.toNat / 2 ^ 16 % 2 ^ 16 ≠ 0xA55A) :
    s.resetWrite src val = s :=
  if_neg hkey

/-! ### The steps of a boot (R423) -/

theorem exec_bootStepDone {s : State} {r : ResetRun} (hr : s.watch.run = some r) (ok : Bool) (fw sig : SigPair) :
    exec (.bootStepDone ok fw sig) s = .next (s.bootStepDone r ok fw sig) := by
  simp only [exec, execBootStepDone, hr]

/-- A step that completes, by its number. -/
theorem State.bootStepDone_ok (s : State) (r : ResetRun) (fw sig : SigPair) :
    (s.bootStep = 1 → s.bootStepDone r true fw sig = s.bootVerify fw sig) ∧
    (s.bootStep = 2 → s.bootStepDone r true fw sig = if r.domain = 3 then s.bootRelease r else s.setStep 3) ∧
    (s.bootStep = 3 → s.bootStepDone r true fw sig = s.bootClusters r) ∧
    (s.bootStep = 4 → s.bootStepDone r true fw sig = (s.setStep 5).selfRefresh false) ∧
    (s.bootStep = 5 → s.bootStepDone r true fw sig = s.setStep 6) ∧
    (s.bootStep = 6 → s.bootStepDone r true fw sig = (List.range 16).foldl (fun (s : State) k => s.portsBack k) (s.setStep 7)) ∧
    (s.bootStep = 7 → s.timeLocked = true → s.bootStepDone r true fw sig =
      if r.domain = 3 then ((s.setStep 8).setFld Reg.WCH_BOOT Fld.WCH_BOOT_READY 1).onWatch (fun w => { w with run := none })
      else (s.setStep 8).setFld Reg.WCH_BOOT Fld.WCH_BOOT_READY 1) := by
  refine ⟨?_, ?_, ?_, ?_, ?_, ?_, ?_⟩ <;> intro hstep <;> simp +contextual [State.bootStepDone, hstep]

/-- One that fails. -/
theorem State.bootStepDone_fails (s : State) (r : ResetRun) (fw sig : SigPair) :
    (s.bootStep = 2 ∨ s.bootStep = 6 ∨ s.bootStep = 7 → s.bootStepDone r false fw sig = s) ∧
    (s.bootStep = 3 ∨ s.bootStep = 4 ∨ s.bootStep = 5 → s.bootStepDone r false fw sig = s.bootFail (s.bootStep + 1)) := by
  constructor <;> rintro (hstep | hstep | hstep) <;> simp [State.bootStepDone, hstep]

/-! ### The end of a datapath warm reset (R424) -/

theorem exec_warmResetReady {s : State} {r : ResetRun} (hr : s.watch.run = some r) (hd : r.domain = 2)
    (hready : s.flag Reg.WCH_BOOT Fld.WCH_BOOT_READY = true) :
    let e := s.onWatch (fun w => { w with run := none })
    exec .warmResetReady s = if s.endsLaid r = true then .next (e.endLaid { r with laid := r.laid || s.watch.laid })
      else if s.flag Reg.WCH_ESC Fld.WCH_ESC_AUTOADMIT = true ∧ r.trip = false then .next (e.admitStandby.lastReset r 0)
      else .next (e.lastReset r 1) := by
  simp only [exec, execWarmResetReady, hr, hd, hready, and_self, if_true]
  rfl

/-! ### A table engine that hangs (R457, R460) -/

theorem exec_tableEngineHang_image {s : State} (ha : s.awake = true) (hi : s.tbl.image.isSome = true) :
    exec (.tableEngineHang .entry) s = .next s.abortImage.tableReset := by
  simp only [exec, execTableEngineHang, ha, hi, Bool.not_true, Bool.false_eq_true, if_false, if_true]

theorem exec_tableEngineHang_entry {s : State} (ha : s.awake = true) (hi : s.tbl.image = none) {q : Nat} {e : Entry}
    (he : s.nextEntry engTable = some (q, e)) :
    exec (.tableEngineHang .entry) s = .next (((s.popQueue engTable q).tblAbort e).tableReset) := by
  simp only [exec, execTableEngineHang, ha, hi, he, Bool.not_true, Option.isSome_none, Bool.false_eq_true, if_false]

/-! ### The statement -/

/-- Settles O10: requests by their code, boot steps by their number, the end of a reset by what it was, windows by what they keep. -/
theorem resetsAndBoot : Obligations.ResetsAndBoot := by
  unfold Obligations.ResetsAndBoot
  intro cause
  refine ⟨?request, ?otherKey, ?step, ?ready, fun s n ha hc hrun => if_pos ⟨ha, hc, ?back⟩, fun s src t w hw => if_pos hw,
    fun s ha hi => exec_tableEngineHang_image ha hi, fun s q e ha hi he => exec_tableEngineHang_entry ha hi he, ?windows⟩
  case request =>
    intro s src val hw hkey n run
    refine ⟨fun hc => (if_pos ⟨hw, hc⟩).trans ?_, fun hc => (if_pos ⟨hw, hc⟩).trans ?_, fun hc => (if_pos ⟨hw, hc⟩).trans ?_⟩ <;>
      rw [State.resetWrite_key s src hkey hc (by decide)] <;> rfl
  case otherKey =>
    intro s src val hkey
    have hsame := State.resetWrite_otherKey s src hkey
    simp only [exec, execResetreqCluster, execResetreqDatapathWarm, execResetreqCold, hsame, ite_self, and_self]
  case step =>
    intro s r fw sig hr
    obtain ⟨h1, h2, h3, h4, h5, h6, h7⟩ := State.bootStepDone_ok s r fw sig
    obtain ⟨hstays, hfails⟩ := State.bootStepDone_fails s r fw sig
    simp only [exec_bootStepDone hr]
    exact ⟨fun h => by rw [h1 h], fun h hd => by rw [h2 h, if_pos hd], fun h hd => by rw [h2 h, if_neg (by rw [hd]; decide)],
      fun h => by rw [h3 h], fun h => by rw [h4 h], fun h => by rw [h5 h], fun h => by rw [h6 h],
      fun h hd hl => by rw [h7 h hl, if_neg (by rw [hd]; decide)], fun h hd hl => by rw [h7 h hl, if_pos hd],
      fun h => by rw [hstays h], fun h => by rw [hfails h]⟩
  case ready =>
    intro s r hr hd hready e
    refine ⟨fun hl => (exec_warmResetReady hr hd hready).trans (if_pos hl), fun hl hauto htrip => ?_, fun hl hno => ?_⟩
    · exact (exec_warmResetReady hr hd hready).trans ((if_neg (ne_true_of_eq_false hl)).trans (if_pos ⟨hauto, htrip⟩))
    · refine (exec_warmResetReady hr hd hready).trans ((if_neg (ne_true_of_eq_false hl)).trans (if_neg fun hgo => ?_))
      obtain h | h := hno
      · exact ne_true_of_eq_false h hgo.1
      · exact ne_true_of_eq_false hgo.2 h
  case back => simpa only [Option.isNone_iff_eq_none] using hrun
  case windows =>
    intro s n c j p kept
    exact ⟨rfl, rfl, rfl, rfl, rfl, rfl, rfl⟩

end Sys2Proof.Machine
end

section
/-! ADMIT of another generation, and writes of SEC_SLOT.CONF with the slots that return to FREE. -/

namespace Sys2Proof.Machine

/-! ### ADMIT (R427) -/

/-- In STANDBY or DRAINING an ADMIT meets the generation first. -/
theorem State.doAdmit_otherGeneration {s : State} (ht : s.inTransition = false) (hm : s.mode = stStandby ∨ s.mode = stDraining)
    (hgen : s.imageGeneration ≠ s.watch.record.planegen) :
    s.doAdmit = (s.setFld Reg.WCH_BOOT Fld.WCH_BOOT_GENMISMATCH 1).cmdStat csRefused := by
  simp only [State.doAdmit, ht, Bool.false_eq_true, if_false, if_pos hm.symm, if_pos hgen]

/-- Settles O51: both states are above WATCH, and the generation is judged before what each state does. -/
theorem generationMismatch : Obligations.GenerationMismatch := by
  intro s ht hm hgen
  have ha : s.awake = true := decide_eq_true (by obtain hm | hm := hm <;> rw [hm] <;> decide)
  have hexec : exec .admitModule s = .next s.doAdmit := if_pos ha
  rw [hexec, State.doAdmit_otherGeneration ht hm hgen]
  rfl

/-! ### CONF (R448) -/

/-- Where a write of CONF takes effect: from a session, on a FREE slot that no bind of the tick takes, where OPTIONS let it. -/
def State.confTakes (s : State) (src : Source) (k : Nat) : Prop :=
  isSession src = true ∧ s.slotState k = 0 ∧ s.bindNow k = false ∧ s.watch.record.options.getLsbD 0 = true

section

variable {s : State} {src : Source} (hw : s.mayWrite src = true) {k : Fin 64} (on : Bool)
include hw

theorem exec_confWrite_takes (h : s.confTakes src k) :
    exec (.confWrite src k on) s = .next (s.setFld (Reg.SEC_SLOT k) Fld.SEC_SLOT_CONF (b2n on)) :=
  (if_pos hw).trans (congrArg _ (if_pos h))

theorem exec_confWrite_rejected (h : ¬ s.confTakes src k) :
    exec (.confWrite src k on) s = .next (s.raise Reg.SEC_EVT 8 11 srcSecurity) :=
  (if_pos hw).trans (congrArg _ (if_neg h))

end

/-! ### A slot that returns to FREE -/

/-- A field set reads back. -/
theorem State.fld_setFld_self {s : State} (h : s.regsOk) (k : Nat) (f : Fld) (v : Nat) (hf : f.lo + f.width ≤ 64) (hv : v < 2 ^ f.width) :
    (s.setFld k f v).fld k f = v := by
  rw [State.fld, State.setFld, State.reg_setReg_self h, Fld.get_put f v _ hf hv]

/-- A field set leaves the others of its register. -/
theorem State.fld_setFld_ne {s : State} (h : s.regsOk) (k : Nat) (f g : Fld) (v : Nat) (hg : g.lo + g.width ≤ 64)
    (hapart : f.lo + f.width ≤ g.lo ∨ g.lo + g.width ≤ f.lo) : (s.setFld k f v).fld k g = s.fld k g := by
  rw [State.fld, State.setFld, State.reg_setReg_self h, Fld.get_put_ne f g v _ hg hapart, State.fld]

/-- A REVOKED entry that becomes free frees the slot it held. -/
theorem State.afterEntry_freed {s : State} {i : Nat} {old : BitVec 512} (hold : tblBits old 0 63 62 = 2)
    (hnew : tblBits (s.entry 1 i).data 0 63 62 = 0) : s.afterEntry 1 i old =
      (s.setFld (Reg.SEC_SLOT (tblBits old 0 5 0)) Fld.SEC_SLOT_STATE 0).setFld (Reg.SEC_SLOT (tblBits old 0 5 0)) Fld.SEC_SLOT_CONF 0 := by
  simp [State.afterEntry, hold, hnew]

/-- Settles O50: a write by whether CONF takes it, and a freed slot by the two fields that its register gives up. -/
theorem confidentialMode : Obligations.ConfidentialMode := by
  refine ⟨fun s src k on hw => ⟨fun h => ?_, fun h => exec_confWrite_rejected hw on h⟩, ?freed⟩
  · cases on <;> exact exec_confWrite_takes hw _ h
  case freed =>
    intro s i old hs hold hnew k
    have hfree := State.setFld_regsOk hs (Reg.SEC_SLOT k) Fld.SEC_SLOT_STATE 0
    rw [State.afterEntry_freed hold hnew]
    refine ⟨?_, State.fld_setFld_self hfree _ _ _ (by decide) (by decide), fun j hj => ?_⟩
    · exact (State.fld_setFld_ne hfree _ _ _ _ (by decide) (by decide)).trans
        (State.fld_setFld_self hs _ _ _ (by decide) (by decide))
    · exact (State.reg_setReg_ne hfree _ hj).trans (State.reg_setReg_ne hs _ hj)

end Sys2Proof.Machine
end

section
/-! The broadcast key, the fence of a departing job, the scrub engine and what it zeroes. -/

namespace Sys2Proof

/-! ### The cells of a map that a property keeps -/

theorem SMap.get_eq_of_wfFrom {α : Type} [DecidableEq α] (d : α) (m : SMap α) {b i : Nat} (h : SMap.wfFrom d (some b) m = true)
    (hi : i ≤ b) : SMap.get d m i = d := by
  cases m with
  | nil => rfl
  | cons c m =>
    simp only [SMap.wfFrom, Bool.and_eq_true, decide_eq_true_eq] at h
    rw [SMap.get_cons, if_neg (by omega), if_pos (by omega)]

theorem SMap.wfFrom_of_le {α : Type} [DecidableEq α] (d : α) (m : SMap α) {b c : Nat} (h : SMap.wfFrom d (some c) m = true) (hbc : b ≤ c) :
    SMap.wfFrom d (some b) m = true := by
  cases m with
  | nil => rfl
  | cons x m =>
    simp only [SMap.wfFrom, Bool.and_eq_true, decide_eq_true_eq] at h ⊢
    exact ⟨⟨by omega, h.1.2⟩, h.2⟩

/-- Dropping cells keeps the keys above a bound. -/
theorem SMap.wfFrom_filter {α : Type} [DecidableEq α] (d : α) (p : Nat × α → Bool) (m : SMap α) (b : Nat)
    (h : SMap.wfFrom d (some b) m = true) : SMap.wfFrom d (some b) (m.filter p) = true := by
  induction m generalizing b with
  | nil => rfl
  | cons c m ih =>
    simp only [SMap.wfFrom, Bool.and_eq_true, decide_eq_true_eq] at h
    obtain ⟨⟨hb, hv⟩, hm⟩ := h
    cases hp : p c with
    | true => simp [hp, SMap.wfFrom, hb, hv, ih _ hm]
    | false =>
      rw [List.filter_cons_of_neg (by simp [hp])]
      exact ih _ (SMap.wfFrom_of_le d m hm hb.le)

/-- A kept key reads as before, and a dropped one as the default. -/
theorem SMap.get_filter_key {α : Type} [DecidableEq α] (d : α) (p : Nat → Bool) (m : SMap α) (h : SMap.wf d m = true) (i : Nat) :
    SMap.get d (m.filter (fun c => p c.1)) i = if p i then SMap.get d m i else d := by
  have key : ∀ (m : SMap α) (b : Option Nat), SMap.wfFrom d b m = true →
      SMap.get d (m.filter (fun c => p c.1)) i = if p i then SMap.get d m i else d := by
    intro m
    induction m with
    | nil => simp
    | cons c m ih =>
      obtain ⟨k, v⟩ := c
      intro b hb
      simp only [SMap.wfFrom, Bool.and_eq_true] at hb
      obtain ⟨_, hm⟩ := hb
      have hrest := ih (some k) hm
      have hlow : i ≤ k → SMap.get d (m.filter (fun c => p c.1)) i = d :=
        SMap.get_eq_of_wfFrom d _ (SMap.wfFrom_filter d _ m k hm)
      cases hp : p k with
      | true =>
        rw [List.filter_cons_of_pos (by simpa using hp), SMap.get_cons, SMap.get_cons, hrest]
        by_cases hik : i = k
        · simp [hik, hp]
        · by_cases hlt : i < k <;> simp [hik, hlt]
      | false =>
        rw [List.filter_cons_of_neg (by simp [hp]), SMap.get_cons]
        by_cases hik : i = k
        · subst hik
          simp [hlow le_rfl, hp]
        · by_cases hlt : i < k
          · simp [hlow hlt.le, hik, hlt]
          · simpa [hik, hlt] using hrest
  exact key m none h

end Sys2Proof

namespace Sys2Proof.Machine

theorem keepKeys_get {α : Type} [DecidableEq α] (d : α) (p : Nat → Bool) (m : SMap α) (h : SMap.wf d m = true) (i : Nat) :
    SMap.get d (keepKeys p m) i = if p i then SMap.get d m i else d := SMap.get_filter_key d p m h i

/-! ### What telemetry leaves of the Granary -/

theorem State.telCount_grn (s : State) (k i : Nat) (e : TelEvent) : (s.telCount k i e).grn = s.grn := by
  simp only [State.telCount, apply_ite State.grn, State.setReg_grn, State.onTele_grn, State.setBits_grn, State.logEvent_grn, ite_self]

theorem State.count_grn (s : State) (e : TelEvent) : (s.count e).grn = s.grn := by
  have hfold : ∀ (k : Nat) (l : List Nat) (s : State), (l.foldl (fun s i => s.telCount k i e) s).grn = s.grn :=
    fun k l s => State.foldl_keeps State.grn _ (fun s i => s.telCount_grn k i e) l s
  simp only [State.count]
  split
  · rfl
  · split
    · split
      · rw [hfold, hfold]
      · rw [hfold]
    · rw [hfold]

theorem State.grnEvent_grn (s : State) (ev n job a : Nat) : (s.grnEvent ev n job a).grn = s.grn := by
  unfold State.grnEvent
  split
  · rfl
  · exact State.count_grn _ _

/-! ### A piece of REGIONS (R443) -/

section

variable {s : State} (e : Entry) (k : Nat)

/-- Whether address `a` lies outside piece `k` of the entry's regions. -/
def outsidePiece (e : Entry) (k a : Nat) : Bool :=
  !decide (seFirst e * 134217728 + k * scrubPiece ≤ a ∧ a < seFirst e * 134217728 + k * scrubPiece + scrubPiece)

theorem State.zeroPiece_mem : (s.zeroPiece e k).grn.mem = s.grn.mem.filter (fun c => outsidePiece e k c.1) :=
  congrArg Granary.mem (State.grnEvent_grn _ _ _ _ _)

theorem State.zeroPiece_ver : (s.zeroPiece e k).grn.ver = keepKeys (fun b => outsidePiece e k (256 * b)) s.grn.ver :=
  congrArg Granary.ver (State.grnEvent_grn _ _ _ _ _)

theorem State.zeroPiece_gByte (h : SMap.wf 0 s.grn.mem = true) (a : Nat) :
    (s.zeroPiece e k).gByte a = if outsidePiece e k a then s.gByte a else 0 := by
  rw [State.gByte, State.zeroPiece_mem, SMap.get_filter_key 0 (outsidePiece e k) _ h, State.gByte]

theorem State.zeroPiece_blockVer (h : SMap.wf 0 s.grn.ver = true) (b : Nat) :
    (s.zeroPiece e k).blockVer b = if outsidePiece e k (256 * b) then s.blockVer b else 0 := by
  rw [State.blockVer, State.zeroPiece_ver, keepKeys_get 0 _ _ h, State.blockVer]
  split <;> rfl

end

/-! ### The fence (R439, R440) -/

section

variable {s : State} {k : Fin 64} (ha : s.awake = true) (hf : s.fencing k = true)
include ha hf

theorem exec_resmaxExpiry_due (hdue : s.since (s.trOf k) s.resmax = true) : exec (.resmaxExpiry k) s =
    .next ((s.discardJob k (fun _ h => h.f.job.toNat == s.slotJob k)).discardQueued k (s.slotJob k)) := if_pos ⟨ha, hf, hdue⟩

theorem exec_fenceEnd_done (hjob : s.jobFrames (s.slotJob k) = false) :
    let ended := s.setFld (Reg.SEC_SLOT k) Fld.SEC_SLOT_FENCING 0
    let late := s.trOf k + 2 * s.resmax + nsTicks s.rttMax < s.tick
    exec (.fenceEnd k) s = .next (((if late then ended.raise Reg.SEC_EVT 3 11 srcSecurity else ended).raise Reg.SEC_EVT 2 11
      srcSecurity).sendMarkers 1 k) := by
  refine (if_pos ⟨ha, hf, hjob⟩).trans ?_
  simp only [decide_eq_true_eq]
  rfl

end

theorem exec_resmaxExpiry_none {s : State} {k : Fin 64} (h : ¬ (s.awake = true ∧ s.fencing k = true)) :
    exec (.resmaxExpiry k) s = .next s := if_neg fun hc => h ⟨hc.1, hc.2.1⟩

theorem exec_fenceEnd_none {s : State} {k : Fin 64} (h : ¬ (s.awake = true ∧ s.fencing k = true)) :
    exec (.fenceEnd k) s = .next s := if_neg fun hc => h ⟨hc.1, hc.2.1⟩

/-- A frame of the module's own that the rule takes is consumed. -/
theorem State.takeFrame_some {s : State} {r : StageRef} {h : Held} (ha : s.awake = true) (hr : s.stagedAt r = some h)
    (hown : s.ownFrame h.f = true) {p : Frame → Bool} (hp : p h.f = true) (run : Frame → State → State) :
    s.takeFrame r p run = .next (run h.f (s.consume r h)) := by
  simp only [State.takeFrame, hr, ha, hp, hown, and_self, if_true]

/-! ### The scrub engine (R443 to R446) -/

theorem exec_scrubSlot (s : State) : exec .scrubSlot s = .next (s.scrubTake (fun op => op != 2 && op != 3) State.startScrub) := rfl

theorem exec_scrubRegions (s : State) : exec .scrubRegions s = .next (s.scrubTake (fun op => op == 2) State.startScrub) := rfl

theorem exec_scrubDone (s : State) : exec .scrubDone s = .next (s.scrubTake (fun op => op == 3) State.runDone) := rfl

section

variable {s : State} {mine : Nat → Bool} (run : Entry → State → State)

/-- An idle engine takes the entry in front by the command of its OP. -/
theorem State.scrubTake_mine (ha : s.awake = true) (hidle : s.sec.scrub = none) {q : Nat} {e : Entry}
    (he : s.nextEntry engScrub = some (q, e)) (hm : mine (entryOp e) = true) : s.scrubTake mine run =
      if (s.popQueue engScrub q).scrubStatus e ≠ scOk then (s.popQueue engScrub q).scrubDone e ((s.popQueue engScrub q).scrubStatus e) 0
      else run e (s.popQueue engScrub q) := by
  simp only [State.scrubTake, he, ha, hidle, hm, Option.isNone_none, Bool.and_self, if_true]

/-- Nothing is taken below STANDBY, with an entry in progress, or with none waiting. -/
theorem State.scrubTake_none (h : s.awake = false ∨ s.sec.scrub.isSome = true ∨ s.nextEntry engScrub = none) :
    s.scrubTake mine run = s := by
  unfold State.scrubTake
  split
  · rfl
  next q e he =>
    refine if_neg fun hc => ?_
    simp only [Bool.and_eq_true, Option.isNone_iff_eq_none] at hc
    obtain ⟨⟨ha, hidle⟩, _⟩ := hc
    obtain h | h | h := h
    · exact ne_true_of_eq_false h ha
    · simp [hidle] at h
    · simp [he] at h

end

section

variable {s : State} {r : ScrubRun} (hr : s.sec.scrub = some r)
include hr

theorem State.scrubGo_slot (hop : entryOp r.e = 1) :
    let idle := s.onSec (fun x => { x with scrub := none })
    s.scrubGo = (idle.runSlot r.e).2.scrubDone r.e scOk (idle.runSlot r.e).1 := by
  simp only [State.scrubGo, hr, hop, if_true]

theorem State.scrubGo_last (hop : entryOp r.e ≠ 1) (hlast : 8192 * seCount r.e ≤ r.k + 1) :
    s.scrubGo = ((s.onSec (fun x => { x with scrub := none })).zeroPiece r.e r.k).scrubDone r.e scOk (128 * seCount r.e) := by
  simp only [State.scrubGo, hr, if_neg hop, if_pos hlast]

theorem State.scrubGo_piece (hop : entryOp r.e ≠ 1) (hmore : r.k + 1 < 8192 * seCount r.e) :
    s.scrubGo = (s.zeroPiece r.e r.k).onSec (fun x => { x with scrub := some { r with k := r.k + 1 } }) := by
  simp only [State.scrubGo, hr, if_neg hop, if_neg (Nat.not_le.mpr hmore)]

theorem State.abortScrub_some :
    s.abortScrub = (s.onSec (fun x => { x with scrub := none })).scrubDone r.e scAborted (r.k * scrubPiece / 1048576) := by
  simp only [State.abortScrub, hr]

end

section

variable {s : State} (h : s.sec.scrub = none)
include h

theorem State.scrubGo_none : s.scrubGo = s := by simp only [State.scrubGo, h]

theorem State.abortScrub_none : s.abortScrub = s := by simp only [State.abortScrub, h]

end

/-! ### The statement -/

/-- Settles O40: the key and CONF by who writes, the fence by its conditions, entries by their OP and status, and a piece of
REGIONS by what lies outside it. -/
theorem securityCommands : Obligations.SecurityCommands := by
  refine ⟨fun s src hw => ⟨fun hs => if_pos ⟨hw, hs⟩, fun hs => if_neg fun hc => ne_true_of_eq_false hs hc.2, fun k on => ?conf⟩,
    fun s src hw => ⟨if_neg fun hc => ne_true_of_eq_false hw hc.1, fun k on => if_neg (ne_true_of_eq_false hw)⟩,
    fun s k h => ⟨exec_resmaxExpiry_none h, exec_fenceEnd_none h⟩, fun s k ha hf => ⟨fun hn => ?notDue, exec_resmaxExpiry_due ha hf,
      exec_fenceEnd_done ha hf, fun hn => ?framesLeft⟩,
    fun s r h ha hr hown => ⟨fun hk => ?marker, fun hk hsub => ?loopreq⟩, ?taken, fun s h => ?notTaken,
    fun s r hr => ⟨State.scrubGo_slot hr, State.scrubGo_last hr, State.scrubGo_piece hr, State.abortScrub_some hr⟩,
    fun s h => ⟨State.scrubGo_none h, State.abortScrub_none h⟩, fun s ha => ⟨if_pos ha, if_pos ha, if_pos ha⟩, ?piece⟩
  case conf =>
    refine ⟨fun hses hfree hbind hopt => exec_confWrite_takes hw on ⟨hses, hfree, hbind, hopt⟩, fun h => ?_⟩
    refine exec_confWrite_rejected hw on fun ⟨hses, hfree, hbind, hopt⟩ => ?_
    obtain h | h | h | h := h
    · exact ne_true_of_eq_false h hses
    · exact h hfree
    · exact ne_true_of_eq_false hbind h
    · exact ne_true_of_eq_false h hopt
  case notDue => exact if_neg fun hc => ne_true_of_eq_false hn hc.2.2
  case framesLeft => exact if_neg fun hc => ne_true_of_eq_false hc.2.2 hn
  case marker =>
    exact State.takeFrame_some ha hr hown (p := fun f => f.kind = kScrub) (decide_eq_true hk)
      (fun _ s => s.bump Reg.SEC_MKCNT 1)
  case loopreq =>
    exact State.takeFrame_some ha hr hown (p := fun f => f.kind = kTest && f.subk = 2) (by simp [hk, hsub])
      (fun _ s => s)
  case taken =>
    intro s q e ha hidle he t st
    refine ⟨fun hst => ⟨fun hop => ?_, fun hop => ?_, fun h2 h3 => ?_⟩, fun hst => ⟨fun hop => ?_, fun hop => ?_, fun hop => ?_⟩⟩
    · rw [exec_scrubRegions, State.scrubTake_mine _ ha hidle he (by simp [hop]), if_pos hst]
    · rw [exec_scrubDone, State.scrubTake_mine _ ha hidle he (by simp [hop]), if_pos hst]
    · rw [exec_scrubSlot, State.scrubTake_mine _ ha hidle he (by simp [h2, h3]), if_pos hst]
    · rw [exec_scrubSlot, State.scrubTake_mine _ ha hidle he (by simp [hop]), if_neg (not_not.mpr hst)]
      rfl
    · rw [exec_scrubRegions, State.scrubTake_mine _ ha hidle he (by simp [hop]), if_neg (not_not.mpr hst)]
      rfl
    · rw [exec_scrubDone, State.scrubTake_mine _ ha hidle he (by simp [hop]), if_neg (not_not.mpr hst)]
      rfl
  case notTaken =>
    simp only [exec_scrubSlot, exec_scrubRegions, exec_scrubDone, State.scrubTake_none _ h, and_self]
  case piece =>
    intro s e k a hmem hver t lo
    have hin : ∀ {x : Nat}, lo ≤ x → x < lo + 16384 → outsidePiece e k x ≠ true := fun hlo hhi => by
      simpa [outsidePiece] using ⟨hlo, hhi⟩
    have hout : ∀ {x : Nat}, x < lo ∨ lo + 16384 ≤ x → outsidePiece e k x = true := fun h => by
      simp only [outsidePiece, Bool.not_eq_true', decide_eq_false_iff_not]
      rintro ⟨hlo, hhi⟩
      exact h.elim (fun h => absurd hlo (Nat.not_le.mpr h)) (fun h => absurd hhi (Nat.not_lt.mpr h))
    exact ⟨fun hlo hhi => (State.zeroPiece_gByte e k hmem a).trans (if_neg (hin hlo hhi)),
      fun h => (State.zeroPiece_gByte e k hmem a).trans (if_pos (hout h)),
      fun hlo hhi => (State.zeroPiece_blockVer e k hver a).trans (if_neg (hin hlo hhi)),
      fun h => (State.zeroPiece_blockVer e k hver a).trans (if_pos (hout h))⟩

end Sys2Proof.Machine
end

section
/-! Crash dumps: what the engine takes and how it ends, the records of a unit, and the packets that carry them. -/

namespace Sys2Proof.Machine

/-! ### Records and packets (R469, R470) -/

section

variable {s : State} {u : DumpUnit}

/-- A unit that answered is read whole, or withheld. -/
theorem State.unitRecs_answered (h : s.test.dump.hung.find? (fun h => h.1 == u.ut && h.2.1 == u.unit) = none) :
    s.unitRecs u = if u.hide then [s.dumpRec u drWithheld u.off []] else [s.dumpRec u drOk u.off u.data] := by
  simp only [State.unitRecs, h]

/-- A unit that stopped answering at `off` is read up to there, once. -/
theorem State.unitRecs_hung {a b off : Nat}
    (h : s.test.dump.hung.find? (fun h => h.1 == u.ut && h.2.1 == u.unit) = some (a, b, off)) (hreach : off < u.off + u.data.length) :
    s.unitRecs u = if off < u.off then []
      else (if off = u.off then [] else if u.hide then [s.dumpRec u drWithheld u.off []]
          else [s.dumpRec u drOk u.off (u.data.take (off - u.off))]) ++ [s.dumpRec u drUnresponsive off []] := by
  simp only [State.unitRecs, h, if_neg (Nat.not_le.mpr hreach)]

end

theorem numberRecs_seq (l : List DumpRec) (n : Nat) : (numberRecs l)[n]?.map (fun r => r.seq) = l[n]?.map (fun _ => n) := by
  simp only [numberRecs, List.getElem?_mapIdx, Option.map_map, Function.comp_def]

theorem recBytes_length (r : DumpRec) : (recBytes r).length = 32 + r.data.length := by
  simp only [recBytes, List.length_append, beBytes_length, List.length_cons, List.length_nil]

/-- Pieces of `c` bytes in a row are the string from its start. -/
theorem flatMap_pieces {α : Type} (l : List α) (c n : Nat) :
    (List.range n).flatMap (fun i => (l.drop (c * i)).take c) = l.take (c * n) := by
  induction n with
  | zero => simp
  | succ n ih => rw [List.range_succ, List.flatMap_append, ih, Nat.mul_succ, List.take_add, List.flatMap_singleton]

/-- The payloads that a string is cut into are the string. -/
theorem cutPayloads_flatten (l : List Byte) : (cutPayloads l).flatten = l := by
  have hlen : l.length ≤ 65536 * ceilDiv l.length 65536 := by
    unfold ceilDiv
    omega
  rw [cutPayloads, ← List.flatMap_def, flatMap_pieces, List.take_of_length_le hlen]

theorem length_of_mem_cutPayloads {l b : List Byte} (h : b ∈ cutPayloads l) : b.length ≤ 65536 := by
  obtain ⟨i, _, rfl⟩ := List.mem_map.mp h
  exact List.length_take_le _ _

theorem dumpPackets_payloads (l : List DumpRec) : (dumpPackets l).flatMap (fun p => p.payload) = l.flatMap recBytes := by
  rw [dumpPackets, List.flatMap_map, List.flatMap_id', cutPayloads_flatten]

/-! ### Entries taken (R471) -/

theorem State.dumpIdle_iff {s : State} : s.dumpIdle = true ↔ s.test.dump.running = none ∧ s.test.dump.sending = none := by
  simp only [State.dumpIdle, Bool.and_eq_true, Option.isNone_iff_eq_none]

/-- The idle engine takes the entry in front by the command of its OP. -/
theorem State.dumpTake_mine {s : State} {mine : Nat → Bool} (run : Entry → State → State) (ha : s.awake = true)
    (hidle : s.dumpIdle = true) {q : Nat} {e : Entry} (he : s.nextEntry engDump = some (q, e)) (hm : mine (entryOp e) = true) :
    s.dumpTake mine run =
      if (s.popQueue engDump q).dumpStatus e ≠ duOk then
        (s.popQueue engDump q).dumpDone e ((s.popQueue engDump q).dumpStatus e) ((s.popQueue engDump q).dumpIdOf e) 0
      else run e (s.popQueue engDump q) := by
  simp only [State.dumpTake, he, ha, hidle, hm, Bool.and_self, if_true]

theorem exec_dump_idle {s : State} (h : s.dumpIdle = true) :
    exec .dump s = .next (s.dumpTake (fun op => op != 2 && op != 3) (fun e s => s.beginDump e)) := by
  simp only [exec, execDump, (State.dumpIdle_iff.mp h).1]

/-- A SEND is in progress from here. -/
def State.beginSend (e : Entry) (s : State) : State :=
  s.onTest (fun t => { t with dump := { t.dump with sending := some (e, s.tick) } })

theorem exec_dumpSend_idle {s : State} (h : s.dumpIdle = true) :
    exec .dumpSend s = .next (s.dumpTake (fun op => op == 2) State.beginSend) := by
  simp only [exec, execDumpSend, (State.dumpIdle_iff.mp h).2]
  rfl

/-- A FREE entry frees what is staged. -/
def State.runFree (e : Entry) (s : State) : State :=
  (s.onTest (fun t => { t with dump := { t.dump with
    staged := false
    recs := [] } })).dumpDone e duOk (s.dumpIdOf e) 0

theorem exec_dumpFree (s : State) : exec .dumpFree s = .next (s.dumpTake (fun op => op == 3) State.runFree) := rfl

/-! ### Free values -/

theorem State.freeBelow_lt (s : State) {n : Nat} (h : 0 < n) : (s.freeBelow n).1 < n := Nat.mod_lt _ h

/-- The records from index `k` on, as the one that covers them. -/
def truncated (l : List DumpRec) (k : Nat) : List DumpRec :=
  ((l.drop k).take 1).map (fun r => { r with
    status := 4
    data := [] })

/-! ### A DUMP in progress (R469) -/

section

variable {s : State} {e : Entry} {t : Nat} (ha : s.awake = true) (hr : s.test.dump.running = some (e, t))
include ha hr

theorem exec_dump_running : exec .dump s = .next ((s.allRecs e).2.endDump e (s.allRecs e).1 duOk) := by
  simp only [exec, execDump, hr, ha, if_true]

theorem exec_dumpTruncate_late (hlate : s.since t (secTicks 2) = true) :
    let b := (s.allRecs e).2.freeBelow ((s.allRecs e).1.length + 1)
    exec .dumpTruncate s = .next ((b.2.raiseDump 4).endDump e ((s.allRecs e).1.take b.1 ++ truncated (s.allRecs e).1 b.1) duOk) := by
  simp only [exec, execDumpTruncate, hr, ha, hlate, Bool.and_self, if_true, truncated]
  cases (s.allRecs e).1.drop ((s.allRecs e).2.freeBelow ((s.allRecs e).1.length + 1)).1 <;> rfl

omit ha in
theorem exec_dumpTruncate_early (hlate : s.since t (secTicks 2) = false) : exec .dumpTruncate s = .next s := by
  simp only [exec, execDumpTruncate, hr, hlate, Bool.and_false, Bool.false_eq_true, if_false]

theorem exec_dumpAccessTimeout_first {ut : Byte} {u : BitVec 16} (off : Word)
    (hnew : s.test.dump.hung.any (fun h => h.1 == ut.toNat && h.2.1 == u.toNat) = false) :
    exec (.dumpAccessTimeout ut u off) s = .next (((s.onTest (fun x => { x with dump := { x.dump with
      unresp := min 65535 (x.dump.unresp + 1)
      hung := x.dump.hung ++ [(ut.toNat, u.toNat, off.toNat)] } })).bump Reg.LFT_DMP_UNRESP 1).raiseDump 3) := by
  simp only [exec, execDumpAccessTimeout, hr, ha, hnew, Bool.not_true, Bool.or_self, Bool.false_eq_true, if_false]

omit ha in
theorem exec_dumpAccessTimeout_again {ut : Byte} {u : BitVec 16} (off : Word)
    (hold : s.test.dump.hung.any (fun h => h.1 == ut.toNat && h.2.1 == u.toNat) = true) :
    exec (.dumpAccessTimeout ut u off) s = .next s := by
  simp only [exec, execDumpAccessTimeout, hr, hold, Bool.or_true, if_true]

end

/-! ### A SEND in progress (R471) -/

section

variable {s : State} {e : Entry} {t : Nat} (ha : s.awake = true) (hr : s.test.dump.sending = some (e, t))
include ha hr

theorem exec_dumpSend_sending : exec .dumpSend s = .next (((s.onTest (fun x => { x with dump := { x.dump with sending := none } })).dumpSendTo
    e (dumpPackets s.test.dump.recs)).dumpDone e duOk (s.dumpIdOf e) 0) := by
  simp only [exec, execDumpSend, hr, ha, if_true]
  rfl

theorem exec_dumpSendTimeout_late (hlate : s.since t (msTicks 500) = true) :
    let l := dumpPackets s.test.dump.recs
    let b := s.freeBelow (max 1 l.length)
    exec .dumpSendTimeout s = .next (((b.2.onTest (fun x => { x with dump := { x.dump with sending := none } })).dumpSendTo e
      (l.take b.1)).dumpDone e duTimeout (s.dumpIdOf e) 0) := by
  simp only [exec, execDumpSendTimeout, hr, ha, hlate, Bool.and_self, if_true]
  rfl

omit ha in
theorem exec_dumpSendTimeout_early (hlate : s.since t (msTicks 500) = false) : exec .dumpSendTimeout s = .next s := by
  simp only [exec, execDumpSendTimeout, hr, hlate, Bool.and_false, Bool.false_eq_true, if_false]

end

/-! ### FORCE (R464) -/

/-- A SEND that a FORCE meets, or the state without one. -/
def State.forceSend (s : State) : State :=
  match s.test.dump.sending with
  | some (e, _) =>
    if s.alsoNow (fun i => i == Instr.dumpSend) then s
    else (s.onTest (fun t => { t with dump := { t.dump with sending := none } })).dumpDone e duAborted (s.dumpIdOf e) 0
  | none => s

/-- A DUMP that a FORCE meets, or the state without one. -/
def State.forceRunning (s : State) : State :=
  match s.test.dump.running with
  | some (e, _) =>
    if s.alsoNow (fun i => i == Instr.dump) then s
    else
      let b := (s.allRecs e).2.freeBelow ((s.allRecs e).1.length + 1)
      b.2.endDump e ((s.allRecs e).1.take b.1) duAborted
  | none => s

/-- What a FORCE does to the waiting entries, before those in progress. -/
def State.forceWaiting (s : State) : State :=
  (((s.waitingEntries engDump).foldl (fun (s : State) e => s.dumpDone e duAborted (s.dumpIdOf e) 0)
    (s.clearQueues engDump)).setHold engDump 2).forcedDisable engDump 0

theorem exec_dmpForce {s : State} (ha : s.awake = true) : exec .dmpForce s = .next s.forceWaiting.forceSend.forceRunning := if_pos ha

theorem State.forceSend_none {s : State} (h : s.test.dump.sending = none ∨ s.alsoNow (fun i => i == Instr.dumpSend) = true) :
    s.forceSend = s := by
  unfold State.forceSend
  split
  next hs => exact if_pos (h.resolve_left (by simp [hs]))
  · rfl

theorem State.forceSend_some {s : State} {e : Entry} {t : Nat} (hs : s.test.dump.sending = some (e, t))
    (h : s.alsoNow (fun i => i == Instr.dumpSend) = false) :
    s.forceSend = (s.onTest (fun x => { x with dump := { x.dump with sending := none } })).dumpDone e duAborted (s.dumpIdOf e) 0 := by
  simp only [State.forceSend, hs, h, Bool.false_eq_true, if_false]

theorem State.forceRunning_none {s : State} (h : s.test.dump.running = none ∨ s.alsoNow (fun i => i == Instr.dump) = true) :
    s.forceRunning = s := by
  unfold State.forceRunning
  split
  next hs => exact if_pos (h.resolve_left (by simp [hs]))
  · rfl

theorem State.forceRunning_some {s : State} {e : Entry} {t : Nat} (hs : s.test.dump.running = some (e, t))
    (h : s.alsoNow (fun i => i == Instr.dump) = false) :
    let b := (s.allRecs e).2.freeBelow ((s.allRecs e).1.length + 1)
    s.forceRunning = b.2.endDump e ((s.allRecs e).1.take b.1) duAborted := by
  simp only [State.forceRunning, hs, h, Bool.false_eq_true, if_false]

/-! ### Hangs (R455, R457) -/

/-- The state after the dump engine's unit reset and its fault record. -/
def State.dumpReset (s : State) : State :=
  let u := s.dumpAbort.onTest (fun x => { x with dump := { x.dump with predump := none } })
  u.faultRecord { unitType := utDump, register := 0, cause := duAborted, action := 1
                  detail := u.reg (Reg.LFT_DMP_CRING ((u.fld Reg.LFT_DMP_CRHEAD ⟨0, 8⟩ + 255) % 256)) }

section

variable {s : State} {e : Entry} {t : Nat} (ha : s.awake = true)
include ha

omit ha in
theorem exec_dumpHang_early (hr : s.test.dump.running = some (e, t)) (hlate : s.since t (secTicks 4) = false) :
    exec (.engineEntryHang .dump) s = .next s := by
  simp only [exec, execEngineEntryHang, hr, hlate, Bool.and_false, Bool.false_eq_true, if_false]

theorem exec_dumpHang_dump (hr : s.test.dump.running = some (e, t)) (hlate : s.since t (secTicks 4) = true) :
    (s.test.dump.predump = none → exec (.engineEntryHang .dump) s = .next s.dumpReset) ∧
    (∀ pre r, s.test.dump.predump = some pre → s.dumpReset.watch.after = some r →
      exec (.engineEntryHang .dump) s = .next (s.dumpReset.startRun r)) := by
  refine ⟨fun hp => ?_, fun pre r hp hafter => ?_⟩
  · simp only [exec, execEngineEntryHang, hr, hlate, ha, hp, Bool.and_self, if_true]
    rfl
  · rw [State.dumpReset] at hafter
    simp only [exec, execEngineEntryHang, hr, hlate, ha, hp, hafter, Bool.and_self, if_true]
    rfl

theorem exec_dumpHang_send (hs : s.test.dump.sending = some (e, t)) (hr : s.test.dump.running = none)
    (hlate : s.since t (secTicks 1) = true) (hp : s.test.dump.predump = none) :
    exec (.engineEntryHang .dump) s = .next s.dumpReset := by
  simp only [exec, execEngineEntryHang, hr, hs, hlate, ha, hp, Bool.and_self, if_true]
  rfl

theorem exec_scrubHang_none (h : s.scrubHung = none) : exec (.engineEntryHang .scrub) s = .next s := by
  simp only [exec, execEngineEntryHang, ha, h]

theorem exec_scrubHang_some {v : State} (h : s.scrubHung = some (v, e)) :
    let u := v.scrubDone e scAborted 0
    exec (.engineEntryHang .scrub) s = .next (u.faultRecord {
      unitType := utSecurity, register := 1, cause := scAborted, action := 1
      detail := u.reg (Reg.SEC_SCR_CRING ((u.fld Reg.SEC_SCR_CRHEAD ⟨0, 8⟩ + 255) % 256)) }) := by
  simp only [exec, execEngineEntryHang, ha, h]

end

/-! ### The statement -/

/-- Settles O41: entries by OP and status, a DUMP and a SEND in progress by their bounds, FORCE by what is in progress, records by
where the unit stopped answering, and the packets as the pieces of the records' bytes. -/
theorem dumpCommands : Obligations.DumpCommands := by
  refine ⟨?taken, ?running, ?sending, ?commands,
    fun s => ⟨fun r hr => ?hungRunning, fun hr => ⟨fun hn => ?hungNone, fun q e he => ?hungNext⟩⟩,
    fun s ha => ?asleep, fun s ut u off hr => ?notRunning, fun s hs => ?notSending, fun s u h => ⟨fun hh => ?_, fun hh => ?_⟩,
    fun s u a b off h => ⟨fun hu hl => ?start, fun hlo hhi hh => ?middle, fun hlt => ?before⟩, numberRecs_seq, recBytes_length,
    fun l => ⟨dumpPackets_payloads l, fun p hp => ?size⟩⟩
  case taken =>
    intro s q e ha hidle he t st
    refine ⟨fun hst => ⟨fun h2 h3 => ?_, fun hop => ?_, fun hop => ?_⟩, fun hst => ⟨fun hop => ?_, fun hop => ?_, fun hop => ?_⟩⟩
    · rw [exec_dump_idle hidle, State.dumpTake_mine _ ha hidle he (by simp [h2, h3]), if_pos hst]
    · rw [exec_dumpSend_idle hidle, State.dumpTake_mine _ ha hidle he (by simp [hop]), if_pos hst]
    · rw [exec_dumpFree, State.dumpTake_mine _ ha hidle he (by simp [hop]), if_pos hst]
    · rw [exec_dump_idle hidle, State.dumpTake_mine _ ha hidle he (by simp [hop]), if_neg (not_not.mpr hst)]
      rfl
    · rw [exec_dumpSend_idle hidle, State.dumpTake_mine _ ha hidle he (by simp [hop]), if_neg (not_not.mpr hst)]
      rfl
    · rw [exec_dumpFree, State.dumpTake_mine _ ha hidle he (by simp [hop]), if_neg (not_not.mpr hst), State.runFree, State.dumpIdOf,
        if_neg (by rw [hop]; decide)]
  case running =>
    intro s e t ha hr l
    exact ⟨exec_dump_running ha hr,
      fun hlate => ⟨_, Nat.le_of_lt_succ (State.freeBelow_lt _ (Nat.succ_pos _)), exec_dumpTruncate_late ha hr hlate⟩,
      fun ut u off => exec_dumpAccessTimeout_first ha hr off, fun ut u off => exec_dumpAccessTimeout_again hr off,
      exec_dumpTruncate_early hr, exec_dumpHang_early hr, exec_dumpHang_dump ha hr⟩
  case sending =>
    intro s e t ha hs ended l
    exact ⟨exec_dumpSend_sending ha hs,
      fun hlate => ⟨_, State.freeBelow_lt _ (Nat.le_max_left 1 _), exec_dumpSendTimeout_late ha hs hlate⟩,
      exec_dumpSendTimeout_early hs, exec_dumpHang_send ha hs⟩
  case commands =>
    intro s ha
    refine ⟨if_pos ha, if_pos ha, fun v hv => ?_, exec_scrubHang_none ha, fun t e => exec_scrubHang_some ha⟩
    have hsend : s.forceWaiting.forceSend = v := by
      obtain ⟨h, rfl⟩ | ⟨e, t, hs, h, rfl⟩ := hv
      · exact State.forceSend_none h
      · exact State.forceSend_some hs h
    rw [exec_dmpForce ha, hsend]
    exact ⟨fun h => by rw [State.forceRunning_none h],
      fun e t hr h => ⟨_, Nat.le_of_lt_succ (State.freeBelow_lt _ (Nat.succ_pos _)), by rw [State.forceRunning_some hr h]⟩⟩
  case hungRunning => simp only [State.scrubHung, hr]
  case hungNone => simp only [State.scrubHung, hr, hn, Option.map_none]
  case hungNext => simp only [State.scrubHung, hr, he, Option.map_some]
  case asleep =>
    have hn := ne_true_of_eq_false ha
    refine ⟨if_neg hn, if_neg hn, if_neg hn, execEngineEntryHang_asleep ha, ?_, ?_⟩
    · simp only [exec, execDumpSendTimeout, ha, Bool.false_and, Bool.false_eq_true, if_false]
      split <;> rfl
    · simp only [exec, execDumpTruncate, ha, Bool.false_and, Bool.false_eq_true, if_false]
      split <;> rfl
  case notRunning => simp only [exec, execDumpAccessTimeout, execDumpTruncate, hr, and_self]
  case notSending => simp only [exec, execDumpSendTimeout, hs]
  · rw [State.unitRecs_answered h, hh]; rfl
  · rw [State.unitRecs_answered h, hh]; rfl
  case start => rw [State.unitRecs_hung h (by omega), if_neg (by omega), if_pos hu.symm, List.nil_append]
  case middle =>
    rw [State.unitRecs_hung h hhi, if_neg (by omega), if_neg (by omega), hh]
    rfl
  case before => rw [State.unitRecs_hung h (by omega), if_pos hlt]
  case size =>
    obtain ⟨b, hb, rfl⟩ := List.mem_map.mp hp
    exact length_of_mem_cutPayloads hb

end Sys2Proof.Machine
end

section
/-! Test requests: what a write of WCH_TSTREQ starts, refuses or cancels, and what a loop-back takes. -/

namespace Sys2Proof.Machine

/-! ### What a request comes to (R478, R479) -/

section

variable {s : State} {src : Source} {w : Word}

theorem State.testStatus_state {u : TestUnit} (h : s.testState src w u = true) : s.testStatus src w u = teState := if_pos h

theorem State.testStatus_inuse {u : TestUnit} (h : s.testState src w u = false) (hr : s.test.runs.any (fun r => sharesUnit r.u u) = true) :
    s.testStatus src w u = teInuse := by
  simp only [State.testStatus, h, hr, Bool.false_eq_true, if_false, if_true]

/-- What is left is BUSY where the module carries frames and the unit is not isolated. -/
theorem State.testStatus_last {u : TestUnit} (h : s.testState src w u = false)
    (hr : s.test.runs.any (fun r => sharesUnit r.u u) = false) :
    s.testStatus src w u = if s.carries && !s.soonTables.isolated u then teBusy else 0 := by
  simp only [State.testStatus, h, hr, Bool.false_eq_true, if_false]

/-- A request that names no unit of its test. -/
theorem State.testWrite_bad (h : requestUnit w = none) :
    s.testWrite src w = s.testRecord w teBadreq (tqType w) (tqUnit w) 0 := by
  unfold State.testWrite
  split
  · simp only [State.testCancel, h]
  · simp only [State.testStart, h]

theorem State.testWrite_refused {u : TestUnit} (hu : requestUnit w = some u) (ht : tqTest w ≠ tcCancel)
    {st : Nat} (hst : s.testStatus src w u = st) (h0 : st ≠ 0) :
    s.testWrite src w = s.testRecord w st (tqType w) (tqUnit w) 0 := by
  simp only [State.testWrite, if_neg ht, State.testStart, hu, hst, if_pos h0]

theorem State.testWrite_starts {u : TestUnit} (hu : requestUnit w = some u) (ht : tqTest w ≠ tcCancel)
    (hst : s.testStatus src w u = 0) :
    let t := s.onTest (fun t => { t with runs := t.runs ++ [{ u := u, req := w, startAt := s.tick }] })
    s.testWrite src w = if tqTest w = tcLoopback then t.loopStart u w else t := by
  simp only [State.testWrite, if_neg ht, State.testStart, hu, hst, ne_eq, not_true_eq_false, if_false]

theorem State.testWrite_cancel_some {u : TestUnit} (hu : requestUnit w = some u) (ht : tqTest w = tcCancel) {r : TestRun}
    (hr : s.test.runs.find? (fun r => r.u == u) = some r) : s.testWrite src w =
      if s.endsNow r then s else ((s.dropRun u).restoreUnit r).testRecord r.req teCancelled (testUnit u).1 (testUnit u).2 0 := by
  simp only [State.testWrite, if_pos ht, State.testCancel, hu, hr]

theorem State.testWrite_cancel_none {u : TestUnit} (hu : requestUnit w = some u) (ht : tqTest w = tcCancel)
    (hr : s.test.runs.find? (fun r => r.u == u) = none) : s.testWrite src w = s := by
  simp only [State.testWrite, if_pos ht, State.testCancel, hu, hr]

/-- The command of the request's TEST code runs it. -/
theorem exec_testRequest (hw : s.mayWrite src = true) {c : Nat × Instr} (hc : c ∈ ([(tcLoopback, .testLoopback src w),
    (tcMembist, .testMembist src w), (tcFull, .testFull src w), (tcCancel, .testCancel src w)] : List (Nat × Instr)))
    (ht : tqTest w = c.1) : exec c.2 s = .next (s.testWrite src w) := by
  simp only [List.mem_cons, List.not_mem_nil, or_false] at hc
  obtain rfl | rfl | rfl | rfl := hc <;> exact if_pos ⟨hw, ht⟩

/-- A command whose source cannot write, or whose TEST code is another's. -/
theorem not_requested {test : Nat} (h : s.mayWrite src = false ∨ tqTest w ≠ test) : ¬ (s.mayWrite src = true ∧ tqTest w = test) :=
  fun hc => h.elim (fun h => ne_true_of_eq_false h hc.1) (fun h => h hc.2)

/-! ### What a loop-back does to a site port (R481, R482) -/

/-- Up to SERDES the port leaves UP. -/
theorem State.loopStart_site_dark {p : Fin 512} (hd : tqDepth w ≤ 3) (hp : s.portState p ≠ pDark) :
    s.loopStart (.site p) w = (s.goDark p).emit (.pattern p true) := by
  have h5 : tqDepth w ≠ 5 := by omega
  simp only [State.loopStart, unitPort, leavesUp, isSpan_site, hd, hp, h5, decide_true, ne_eq, not_false_eq_true, and_self,
    Bool.false_eq_true, false_and, and_false, if_true, if_false]

/-- REMOTE asks the far end to loop. -/
theorem State.loopStart_site_remote {p : Fin 512} (hd : tqDepth w = 5) : s.loopStart (.site p) w =
    (s.originate qBosun (s.loopFrame 2 (beBytes 4 (tqDuration w))) [.port p] .none).emit (.pattern p true) := by
  have h3 : decide (5 ≤ 3) = false := rfl
  simp only [State.loopStart, unitPort, leavesUp, isSpan_site, hd, h3, Bool.false_eq_true, not_false_eq_true,
    false_and, and_self, if_true, if_false]

end

theorem depthListed_iff (u : TestUnit) (d : Nat) : depthListed u d = true ↔
    (isPort u = true ∧ (∀ k, u ≠ .uzoley k) ∧ 1 ≤ d ∧ d ≤ 5) ∨ (∃ k, u = .uzoley k ∧ (d = 2 ∨ d = 4)) := by
  cases u with
  | site p => simp [depthListed, isPort]
  | span x => simp [depthListed, isPort]
  | uzoley k => simp [depthListed, isPort]
  | core k | channel j | stack x | full => simp [depthListed, isPort]

/-! ### The statement -/

/-- Settles O42: a request by whether it names a unit and by its status, a CANCEL by the test it finds. -/
theorem testRequests : Obligations.TestRequests := by
  refine ⟨?requests, fun s src w => ?state, fun s src w => ⟨fun h => if_neg (not_requested h), fun h => if_neg (not_requested h),
    fun h => if_neg (not_requested h), fun h => if_neg (not_requested h)⟩, fun s w p => State.loopStart_site_dark,
    fun s w p => State.loopStart_site_remote, fun s b l => ⟨rfl, rfl, rfl, rfl, rfl, rfl⟩, depthListed_iff⟩
  case requests =>
    intro s src w hw refuse c hc ht
    rw [exec_testRequest hw hc ht]
    refine ⟨fun hu => by rw [State.testWrite_bad hu], fun u hu hn => ⟨fun h => ?_, fun h hr => ?_, fun h hr => ⟨fun hcar hiso => ?_,
      fun hfree => ?_⟩⟩, fun u hu hcancel => ⟨fun r hr => ⟨fun h => ?_, fun h => ?_⟩, fun hr => ?_⟩⟩
    · rw [State.testWrite_refused hu hn (State.testStatus_state h) (by decide)]
    · rw [State.testWrite_refused hu hn (State.testStatus_inuse h hr) (by decide)]
    · have hst : s.testStatus src w u = teBusy := by simp [State.testStatus_last h hr, hcar, hiso]
      rw [State.testWrite_refused hu hn hst (by decide)]
    · have hst : s.testStatus src w u = 0 := by
        obtain hcar | hiso := hfree
        · simp [State.testStatus_last h hr, hcar]
        · simp [State.testStatus_last h hr, hiso]
      rw [State.testWrite_starts hu hn hst]
      exact ⟨fun hloop => by rw [if_pos hloop], fun hloop => by rw [if_neg hloop]⟩
    · rw [State.testWrite_cancel_some hu hcancel hr, if_pos h]
    · rw [State.testWrite_cancel_some hu hcancel hr, if_neg (ne_true_of_eq_false h)]
    · rw [State.testWrite_cancel_none hu hcancel hr]
  case state =>
    refine ⟨by simp [State.testState], fun p => by simp [State.testState], fun j => by simp [State.testState], fun k => ?_,
      fun x => rfl, fun x => rfl⟩
    simp only [State.testState, Option.any_eq_true, beq_iff_eq]
    exact ⟨fun ⟨⟨_, i⟩, hs, hk⟩ => ⟨i, hk ▸ hs⟩, fun ⟨i, hs⟩ => ⟨(k.val, i), hs, rfl⟩⟩

end Sys2Proof.Machine
end

section
/-! How tests end: the end of a test on one unit and of FULL, REMOTE without a return, margins, the TAP, and a wiped channel. -/

namespace Sys2Proof.Machine

/-! ### The end of a test (R481, R483, R485) -/

section

variable {s : State} {u : TestUnit} {n : BitVec 16} {failed : List TestUnit} {r : TestRun}

theorem exec_testEnd_none (hr : s.test.runs.find? (fun r => r.u == u) = none) : exec (.testEnd u n failed) s = .next s := by
  simp only [exec, execTestEnd, hr]

theorem exec_testEnd_runs (hr : s.test.runs.find? (fun r => r.u == u) = some r) (hover : s.testOver r = false) :
    exec (.testEnd u n failed) s = .next s := by
  simp only [exec, execTestEnd, hr, hover, Bool.not_false, if_true]

theorem exec_testEnd_unit (hr : s.test.runs.find? (fun r => r.u == u) = some r) (hover : s.testOver r = true) (hu : u ≠ .full) :
    exec (.testEnd u n failed) s = .next ((s.dropRun u).unitEnd r n.toNat) := by
  simp only [exec, execTestEnd, hr, hover, Bool.not_true, Bool.false_eq_true, if_false, if_neg hu]

theorem exec_testEnd_full (hr : s.test.runs.find? (fun r => r.u == u) = some r) (hover : s.testOver r = true) (hu : u = .full) :
    exec (.testEnd u n failed) s = .next ((s.dropRun u).fullEnd r failed) := by
  simp only [exec, execTestEnd, hr, hover, Bool.not_true, Bool.false_eq_true, if_false, if_pos hu]

theorem State.testOver_iff : s.testOver r = true ↔
    s.awake = true ∧ (tqTest r.req = tcLoopback → s.since r.startAt (msTicks (tqDuration r.req)) = true) := by
  simp only [State.testOver, Bool.and_eq_true, Bool.or_eq_true, bne_iff_ne, ne_eq, ← imp_iff_not_or]

/-- A test of no channel ends with the errors counted. -/
theorem State.unitEnd_other (errors : Nat) (hu : ∀ j, r.u ≠ .channel j) :
    s.unitEnd r errors = (s.restoreUnit r).testRecord r.req (if errors = 0 then tePass else teFail)
      (testUnit r.u).1 (testUnit r.u).2 errors := by
  unfold State.unitEnd
  cases h : r.u with
  | channel j => exact absurd h (hu j)
  | core _ | site _ | span _ | stack _ | uzoley _ | full => rfl

theorem State.unitEnd_write (errors : Nat) {j : Fin 16} (hu : r.u = .channel j) (hw : tqWrite r.req = true) :
    s.unitEnd r errors = (if errors != 0 then (s.restoreUnit r).writeFailed j else s.restoreUnit r).testRecord r.req
      (if errors = 0 then tePass else teFail) utGranary j errors := by
  simp only [State.unitEnd, hu, hw, if_true, Bool.not_true, Bool.false_eq_true, if_false, testUnit]

/-- A READ test counts at least the bad blocks, and logs them. -/
theorem State.unitEnd_read (errors : Nat) {j : Fin 16} (hu : r.u = .channel j) (hw : tqWrite r.req = false) :
    let k := max errors (s.badBlocks j).length
    s.unitEnd r errors = ((s.restoreUnit r).readChannel j).testRecord r.req (if k = 0 then tePass else teFail) utGranary j k := by
  simp only [State.unitEnd, hu, hw, Bool.false_eq_true, if_false, Bool.not_false, if_true, testUnit]

/-- What FULL reads and records of its failed parts, before its units are restored. -/
def State.fullParts (s : State) (r : TestRun) (bad : List TestUnit) : State :=
  bad.foldl (fun (s : State) x =>
    (match x with
    | .channel j => if (s.channelBindings j).isEmpty then s.writeFailed j else s
    | _ => s).testRecord r.req teFail (testUnit x).1 (testUnit x).2 0)
    ((List.range 16).foldl (fun (s : State) j => if (s.channelBindings j).isEmpty then s else s.readChannel j) (s.coresChecked bad))

/-- FULL ends with its failed parts recorded and its units restored; without a failed part it sets TESTED in LAID_UP. -/
theorem State.fullEnd_eq (r : TestRun) (failed : List TestUnit) : s.fullEnd r failed =
    let bad := s.fullFailed failed
    let v := (s.fullParts r bad).restoreUnit r
    (if bad.isEmpty && v.mode == stLaidUp then v.setFld Reg.WCH_ESC Fld.WCH_ESC_TESTED 1 else v).testRecord r.req
      (if bad.isEmpty then tePass else teFail) (testUnit r.u).1 (testUnit r.u).2 bad.length := by
  unfold State.fullEnd State.fullParts
  rfl

theorem State.fullEnd_failed (h : s.fullFailed failed ≠ []) : s.fullEnd r failed =
    ((s.fullParts r (s.fullFailed failed)).restoreUnit r).testRecord r.req teFail (testUnit r.u).1 (testUnit r.u).2
      (s.fullFailed failed).length := by
  have hempty : (s.fullFailed failed).isEmpty = false := List.isEmpty_eq_false_iff.mpr h
  simp only [State.fullEnd_eq, hempty, Bool.false_and, Bool.false_eq_true, if_false]

theorem State.fullEnd_passed (h : s.fullFailed failed = []) :
    let v := (s.fullParts r []).restoreUnit r
    s.fullEnd r failed = (if v.mode = stLaidUp then v.setFld Reg.WCH_ESC Fld.WCH_ESC_TESTED 1 else v).testRecord r.req tePass
      (testUnit r.u).1 (testUnit r.u).2 0 := by
  simp only [State.fullEnd_eq, h, List.isEmpty_nil, Bool.true_and, beq_iff_eq, if_true, List.length_nil]

/-- The parts of FULL that fail. -/
theorem State.mem_fullFailed {x : TestUnit} : x ∈ s.fullFailed failed ↔
    x ∈ failed ∨ ∃ j, x = .channel j ∧ s.channelBindings j ≠ [] ∧ s.badBlocks j ≠ [] := by
  simp only [State.fullFailed, List.mem_append, List.mem_map, List.mem_filter, List.mem_finRange, true_and, Bool.and_eq_true,
    Bool.not_eq_true', List.isEmpty_eq_false_iff, List.contains_eq_mem, decide_eq_false_iff_not]
  constructor
  · rintro (hx | ⟨j, ⟨⟨hbound, hbad⟩, _⟩, rfl⟩)
    · exact .inl hx
    · exact .inr ⟨j, rfl, hbound, hbad⟩
  · rintro (hx | ⟨j, rfl, hbound, hbad⟩)
    · exact .inl hx
    · by_cases hj : TestUnit.channel j ∈ failed
      · exact .inl hj
      · exact .inr ⟨j, ⟨⟨hbound, hbad⟩, hj⟩, rfl⟩

end

/-! ### REMOTE without a return (R482) -/

section

variable {s : State}

theorem exec_remoteNoReturn_none {u : TestUnit} (hr : s.test.runs.find? (fun r => r.u == u) = none) :
    exec (.remoteNoReturn u) s = .next s := by
  cases u <;> simp only [exec, execRemoteNoReturn, hr]

theorem exec_remoteNoReturn_site {p : Fin 512} {r : TestRun} (hr : s.test.runs.find? (fun r => r.u == .site p) = some r) :
    exec (.remoteNoReturn (.site p)) s =
      if s.awake ∧ tqTest r.req = tcLoopback ∧ tqDepth r.req = 5 ∧ s.since r.startAt (msTicks 10) then
        .next (((s.dropRun (.site p)).emit (.pattern p false)).testRecord r.req teFail utSite p 0xFFFF)
      else .next s := by
  simp only [exec, execRemoteNoReturn, hr]

end

/-! ### Margins (R487) -/

section

variable (s : State) (x : Margin)

theorem State.margin_none (hlo : 34 ≤ x.m.val) (hhi : x.m.val < 64) : s.margin x = s := by
  simp only [State.margin, if_neg (Nat.not_lt.mpr hlo), if_pos hhi]

theorem State.margin_eye (h : x.m.val < 34) :
    let t := s.setReg (Reg.WCH_MG x.m) (pack [(Fld.WCH_MG_VALID, 1), (Fld.WCH_MG_LANE, x.lane.toNat),
      (Fld.WCH_MG_EYEH, x.hi.toNat), (Fld.WCH_MG_EYEW, x.lo.toNat % 256)])
    s.margin x = if x.hi.toNat < t.fld Reg.WCH_MGCTL Fld.WCH_MGCTL_EYEMIN then t.setBits Reg.WCH_TSTEVT 8 else t := by
  simp only [State.margin, if_pos h]

/-- A laser is shown with its spare's reading only where that spare is idle. -/
theorem State.margin_laser (h : 64 ≤ x.m.val) :
    let g := (x.m.val - 64) / 4
    s.margin x = s.setReg (Reg.WCH_MG x.m) (pack [(Fld.WCH_MG_VALID, 1), (Fld.WCH_MG_EYEH, x.hi.toNat), (Fld.WCH_MG_EYEW,
      if s.laserFld g (x.m.val % 4) Fld.CL_OE_LASER_SPARE = 0 ∧ s.prespareNow g (x.m.val % 4) = false then x.lo.toNat else 0)]) := by
  simp only [State.margin, if_neg (show ¬ x.m.val < 34 by omega), if_neg (Nat.not_lt.mpr h)]

end

/-! ### A WRITE test's channel (R285, R483) -/

theorem State.wipeChannel_mem (s : State) (j : Nat) :
    (s.wipeChannel j).grn.mem = s.grn.mem.filter (fun c => addrChan c.1 != j) := rfl

/-! ### The statement -/

/-- Settles O43: a test's end by its unit and mode, REMOTE and margins by their conditions, a wiped channel by its addresses. -/
theorem testOutcomes : Obligations.TestOutcomes := by
  refine ⟨fun s u n failed => ⟨exec_testEnd_none, fun r hr => ?ends⟩, fun s r => State.testOver_iff,
    fun s failed x => State.mem_fullFailed,
    fun s u => exec_remoteNoReturn_none, fun s p r hr h => ?returned, fun s p r ha hr ht hd hlate => ?noReturn,
    fun s ms ha hen hdue => if_pos ⟨ha, hen, hdue⟩, fun s ms h => ?notDue, State.margin_none, fun s x hx => ?eye,
    fun s x hx => ?laser, fun s i => rfl, fun i => ?tap, fun s j a ha => ?wiped, fun s j a hwf ha => ?kept⟩
  case ends =>
    intro t v
    refine ⟨exec_testEnd_runs hr, fun hover hu => ⟨fun hother => ?_, fun j hj hw => ⟨fun hn => ?_, fun hn => ?_⟩, fun j hj hw => ?_⟩,
      fun hover hu => ?full⟩
    · rw [exec_testEnd_unit hr hover hu, State.unitEnd_other _ hother]
      simp only [BitVec.toNat_eq]
      rfl
    · rw [exec_testEnd_unit hr hover hu, State.unitEnd_write _ hj hw, hn]
      rfl
    · have h0 : n.toNat ≠ 0 := fun h => hn (BitVec.eq_of_toNat_eq h)
      rw [exec_testEnd_unit hr hover hu, State.unitEnd_write _ hj hw, if_pos (bne_iff_ne.mpr h0), if_neg h0]
    · rw [exec_testEnd_unit hr hover hu, State.unitEnd_read _ hj hw]
    case full =>
      intro bad read parts
      have hparts : parts = t.fullParts r bad := by
        unfold State.fullParts
        rfl
      rw [exec_testEnd_full hr hover hu]
      refine ⟨fun hbad => ?_, fun hbad hlaid => ?_, fun hbad hlaid => ?_⟩
      · rw [State.fullEnd_failed hbad, hparts]
      · rw [hparts, hbad] at hlaid ⊢
        rw [State.fullEnd_passed hbad, if_pos hlaid]
      · rw [hparts, hbad] at hlaid ⊢
        rw [State.fullEnd_passed hbad, if_neg hlaid]
  case returned =>
    rw [exec_remoteNoReturn_site hr]
    refine if_neg fun ⟨ha, ht, hd, hlate⟩ => ?_
    obtain h | h | h | h := h
    · exact ne_true_of_eq_false h ha
    · exact h ht
    · exact h hd
    · exact ne_true_of_eq_false h hlate
  case noReturn => exact (exec_remoteNoReturn_site hr).trans (if_pos ⟨ha, ht, hd, hlate⟩)
  case notDue =>
    refine if_neg fun ⟨ha, hen, hdue⟩ => ?_
    obtain h | h | h := h
    · exact ne_true_of_eq_false h ha
    · exact ne_true_of_eq_false h hen
    · exact ne_true_of_eq_false h hdue
  case eye =>
    exact ⟨fun h => (State.margin_eye s x hx).trans (if_pos h), fun h => (State.margin_eye s x hx).trans (if_neg (Nat.not_lt.mpr h))⟩
  case laser =>
    intro g shown
    rw [State.margin_laser s x hx]
    refine ⟨fun h => ?_, fun hs hp => ?_⟩
    · rw [if_neg fun ⟨hs, hp⟩ => h.elim (fun h => h hs) (fun h => ne_true_of_eq_false hp h)]
    · rw [if_pos ⟨hs, hp⟩]
  case tap =>
    refine ⟨?_, fun hid hsample => ?_, fun n b => rfl⟩
    · cases i with
      | other n => exact Nat.zero_le 2
      | bypass | idcode | sample | extest | extestPulse | extestTrain => decide
    · cases i with
      | idcode => exact absurd rfl hid
      | sample => exact absurd rfl hsample
      | bypass | extest | extestPulse | extestTrain | other _ => rfl
  case wiped =>
    simp only [State.wipeChannel_mem, List.all_eq_true, List.mem_filter, bne_iff_ne]
    rintro c ⟨_, hc⟩ rfl
    exact hc ha
  case kept =>
    rw [State.wipeChannel_mem, SMap.get_filter_key 0 (fun a => addrChan a != j) _ hwf, if_pos (bne_iff_ne.mpr ha)]

end Sys2Proof.Machine
end

section
/-! A packet of a session: its order and tag, and what turns it away, for every KIND. -/

namespace Sys2Proof.Machine

/-! ### How a packet arrives (R409, R411, R415, R416) -/

section

variable {s : State} {k : Fin 2} {p : Packet}

/-- The session that a packet names. -/
def State.packetSession (s : State) (k : Fin 2) (p : Packet) : Session := s.session k (p.session.toNat - 1)

/-- A packet with a good tag is heard by its session, in whatever order it comes. -/
def State.heard (s : State) (k : Fin 2) (p : Packet) : State :=
  (s.packetIn k).setSession k (p.session.toNat - 1) { s.packetSession k p with lastAt := (s.packetIn k).tick }

theorem State.arrive_unusable (h : s.uzoleyUsable k = false) : s.arrive k p = (none, s) := by
  simp only [State.arrive, h, Bool.not_false, if_true]

theorem State.arrive_noSession (h : s.uzoleyUsable k = true) (hs : p.session = 0 ∨ 8 < p.session.toNat) :
    s.arrive k p = (none, (s.packetIn k).sendBad k p) := by
  simp only [State.arrive, h, hs, Bool.not_true, Bool.false_eq_true, if_false, if_true]

section

variable (h : s.uzoleyUsable k = true) (h0 : p.session ≠ 0) (h8 : p.session.toNat ≤ 8)
include h h0 h8

theorem State.arrive_closed (hc : (s.session k (p.session.toNat - 1)).opened = false) : s.arrive k p = (none, s.packetIn k) := by
  have hs : ¬ (p.session = 0 ∨ 8 < p.session.toNat) := not_or.mpr ⟨h0, Nat.not_lt.mpr h8⟩
  simp only [State.arrive, h, hs, hc, Bool.not_true, Bool.not_false, Bool.false_eq_true, if_false, if_true]

theorem State.arrive_batch (ho : (s.session k (p.session.toNat - 1)).opened = true)
    (hb : (s.session k (p.session.toNat - 1)).batch.isSome = true) : s.arrive k p = (none, s) := by
  have hs : ¬ (p.session = 0 ∨ 8 < p.session.toNat) := not_or.mpr ⟨h0, Nat.not_lt.mpr h8⟩
  simp only [State.arrive, h, hs, ho, hb, Bool.not_true, Bool.false_eq_true, if_false, if_true]

variable (ho : (s.session k (p.session.toNat - 1)).opened = true) (hb : (s.session k (p.session.toNat - 1)).batch = none)
include ho hb

theorem State.arrive_gcmFail (hg : p.gcmOk = false) : s.arrive k p = (none, (s.packetIn k).gcmFail k (p.session.toNat - 1)) := by
  have hs : ¬ (p.session = 0 ∨ 8 < p.session.toNat) := not_or.mpr ⟨h0, Nat.not_lt.mpr h8⟩
  simp only [State.arrive, h, hs, ho, hb, hg, Option.isSome_none, Bool.not_true, Bool.not_false, Bool.false_eq_true, if_false, if_true]

/-- A packet with a good tag is judged by its SEQ. -/
theorem State.arrive_bySeq (hg : p.gcmOk = true) : s.arrive k p =
    if p.seq = (s.packetSession k p).seqIn + 1 then (some (p.session.toNat - 1), (s.heard k p).setSession k (p.session.toNat - 1)
      { (s.heard k p).session k (p.session.toNat - 1) with seqIn := p.seq })
    else if p.seq.toNat ≤ (s.packetSession k p).seqIn.toNat ∧ (s.packetSession k p).seqIn.toNat < p.seq.toNat + 64 ∧ p.seq ≠ 0 then
      match (s.packetSession k p).cache.find? (fun c => argNat c 0 8 == p.seq.toNat) with
      | some c => (none, ((s.heard k p).bump (Reg.UZP_CNT k 3) 1).sendPacket k (p.session.toNat - 1) c)
      | none => (none, (s.heard k p).bump (Reg.UZP_CNT k 3) 1)
    else (none, (s.heard k p).bump (Reg.UZP_CNT k 4) 1) := by
  have hs : ¬ (p.session = 0 ∨ 8 < p.session.toNat) := not_or.mpr ⟨h0, Nat.not_lt.mpr h8⟩
  exact (if_neg (by simp [h])).trans ((if_neg hs).trans ((if_neg (by simp [ho])).trans ((if_neg (by simp [hb])).trans
    (if_neg (by simp [hg])))))

theorem State.arrive_next (hg : p.gcmOk = true) (hseq : p.seq = (s.packetSession k p).seqIn + 1) :
    s.inOrder k p (p.session.toNat - 1) ((s.heard k p).setSession k (p.session.toNat - 1)
      { (s.heard k p).session k (p.session.toNat - 1) with seqIn := p.seq }) :=
  (State.arrive_bySeq h h0 h8 ho hb hg).trans (if_pos hseq)

section

variable (hg : p.gcmOk = true) (hseq : p.seq ≠ (s.packetSession k p).seqIn + 1)
include hg hseq

/-- One of the last 64 packets, whose COMPLETION is kept or is not (R416). -/
theorem State.arrive_again (hagain : p.seq ≠ 0 ∧ p.seq.toNat ≤ (s.packetSession k p).seqIn.toNat ∧
      (s.packetSession k p).seqIn.toNat < p.seq.toNat + 64) :
    (∀ c, (s.packetSession k p).cache.find? (fun c => argNat c 0 8 == p.seq.toNat) = some c →
      s.arrive k p = (none, ((s.heard k p).bump (Reg.UZP_CNT k 3) 1).sendPacket k (p.session.toNat - 1) c)) ∧
    ((s.packetSession k p).cache.find? (fun c => argNat c 0 8 == p.seq.toNat) = none →
      s.arrive k p = (none, (s.heard k p).bump (Reg.UZP_CNT k 3) 1)) := by
  obtain ⟨hs, hle, hlt⟩ := hagain
  rw [State.arrive_bySeq h h0 h8 ho hb hg, if_neg hseq, if_pos ⟨hle, hlt, hs⟩]
  exact ⟨fun c hc => by rw [hc], fun hc => by rw [hc]⟩

theorem State.arrive_wrongSeq (hagain : ¬ (p.seq ≠ 0 ∧ p.seq.toNat ≤ (s.packetSession k p).seqIn.toNat ∧
      (s.packetSession k p).seqIn.toNat < p.seq.toNat + 64)) :
    s.arrive k p = (none, (s.heard k p).bump (Reg.UZP_CNT k 4) 1) := by
  rw [State.arrive_bySeq h h0 h8 ho hb hg, if_neg hseq, if_neg fun ⟨hle, hlt, hs⟩ => hagain ⟨hs, hle, hlt⟩]

end

end

/-! ### What turns a packet away (R410, R411, R413, R435) -/

section

variable {rule : KindRule} {run : Nat → State → State}

/-- A packet that is not executed leaves what its arrival leaves. -/
theorem State.packet_stopped {u : State} (h : s.arrive k p = (none, u)) : s.packet k p rule run = .next u := by
  simp only [State.packet, h]

section

variable {t : State} {i : Nat} (h : s.inOrder k p i t)
include h

theorem State.packet_bad (hbad : headerGood p = false ∨ rule.form = false) :
    s.packet k p rule run = .next ((t.answered k i p psBadpacket []).closeWorn k i) := by
  have hform : (headerGood p && rule.form) = false := Bool.and_eq_false_iff.mpr hbad
  simp only [State.packet, show s.arrive k p = (some i, t) from h, hform, Bool.not_false, if_true]

variable (hh : headerGood p = true) (hform : rule.form = true)
include hh hform

theorem State.packet_state (hcore : rule.core = false) (hup : t.bosunUp = false) :
    s.packet k p rule run = .next ((t.answered k i p psState []).closeWorn k i) := by
  simp only [State.packet, show s.arrive k p = (some i, t) from h, hh, hform, hcore, hup, Bool.and_self, Bool.not_true, Bool.not_false,
    Bool.false_eq_true, if_false, if_true]

theorem State.packet_denied (hcore : rule.core = true ∨ t.bosunUp = true) (hten : (t.session k i).tenant = true)
    (hrule : rule.tenant = false) : s.packet k p rule run = .next ((t.answered k i p psDenied []).closeWorn k i) := by
  have hstate : (!rule.core && !t.bosunUp) = false := by
    obtain h | h := hcore <;> simp [h]
  simp only [State.packet, show s.arrive k p = (some i, t) from h, hh, hform, hstate, hten, hrule, Bool.and_self, Bool.not_true, Bool.not_false,
    Bool.false_eq_true, if_false, if_true]

end

end

/-! ### Every KIND is judged alike -/

/-- What a KIND's packet must keep. -/
def SessionCmd.rule (x : SessionCmd) : KindRule := { form := x.form, tenant := x.tenant, core := x.core }

/-- The command of a KIND judges its packet by the KIND's form and permissions. -/
theorem exec_sessionCmd {fw sig : SigPair} {x : SessionCmd} (hx : x ∈ sessionCmds k p fw sig) (hk : p.kind = x.kind) :
    ∃ run, ∀ s, exec x.cmd s = s.packet k p x.rule run := by
  simp only [sessionCmds, List.mem_cons, List.not_mem_nil, or_false] at hx
  obtain rfl | rfl | rfl | rfl | rfl | rfl | rfl | rfl | rfl | rfl | rfl | rfl := hx
  · exact ⟨_, fun s => if_neg (not_not.mpr hk)⟩
  · have hping : (p.kind == 0x03) = true := beq_iff_eq.mpr hk
    have hform : (p.kind == 0x03 && argEnds p 0 && p.payload.isEmpty) = (argEnds p 0 && p.payload.isEmpty) := by
      rw [hping, Bool.true_and]
    exact ⟨fun i s => s.answered k i p psOk [], fun s => (if_neg (fun hother => hother.2 hk)).trans
      (congrArg (fun f => s.packet k p { form := f, tenant := true } _) hform)⟩
  · exact ⟨_, fun s => (if_neg (not_not.mpr hk)).trans
      (congrArg (fun f => s.packet k p { form := f, tenant := true } _) (Bool.and_assoc _ _ _))⟩
  · have hform : (argEnds p 2 && decide (argNat p 0 1 < 0x24 ∧ argNat p 1 1 < 8 ∧ 1 ≤ p.payload.length / 64 ∧ p.payload.length / 64 ≤ 1024)
          && p.payload.length % 64 == 0) = (argEnds p 2 && decide (argNat p 0 1 < 0x24 ∧ argNat p 1 1 < 8) &&
          (p.payload.length % 64 == 0 && decide (1 ≤ p.payload.length / 64 ∧ p.payload.length / 64 ≤ 1024))) := by
      simp only [Bool.decide_and, Bool.and_assoc, Bool.and_comm, Bool.and_left_comm]
    exact ⟨_, fun s => (if_neg (not_not.mpr hk)).trans (congrArg (fun f => s.packet k p { form := f } _) hform)⟩
  · exact ⟨_, fun s => if_neg (not_not.mpr hk)⟩
  · exact ⟨_, fun s => if_neg (not_not.mpr hk)⟩
  · exact ⟨_, fun s => if_neg (not_not.mpr hk)⟩
  · exact ⟨_, fun s => if_neg (not_not.mpr hk)⟩
  · exact ⟨_, fun s => if_neg (not_not.mpr hk)⟩
  · have hp : { p with payload := p.payload ++ [] } = p := by rw [List.append_nil]
    exact ⟨_, fun s => (congrArg (s.rootBroadcast k) hp).trans (if_neg (not_not.mpr hk))⟩
  · exact ⟨_, fun s => if_neg (not_not.mpr hk)⟩
  · exact ⟨_, fun s => if_neg (not_not.mpr hk)⟩

end

/-! ### The statement -/

/-- Settles O44: a KIND's packet by how it arrives, then by what turns it away, the same for every KIND. -/
theorem sessionPackets : Obligations.SessionPackets := by
  refine ⟨fun s k p fw sig x hx hk => ?arrives, fun s k p fw sig x i t hx hk ht => ?judged, fun s k p i t hk ht => ?reserved⟩
  case arrives =>
    obtain ⟨run, hexec⟩ := exec_sessionCmd hx hk
    rw [hexec s]
    refine ⟨fun h => State.packet_stopped (State.arrive_unusable h), fun h hs => State.packet_stopped (State.arrive_noSession h hs),
      fun h h0 h8 hc => State.packet_stopped (State.arrive_closed h h0 h8 hc), fun h h0 h8 => ?_⟩
    intro i y a t ho
    refine ⟨fun hb => State.packet_stopped (State.arrive_batch h h0 h8 ho hb),
      fun hb hg => State.packet_stopped (State.arrive_gcmFail h h0 h8 ho hb hg), fun hb hg => ?_⟩
    refine ⟨fun hne => ?_, fun heq => ⟨_, State.arrive_next h h0 h8 ho hb hg heq, rfl⟩⟩
    intro again
    exact ⟨fun hagain c hc => State.packet_stopped ((State.arrive_again h h0 h8 ho hb hg hne hagain).1 c hc),
      fun hagain hc => State.packet_stopped ((State.arrive_again h h0 h8 ho hb hg hne hagain).2 hc),
      fun hagain => State.packet_stopped (State.arrive_wrongSeq h h0 h8 ho hb hg hne hagain)⟩
  case judged =>
    obtain ⟨run, hexec⟩ := exec_sessionCmd hx hk
    rw [hexec s]
    exact ⟨State.packet_bad ht (rule := x.rule), fun hh hform => ⟨State.packet_state ht hh (rule := x.rule) hform,
      State.packet_denied ht hh (rule := x.rule) hform⟩⟩
  case reserved =>
    have hother : (p.kind == 0x03) = false := beq_eq_false_iff_ne.mpr fun h => by
      rw [h] at hk
      exact absurd hk (by decide)
    refine (if_neg fun h => ne_true_of_eq_false hk h.1).trans (State.packet_bad ht (.inr ?_))
    simp only [hother, Bool.false_and]

end Sys2Proof.Machine
end

section
/-! Handshakes and their roles, quotes, broadcasts from the root, firmware staged and activated, and sessions that time out. -/

namespace Sys2Proof.Machine

/-! ### HELLO (R412 to R414) -/

/-- The role that a leaf certificate spells. -/
theorem certRole_eq_some {c : Cert} {role : Nat} (h : certRole c = some role) : ∃ v, c.ous = [(true, v)] ∧
    (role = 0 → v = ouOperator) ∧ (role ≠ 0 → ∃ d, v = ouTenant ++ d ∧ hexJob d = some role) := by
  unfold certRole at h
  split at h
  next v hv =>
    refine ⟨v, hv, ?_⟩
    split at h
    next hop => exact ⟨fun _ => hop, fun hne => absurd (Option.some.inj h).symm hne⟩
    · split at h
      next hten =>
        obtain ⟨hjob, hne⟩ := Option.filter_eq_some_iff.mp h
        have hne : role ≠ 0 := bne_iff_ne.mp hne
        exact ⟨fun h0 => absurd h0 hne, fun _ => ⟨v.drop 17, by rw [← hten, List.take_append_drop], hjob⟩⟩
      · cases h
  · cases h

/-- A chain that names a role keeps R412 and R414. -/
theorem State.helloRole_eq_some {s : State} {c : Chain} {role : Nat} (h : s.helloRole c = some role) :
    c.derOk = true ∧ c.certs.length ≤ 3 ∧ (∀ x ∈ c.certs, x.sigOk = true ∧ x.serial ∉ s.watch.record.deny) ∧
    c.rootHash = s.watch.record.oproot ∧ (role ≠ 0 → s.jobState role = 1) ∧
    ∃ leaf rest, c.certs = leaf :: rest ∧ certRole leaf = some role := by
  unfold State.helloRole at h
  split at h
  next hok =>
    simp only [Bool.and_eq_true, decide_eq_true_eq, List.all_eq_true, Bool.not_eq_true', List.contains_eq_mem, decide_eq_false_iff_not,
      beq_iff_eq] at hok
    obtain ⟨⟨⟨hder, hlen⟩, hsig⟩, hroot⟩ := hok
    split at h
    · cases h
    next leaf rest hcerts =>
      obtain ⟨hrole, hjob⟩ := Option.filter_eq_some_iff.mp h
      simp only [Bool.or_eq_true, beq_iff_eq] at hjob
      exact ⟨hder, hlen, hsig, hroot, hjob.resolve_left, leaf, rest, hcerts, hrole⟩
  · cases h

section

variable {s : State} {k : Fin 2} {p : Packet} (c : Chain)

/-- The first session that is free takes an accepted handshake. -/
theorem State.hello_accepted {role : Nat} {i : Fin 8} (hr : s.helloRole c = some role) (hi : (s.session k i).opened = false)
    (hbefore : ∀ j : Fin 8, j < i → (s.session k j).opened = true) : s.hello k p c = s.helloAccepted k i p role := by
  have hfind : (List.finRange 8).find? (fun (i : Fin 8) => !(s.session k i.val).opened) = some i :=
    List.find?_eq_some_iff_getElem.mpr ⟨by simp [hi], i.val, by simp, by simp, fun j hj => by simpa using hbefore ⟨j, by omega⟩ hj⟩
  simp only [State.hello, hr, hfind]

theorem State.hello_refused (h : s.helloRole c = none ∨ ∀ j : Fin 8, (s.session k j).opened = true) :
    s.hello k p c = s.helloRefused k p := by
  unfold State.hello
  split
  next role i hrole hfind =>
    obtain h | h := h
    · rw [h] at hrole
      cases hrole
    · simpa [h i] using List.find?_some hfind
  · rfl

section

variable (hk : p.kind = 0x01) (hs : p.session = 0) (hu : s.uzoleyUsable k = true)
include hk hs hu

theorem exec_hello_good (hh : headerGood p = true) (ha : argEnds p 0 = true) (hg : p.gcmOk = true) :
    exec (.hello k p c) s = .next ((s.packetIn k).hello k p c) :=
  (if_neg (not_not.mpr hk)).trans ((if_neg (not_not.mpr hs)).trans ((if_neg (by simp [hu])).trans (if_pos (by simp [hh, ha, hg]))))

theorem exec_hello_bad (h : headerGood p = false ∨ argEnds p 0 = false ∨ p.gcmOk = false) :
    exec (.hello k p c) s = .next ((s.packetIn k).sendBad k p) := by
  refine (if_neg (not_not.mpr hk)).trans ((if_neg (not_not.mpr hs)).trans ((if_neg (by simp [hu])).trans (if_neg ?_)))
  obtain h | h | h := h <;> simp [h]

end

theorem exec_hello_none (h : p.kind ≠ 0x01 ∨ (p.session = 0 ∧ s.uzoleyUsable k = false)) : exec (.hello k p c) s = .next s := by
  by_cases hk : p.kind = 0x01
  · obtain ⟨hs, hu⟩ := h.resolve_left (not_not.mpr hk)
    exact (if_neg (not_not.mpr hk)).trans ((if_neg (not_not.mpr hs)).trans (if_pos (by simp [hu])))
  · exact if_pos hk

end

/-! ### Quotes (R432) -/

/-- A packet that the security core answers is run without Bosun firmware (R435). -/
theorem State.packet_runs_core {s t : State} {k : Fin 2} {p : Packet} {i : Nat} {rule : KindRule} (ht : s.inOrder k p i t)
    (hh : headerGood p = true) (hcore : rule.core = true) (hten : rule.tenant = true)
    (hform : rule.form = true) (run : Nat → State → State) : s.packet k p rule run = .next ((run i t).closeWorn k i) := by
  simp only [State.packet, show s.arrive k p = (some i, t) from ht, hh, hform, hcore, hten, Bool.and_self, Bool.not_true, Bool.and_false,
    Bool.false_and, Bool.false_eq_true, if_false]

/-- A quote that may be signed now is signed, and any other waits. -/
theorem exec_attest {s t : State} {k : Fin 2} {p : Packet} {i : Nat} (ht : s.inOrder k p i t) (hh : headerGood p = true)
    (hk : p.kind = 0x15) (ha : argEnds p 0 = true) (hlen : p.payload.length = 40) (hsel : natAt p.payload 32 8 < 32768)
    (hrsv : bitsOf (natAt p.payload 32 8) 7 3 = 0) : exec (.attest k p) s = .next (State.closeWorn
      (if t.sec.quoteQ.isEmpty && t.quoteTurn then t.signQuote k i p
      else t.onSec (fun x => { x with quoteQ := x.quoteQ ++ [(8 * k.val + i, p)] })) k i) :=
  (if_neg (not_not.mpr hk)).trans
    (State.packet_runs_core ht hh rfl rfl (by simp [ha, hlen, Nat.div_eq_of_lt hsel, hrsv]) _)

theorem exec_queuedQuoteSigned_some {s : State} {n : Nat} {p : Packet} {rest : List (Nat × Packet)} (ha : s.awake = true)
    (hq : s.sec.quoteQ = (n, p) :: rest) : exec .queuedQuoteSigned s =
      if s.quoteTurn then .next ((s.onSec (fun y => { y with quoteQ := rest })).signQuote (n / 8) (n % 8) p) else .next s := by
  simp only [exec, execQueuedQuoteSigned, hq, ha, Bool.true_and]

theorem exec_queuedQuoteSigned_none {s : State} (h : s.awake = false ∨ s.sec.quoteQ = []) : exec .queuedQuoteSigned s = .next s := by
  change execQueuedQuoteSigned s = _
  unfold execQueuedQuoteSigned
  split
  · rfl
  next hq => exact if_neg (by simp [h.resolve_right (by simp [hq])])

/-! ### KINDs of an OPERATOR session -/

/-- The alternate slot after FW_STAGE: as it is where it was loaded in the tick, else staged or empty. -/
def FlashSlot.afterStage (x : FlashSlot) (now good : Bool) : FlashSlot :=
  if now then x else if good then { x with staged := true } else {}

section

variable {s t : State} {k : Fin 2} {p : Packet} {i : Nat} (h : s.operatorTakes k p i t) (ha : argEnds p 0 = true)
include h ha

/-- A BROADCAST that is well formed is run as the root's (R345). -/
theorem State.rootBroadcast_runs (hk : p.kind = 0x17) (hlen : 3 ≤ p.payload.length) (hlo : 0x21 ≤ natAt p.payload 2 1)
    (hhi : natAt p.payload 2 1 ≤ 0x23) :
    let r := t.broadcast (BitVec.ofNat 8 (natAt p.payload 2 1)) (BitVec.ofNat 16 (natAt p.payload 0 2)) (p.payload.drop 3)
    s.rootBroadcast k p = .next (State.closeWorn (if t.mode = stDraining ∧ natAt p.payload 2 1 = 0x21 then t.answered k i p psState []
      else r.2.answered k i p (if r.1 then psOk else psRefused) []) k i) :=
  (if_neg (not_not.mpr hk)).trans (State.packet_runs_operator h (by simp [ha, hlen, hlo, hhi]) _)

/-- FW_STAGE verifies both parts of the alternate slot (R425, R428). -/
theorem exec_fwStage (fw sig : SigPair) (hk : p.kind = 0x18) (hp : p.payload = []) {now good : Bool} :
    let old := SMap.get {} t.watch.slots t.otherSlot
    let x := old.noted t.tick
    let a := t.verified 3 fw x.hadImage
    let b := a.2.verified 4 sig x.hadRecord
    (old.loadedAt == t.tick + 1) = now → (a.1 && b.1) = good →
    exec (.fwStage k p fw sig) s = .next (((b.2.onWatch (fun w =>
      { w with slots := SMap.put {} w.slots t.otherSlot (x.afterStage now good) })).answered k i p
      (if good then psOk else psVerify) []).closeWorn k i) := by
  rintro old x a b rfl rfl
  exact (if_neg (not_not.mpr hk)).trans (State.packet_runs_operator h (by simp [ha, hp]) _)

/-- FW_ACTIVATE is refused by the module's state, or without a staged slot, or starts the cold reset (R426, R428). -/
theorem exec_fwActivate (hk : p.kind = 0x19) (hp : p.payload = []) : exec (.fwActivate k p) s = .next (State.closeWorn
    (if (t.mode ≠ stStandby ∧ t.mode ≠ stLaidUp) ∨ t.inTransition ∨ t.admitFirst (8 * k.val + i) then t.answered k i p psState []
    else if !t.staged? then t.answered k i p psRefused []
    else ((t.onWatch (fun w => { w with slots := SMap.put {} w.slots t.otherSlot { SMap.get {} w.slots t.otherSlot with
      staged := false } })).setFld Reg.WCH_BOOT Fld.WCH_BOOT_SLOT t.otherSlot).decideReset 3 rcActivate) k i) :=
  (if_neg (not_not.mpr hk)).trans (State.packet_runs_operator h (by simp [ha, hp]) _)

end

/-! ### The statement -/

/-- Settles O47: a HELLO by its form, role and a free session; quotes by their turn; BROADCAST, FW_STAGE and FW_ACTIVATE by the
branches of what an OPERATOR's packet runs. -/
theorem securityAndFirmwarePackets : Obligations.SecurityAndFirmwarePackets := by
  refine ⟨fun s k p c hk hs hu hh ha hg => ?hello, fun s c role h => ?role, fun s k p i t ht hh hk ha hlen hsel hrsv => ?attest,
    fun s n p rest ha hq => ?queued, fun s k p i t h ha => ⟨fun q msg hq hk hlen hlo hhi => ?broadcast, fun fw sig hk hp => ?stage,
      fun hk hp => ?activate⟩,
    fun s k i ha ho => ⟨fun hdue => if_pos ⟨ha, ho, hdue⟩, fun hn => if_neg fun hc => ne_true_of_eq_false hn hc.2.2⟩,
    fun x n => ⟨fun h => if_pos h, fun h => ?noted⟩,
    fun s k i h => if_neg fun hc => h.elim (fun h => ne_true_of_eq_false h hc.1) (fun h => ne_true_of_eq_false h hc.2.1),
    fun s k ha => if_neg (ne_true_of_eq_false ha), fun s => exec_queuedQuoteSigned_none, fun s k p c => exec_hello_none c,
    fun s k p c => exec_hello_bad c, fun s k ha => if_pos ha⟩
  case hello =>
    intro t
    rw [exec_hello_good c hk hs hu hh ha hg]
    exact ⟨fun role i hr hi hbefore => by rw [State.hello_accepted c hr hi hbefore], fun h => by rw [State.hello_refused c h]; rfl⟩
  case role =>
    obtain ⟨hder, hlen, hsig, hroot, hjob, leaf, rest, hcerts, hrole⟩ := State.helloRole_eq_some h
    exact ⟨hder, hlen, hsig, hroot, hjob, leaf, rest, hcerts, certRole_eq_some hrole⟩
  case attest =>
    rw [exec_attest ht hh hk ha hlen hsel hrsv]
    refine ⟨fun hq hturn => by rw [if_pos (by simp [hq, hturn])], fun hno => ?_⟩
    rw [if_neg]
    obtain hq | hturn := hno
    · simp [hq]
    · simp [hturn]
  case queued =>
    rw [exec_queuedQuoteSigned_some ha hq]
    exact ⟨fun hturn => if_pos hturn, fun hturn => if_neg (ne_true_of_eq_false hturn)⟩
  case broadcast =>
    have hexec : exec (.broadcastPacket k q msg) s = s.rootBroadcast k p := congrArg (s.rootBroadcast k) hq.symm
    rw [hexec, State.rootBroadcast_runs h ha hk hlen hlo hhi]
    refine ⟨fun hd hstage => by rw [if_pos ⟨hd, hstage⟩], fun hno => ?_⟩
    rw [if_neg fun ⟨hd, hstage⟩ => hno.elim (fun h => h hd) (fun h => h hstage)]
    exact ⟨fun hr => by rw [if_pos hr], fun hr => by rw [if_neg (ne_true_of_eq_false hr)]⟩
  case stage =>
    intro old x a b
    have hstage := fun now good => exec_fwStage h ha fw sig hk hp (now := now) (good := good)
    refine ⟨fun hnow => hstage true _ (beq_iff_eq.mpr hnow) rfl, fun hnow h1 h2 => hstage false true (beq_eq_false_iff_ne.mpr hnow) ?_,
      fun hnow hfail => hstage false false (beq_eq_false_iff_ne.mpr hnow) (Bool.and_eq_false_iff.mpr hfail)⟩
    exact Bool.and_eq_true_iff.mpr ⟨h1, h2⟩
  case activate =>
    rw [exec_fwActivate h ha hk hp]
    refine ⟨fun hst => by rw [if_pos hst], fun hm htr hfirst => ?_⟩
    have hgo : ¬ ((t.mode ≠ stStandby ∧ t.mode ≠ stLaidUp) ∨ t.inTransition = true ∨ t.admitFirst (8 * k.val + i) = true) := by
      rintro (⟨h1, h2⟩ | h | h)
      · exact hm.elim h1 h2
      · exact ne_true_of_eq_false htr h
      · exact ne_true_of_eq_false hfirst h
    rw [if_neg hgo]
    exact ⟨fun hno => by rw [if_pos (by simp [hno])], fun hyes => by rw [if_neg (by simp [hyes])]⟩
  case noted =>
    rw [FlashSlot.noted, if_neg h]
    exact ⟨rfl, rfl, rfl, rfl⟩

end Sys2Proof.Machine
end

section
/-! Fabric time: what a TIME frame taken out of staging comes to, a discarded measurement, HOLDTO, and TIM_SET. -/

namespace Sys2Proof.Machine

section

variable {s : State} {r : StageRef}

theorem State.takeTime_none {p : Frame → Bool} (run : Held → State → State) (h : s.stagedAt r = none) : s.takeTime r p run = s := by
  simp only [State.takeTime, h]

/-- A TIME frame for this module that the rule takes is consumed. -/
theorem State.takeTime_some {h : Held} (ha : s.awake = true) (hr : s.stagedAt r = some h) (hk : h.f.kind = kTime)
    (hown : s.ownFrame h.f = true) {p : Frame → Bool} (hp : p h.f = true) (run : Held → State → State) :
    s.takeTime r p run = run h (s.consume r h) := by
  simp only [State.takeTime, hr, ha, hk, hp, hown, and_self, if_true]

section

variable {h : Held} (ha : s.awake = true) (hr : s.stagedAt r = some h) (hk : h.f.kind = kTime) (hown : s.ownFrame h.f = true)
include ha hr hk hown

/-! ### Peer delay (R355) -/

/-- A request that is long enough is answered on its port. -/
theorem exec_pdelayReqReceive (hs : h.f.subk = 1) (ht : ptpType h.f.payload = ptpReq) :
    let t := s.consume r h
    exec (.pdelayReqReceive r) s = .next (if h.f.payload.length < 54 then t.timeCount 1
      else (t.originate qBosun (t.timeFrame 1 (ptpMessage ptpResp 54 [(8, beBytes 8 h.m.tin), (30, sliceBytes h.f.payload 30 2),
        (34, beBytes 10 0), (44, sliceBytes h.f.payload 20 10)])) [.port r.port.val] .none).timeCount 5) :=
  congrArg Host.Outcome.next (State.takeTime_some ha hr hk hown (p := fun f => f.subk = 1 && ptpType f.payload = ptpReq) (by simp [hs, ht]) _)

/-- Whether a message is a response as R355 has it. -/
def ptpFormed (p : List Byte) : Prop := ptpType p = ptpResp ∧ ptpTwoStep p = false ∧ 54 ≤ p.length

omit ha hr hk hown in
theorem not_ptpFormed_iff {p : List Byte} : ¬ ptpFormed p ↔ ptpType p ≠ ptpResp ∨ ptpTwoStep p = true ∨ p.length < 54 := by
  simp only [ptpFormed, not_and_or, Bool.not_eq_false, Nat.not_le, ne_eq]

section

variable (hs : h.f.subk = 1) (ht : ptpType h.f.payload ≠ ptpReq)
include hs ht

theorem exec_pdelayRespReceive_malformed (hf : ¬ ptpFormed h.f.payload) :
    exec (.pdelayRespReceive r) s = .next ((s.consume r h).timeCount 1) := by
  have htake := State.takeTime_some ha hr hk hown (p := fun f => f.subk = 1 && ptpType f.payload != ptpReq) (by simp [hs, ht])
  exact congrArg Host.Outcome.next ((htake _).trans (if_pos (not_ptpFormed_iff.mp hf)))

/-- A response where no request is out. -/
theorem exec_pdelayRespReceive_unasked (hf : ptpFormed h.f.payload) (hnone : ((s.consume r h).peerDelay r.port.val).sent = none) :
    exec (.pdelayRespReceive r) s = .next ((s.consume r h).timeCount 4) := by
  have htake := State.takeTime_some ha hr hk hown (p := fun f => f.subk = 1 && ptpType f.payload != ptpReq) (by simp [hs, ht])
  refine congrArg Host.Outcome.next ((htake _).trans ((if_neg fun hno => not_ptpFormed_iff.mpr hno hf).trans ?_))
  simp only [hnone]

/-- A response to the request sent, by whether it answers it. -/
theorem exec_pdelayRespReceive_asked (hf : ptpFormed h.f.payload) {q : BitVec 16} {t1 : Nat}
    (hsent : ((s.consume r h).peerDelay r.port.val).sent = some (q, t1)) :
    exec (.pdelayRespReceive r) s = .next (if q.toNat ≠ natAt h.f.payload 30 2 then (s.consume r h).timeCount 4
      else (s.consume r h).measure r.port.val (32768 * ((h.m.tin : Int) - (t1 : Int)) - (BitVec.ofNat 64 (natAt h.f.payload 8 8)).toInt)) := by
  have htake := State.takeTime_some ha hr hk hown (p := fun f => f.subk = 1 && ptpType f.payload != ptpReq) (by simp [hs, ht])
  refine congrArg Host.Outcome.next ((htake _).trans ((if_neg fun hno => not_ptpFormed_iff.mpr hno hf).trans ?_))
  simp only [hsent]

end

/-! ### Syncs (R353) -/

/-- Whether a Sync that reached `t` is accepted. -/
def State.syncAccepted (t : State) (r : StageRef) (h : Held) : Prop :=
  h.f.subk = 0 ∧ ptpType h.f.payload = 0 ∧ ptpTwoStep h.f.payload = false ∧ 44 ≤ h.f.payload.length ∧ frameSrcmod h.f = true ∧
    h.f.src.toNat = t.fld Reg.TIM_CTL Fld.TIM_CTL_SRCMOD ∧ natAt h.f.payload 4 1 = t.fld Reg.TIM_CTL Fld.TIM_CTL_DOMAIN ∧
    seqNewer t.clock.lastSeq (BitVec.ofNat 16 (natAt h.f.payload 30 2)) = true ∧ (t.peerDelay r.port.val).seen = 16

theorem exec_syncReceive_accepted (hs : h.f.subk ≠ 1) (hacc : (s.consume r h).syncAccepted r h) :
    let t := s.consume r h
    let kept := t.onClock (fun c => { c with
      lastSeq := some (BitVec.ofNat 16 (natAt h.f.payload 30 2))
      lastSync := t.tick })
    exec (.syncReceive r) s = .next ((kept.timeCount 0).servoRun (kept.theta r.port.val h.m.tin h.f.payload)) := by
  have htake := State.takeTime_some ha hr hk hown (p := fun f => f.subk != 1) (bne_iff_ne.mpr hs)
  refine congrArg Host.Outcome.next ((htake _).trans (if_pos ?_))
  simpa only [State.syncAccepted, Bool.not_eq_true'] using hacc

theorem exec_syncReceive_other (hs : h.f.subk ≠ 1) (hacc : ¬ (s.consume r h).syncAccepted r h) :
    exec (.syncReceive r) s = .next ((s.consume r h).timeCount 1) := by
  have htake := State.takeTime_some ha hr hk hown (p := fun f => f.subk != 1) (bne_iff_ne.mpr hs)
  refine congrArg Host.Outcome.next ((htake _).trans (if_neg fun hc => hacc ?_))
  simpa only [State.syncAccepted, Bool.not_eq_true'] using hc

end

/-! ### A measurement that is discarded -/

theorem State.measure_discarded {p : Nat} {x : Int} (hseen : (s.peerDelay p).seen = 16)
    (hfar : 50 * 131072 < (x - 8192 * toSigned 32 (s.reg (Reg.TIM_PD p)).toNat).natAbs) :
    s.measure p x = (s.timeCount 4).raiseTime 3 := if_pos ⟨hseen, hfar⟩

/-! ### HOLDTO (R360, R364) -/

theorem State.holdtoRun_due (h : s.holdtoDue = true) :
    let judged := s.judgeSyncs (s.sw.staging.map (fun p => p.2.length)).sum
    s.holdtoRun = if judged.holdtoDue then judged.setServo tsHoldover else judged := if_pos h

theorem State.holdtoRun_notDue (h : s.holdtoDue = false) : s.holdtoRun = s := if_neg (ne_true_of_eq_false h)

theorem State.judgeSyncs_none (h : s.waitingSync = none) (n : Nat) : s.judgeSyncs n = s := by
  cases n with
  | zero => rfl
  | succ n => simp only [State.judgeSyncs, h]

theorem State.judgeSyncs_some (h : s.waitingSync = some r) (n : Nat) : s.judgeSyncs (n + 1) = (s.takeSync r).judgeSyncs n := by
  simp only [State.judgeSyncs, h]

end

/-! ### The statement -/

/-- Settles O38: TIME frames by what they are and whether they are accepted, HOLDTO by the Syncs judged first. -/
theorem timeCommands : Obligations.TimeCommands := by
  refine ⟨fun s ha hfan hlock hdue => if_pos ⟨ha, hfan, hlock, hdue⟩, fun s p ha hup hdue => if_pos ⟨ha, hup, hdue⟩,
    fun s r h ha hr hk hown => ?frames, fun s p x => State.measure_discarded, fun s => ?holdto,
    fun s n => ⟨rfl, fun h => State.judgeSyncs_none h n, fun r t h hexec => ?judge⟩,
    fun s val ha => ⟨fun hg => if_pos ⟨ha, hg⟩, fun hg => if_neg fun hc => ne_true_of_eq_false hg hc.2⟩, fun s => ⟨rfl, rfl⟩,
    fun s r h => ⟨congrArg _ (State.takeTime_none _ h), congrArg _ (State.takeTime_none _ h), congrArg _ (State.takeTime_none _ h)⟩⟩
  case frames =>
    intro t p
    refine ⟨fun hs ht => ?_, fun hs ht => ?_, fun hs => ?_⟩
    · rw [exec_pdelayReqReceive ha hr hk hown hs ht]
      exact ⟨fun hlen => by rw [if_pos hlen], fun hlen => by rw [if_neg (Nat.not_lt.mpr hlen)]⟩
    · intro formed
      refine ⟨exec_pdelayRespReceive_malformed ha hr hk hown hs ht, exec_pdelayRespReceive_unasked ha hr hk hown hs ht,
        fun q t1 hf hsent => ?_⟩
      rw [exec_pdelayRespReceive_asked ha hr hk hown hs ht hf hsent]
      exact ⟨fun hq => by rw [if_pos hq], fun hq => by rw [if_neg (not_not.mpr hq)]⟩
    · exact ⟨exec_syncReceive_other ha hr hk hown hs, exec_syncReceive_accepted ha hr hk hown hs⟩
  case holdto =>
    intro judged
    refine ⟨fun ha hdue hstill => ?_, fun ha hdue hno => ?_, fun h => ?_, rfl⟩
    · exact (if_pos ha).trans (congrArg _ ((State.holdtoRun_due hdue).trans (if_pos hstill)))
    · exact (if_pos ha).trans (congrArg _ ((State.holdtoRun_due hdue).trans (if_neg (ne_true_of_eq_false hno))))
    · obtain ha | hdue := h
      · exact if_neg (ne_true_of_eq_false ha)
      · exact (congrArg (ite _ · _) (congrArg Host.Outcome.next (State.holdtoRun_notDue hdue))).trans (ite_self _)
  case judge =>
    obtain rfl : s.takeSync r = t := Host.Outcome.next.inj hexec
    exact State.judgeSyncs_some h n

end Sys2Proof.Machine
end

section
/-! The Granary engines' command lists: what each OP's command takes and what it leaves. -/

namespace Sys2Proof.Machine

/-! ### Entries taken (R304, R305) -/

/-- What a BIND leaves. -/
def State.runGrnBind (j : Fin 16) (e : Entry) (s : State) : State :=
  let st := s.bindGrnStatus j.val e
  (if st = gsOk then (s.setBinding j.val (geBix e) (geBinding e)).setPending j.val (geBix e) else s).grnDone j e st

/-- What an UNBIND leaves. -/
def State.runGrnUnbind (j : Fin 16) (e : Entry) (s : State) : State :=
  let st := s.unbindGrnStatus j.val e
  (if st = gsOk then s.unbindGrn j.val (geBix e) else s).grnDone j e st

/-- What a SETHP leaves. -/
def State.runSethp (j : Fin 16) (e : Entry) (s : State) : State :=
  let st := s.sethpStatus j.val e
  let b := s.binding j.val (geBix e)
  let given := s.setBinding j.val (geBix e) { b with
    hp := geHyper e
    hpWas := some (s.tick + 1, b.hpAt s.tick) }
  (if st = gsOk then given else s).grnDone j e st

/-- What a LOAD leaves. -/
def State.runLoad (j : Fin 16) (e : Entry) (s : State) : State :=
  let data := s.bulkData (entryNat e 24 8)
  let st := s.loadGrnStatus j.val e data
  (if st = gsOk then s.loadRange j.val (entryNat e 8 8) (data.getD []) (BitVec.ofNat 32 (entryNat e 20 4)) else s).grnDone j e st

/-- What a RESILVER that is taken leaves. -/
def State.runResilver (j : Fin 16) (e : Entry) (s : State) : State :=
  let st := s.resilverStatus j.val e
  if st = gsOk ∧ (s.binding j.val (geBix e)).peerState ≠ 0 then s.resilverGo j e 0 else s.grnDone j e st

section

variable (s : State) (j : Fin 16)

theorem exec_grnBind : exec (.grnBind j) s = .next (s.grnTake j (fun op => !(decide (2 ≤ op ∧ op ≤ 5))) (State.runGrnBind j)) := rfl

theorem exec_grnUnbind : exec (.grnUnbind j) s = .next (s.grnTake j (fun op => op == 2) (State.runGrnUnbind j)) := rfl

theorem exec_sethp : exec (.sethp j) s = .next (s.grnTake j (fun op => op == 3) (State.runSethp j)) := rfl

theorem exec_load : exec (.load j) s = .next (s.grnTake j (fun op => op == 4) (State.runLoad j)) := rfl

end

section

variable {s : State} {j : Fin 16}

theorem exec_resilver_take (h : (s.engine j.val).resilver = none) :
    exec (.resilver j) s = .next (s.grnTake j (fun op => op == 5) (State.runResilver j)) := by
  simp only [exec, execResilver, h]
  rfl

theorem exec_resilver_goes {e : Entry} {i : Nat} (h : (s.engine j.val).resilver = some (e, i)) (hruns : s.engineRuns j.val = true) :
    exec (.resilver j) s = .next (s.resilverGo j e i) := by
  simp only [exec, execResilver, h, hruns, if_true]

section

variable {mine : Nat → Bool} (run : Entry → State → State)

/-- A running engine takes the entry in front by the command of its OP. -/
theorem State.grnTake_mine (ha : s.awake = true) (hst : (s.engine j.val).st = 1) (hr : (s.engine j.val).resilver = none) {q : Nat}
    {e : Entry} (he : s.nextEntry (engGrn j.val) = some (q, e)) (hm : mine (entryOp e) = true) :
    s.grnTake j mine run = run e (s.popQueue (engGrn j.val) q) := by
  have hst' : ((s.engine j.val).st == 1) = true := beq_iff_eq.mpr hst
  simp only [State.grnTake, he, ha, hst', hr, hm, Option.isNone_none, Bool.and_self, if_true]

/-- Nothing is taken below STANDBY, where the engine does not run, while a RESILVER goes on, or without an entry. -/
theorem State.grnTake_none (h : s.awake = false ∨ (s.engine j.val).st ≠ 1 ∨ (s.engine j.val).resilver.isSome = true ∨
    s.nextEntry (engGrn j.val) = none) : s.grnTake j mine run = s := by
  unfold State.grnTake
  split
  · rfl
  next q e he =>
    refine if_neg fun hc => ?_
    simp only [Bool.and_eq_true, beq_iff_eq, Option.isNone_iff_eq_none] at hc
    obtain ⟨⟨⟨ha, hst⟩, hr⟩, _⟩ := hc
    obtain h | h | h | h := h
    · exact ne_true_of_eq_false h ha
    · exact h hst
    · simp [hr] at h
    · simp [he] at h

end

/-- An unlisted OP is never well formed. -/
theorem State.grnBad_unlisted (s : State) (j : Nat) {e : Entry} (h : ¬ (1 ≤ entryOp e ∧ entryOp e ≤ 5)) : s.grnBad j e = true := by
  have h1 : entryOp e ≠ 1 := by omega
  have h2 : entryOp e ≠ 2 := by omega
  have h3 : entryOp e ≠ 3 := by omega
  have h4 : entryOp e ≠ 4 := by omega
  have h5 : entryOp e ≠ 5 := by omega
  simp only [State.grnBad, h1, h2, h3, h4, h5, if_false]

/-- An entry that is not well formed ends BADENTRY. -/
theorem State.runGrnBind_bad {e : Entry} (h : s.grnBad j.val e = true) : State.runGrnBind j e s = s.grnDone j e gsBadentry := by
  have hst : s.bindGrnStatus j.val e = gsBadentry := if_pos h
  rw [State.runGrnBind, hst, if_neg (by decide)]

end

/-! ### The statement -/

/-- Settles O33: each OP's command takes the entry in front and runs it, and nothing is taken where the engine cannot. -/
theorem granaryEntries : Obligations.GranaryEntries := by
  refine ⟨fun s j q e ha hst hr he => ?taken, fun s j b => ⟨rfl, rfl⟩, fun s j a l v => rfl, fun s j h => ?notTaken,
    fun s j e i => exec_resilver_goes, fun s j e => State.grnBad_unlisted s j, fun s j e st => rfl,
    fun s j ha => ⟨if_pos ha, if_pos ha, if_pos ha⟩⟩
  case taken =>
    intro taken
    refine ⟨fun hop => ?_, fun hop => ?_, fun hop => ?_, fun hop => ?_, fun hop => ?_, fun hop => ?_⟩
    · exact (exec_grnBind s j).trans (congrArg _ (State.grnTake_mine _ ha hst hr he (by simp [hop])))
    · have hmine : (!(decide (2 ≤ entryOp e ∧ entryOp e ≤ 5))) = true := by
        simp only [Bool.not_eq_true', decide_eq_false_iff_not]
        omega
      rw [exec_grnBind, State.grnTake_mine _ ha hst hr he hmine, State.runGrnBind_bad (State.grnBad_unlisted _ _ hop)]
    · exact (exec_grnUnbind s j).trans (congrArg _ (State.grnTake_mine _ ha hst hr he (beq_iff_eq.mpr hop)))
    · exact (exec_sethp s j).trans (congrArg _ (State.grnTake_mine _ ha hst hr he (beq_iff_eq.mpr hop)))
    · exact (exec_load s j).trans (congrArg _ (State.grnTake_mine _ ha hst hr he (beq_iff_eq.mpr hop)))
    · have hexec : exec (.resilver j) s = .next (State.runResilver j e taken) :=
        (exec_resilver_take hr).trans (congrArg _ (State.grnTake_mine _ ha hst hr he (beq_iff_eq.mpr hop)))
      rw [hexec]
      exact ⟨fun h => congrArg _ (if_pos h), fun h => congrArg _ (if_neg h)⟩
  case notTaken =>
    simp only [exec_grnBind, exec_grnUnbind, exec_sethp, exec_load, State.grnTake_none _ h, and_self]

end Sys2Proof.Machine
end
